-- ==== Sys2Proof/Word.lean ====
section
/-! DEFINITION. The words of the hub and the names of its small fixed sets: a register word (R5), a byte, a
register field and an event as an address of bits (R7, R37), the access codes (R40), the two management
ports (R36), the lanes, and the rows of the register map. -/

namespace Sys2Proof

/-- A register word: 32 bits, always accessed whole (R5). -/
abbrev Word := BitVec 32

/-- A byte of a frame, a packet or remote memory. -/
abbrev Byte := BitVec 8

/-- A 64-bit fragment word (R238). -/
abbrev Word64 := BitVec 64

/-- A register address 0xPP_OOO (R6). -/
abbrev RegAddr := BitVec 20

/-- A field of a register: the key of its word, its lowest bit and its width. -/
structure Fld where
  key : Nat
  lo  : Nat
  w   : Nat
deriving DecidableEq, Repr

/-- An event of a page: its bit of EVT_STATUS (R37). -/
structure Ev where
  page : Nat
  bit  : Nat
deriving DecidableEq, Repr

/-- The access codes of the register tables (R40). -/
inductive Acc where
  | ro | rwI | rwB | rwK | wo | sc | ctS | ctW
deriving DecidableEq, Repr

/-- One row of a page's register table: `count` fields of the same shape at `base`, `base + stride`, ...,
each of `w` bits from bit `lo`, whose reset value rises by `step` from one to the next. -/
structure FieldSpec where
  base   : Nat
  stride : Nat
  count  : Nat
  lo     : Nat
  w      : Nat
  acc    : Acc
  reset  : Nat
  step   : Nat
deriving DecidableEq, Repr

/-- The two management ports (R36): C is the control channel of the Pace link, G the Regatta ring. -/
inductive Port where
  | C | G
deriving DecidableEq, Repr

/-- The two Pace lanes (chapter 05). -/
inductive PaceLane where
  | A | B
deriving DecidableEq, Repr

/-- The two timing and control units (R401). -/
inductive Unit2 where
  | A | B
deriving DecidableEq, Repr

/-- A serial transceiver (R300): a LANE, a Pace lane or a Rigger port. -/
inductive Xcvr where
  | lane (n : Fin 32)
  | pace (l : PaceLane)
  | sat  (p : Fin 16)
deriving DecidableEq, Repr

/-- The housekeeping sequences whose delay ends (R371): the regular one, the injected one, or both in one converter clock (R373). -/
inductive HkSeq where
  | regular | injected | both
deriving DecidableEq, Repr

namespace PaceLane

/-- 0 for Pace A and 1 for Pace B, as PACEA.DATA_LANE codes them. -/
def idx : PaceLane → Nat
  | .A => 0
  | .B => 1

/-- The partner of a Pace lane. -/
def other : PaceLane → PaceLane
  | .A => .B
  | .B => .A

/-- The page of a Pace lane: PACEA 0x0E, PACEB 0x0F. -/
def page (l : PaceLane) : Nat := 0x0E + l.idx

end PaceLane

namespace Unit2

/-- 0 for TCU A and 1 for TCU B, as COX.STATUS.ACTIVE codes them. -/
def idx : Unit2 → Nat
  | .A => 0
  | .B => 1

/-- The other unit. -/
def other : Unit2 → Unit2
  | .A => .B
  | .B => .A

/-- The page of a unit: TCUA 0x02, TCUB 0x03. -/
def page (u : Unit2) : Nat := 0x02 + u.idx

end Unit2

end Sys2Proof
end

