-- ==== Sys2Proof/Syntax.lean ====
section
/-! DEFINITION. The commands of the hub: one constructor of `Instr` for each row of spec/opcode_table.json, with
the operands that its rule names. A command is one whole, indivisible step of the part
(spec/95_what_each_step_holds.md). What only the world outside the hub's logic decides (a voltage, a phase, a received
byte, the end of a measurement) comes in as an operand. -/

namespace Sys2Proof

/-- One sample that a converter slice takes in a crossing (R16, R122): the slice, the sc phase, and the
differential input V as the slice sees it, in units of 2^-29/10 V, so that one LSB of R118 is 655,360, 524,288
or 327,680 units. `near` is the decision of the OVR comparator for an input between 1.0 and 1.5 LSB beyond
full scale, which R125 leaves open. -/
structure SliceSample where
  bank  : Fin 24
  slice : Fin 33
  phase : Fin 4
  v     : Int
  near  : Bool
deriving DecidableEq, Repr

/-- A trim target that the calibration sequencer's measurement yields (R129): trims 0 to 57 of R128, and index 58
for the sampling skew. -/
structure CalTarget where
  bank  : Fin 24
  slice : Fin 33
  index : Fin 59
  value : Int
deriving DecidableEq, Repr

/-- A line symbol as R314 codes it: [7:0] the byte, [8] special code group, [9] error symbol. -/
abbrev LineSym := BitVec 10

/-- What one receiver took from its pins in a crossing: groups of ten bits as its alignment cuts them, bit a lowest (R301, R303),
or in TEST the raw stream ten bits at a time (R317). -/
structure LaneTraffic where
  x  : Xcvr
  rx : List (BitVec 10)
deriving DecidableEq, Repr

/-- What the world gives the hub in one crossing: the slices' samples, the sequencer's new trim targets, and
the symbols on the lanes. A slice that is not listed samples 0 V. -/
structure TickIn where
  samples    : List SliceSample
  calTargets : List CalTarget
  traffic    : List LaneTraffic
deriving DecidableEq, Repr

/-- How a lane delivered a fast command (R102): not at all, correctly, or damaged. -/
inductive LaneCopy where
  | absent | good | bad
deriving DecidableEq, Repr

/-- A time of the timing master or of Hub Time (R81): seconds, nanoseconds and 2^-16 ns. -/
structure TimeStamp where
  sec  : BitVec 48
  ns   : BitVec 32
  frac : BitVec 16
deriving DecidableEq, Repr

/-- A Regatta frame (R389): its fields, CMD's four among them, and the CRC that it carries. -/
structure RingFrame where
  dest   : BitVec 16
  src    : BitVec 16
  op     : BitVec 4
  pos    : Bool
  resp   : Bool
  status : BitVec 2
  addr   : BitVec 24
  data   : BitVec 32
  crc    : BitVec 16
deriving DecidableEq, Repr

/-- What a character of the Regatta ring stands for (R382): a delimiter, a data character, or an error symbol. -/
inductive RingChar where
  | idle | sof | eof | abort | error
  | data (b : Byte)
deriving DecidableEq, Repr

/-- What happens on the ring's two lines in order of time (R386): the stop bit of a character was sampled at RING_IN, high, with the
control bit and the data byte before it, or a character falls due at RING_OUT. -/
inductive RingSlot where
  | rx (control : Bool) (b : Byte)
  | tx
deriving DecidableEq, Repr

/-- What RING_FRAME_PASS tells (R386, R391): the characters of both lines since the last such command, and a frame that only passes
and whose characters are told nowhere. -/
structure RingPass where
  slots : List RingSlot
  frame : Option RingFrame
deriving DecidableEq, Repr

/-- One gate of the frequency monitors (R67): for each source the crossings counted, whether edges were present
(CLKIN), and for the Pace lanes whether symbols were locked with a valid boundary comma in every crossing. -/
structure GateCount where
  count : BitVec 24
  good  : Bool
deriving DecidableEq, Repr

/-- Why a Pace lane or a Rigger port went DOWN (R114, R303, R355). -/
inductive DownCause where
  | lossOfSignal | commas | codeErrors
deriving DecidableEq, Repr

/-- Where a symbol with a code error lies in a Rigger port's upstream items (R348, R357): outside an item, in a hit, or in a
configuration frame. -/
inductive SatItem where
  | idle | hit | frame
deriving DecidableEq, Repr

/-- The catch marker as one lane brought it (R322, R323): its MAP byte, and the symbol at which its K28.3 arrived, counted from any
common point. -/
structure MarkerIn where
  map : Byte
  pos : Int
deriving DecidableEq, Repr

/-- What the comma detector of a receiver has seen (R303): commas at one bit alignment with no code error between them. -/
structure CommaRun where
  x      : Xcvr
  commas : Nat
deriving DecidableEq, Repr

/-- The four bytes of a satellite's hit in order of arrival (R348, R351). -/
structure HitBytes where
  b0 : Byte
  b1 : Byte
  b2 : Byte
  b3 : Byte
deriving DecidableEq, Repr

/-- Why a sequenced Slipway packet was not performed (R325, R331): damaged, of unknown TYPE or wrong length, or intact but
ahead of the packet expected. -/
inductive SlipDamage where
  | crc | proto | ahead
deriving DecidableEq, Repr

/-- What the scrubber found in which memory (R412), with the place in that memory where a rule needs it. -/
structure ScrubHit where
  mem   : BitVec 8
  where_ : Nat
deriving DecidableEq, Repr

/-- How a unit's digest inputs differ (R402, R403): whether each unit's CN or Hub Time differs from the Cox's copy. -/
structure MismatchFacts where
  aWrong : Bool
  bWrong : Bool
deriving DecidableEq, Repr

/-- The raw conversions of one housekeeping entry, in order: the unclamped rounded codes (R367), or for a die temperature
the sensor's readings in m°C (R378). -/
abbrev HkCodes := List Int

/-- An IEEE 1149.1 instruction of the TAP (R448). -/
inductive TapInstr where
  | bypass | idcode | samplePreload | extest | extestPulse | extestTrain | other
deriving DecidableEq, Repr

/-- An instruction loaded through the TAP (R448): whether RESET_N is held low, the levels on the pins of the boundary-scan chain, and
what is then shifted into its cells (nothing where the list is empty). -/
structure TapLoad where
  instr    : TapInstr
  resetLow : Bool
  pins     : List Bool
  scan     : List Bool
deriving DecidableEq, Repr

/-- A rail at its window comparator (R413, R431): it leaves the monitor window below or above, or it is back in it. -/
inductive RailMove where
  | low | high | back
deriving DecidableEq, Repr

/-- A comparator of the die temperature (R413): it trips (`hot`), or falls back by its hysteresis. -/
structure TempMove where
  sensor : Fin 4
  hot    : Bool
deriving DecidableEq, Repr

/-- A low pulse of RESET_N (R420, R431): whether one between 100 ns and 1.0 µs resets, and whether a rail left its reset window while
the pin was low. -/
structure ResetPulse where
  taken  : Bool
  supply : Bool
deriving DecidableEq, Repr

/-- The commands, in the order of spec/opcode_table.json. The rule of each row is named beside it. -/
inductive Instr where
  | catch_ (phase : BitVec 16)                                   -- R21; R71: target phase measured over the stroke
  | regWrite (p : Port) (a : RegAddr) (d : Word)                 -- R40
  | keyUnlock (p : Port) (d : Word)                              -- R44
  | evtClear (p : Port) (pg : BitVec 8) (d : Word)               -- R48
  | counterClear (p : Port) (a : RegAddr) (d : Word)             -- R50
  | pageResetRequest (p : Port) (pg : BitVec 8)                  -- R37
  | snapshotRequest (p : Port)                                   -- R52
  | coherentGroupRead (p : Port) (a : RegAddr)                   -- R53
  | hkResultRead (p : Port) (r : Fin 72)                         -- R377
  | calNow (p : Port) (d : Word)                                 -- R150
  | coefWrite (p : Port) (d : Word)                              -- R164
  | creditAdd (p : Port) (d : Word)                              -- R290
  | lensFlush (p : Port)                                         -- R270
  | esGo (p : Port) (x : Xcvr)                                   -- R318
  | shadowDataWrite (p : Port) (d : Word)                        -- R359
  | shadowForget (p : Port)                                      -- R359
  | capRearm (p : Port) (n : Fin 8)                              -- R95
  | cmpArm (p : Port) (n : Fin 8) (d : Word)                     -- R93
  | hkRegGo (p : Port)                                           -- R372
  | hkInjGo (p : Port)                                           -- R372
  | hkSelftestGo (p : Port)                                      -- R375
  | accept (a b : Option Byte)                                   -- R101: the trigger byte on lanes A and B
  | resync (a b : LaneCopy)                                      -- R103
  | snapshot (a b : LaneCopy)                                    -- R103
  | orbitReset (a b : LaneCopy)                                  -- R103
  | runStart (a b : LaneCopy)                                    -- R103
  | runStop (a b : LaneCopy)                                     -- R103
  | calPulse (arg : BitVec 4) (a b : LaneCopy)                   -- R103
  | moor (a b : LaneCopy)                                        -- R103
  | wake (a b : LaneCopy)                                        -- R103
  | paceRegRead (seq : Byte) (a : RegAddr) (rep : Bool)          -- R109; `rep`: repaired from the partner's copy (R112)
  | paceRegWrite (seq : Byte) (a : RegAddr) (d : Word) (rep : Bool)   -- R109
  | syncMessage (t1 : TimeStamp) (phase : Fin 4096) (rep : Bool) -- R85: arrival phase in the crossing, 1/4,096 cr
  | delayResp (lane : PaceLane) (seq : Byte) (t4 : TimeStamp)    -- R86
  | cnAnnounce (c : BitVec 64) (inSlot : Bool) (rep : Bool)      -- R89: K27.7 in symbol 4 or not
  | linkInfo (lane : PaceLane) (version : Byte)                  -- R114
  | delayReqSend                                                 -- R110
  | exchangeTimeout                                              -- R85
  | fullResync                                                   -- R90
  | orbitStartComma (lane : PaceLane) (skew : Option Int)        -- R83, R111: lane minus partner, 1/4,096 cr
  | cmpFire (n : Fin 8)                                          -- R93
  | evmTaskFire                                                  -- R59
  | xoStable                                                     -- R66
  | freqGate (a b clkin xo : GateCount)                          -- R67
  | sourceLost (cause : BitVec 3)                                -- R73
  | xoFault                                                      -- R73
  | rampDone                                                     -- R77
  | relocked                                                -- R78
  | paceSignalPresent (lane : PaceLane)                          -- R114
  | paceAligned (lane : PaceLane)                                -- R114
  | paceLinkUp (lane : PaceLane)                                 -- R114
  | paceLinkDown (lane : PaceLane) (cause : DownCause)           -- R114
  | laneSignalDetect (x : Xcvr)                                  -- R303
  | laneRxAligned (r : CommaRun)                                 -- R303
  | laneRxLost (x : Xcvr) (cause : DownCause)                    -- R303
  | codeError (x : Xcvr) (item : SatItem)                        -- R302; R357 for a Rigger port
  | featherEnter (n : Fin 24)                                    -- R307
  | squareUpBurst (n : Fin 24)                                   -- R308
  | txPhaseErr (x : Xcvr)                                        -- R306
  | loopMismatch (x : Xcvr)                                      -- R313
  | chkLock (x : Xcvr)                                           -- R317
  | chkLost (x : Xcvr)                                           -- R317
  | esDone (x : Xcvr) (err : Nat)                                -- R318
  | catchMarker (n : Fin 8) (m0 m1 m2 : Option MarkerIn)         -- R322, R323: what the three lanes brought
  | slipCompl (n : Fin 8) (seq : BitVec 12) (tag : Word) (status : Byte) (data : List Byte)   -- R328
  | slipCredit (n : Fin 8) (seq : BitVec 12) (crew : BitVec 12) (tailValid : Bool) (count : BitVec 16)
      (tail : BitVec 46)                                         -- R329
  | slipCap (n : Fin 8) (version beats maxpl maxReads : Byte) (id : BitVec 16) (station : Byte)   -- R343
  | slipAck (n : Fin 8) (seq : BitVec 12) (map : Byte)           -- R332
  | slipNak (n : Fin 8) (seq : BitVec 12) (map : Byte)           -- R335
  | slipPacketDamaged (n : Fin 8) (why : SlipDamage)             -- R325
  | ackTimer (n : Fin 8)                                         -- R333
  | replayTimeout (n : Fin 8)                                    -- R335
  | readTimeout (n : Fin 8) (slot : Fin 32)                      -- R339
  | slipLaneLost (n : Fin 8) (pos : Fin 3)                       -- R340
  | capsTimeout (n : Fin 8)                                      -- R344
  | slipCapSend (n : Fin 8)                                      -- R344
  | stationSelect (n : Fin 8)                                    -- R288
  | descFetch (n : Fin 8) (crew : BitVec 12)                     -- R292
  | descComplete (n : Fin 8)                                     -- R293
  | quiesceEnd (crew : BitVec 12)                                -- R298
  | stationPaused (n : Fin 8)                                    -- R297
  | startEdge (n : Fin 4) (fine : BitVec 12) (stampable : Bool)  -- R226
  | selfTrigger                                                  -- R230
  | autoTrigger                                                  -- R231
  | neighWord (j : Fin 4) (w : Byte)                             -- R233
  | neighTrained (j : Fin 4)                                     -- R236
  | neighTrainTimeout (j : Fin 4)                                -- R236
  | neighCatchWord (j : Fin 4) (delay : BitVec 20)               -- R235
  | neighLinkDown (j : Fin 4)                                    -- R236
  | puCalStepEnd (bank : Fin 24) (failed : List (Fin 33))        -- R138: the slices that did not converge in the step
  | overlapCompare (bank : Fin 24) (pairs : Nat)                 -- R144: the pairs that the comparator has taken
  | spareSelftestEnd (bank : Fin 24) (pass : Bool)               -- R149
  | stuckSlice (bank : Fin 24) (slice : Fin 33)                  -- R151
  | pcoefEccFail (profile : Fin 64) (tap : Fin 256)              -- R170
  | fragmentStart                                                -- R261
  | fragmentReadEnd                                              -- R261
  | lensEngineStart                                              -- R277
  | lensBlockDone (engine : Fin 64)                              -- R277
  | derandOffer                                                  -- R281
  | derandAdmit                                                  -- R281
  | satHit (p : Fin 16) (w : HitBytes)                           -- R351; R348
  | satAligned (p : Fin 16)                                      -- R355
  | satCap (p : Fin 16) (type version : Byte) (rest : List Byte) (crc : BitVec 16)
      -- R355; R350: the frame's bytes from TYPE on, and its CRC
  | satCapReqRetry (p : Fin 16)                                  -- R355
  | satK285Arrival (p : Fin 16)                                  -- R356
  | satResyncRetry (p : Fin 16)                                  -- R355
  | satLinkDown (p : Fin 16) (cause : DownCause) (partialItem : Bool)   -- R355
  | satReadResp (p : Fin 16) (type : Byte) (body : List Byte) (crc : BitVec 16)
      -- R362; R350: the frame's bytes from TYPE on, and its CRC
  | satRespTimeout (p : Fin 16)                                  -- R350
  | satConfigSend (p : Fin 16)                                   -- R360
  | scrubBlockDue (p : Fin 16)                                   -- R361
  | hkDelayEnd (q : HkSeq)                                       -- R372
  | hkEntryDone (codes : HkCodes) (cj : Int)                     -- R368; R379: the cold junction's die temperature, m°C
  | hkSelftestStart                                              -- R375
  | hkSelftestDone (ofs1 ofs128 gain1 gain2 : Int)               -- R375: offsets in LSB, gain errors in 0.01 %
  | excSample (i0 i1 i2 i3 : Nat)                                -- R369: the currents in µA
  | ptPeriod (n : Fin 4)                                         -- R374
  | ringRead (f : RingFrame)                                     -- R390
  | ringWrite (f : RingFrame)                                    -- R390
  | keyedWrite (f : RingFrame)                                   -- R392
  | rollCall (f : RingFrame)                                     -- R397
  | helloForward (f : RingFrame)                                 -- R391
  | ringReset (f : RingFrame)                                    -- R393
  | ringBadOp (f : RingFrame)                                    -- R390
  | ringFramePass (p : RingPass)                                 -- R386, R391
  | ringFramingError (inFrame : Bool)                            -- R384: whether the error symbol stands inside a frame
  | helloSend                                                    -- R400
  | bypassOpen                                                   -- R394
  | bypassClose                                                  -- R394
  | digestMismatch (f : MismatchFacts)                           -- R402
  | voteCorrect (u : Option Unit2)                               -- R401: a unit, or the Cox itself
  | tcuSelftestEnd (u : Unit2) (pass : Bool)                     -- R406
  | memtestFail (u : Unit2)                                      -- R407
  | scrubDbe (h : ScrubHit)                                      -- R412
  | supplyExcursion (rail : Fin 6) (move : RailMove)             -- R413, R431
  | tempTrip (move : TempMove)                                   -- R413
  | powerOnReset                                                 -- R418
  | porRelease                                                   -- R418
  | resetN (lowNs : Nat) (pulse : ResetPulse)                    -- R420, R431
  | sweepDone                                                    -- R57
  | crossingTick (i : TickIn)                                    -- R83
  | controlFrameDiscard (lane : PaceLane)                        -- R108
  | fastCommandDiscard (a b : Option (Byte × Byte))              -- R102: symbols 2 and 3 on lanes A and B
  | laneSignalLost (x : Xcvr)                                    -- R303
  | selfCheckError (u : Unit2)                                   -- R403
  | scrubSbe (h : ScrubHit)                                      -- R412
  | memtestPassDone (u : Unit2)                                  -- R407
  | tapInstruction (t : TapLoad)                                -- R448
deriving DecidableEq, Repr

end Sys2Proof
end

