-- ==== Sys2Proof/Decode.lean ====
section
/-! DEFINITION. The decoder of the opcode table's bits. The table gives no row any bits: a command reaches this block as an access,
a frame, a symbol or an event on a pin, never as a coded word, so no word spells one. -/

namespace Sys2Proof

/-- The command that `nbits` bits `w` spell by the opcode table: none, since no row has bits. -/
def decodeTableWord (_nbits _w : Nat) : Option Instr := none

end Sys2Proof
end

