-- ==== Sys2Proof/Config.lean ====
section
/-! DEFINITION. What the spec leaves open: constants without a body, so that no proof can see a value. A statement that
holds, holds whatever they are. -/

namespace Sys2Proof

/-- The `n`-th free value that a run draws: a value that the spec leaves open at the moment it arises, held to its stated
range where it is used (log entry 2). -/
opaque Config.free : Nat → Nat

/-- What a read of a windowed register returns while its selector names no channel, slice, trim, bin, tap or crew
(log entry 9), by the register's key. -/
opaque Config.unselected : Nat → BitVec 32

/-- The Q1.17 tap `k` of the resampler's kernel at fractional phase `p`, for phases 1 to 1,023 (R183): unpublished, held to the
conditions of R183 where it is used (log entry 30). -/
opaque Config.kernelTap : Nat → Nat → Int

/-- The revision that IDCODE carries in [31:28] (R448): not stated (log entry 3). -/
opaque Config.revision : Nat

end Sys2Proof
end

