-- ==== Sys2Proof/Machine/Assoc.lean ====
section
/-! DEFINITION. Sparse memory: a list of key and value pairs in one canonical form, the keys strictly rising and no entry
equal to what an unlisted key reads as. Every memory and every register file of the hub is held so. -/

namespace Sys2Proof.Machine

/-- Sparse contents by key. -/
abbrev Assoc (α : Type) := List (Nat × α)

namespace Assoc

/-- The value listed at `k`. -/
def find? {α : Type} : Assoc α → Nat → Option α
  | [], _ => none
  | (k', v) :: l, k => if k' = k then some v else find? l k

/-- Without an entry at `k`. -/
def del {α : Type} : Assoc α → Nat → Assoc α
  | [], _ => []
  | (k', v) :: l, k => if k' = k then del l k else (k', v) :: del l k

/-- With the value `v` at `k`, keys kept rising. -/
def put {α : Type} : Assoc α → Nat → α → Assoc α
  | [], k, v => [(k, v)]
  | (k', v') :: l, k, v =>
    if k < k' then (k, v) :: (k', v') :: l
    else if k = k' then (k, v) :: l
    else (k', v') :: put l k v

/-- A read where an unlisted key reads as `d k`. -/
def getD {α : Type} (d : Nat → α) (l : Assoc α) (k : Nat) : α := (find? l k).getD (d k)

/-- A write where an unlisted key reads as `d k`: writing that value removes the entry. -/
def setD {α : Type} [DecidableEq α] (d : Nat → α) (l : Assoc α) (k : Nat) (v : α) : Assoc α :=
  if v = d k then del l k else put l k v

/-- The keys rise strictly. -/
def sorted {α : Type} : Assoc α → Bool
  | [] => true
  | (k, _) :: l => l.all (fun e => decide (k < e.1)) && sorted l

/-- The canonical form: keys strictly rising, and no entry equal to what an unlisted key reads as. -/
def wf {α : Type} [DecidableEq α] (d : Nat → α) (l : Assoc α) : Bool :=
  sorted l && l.all (fun e => decide (e.2 ≠ d e.1))

end Assoc

end Sys2Proof.Machine
end

