-- ==== Sys2Proof/Machine/Regs.lean ====
section
/-! DEFINITION. The names of the register fields and of the events, one constant for each row of the
register tables of spec/ (chapters 02 to 22): a field is the key of its register word (R6: page, then byte
offset; for a register that a selector addresses, the selector's value above bit 20), its lowest bit and
its width; an event is its page and its bit of EVT_STATUS (R37). `pg` is a page number, `xb` the base
address of a transceiver block (R320), `c` the selector's value of an addressed register. -/

namespace Sys2Proof.Machine

/-! The common header of every page (R37). -/
abbrev R.PAGE_CTL_ENABLE (pg : Nat) : Fld := ⟨pg * 4096 + 0x008, 0, 1⟩
abbrev R.PAGE_CTL_PAGE_RESET (pg : Nat) : Fld := ⟨pg * 4096 + 0x008, 1, 1⟩
abbrev R.PAGE_CTL_PAUSE (pg : Nat) : Fld := ⟨pg * 4096 + 0x008, 2, 1⟩
abbrev R.PAGE_STATE_STATE (pg : Nat) : Fld := ⟨pg * 4096 + 0x00C, 0, 4⟩
abbrev R.PAGE_STATE_QUIESCING (pg : Nat) : Fld := ⟨pg * 4096 + 0x00C, 9, 1⟩
abbrev R.EVT_STATUS_SEQ (pg : Nat) : Fld := ⟨pg * 4096 + 0x010, 16, 16⟩
abbrev R.EVT_STATUS_BITS (pg : Nat) : Fld := ⟨pg * 4096 + 0x010, 0, 16⟩
abbrev R.EVT_ENABLE (pg : Nat) : Fld := ⟨pg * 4096 + 0x018, 0, 16⟩
abbrev R.FAULT_CODE_CLASS (pg : Nat) : Fld := ⟨pg * 4096 + 0x01C, 0, 8⟩
abbrev R.FAULT_CODE_DETAIL (pg : Nat) : Fld := ⟨pg * 4096 + 0x01C, 8, 8⟩
abbrev R.FAULT_CODE_CN_LO (pg : Nat) : Fld := ⟨pg * 4096 + 0x01C, 16, 16⟩
abbrev R.APPLIED_CN_LO (pg : Nat) : Fld := ⟨pg * 4096 + 0x024, 0, 16⟩
abbrev E.WRITE_OVF (pg : Nat) : Ev := ⟨pg, 0⟩
abbrev E.APPLIED (pg : Nat) : Ev := ⟨pg, 1⟩
abbrev E.DISCARDED (pg : Nat) : Ev := ⟨pg, 2⟩
abbrev E.PEGGED (pg : Nat) : Ev := ⟨pg, 3⟩

/-! The body registers, page by page, in the order of the chapters. -/
abbrev R.KEY_UNLOCK : Fld := ⟨0x01040, 0, 32⟩
abbrev R.KEY_LOCK_STATE_C_OPEN : Fld := ⟨0x01044, 0, 1⟩
abbrev R.KEY_LOCK_STATE_G_OPEN : Fld := ⟨0x01044, 1, 1⟩
abbrev R.KEY_KEY_FAULT_CNT : Fld := ⟨0x01048, 0, 32⟩
abbrev R.KEY_LOCKED_WRITE_CNT : Fld := ⟨0x0104C, 0, 32⟩
abbrev R.EVM_COINCIDE : Fld := ⟨0x05040, 0, 32⟩
abbrev R.EVM_TASK_SELn_SRC_A (n : Nat) : Fld := ⟨0x05100 + 4 * n, 0, 7⟩
abbrev R.EVM_TASK_SELn_EN_A (n : Nat) : Fld := ⟨0x05100 + 4 * n, 7, 1⟩
abbrev R.EVM_TASK_SELn_SRC_B (n : Nat) : Fld := ⟨0x05100 + 4 * n, 8, 7⟩
abbrev R.EVM_TASK_SELn_EN_B (n : Nat) : Fld := ⟨0x05100 + 4 * n, 15, 1⟩
abbrev R.EVM_TASK_SELn_SRC_C (n : Nat) : Fld := ⟨0x05100 + 4 * n, 16, 7⟩
abbrev R.EVM_TASK_SELn_EN_C (n : Nat) : Fld := ⟨0x05100 + 4 * n, 23, 1⟩
abbrev R.EVM_TASK_SELn_SRC_D (n : Nat) : Fld := ⟨0x05100 + 4 * n, 24, 7⟩
abbrev R.EVM_TASK_SELn_EN_D (n : Nat) : Fld := ⟨0x05100 + 4 * n, 31, 1⟩
abbrev R.ID_DEVICE : Fld := ⟨0x00040, 0, 16⟩
abbrev R.ID_HUB_NUMBER : Fld := ⟨0x00044, 0, 16⟩
abbrev R.ID_INIT_STATUS_SWEEP_DONE : Fld := ⟨0x00048, 0, 1⟩
abbrev R.ID_SNAPSHOT_REQ : Fld := ⟨0x0004C, 0, 1⟩
abbrev R.ID_SNAP_CN_LO : Fld := ⟨0x00050, 0, 16⟩
abbrev R.ID_CLEAR_STALE : Fld := ⟨0x00054, 0, 32⟩
abbrev R.ID_MBOXm (m : Nat) : Fld := ⟨0x00060 + 4 * m, 0, 32⟩
abbrev R.CLK_SRC_SEL_SRC : Fld := ⟨0x08040, 0, 2⟩
abbrev R.CLK_FALLBACK_FB0 : Fld := ⟨0x08044, 0, 2⟩
abbrev R.CLK_FALLBACK_EN0 : Fld := ⟨0x08044, 2, 1⟩
abbrev R.CLK_FALLBACK_FB1 : Fld := ⟨0x08044, 4, 2⟩
abbrev R.CLK_FALLBACK_EN1 : Fld := ⟨0x08044, 6, 1⟩
abbrev R.CLK_FALLBACK_FB2 : Fld := ⟨0x08044, 8, 2⟩
abbrev R.CLK_FALLBACK_EN2 : Fld := ⟨0x08044, 10, 1⟩
abbrev R.CLK_BAND_FLOOR : Fld := ⟨0x08048, 0, 16⟩
abbrev R.CLK_BAND_CEIL : Fld := ⟨0x0804C, 0, 16⟩
abbrev R.CLK_XO_RATIO : Fld := ⟨0x08050, 0, 24⟩
abbrev R.CLK_STATUS_ACTIVE_SRC : Fld := ⟨0x08054, 0, 2⟩
abbrev R.CLK_STATUS_COAST : Fld := ⟨0x08054, 2, 1⟩
abbrev R.CLK_STATUS_LOCKED : Fld := ⟨0x08054, 3, 1⟩
abbrev R.CLK_STATUS_READY_A : Fld := ⟨0x08054, 8, 1⟩
abbrev R.CLK_STATUS_READY_B : Fld := ⟨0x08054, 9, 1⟩
abbrev R.CLK_STATUS_READY_CLKIN : Fld := ⟨0x08054, 10, 1⟩
abbrev R.CLK_STATUS_READY_XO : Fld := ⟨0x08054, 11, 1⟩
abbrev R.CLK_MGMT_SPREAD_EN : Fld := ⟨0x08058, 0, 1⟩
abbrev R.CLK_SWITCH_OFFSET : Fld := ⟨0x0805C, 0, 16⟩
abbrev R.CLK_SRC_FREQn_COUNT (n : Nat) : Fld := ⟨0x08060 + 4 * n, 0, 24⟩
abbrev R.CLK_SRC_FREQn_VALID (n : Nat) : Fld := ⟨0x08060 + 4 * n, 31, 1⟩
abbrev R.CLK_LOSS_CAUSE : Fld := ⟨0x08070, 0, 3⟩
abbrev R.CLK_COAST_CNT : Fld := ⟨0x08074, 0, 32⟩
abbrev R.CLK_COAST_CR : Fld := ⟨0x08078, 0, 32⟩
abbrev R.CLK_SWITCH_REFUSED_CNT : Fld := ⟨0x0807C, 0, 32⟩
abbrev R.TIME_CN_LO : Fld := ⟨0x0C040, 0, 32⟩
abbrev R.TIME_CN_HI : Fld := ⟨0x0C044, 0, 32⟩
abbrev R.TIME_HT_SEC_LO : Fld := ⟨0x0C048, 0, 32⟩
abbrev R.TIME_HT_SEC_HI : Fld := ⟨0x0C04C, 0, 16⟩
abbrev R.TIME_HT_NS : Fld := ⟨0x0C050, 0, 30⟩
abbrev R.TIME_HT_FRAC : Fld := ⟨0x0C054, 0, 16⟩
abbrev R.TIME_NS32 : Fld := ⟨0x0C058, 0, 32⟩
abbrev R.TIME_ORBIT_POS : Fld := ⟨0x0C05C, 0, 12⟩
abbrev R.TIME_ORBIT_CNT : Fld := ⟨0x0C060, 0, 32⟩
abbrev R.TIME_ORBIT_LEN : Fld := ⟨0x0C064, 0, 12⟩
abbrev R.TIME_INCR_LO : Fld := ⟨0x0C068, 0, 32⟩
abbrev R.TIME_INCR_HI : Fld := ⟨0x0C06C, 0, 8⟩
abbrev R.TIME_RATE_ADJ : Fld := ⟨0x0C070, 0, 32⟩
abbrev R.TIME_STEP_CNT : Fld := ⟨0x0C074, 0, 32⟩
abbrev R.TIME_ORBIT_MISMATCH_CNT : Fld := ⟨0x0C078, 0, 32⟩
abbrev R.TIME_LAST_JUMP : Fld := ⟨0x0C07C, 0, 32⟩
abbrev R.TIME_STATUS_TIME_VALID : Fld := ⟨0x0C080, 0, 1⟩
abbrev R.TIME_STATUS_SETTLED : Fld := ⟨0x0C080, 1, 1⟩
abbrev R.TIME_STATUS_RESYNC_PENDING : Fld := ⟨0x0C080, 2, 1⟩
abbrev R.TIME_STATUS_MOORED : Fld := ⟨0x0C080, 3, 1⟩
abbrev R.TIME_CMPn_CTL_ARM (n : Nat) : Fld := ⟨0x0C100 + 16 * n, 0, 1⟩
abbrev R.TIME_CMPn_CTL_MODE (n : Nat) : Fld := ⟨0x0C100 + 16 * n, 1, 1⟩
abbrev R.TIME_CMPn_CTL_REPEAT (n : Nat) : Fld := ⟨0x0C100 + 16 * n, 2, 1⟩
abbrev R.TIME_CMPn_TARGET_LO (n : Nat) : Fld := ⟨0x0C104 + 16 * n, 0, 32⟩
abbrev R.TIME_CMPn_TARGET_HI (n : Nat) : Fld := ⟨0x0C108 + 16 * n, 0, 32⟩
abbrev R.TIME_CMPn_PERIOD (n : Nat) : Fld := ⟨0x0C10C + 16 * n, 0, 32⟩
abbrev R.TIME_CAPn_CTL_SRC (n : Nat) : Fld := ⟨0x0C180 + 32 * n, 0, 7⟩
abbrev R.TIME_CAPn_CTL_EN (n : Nat) : Fld := ⟨0x0C180 + 32 * n, 7, 1⟩
abbrev R.TIME_CAPn_CTL_REARM (n : Nat) : Fld := ⟨0x0C180 + 32 * n, 8, 1⟩
abbrev R.TIME_CAPn_CTL_FULL (n : Nat) : Fld := ⟨0x0C180 + 32 * n, 16, 1⟩
abbrev R.TIME_CAPn_CN_LO (n : Nat) : Fld := ⟨0x0C184 + 32 * n, 0, 32⟩
abbrev R.TIME_CAPn_CN_HI (n : Nat) : Fld := ⟨0x0C188 + 32 * n, 0, 32⟩
abbrev R.TIME_CAPn_SEC_LO (n : Nat) : Fld := ⟨0x0C18C + 32 * n, 0, 32⟩
abbrev R.TIME_CAPn_SEC_HI (n : Nat) : Fld := ⟨0x0C190 + 32 * n, 0, 16⟩
abbrev R.TIME_CAPn_NS (n : Nat) : Fld := ⟨0x0C194 + 32 * n, 0, 30⟩
abbrev R.TIME_CAPn_FRAC (n : Nat) : Fld := ⟨0x0C198 + 32 * n, 0, 16⟩
abbrev R.TIME_CAPn_MISS (n : Nat) : Fld := ⟨0x0C19C + 32 * n, 0, 32⟩
abbrev R.SYNC_CTL_SERVO_EN : Fld := ⟨0x0D040, 0, 1⟩
abbrev R.SYNC_CTL_STAMP_MODE : Fld := ⟨0x0D040, 1, 1⟩
abbrev R.SYNC_CTL_ALIGN_EN : Fld := ⟨0x0D040, 2, 1⟩
abbrev R.SYNC_CTL_REQ_OFFSET : Fld := ⟨0x0D040, 8, 8⟩
abbrev R.SYNC_STEP_LIMIT : Fld := ⟨0x0D044, 0, 32⟩
abbrev R.SYNC_SLEW_MAX : Fld := ⟨0x0D048, 0, 32⟩
abbrev R.SYNC_ALIGN_DEADBAND : Fld := ⟨0x0D04C, 0, 12⟩
abbrev R.SYNC_MOOR_GUARD : Fld := ⟨0x0D050, 0, 11⟩
abbrev R.SYNC_VF : Fld := ⟨0x0D054, 0, 16⟩
abbrev R.SYNC_FIXED_LAT : Fld := ⟨0x0D058, 0, 16⟩
abbrev R.SYNC_LEGACY_CORR : Fld := ⟨0x0D05C, 0, 32⟩
abbrev R.SYNC_ASYMp (p : Nat) : Fld := ⟨0x0D060 + 4 * p, 0, 32⟩
abbrev R.SYNC_OFFSET : Fld := ⟨0x0D080, 0, 32⟩
abbrev R.SYNC_MEAN_DELAY : Fld := ⟨0x0D084, 0, 32⟩
abbrev R.SYNC_ALIGN_PHASE : Fld := ⟨0x0D088, 0, 12⟩
abbrev R.SYNC_ALIGN_K : Fld := ⟨0x0D088, 16, 6⟩
abbrev R.SYNC_CABLE_LENp (p : Nat) : Fld := ⟨0x0D0A0 + 4 * p, 0, 24⟩
abbrev R.SYNC_EXCH_CNT : Fld := ⟨0x0D0C0, 0, 32⟩
abbrev R.SYNC_LOST_CNT : Fld := ⟨0x0D0C4, 0, 32⟩
abbrev R.SYNC_ANN_BAD_CNT : Fld := ⟨0x0D0C8, 0, 32⟩
abbrev R.PACEx_CTL_PREFER (pg : Nat) : Fld := ⟨pg * 4096 + 0x00040, 0, 1⟩
abbrev R.PACEx_CTL_REVERT (pg : Nat) : Fld := ⟨pg * 4096 + 0x00040, 1, 1⟩
abbrev R.PACEx_CTL_WAKE_ON_LINK (pg : Nat) : Fld := ⟨pg * 4096 + 0x00040, 2, 1⟩
abbrev R.PACEx_CTL_MOOR_TX_OFF (pg : Nat) : Fld := ⟨pg * 4096 + 0x00040, 3, 1⟩
abbrev R.PACEx_STATUS_IS_DATA (pg : Nat) : Fld := ⟨pg * 4096 + 0x00044, 0, 1⟩
abbrev R.PACEx_STATUS_PARTNER_OK (pg : Nat) : Fld := ⟨pg * 4096 + 0x00044, 1, 1⟩
abbrev R.PACEx_STATUS_PARTNER_VER (pg : Nat) : Fld := ⟨pg * 4096 + 0x00044, 8, 8⟩
abbrev R.PACEx_SKEW_PHASE (pg : Nat) : Fld := ⟨pg * 4096 + 0x00048, 0, 12⟩
abbrev R.PACEx_SKEW_WHOLE (pg : Nat) : Fld := ⟨pg * 4096 + 0x00048, 16, 4⟩
abbrev R.PACEx_SKEW_OOR (pg : Nat) : Fld := ⟨pg * 4096 + 0x00048, 20, 1⟩
abbrev R.PACEx_REPAIR_CNT (pg : Nat) : Fld := ⟨pg * 4096 + 0x0004C, 0, 32⟩
abbrev R.PACEx_COMMA_ERR_CNT (pg : Nat) : Fld := ⟨pg * 4096 + 0x00050, 0, 32⟩
abbrev R.PACEx_CODE_ERR_CNT (pg : Nat) : Fld := ⟨pg * 4096 + 0x00054, 0, 32⟩
abbrev R.PACEx_TRIG_PARITY_CNT (pg : Nat) : Fld := ⟨pg * 4096 + 0x00058, 0, 32⟩
abbrev R.PACEx_CMD_ERR_CNT (pg : Nat) : Fld := ⟨pg * 4096 + 0x0005C, 0, 32⟩
abbrev R.PACEx_FRAME_ERR_CNT (pg : Nat) : Fld := ⟨pg * 4096 + 0x00060, 0, 32⟩
abbrev R.PACEA_DATA_LANE : Fld := ⟨0x0E080, 0, 1⟩
abbrev R.PACEA_SWITCH_CNT : Fld := ⟨0x0E084, 0, 32⟩
abbrev R.PACEA_BLIND_CR : Fld := ⟨0x0E088, 0, 32⟩
abbrev R.PACEA_BLIND_FIRST_LO : Fld := ⟨0x0E08C, 0, 32⟩
abbrev R.PACEA_BLIND_FIRST_HI : Fld := ⟨0x0E090, 0, 32⟩
abbrev R.PACEA_BLIND_LAST_LO : Fld := ⟨0x0E094, 0, 32⟩
abbrev R.PACEA_BLIND_LAST_HI : Fld := ⟨0x0E098, 0, 32⟩
abbrev R.PACEA_HELD_ACCEPTS : Fld := ⟨0x0E09C, 0, 32⟩
abbrev R.PACEA_NORUN_ACCEPTS : Fld := ⟨0x0E0A0, 0, 32⟩
abbrev R.PACEA_CTRL_DROP : Fld := ⟨0x0E0A4, 0, 32⟩
abbrev R.PACEA_EASY_ACCEPTS : Fld := ⟨0x0E0A8, 0, 32⟩
abbrev R.PACEA_ACCEPT_CNT : Fld := ⟨0x0E0AC, 0, 32⟩
abbrev R.PACEA_LAST_CMD_CODE : Fld := ⟨0x0E0B0, 0, 4⟩
abbrev R.PACEA_LAST_CMD_ARG : Fld := ⟨0x0E0B0, 4, 4⟩
abbrev R.PACEA_LAST_CMD_CN_LO : Fld := ⟨0x0E0B0, 16, 16⟩
abbrev R.PACEA_RUN_ACTIVE : Fld := ⟨0x0E0B4, 0, 1⟩
abbrev R.PACEA_RUN_HOLD : Fld := ⟨0x0E0B4, 1, 1⟩
abbrev R.BANK_CHi_TERM (pg i : Nat) : Fld := ⟨pg * 4096 + 0x00040 + 4 * i, 0, 1⟩
abbrev R.BANK_CHi_CM_BIAS (pg i : Nat) : Fld := ⟨pg * 4096 + 0x00040 + 4 * i, 1, 1⟩
abbrev R.BANK_CHi_RANGE (pg i : Nat) : Fld := ⟨pg * 4096 + 0x00040 + 4 * i, 2, 2⟩
abbrev R.BANK_CHi_POWER (pg i : Nat) : Fld := ⟨pg * 4096 + 0x00040 + 4 * i, 4, 1⟩
abbrev R.BANK_SLICEi_SKEW_TGT (pg i : Nat) : Fld := ⟨pg * 4096 + 0x000C0 + 4 * i, 0, 6⟩
abbrev R.BANK_SLICEi_SKEW (pg i : Nat) : Fld := ⟨pg * 4096 + 0x000C0 + 4 * i, 8, 6⟩
abbrev R.BANK_SLICEi_TRIM_OWNER (pg i : Nat) : Fld := ⟨pg * 4096 + 0x000C0 + 4 * i, 16, 1⟩
abbrev R.BANK_SLICEi_AT_TARGET (pg i : Nat) : Fld := ⟨pg * 4096 + 0x000C0 + 4 * i, 17, 1⟩
abbrev R.BANK_SLICEi_SERVING (pg i : Nat) : Fld := ⟨pg * 4096 + 0x000C0 + 4 * i, 18, 1⟩
abbrev R.BANK_TRIM_ADDR_SLICE (pg : Nat) : Fld := ⟨pg * 4096 + 0x00150, 0, 6⟩
abbrev R.BANK_TRIM_ADDR_INDEX (pg : Nat) : Fld := ⟨pg * 4096 + 0x00150, 8, 6⟩
abbrev R.BANK_TRIM_TGT (pg c : Nat) : Fld := ⟨pg * 4096 + 0x00154 + 1048576 * c, 0, 10⟩
abbrev R.BANK_TRIM_RD_CURRENT (pg c : Nat) : Fld := ⟨pg * 4096 + 0x00158 + 1048576 * c, 0, 10⟩
abbrev R.BANK_TRIM_RD_HOST (pg c : Nat) : Fld := ⟨pg * 4096 + 0x00158 + 1048576 * c, 16, 10⟩
abbrev R.BANK_TRIM_CALRD (pg c : Nat) : Fld := ⟨pg * 4096 + 0x0015C + 1048576 * c, 0, 10⟩
abbrev R.BANK_TDAC_CODE (pg : Nat) : Fld := ⟨pg * 4096 + 0x00160, 0, 12⟩
abbrev R.BANK_TDAC_CTL_HK_TAP (pg : Nat) : Fld := ⟨pg * 4096 + 0x00164, 0, 1⟩
abbrev R.BANK_TDAC_CTL_HOLD (pg : Nat) : Fld := ⟨pg * 4096 + 0x00164, 1, 1⟩
abbrev R.BANK_TDAC_STATUS_CODE (pg : Nat) : Fld := ⟨pg * 4096 + 0x00168, 0, 12⟩
abbrev R.BANK_TDAC_STATUS_USER (pg : Nat) : Fld := ⟨pg * 4096 + 0x00168, 16, 1⟩
abbrev R.BANK_TDAC_STATUS_HK_CONNECTED (pg : Nat) : Fld := ⟨pg * 4096 + 0x00168, 17, 1⟩
abbrev R.BANK_TDAC_STATUS_HK_BLOCKED (pg : Nat) : Fld := ⟨pg * 4096 + 0x00168, 18, 1⟩
abbrev R.BANK_OVR_CNTi (pg i : Nat) : Fld := ⟨pg * 4096 + 0x00200 + 4 * i, 0, 32⟩
abbrev R.CAL_ROT_EN : Fld := ⟨0x07040, 0, 24⟩
abbrev R.CAL_CMP_LIM_MEAN : Fld := ⟨0x07044, 0, 8⟩
abbrev R.CAL_CMP_LIM_RMS : Fld := ⟨0x07044, 8, 8⟩
abbrev R.CAL_NOW_CHANNEL : Fld := ⟨0x07048, 0, 10⟩
abbrev R.CAL_NOW_GO : Fld := ⟨0x07048, 15, 1⟩
abbrev R.CAL_NOW_STATUS_LAST : Fld := ⟨0x0704C, 0, 10⟩
abbrev R.CAL_NOW_STATUS_PENDING : Fld := ⟨0x0704C, 16, 1⟩
abbrev R.CAL_FAULT_SLICE_BANK : Fld := ⟨0x07050, 0, 5⟩
abbrev R.CAL_FAULT_SLICE_SLICE : Fld := ⟨0x07050, 8, 6⟩
abbrev R.CAL_FAULT_CN_LO : Fld := ⟨0x07054, 0, 32⟩
abbrev R.CAL_FAULT_CN_HI : Fld := ⟨0x07058, 0, 32⟩
abbrev R.CAL_HANDOVER_CNT : Fld := ⟨0x07060, 0, 32⟩
abbrev R.CAL_CMP_FAIL_CNT : Fld := ⟨0x07064, 0, 32⟩
abbrev R.CAL_INCONCLUSIVE_CNT : Fld := ⟨0x07068, 0, 32⟩
abbrev R.CAL_STUCK_CNT : Fld := ⟨0x0706C, 0, 32⟩
abbrev R.CAL_SELFTEST_CNT : Fld := ⟨0x07070, 0, 32⟩
abbrev R.CAL_NOW_REFUSED_CNT : Fld := ⟨0x07074, 0, 32⟩
abbrev R.CAL_BANKb_STATE_SPARE (b : Nat) : Fld := ⟨0x07100 + 4 * b, 0, 4⟩
abbrev R.CAL_BANKb_STATE_INDEX (b : Nat) : Fld := ⟨0x07100 + 4 * b, 4, 5⟩
abbrev R.CAL_BANKb_STATE_ROTATING (b : Nat) : Fld := ⟨0x07100 + 4 * b, 16, 1⟩
abbrev R.CAL_BANKb_STATE_PU_DONE (b : Nat) : Fld := ⟨0x07100 + 4 * b, 17, 1⟩
abbrev R.CAL_BANKb_STATE_EXTENDED (b : Nat) : Fld := ⟨0x07100 + 4 * b, 18, 1⟩
abbrev R.CAL_BANKb_STATE_QUEUED (b : Nat) : Fld := ⟨0x07100 + 4 * b, 19, 3⟩
abbrev R.CAL_HEALTH_Ab (b : Nat) : Fld := ⟨0x07180 + 4 * b, 0, 32⟩
abbrev R.CAL_HEALTH_Bb (b : Nat) : Fld := ⟨0x07200 + 4 * b, 0, 32⟩
abbrev R.CAL_HEALTH_Cb (b : Nat) : Fld := ⟨0x07280 + 4 * b, 0, 2⟩
abbrev R.CAL_DEADb (b : Nat) : Fld := ⟨0x07300 + 4 * b, 0, 32⟩
abbrev R.PRISM_CH_SEL : Fld := ⟨0x28040, 0, 10⟩
abbrev R.PRISM_CH_CFG_EN (c : Nat) : Fld := ⟨0x28044 + 1048576 * c, 0, 1⟩
abbrev R.PRISM_CH_CFG_RATE (c : Nat) : Fld := ⟨0x28044 + 1048576 * c, 1, 2⟩
abbrev R.PRISM_CH_CFG_PROFILE (c : Nat) : Fld := ⟨0x28044 + 1048576 * c, 3, 6⟩
abbrev R.PRISM_CH_CFG_FGAIN (c : Nat) : Fld := ⟨0x28044 + 1048576 * c, 16, 16⟩
abbrev R.PRISM_CH_PED (c : Nat) : Fld := ⟨0x28048 + 1048576 * c, 0, 18⟩
abbrev R.PRISM_CH_STATUS_FADING (c : Nat) : Fld := ⟨0x2804C + 1048576 * c, 0, 1⟩
abbrev R.PRISM_CH_STATUS_WAITING (c : Nat) : Fld := ⟨0x2804C + 1048576 * c, 1, 1⟩
abbrev R.PRISM_CH_STATUS_FADE_TARGET (c : Nat) : Fld := ⟨0x2804C + 1048576 * c, 2, 6⟩
abbrev R.PRISM_CH_STATUS_COST (c : Nat) : Fld := ⟨0x2804C + 1048576 * c, 8, 12⟩
abbrev R.PRISM_FADE_REQ_CHANNEL : Fld := ⟨0x28050, 0, 10⟩
abbrev R.PRISM_FADE_REQ_PROFILE : Fld := ⟨0x28050, 10, 6⟩
abbrev R.PRISM_FADE_REQ_LEN : Fld := ⟨0x28050, 16, 3⟩
abbrev R.PRISM_FADE_CTL_WAIT_MAX : Fld := ⟨0x28054, 0, 8⟩
abbrev R.PRISM_LAST_REFUSE_CAUSE : Fld := ⟨0x28058, 0, 4⟩
abbrev R.PRISM_LAST_REFUSE_BANK : Fld := ⟨0x28058, 4, 5⟩
abbrev R.PRISM_LAST_REFUSE_CHANNEL : Fld := ⟨0x28058, 16, 10⟩
abbrev R.PRISM_LEDGER_REFUSED_CNT : Fld := ⟨0x28060, 0, 32⟩
abbrev R.PRISM_SET_REFUSED_CNT : Fld := ⟨0x28064, 0, 32⟩
abbrev R.PRISM_FADE_REFUSED_CNT : Fld := ⟨0x28068, 0, 32⟩
abbrev R.PRISM_FADE_DONE_CNT : Fld := ⟨0x2806C, 0, 32⟩
abbrev R.PRISM_SAT_CNT : Fld := ⟨0x28070, 0, 32⟩
abbrev R.PRISM_LEDGERb_USED (b : Nat) : Fld := ⟨0x28100 + 4 * b, 0, 13⟩
abbrev R.PRISM_LEDGERb_QUEUED (b : Nat) : Fld := ⟨0x28100 + 4 * b, 16, 4⟩
abbrev R.PRISM_LEDGERb_RUNNING (b : Nat) : Fld := ⟨0x28100 + 4 * b, 20, 6⟩
abbrev R.PCOEF_PSEL : Fld := ⟨0x29040, 0, 6⟩
abbrev R.PCOEF_TAP : Fld := ⟨0x29044, 0, 8⟩
abbrev R.PCOEF_COEF (c : Nat) : Fld := ⟨0x29048 + 1048576 * c, 0, 18⟩
abbrev R.PCOEF_COMMIT_PROFILE : Fld := ⟨0x2904C, 0, 6⟩
abbrev R.PCOEF_COMMIT_LEN : Fld := ⟨0x2904C, 8, 9⟩
abbrev R.PCOEF_COMMIT_OP : Fld := ⟨0x2904C, 31, 1⟩
abbrev R.PCOEF_PSTATUS_STATE (c : Nat) : Fld := ⟨0x29050 + 1048576 * c, 0, 2⟩
abbrev R.PCOEF_PSTATUS_LEN (c : Nat) : Fld := ⟨0x29050 + 1048576 * c, 8, 9⟩
abbrev R.PCOEF_PSTATUS_IN_USE (c : Nat) : Fld := ⟨0x29050 + 1048576 * c, 24, 1⟩
abbrev R.PCOEF_NORM (c : Nat) : Fld := ⟨0x29054 + 1048576 * c, 0, 26⟩
abbrev R.PCOEF_COMMITTED_LO : Fld := ⟨0x29058, 0, 32⟩
abbrev R.PCOEF_COMMITTED_HI : Fld := ⟨0x2905C, 0, 32⟩
abbrev R.PCOEF_INUSE_LO : Fld := ⟨0x29060, 0, 32⟩
abbrev R.PCOEF_INUSE_HI : Fld := ⟨0x29064, 0, 32⟩
abbrev R.PCOEF_LAST_REFUSE_CAUSE : Fld := ⟨0x29068, 0, 3⟩
abbrev R.PCOEF_LAST_REFUSE_PROFILE : Fld := ⟨0x29068, 8, 6⟩
abbrev R.PCOEF_WRITE_LOCKED_CNT : Fld := ⟨0x29070, 0, 32⟩
abbrev R.PCOEF_ECC_FAIL_CNT : Fld := ⟨0x29074, 0, 32⟩
abbrev R.RSMP_CH_SEL : Fld := ⟨0x2A040, 0, 10⟩
abbrev R.RSMP_CH_DELAY (c : Nat) : Fld := ⟨0x2A044 + 1048576 * c, 0, 16⟩
abbrev R.RSMP_CH_SERVO_EN (c : Nat) : Fld := ⟨0x2A048 + 1048576 * c, 0, 1⟩
abbrev R.RSMP_CH_STATUS_SERVO_OFS (c : Nat) : Fld := ⟨0x2A04C + 1048576 * c, 0, 16⟩
abbrev R.RSMP_CH_STATUS_HIST_N (c : Nat) : Fld := ⟨0x2A04C + 1048576 * c, 16, 16⟩
abbrev R.RSMP_RATIO_RHO : Fld := ⟨0x2A050, 0, 24⟩
abbrev R.RSMP_STEP_LO : Fld := ⟨0x2A054, 0, 32⟩
abbrev R.RSMP_STEP_HI : Fld := ⟨0x2A058, 0, 2⟩
abbrev R.RSMP_SERVO_TARGET : Fld := ⟨0x2A05C, 0, 16⟩
abbrev R.RSMP_SERVO_CTL_DEADBAND : Fld := ⟨0x2A060, 0, 4⟩
abbrev R.RSMP_SERVO_CTL_SLEW : Fld := ⟨0x2A060, 8, 8⟩
abbrev R.RSMP_SERVO_CTL_RANGE : Fld := ⟨0x2A060, 16, 16⟩
abbrev R.RSMP_SERVO_THR : Fld := ⟨0x2A064, 0, 20⟩
abbrev R.RSMP_SERVO_MIN : Fld := ⟨0x2A068, 0, 12⟩
abbrev R.RSMP_SERVO_TYPES : Fld := ⟨0x2A06C, 0, 16⟩
abbrev R.RSMP_LOG_LEVEL : Fld := ⟨0x2A070, 0, 13⟩
abbrev R.RSMP_LAST_REFUSE_CAUSE : Fld := ⟨0x2A074, 0, 4⟩
abbrev R.RSMP_STEP_CNT : Fld := ⟨0x2A078, 0, 32⟩
abbrev R.RSMP_HELD_CNT : Fld := ⟨0x2A07C, 0, 32⟩
abbrev R.RSMP_LIMIT_CNT : Fld := ⟨0x2A080, 0, 32⟩
abbrev R.RSMP_RATE_VOID_CNT : Fld := ⟨0x2A084, 0, 32⟩
abbrev R.RSMP_RECORD_CNT : Fld := ⟨0x2A088, 0, 32⟩
abbrev R.RSMP_HIST_SEL : Fld := ⟨0x2A090, 0, 9⟩
abbrev R.RSMP_HIST_VAL (c : Nat) : Fld := ⟨0x2A094 + 1048576 * c, 0, 16⟩
abbrev R.TPRIM_CTL_GROUP : Fld := ⟨0x2C040, 0, 2⟩
abbrev R.TPRIM_CTL_WIDTH : Fld := ⟨0x2C040, 2, 1⟩
abbrev R.TPRIM_CTL_SHIFT : Fld := ⟨0x2C040, 4, 3⟩
abbrev R.TPRIM_CTL_PICK_MODE : Fld := ⟨0x2C040, 8, 1⟩
abbrev R.TPRIM_CTL_PICK_PHASE : Fld := ⟨0x2C040, 9, 2⟩
abbrev R.TPRIM_ALIGN : Fld := ⟨0x2C044, 0, 6⟩
abbrev R.TPRIM_PEAK_THR : Fld := ⟨0x2C048, 0, 15⟩
abbrev R.TPRIM_CH_SEL : Fld := ⟨0x2C04C, 0, 10⟩
abbrev R.TPRIM_CH_CFG_EN (c : Nat) : Fld := ⟨0x2C054 + 1048576 * c, 0, 1⟩
abbrev R.TPRIM_CH_CFG_INV (c : Nat) : Fld := ⟨0x2C054 + 1048576 * c, 1, 1⟩
abbrev R.TPRIM_CH_CFG_FSET (c : Nat) : Fld := ⟨0x2C054 + 1048576 * c, 2, 2⟩
abbrev R.TPRIM_CH_PED (c : Nat) : Fld := ⟨0x2C058 + 1048576 * c, 0, 18⟩
abbrev R.TPRIM_LAST_REFUSE_CAUSE : Fld := ⟨0x2C05C, 0, 2⟩
abbrev R.TPRIM_FRAME_CNT : Fld := ⟨0x2C060, 0, 32⟩
abbrev R.TPRIM_SAT_CNT : Fld := ⟨0x2C064, 0, 32⟩
abbrev R.TPRIM_VOID_CR : Fld := ⟨0x2C068, 0, 32⟩
abbrev R.TPRIM_FILL_CNT : Fld := ⟨0x2C06C, 0, 32⟩
abbrev R.TPRIM_DROP_CNT : Fld := ⟨0x2C070, 0, 32⟩
abbrev R.TPRIM_FSETf_Ceven (f m : Nat) : Fld := ⟨0x2C080 + 16 * f + 4 * m, 0, 12⟩
abbrev R.TPRIM_FSETf_Codd (f m : Nat) : Fld := ⟨0x2C080 + 16 * f + 4 * m, 16, 12⟩
abbrev R.ACQ_LATENCY : Fld := ⟨0x30040, 0, 12⟩
abbrev R.ACQ_CTL_RMAX : Fld := ⟨0x30044, 0, 2⟩
abbrev R.ACQ_AUTO_TIMEOUT : Fld := ⟨0x30048, 0, 16⟩
abbrev R.ACQ_AUTO_TYPE : Fld := ⟨0x30048, 16, 4⟩
abbrev R.ACQ_QUEUE_EASY : Fld := ⟨0x3004C, 0, 9⟩
abbrev R.ACQ_PS_MAX : Fld := ⟨0x30050, 0, 3⟩
abbrev R.ACQ_QUEUE_LEVEL_NOW : Fld := ⟨0x30054, 0, 9⟩
abbrev R.ACQ_QUEUE_LEVEL_HIGH : Fld := ⟨0x30054, 16, 9⟩
abbrev R.ACQ_STATUS_REACH_HOLD : Fld := ⟨0x30058, 0, 1⟩
abbrev R.ACQ_STATUS_EASY_REQ : Fld := ⟨0x30058, 1, 1⟩
abbrev R.ACQ_STATUS_PS_SHIFT : Fld := ⟨0x30058, 2, 3⟩
abbrev R.ACQ_STATUS_RATE_OVER : Fld := ⟨0x30058, 5, 1⟩
abbrev R.ACQ_LAST_REFUSE_CAUSE : Fld := ⟨0x3005C, 0, 2⟩
abbrev R.ACQ_LAST_REFUSE_TYPE : Fld := ⟨0x3005C, 8, 4⟩
abbrev R.ACQ_ENQ_CNT : Fld := ⟨0x30060, 0, 32⟩
abbrev R.ACQ_OVERRUN_ROWS : Fld := ⟨0x30064, 0, 32⟩
abbrev R.ACQ_QUEUE_FULL_CNT : Fld := ⟨0x30068, 0, 32⟩
abbrev R.ACQ_AUTO_CNT : Fld := ⟨0x3006C, 0, 32⟩
abbrev R.ACQ_REACH_HELD_CNT : Fld := ⟨0x30070, 0, 32⟩
abbrev R.ACQ_ECC_VOID_CNT : Fld := ⟨0x30074, 0, 32⟩
abbrev R.ACQ_PRESCALED_CNT : Fld := ⟨0x30078, 0, 32⟩
abbrev R.ACQ_DISABLED_CNT : Fld := ⟨0x3007C, 0, 32⟩
abbrev R.ACQ_TYPEt_LEN (t : Nat) : Fld := ⟨0x30100 + 4 * t, 0, 6⟩
abbrev R.ACQ_TYPEt_OFS (t : Nat) : Fld := ⟨0x30100 + 4 * t, 16, 16⟩
abbrev R.START_INs_CTL_EN (s : Nat) : Fld := ⟨0x31040 + 16 * s, 0, 1⟩
abbrev R.START_INs_CTL_EDGE (s : Nat) : Fld := ⟨0x31040 + 16 * s, 1, 1⟩
abbrev R.START_INs_CTL_TRIG (s : Nat) : Fld := ⟨0x31040 + 16 * s, 2, 1⟩
abbrev R.START_INs_CTL_TYPE (s : Nat) : Fld := ⟨0x31040 + 16 * s, 4, 4⟩
abbrev R.START_INs_DELAY (s : Nat) : Fld := ⟨0x31044 + 16 * s, 0, 20⟩
abbrev R.START_INs_PRESCALE (s : Nat) : Fld := ⟨0x31048 + 16 * s, 0, 16⟩
abbrev R.START_INs_LAST_FINE (s : Nat) : Fld := ⟨0x3104C + 16 * s, 0, 12⟩
abbrev R.START_INs_LAST_CN_LO (s : Nat) : Fld := ⟨0x3104C + 16 * s, 16, 16⟩
abbrev R.START_EDGE_CNTs (s : Nat) : Fld := ⟨0x31080 + 4 * s, 0, 32⟩
abbrev R.START_DOUBLE_CNTs (s : Nat) : Fld := ⟨0x31090 + 4 * s, 0, 32⟩
abbrev R.SELF_CTL_MODE : Fld := ⟨0x32040, 0, 1⟩
abbrev R.SELF_CTL_COINC_EN : Fld := ⟨0x32040, 1, 1⟩
abbrev R.SELF_CTL_COINC_ALL : Fld := ⟨0x32040, 2, 1⟩
abbrev R.SELF_CTL_COINC_WIN : Fld := ⟨0x32040, 4, 2⟩
abbrev R.SELF_CTL_TYPE : Fld := ⟨0x32040, 8, 4⟩
abbrev R.SELF_CTL_HOLDOFF : Fld := ⟨0x32040, 16, 16⟩
abbrev R.SELF_BANK_EN : Fld := ⟨0x32044, 0, 24⟩
abbrev R.SELF_CH_SEL : Fld := ⟨0x32048, 0, 10⟩
abbrev R.SELF_CH_CFG_EN (c : Nat) : Fld := ⟨0x3204C + 1048576 * c, 0, 1⟩
abbrev R.SELF_CH_CFG_POL (c : Nat) : Fld := ⟨0x3204C + 1048576 * c, 1, 1⟩
abbrev R.SELF_CH_THR (c : Nat) : Fld := ⟨0x32050 + 1048576 * c, 0, 17⟩
abbrev R.SELF_PRESCALE : Fld := ⟨0x32054, 0, 16⟩
abbrev R.SELF_TRIG_CNT : Fld := ⟨0x32060, 0, 32⟩
abbrev R.SELF_HIT_CR : Fld := ⟨0x32064, 0, 32⟩
abbrev R.SELF_COINC_FAIL_CR : Fld := ⟨0x32068, 0, 32⟩
abbrev R.SELF_COINC_BLOCKED_CR : Fld := ⟨0x3206C, 0, 32⟩
abbrev R.SELF_PAIR_SKIP_CR : Fld := ⟨0x32070, 0, 32⟩
abbrev R.NEIGH_PORTj_CTL_EN (j : Nat) : Fld := ⟨0x33040 + 16 * j, 0, 1⟩
abbrev R.NEIGH_PORTj_CTL_AUTO (j : Nat) : Fld := ⟨0x33040 + 16 * j, 1, 1⟩
abbrev R.NEIGH_PORTj_CTL_COINC (j : Nat) : Fld := ⟨0x33040 + 16 * j, 2, 1⟩
abbrev R.NEIGH_PORTj_COMP_COARSE (j : Nat) : Fld := ⟨0x33044 + 16 * j, 0, 4⟩
abbrev R.NEIGH_PORTj_COMP_FINE (j : Nat) : Fld := ⟨0x33044 + 16 * j, 8, 6⟩
abbrev R.NEIGH_PORTj_STATUS_STATE (j : Nat) : Fld := ⟨0x33048 + 16 * j, 0, 2⟩
abbrev R.NEIGH_PORTj_STATUS_PEER_SETTLED (j : Nat) : Fld := ⟨0x33048 + 16 * j, 4, 1⟩
abbrev R.NEIGH_PORTj_STATUS_RECAL_DONE (j : Nat) : Fld := ⟨0x33048 + 16 * j, 5, 1⟩
abbrev R.NEIGH_PORTj_STATUS_PEER_VALID (j : Nat) : Fld := ⟨0x33048 + 16 * j, 6, 1⟩
abbrev R.NEIGH_PORTj_STATUS_PEER_PORT (j : Nat) : Fld := ⟨0x33048 + 16 * j, 8, 2⟩
abbrev R.NEIGH_PORTj_RX_DELAY (j : Nat) : Fld := ⟨0x3304C + 16 * j, 0, 20⟩
abbrev R.NEIGH_PEER_DELAYj (j : Nat) : Fld := ⟨0x33080 + 4 * j, 0, 20⟩
abbrev R.NEIGH_PARITY_CNTj (j : Nat) : Fld := ⟨0x33090 + 4 * j, 0, 32⟩
abbrev R.NEIGH_TRAIN_FAIL_CNTj (j : Nat) : Fld := ⟨0x330A0 + 4 * j, 0, 32⟩
abbrev R.FRAG_CH_SEL : Fld := ⟨0x38040, 0, 10⟩
abbrev R.FRAG_ZS_PED (c : Nat) : Fld := ⟨0x38044 + 1048576 * c, 0, 18⟩
abbrev R.FRAG_FEAT_N : Fld := ⟨0x38048, 0, 4⟩
abbrev R.FRAG_FEAT_AMIN : Fld := ⟨0x3804C, 0, 20⟩
abbrev R.FRAG_REC_MAX : Fld := ⟨0x38050, 0, 7⟩
abbrev R.FRAG_LAST_REFUSE_CAUSE : Fld := ⟨0x38054, 0, 3⟩
abbrev R.FRAG_FRAG_CNT : Fld := ⟨0x38060, 0, 32⟩
abbrev R.FRAG_VOID_FRAG_CNT : Fld := ⟨0x38064, 0, 32⟩
abbrev R.FRAG_DISCARD_CNT : Fld := ⟨0x38068, 0, 32⟩
abbrev R.FRAG_SAT_TRUNC_CNT : Fld := ⟨0x3806C, 0, 32⟩
abbrev R.FRAG_SHED_CNT : Fld := ⟨0x38070, 0, 32⟩
abbrev R.FRAG_REC_CNT : Fld := ⟨0x38074, 0, 32⟩
abbrev R.FRAG_ZS_CNT : Fld := ⟨0x38078, 0, 32⟩
abbrev R.FRAG_RAWADD_CNT : Fld := ⟨0x3807C, 0, 32⟩
abbrev R.FRAG_CHMASKb (b : Nat) : Fld := ⟨0x38080 + 4 * b, 0, 32⟩
abbrev R.FRAG_TYPEt_CFG_MODE (t : Nat) : Fld := ⟨0x38100 + 16 * t, 0, 3⟩
abbrev R.FRAG_TYPEt_CFG_K (t : Nat) : Fld := ⟨0x38100 + 16 * t, 4, 4⟩
abbrev R.FRAG_TYPEt_CFG_FEAT_START (t : Nat) : Fld := ⟨0x38100 + 16 * t, 8, 5⟩
abbrev R.FRAG_TYPEt_CFG_QTHR (t : Nat) : Fld := ⟨0x38100 + 16 * t, 16, 12⟩
abbrev R.FRAG_TYPEt_BANKS (t : Nat) : Fld := ⟨0x38104 + 16 * t, 0, 24⟩
abbrev R.FRAG_TYPEt_ZS_THR (t : Nat) : Fld := ⟨0x38108 + 16 * t, 0, 17⟩
abbrev R.FRAG_TYPEt_SAT_PORTS (t : Nat) : Fld := ⟨0x3810C + 16 * t, 0, 16⟩
abbrev R.FRAG_TYPEt_SAT_LENM1 (t : Nat) : Fld := ⟨0x3810C + 16 * t, 16, 5⟩
abbrev R.FRAG_TYPEt_SAT_OFS (t : Nat) : Fld := ⟨0x3810C + 16 * t, 24, 8⟩
abbrev R.FRAG_TYPEt_SAT_MAX (t : Nat) : Fld := ⟨0x38200 + 4 * t, 0, 10⟩
abbrev R.FRAG_FEAT_Ak (k : Nat) : Fld := ⟨0x38280 + 4 * k, 0, 18⟩
abbrev R.FRAG_FEAT_Bk (k : Nat) : Fld := ⟨0x382A0 + 4 * k, 0, 18⟩
abbrev R.FRAG_FEAT_Gk (k : Nat) : Fld := ⟨0x382C0 + 4 * k, 0, 18⟩
abbrev R.LENS_FLUSH : Fld := ⟨0x39040, 0, 1⟩
abbrev R.LENS_ENGINES_BUSY : Fld := ⟨0x39044, 0, 7⟩
abbrev R.LENS_ENGINES_HIGH : Fld := ⟨0x39044, 16, 7⟩
abbrev R.LENS_BLOCK_CNT : Fld := ⟨0x39060, 0, 32⟩
abbrev R.LENS_IN_BYTES : Fld := ⟨0x39064, 0, 32⟩
abbrev R.LENS_OUT_WORDS : Fld := ⟨0x39068, 0, 32⟩
abbrev R.LENS_RAW_BLOCK_CNT : Fld := ⟨0x3906C, 0, 32⟩
abbrev R.LENS_FLUSHED_CNT : Fld := ⟨0x39070, 0, 32⟩
abbrev R.LENS_FROZEN_CNT : Fld := ⟨0x39074, 0, 32⟩
abbrev R.LENS_STALL_CC : Fld := ⟨0x39078, 0, 32⟩
abbrev R.LENS_ECC_CNT : Fld := ⟨0x3907C, 0, 32⟩
abbrev R.LENS_TYPEt_RAW (t : Nat) : Fld := ⟨0x39100 + 4 * t, 0, 1⟩
abbrev R.LENS_TYPEt_CHAN_FLUSH (t : Nat) : Fld := ⟨0x39100 + 4 * t, 1, 1⟩
abbrev R.DERAND_LEVEL_NOW : Fld := ⟨0x4A040, 0, 18⟩
abbrev R.DERAND_LEVEL_HIGH : Fld := ⟨0x4A044, 0, 18⟩
abbrev R.DERAND_FRAGS : Fld := ⟨0x4A048, 0, 18⟩
abbrev R.DERAND_STATUS_PRIORITY : Fld := ⟨0x4A04C, 0, 1⟩
abbrev R.DERAND_STATUS_EASY_REQ : Fld := ⟨0x4A04C, 1, 1⟩
abbrev R.DERAND_STATUS_SHED : Fld := ⟨0x4A04C, 2, 1⟩
abbrev R.DERAND_STATUS_EASY : Fld := ⟨0x4A04C, 3, 1⟩
abbrev R.DERAND_STATUS_CREDIT_WAIT : Fld := ⟨0x4A04C, 4, 1⟩
abbrev R.DERAND_STRANDED : Fld := ⟨0x4A050, 0, 18⟩
abbrev R.DERAND_CREDIT_WAIT_CC : Fld := ⟨0x4A054, 0, 32⟩
abbrev R.DERAND_EASY_CNT : Fld := ⟨0x4A058, 0, 32⟩
abbrev R.DERAND_PRIORITY_CC : Fld := ⟨0x4A05C, 0, 32⟩
abbrev R.DERAND_ECC_CNT : Fld := ⟨0x4A060, 0, 32⟩
abbrev R.CREW_SEL : Fld := ⟨0x40040, 0, 12⟩
abbrev R.CREW_Ew (w c : Nat) : Fld := ⟨0x40044 + 4 * w + 1048576 * c, 0, 32⟩
abbrev R.CREW_CMD_CREW : Fld := ⟨0x40064, 0, 12⟩
abbrev R.CREW_CMD_OP : Fld := ⟨0x40064, 12, 2⟩
abbrev R.CREW_CREDIT_ADD_CREW : Fld := ⟨0x40068, 0, 12⟩
abbrev R.CREW_CREDIT_ADD_COUNT : Fld := ⟨0x40068, 16, 16⟩
abbrev R.CREW_LAST_REFUSE_CAUSE : Fld := ⟨0x4006C, 0, 3⟩
abbrev R.CREW_LAST_REFUSE_CREW : Fld := ⟨0x4006C, 16, 12⟩
abbrev R.CREW_LAST_ERR_CREW : Fld := ⟨0x40070, 0, 12⟩
abbrev R.CREW_LAST_ERR_KIND : Fld := ⟨0x40070, 16, 4⟩
abbrev R.CREW_FETCH_CNT : Fld := ⟨0x40080, 0, 32⟩
abbrev R.CREW_LATE_DISCARD_CNT : Fld := ⟨0x40084, 0, 32⟩
abbrev R.CREW_DESC_ERR_CNT : Fld := ⟨0x40088, 0, 32⟩
abbrev R.CREW_QUIESCE_TIMEOUT_CNT : Fld := ⟨0x4008C, 0, 32⟩
abbrev R.CREW_ALT_CNT : Fld := ⟨0x40090, 0, 32⟩
abbrev R.CREW_TRUNC_CNT : Fld := ⟨0x40094, 0, 32⟩
abbrev R.CREW_CREDIT_OVF_CNT : Fld := ⟨0x40098, 0, 32⟩
abbrev R.CREW_MAPeven (i : Nat) : Fld := ⟨0x40400 + 4 * i, 0, 12⟩
abbrev R.CREW_MAPodd (i : Nat) : Fld := ⟨0x40400 + 4 * i, 16, 12⟩
abbrev R.SEATS_SEATED : Fld := ⟨0x41040, 0, 7⟩
abbrev R.SEATS_SEAT_SPILL_CNT : Fld := ⟨0x41044, 0, 32⟩
abbrev R.SEATS_SEAT_WAIT_CC : Fld := ⟨0x41048, 0, 32⟩
abbrev R.SEATS_SEAT_SEL : Fld := ⟨0x4104C, 0, 6⟩
abbrev R.SEATS_INFO_CREW (c : Nat) : Fld := ⟨0x41050 + 1048576 * c, 0, 12⟩
abbrev R.SEATS_INFO_VALID (c : Nat) : Fld := ⟨0x41050 + 1048576 * c, 16, 1⟩
abbrev R.SEATS_INFO_PINNED (c : Nat) : Fld := ⟨0x41050 + 1048576 * c, 17, 1⟩
abbrev R.SEATS_INFO_AGE (c : Nat) : Fld := ⟨0x41050 + 1048576 * c, 24, 6⟩
abbrev R.STN_CTL_BEAT (pg : Nat) : Fld := ⟨pg * 4096 + 0x00040, 0, 3⟩
abbrev R.STN_STATUS_BEAT (pg : Nat) : Fld := ⟨pg * 4096 + 0x00044, 0, 3⟩
abbrev R.STN_STATUS_LINK_UP (pg : Nat) : Fld := ⟨pg * 4096 + 0x00044, 8, 1⟩
abbrev R.STN_STATUS_BUSY (pg : Nat) : Fld := ⟨pg * 4096 + 0x00044, 9, 1⟩
abbrev R.STN_CUR_CREW (pg : Nat) : Fld := ⟨pg * 4096 + 0x00048, 0, 12⟩
abbrev R.STN_CUR_DESC_LO (pg : Nat) : Fld := ⟨pg * 4096 + 0x0004C, 0, 32⟩
abbrev R.STN_CUR_DESC_HI (pg : Nat) : Fld := ⟨pg * 4096 + 0x00050, 0, 16⟩
abbrev R.STN_CUR_BYTES (pg : Nat) : Fld := ⟨pg * 4096 + 0x00054, 0, 32⟩
abbrev R.STN_CUR_FRAG_BYTES (pg : Nat) : Fld := ⟨pg * 4096 + 0x00058, 0, 32⟩
abbrev R.STN_READS_OUT (pg : Nat) : Fld := ⟨pg * 4096 + 0x0005C, 0, 6⟩
abbrev R.STN_READS_STALE (pg : Nat) : Fld := ⟨pg * 4096 + 0x0005C, 8, 6⟩
abbrev R.STN_BYTES_OUT (pg : Nat) : Fld := ⟨pg * 4096 + 0x00060, 0, 32⟩
abbrev R.STN_FRAG_CNT (pg : Nat) : Fld := ⟨pg * 4096 + 0x00064, 0, 32⟩
abbrev R.STN_DESC_CNT (pg : Nat) : Fld := ⟨pg * 4096 + 0x00068, 0, 32⟩
abbrev R.STN_NOTIFY_CNT (pg : Nat) : Fld := ⟨pg * 4096 + 0x0006C, 0, 32⟩
abbrev R.STN_RESTART_CNT (pg : Nat) : Fld := ⟨pg * 4096 + 0x00070, 0, 32⟩
abbrev R.LANE_TX_CFG_SWING (xb : Nat) : Fld := ⟨xb + 0x00040, 0, 4⟩
abbrev R.LANE_TX_CFG_DEEMPH (xb : Nat) : Fld := ⟨xb + 0x00040, 4, 4⟩
abbrev R.LANE_TX_CFG_SLEW (xb : Nat) : Fld := ⟨xb + 0x00040, 8, 2⟩
abbrev R.LANE_TX_CFG_INV (xb : Nat) : Fld := ⟨xb + 0x00040, 12, 1⟩
abbrev R.LANE_RX_CFG_EQ (xb : Nat) : Fld := ⟨xb + 0x00044, 0, 4⟩
abbrev R.LANE_RX_CFG_INV (xb : Nat) : Fld := ⟨xb + 0x00044, 12, 1⟩
abbrev R.LANE_FEATHER_EN (xb : Nat) : Fld := ⟨xb + 0x00048, 0, 1⟩
abbrev R.LANE_FEATHER_IDLE_CR (xb : Nat) : Fld := ⟨xb + 0x00048, 8, 8⟩
abbrev R.LANE_LOOP_MODE (xb : Nat) : Fld := ⟨xb + 0x0004C, 0, 2⟩
abbrev R.LANE_TEST_EN (xb : Nat) : Fld := ⟨xb + 0x00050, 0, 1⟩
abbrev R.LANE_TEST_TX_PAT (xb : Nat) : Fld := ⟨xb + 0x00050, 1, 2⟩
abbrev R.LANE_TEST_TX_INV (xb : Nat) : Fld := ⟨xb + 0x00050, 3, 1⟩
abbrev R.LANE_TEST_CHK_PAT (xb : Nat) : Fld := ⟨xb + 0x00050, 4, 2⟩
abbrev R.LANE_TEST_CHK_INV (xb : Nat) : Fld := ⟨xb + 0x00050, 6, 1⟩
abbrev R.LANE_TEST_CHK_SRC (xb : Nat) : Fld := ⟨xb + 0x00050, 7, 1⟩
abbrev R.LANE_STATUS_RX_STATE (xb : Nat) : Fld := ⟨xb + 0x00054, 0, 2⟩
abbrev R.LANE_STATUS_CHK_LOCK (xb : Nat) : Fld := ⟨xb + 0x00054, 2, 1⟩
abbrev R.LANE_STATUS_IDLE_OUT (xb : Nat) : Fld := ⟨xb + 0x00054, 3, 1⟩
abbrev R.LANE_STATUS_ES_DONE (xb : Nat) : Fld := ⟨xb + 0x00054, 4, 1⟩
abbrev R.LANE_STATUS_ES_ABORT (xb : Nat) : Fld := ⟨xb + 0x00054, 5, 1⟩
abbrev R.LANE_STATUS_TEST_HELD (xb : Nat) : Fld := ⟨xb + 0x00054, 6, 1⟩
abbrev R.LANE_ES_CTL_H (xb : Nat) : Fld := ⟨xb + 0x00058, 0, 7⟩
abbrev R.LANE_ES_CTL_V (xb : Nat) : Fld := ⟨xb + 0x00058, 8, 7⟩
abbrev R.LANE_ES_CTL_N (xb : Nat) : Fld := ⟨xb + 0x00058, 16, 4⟩
abbrev R.LANE_ES_GO (xb : Nat) : Fld := ⟨xb + 0x0005C, 0, 1⟩
abbrev R.LANE_ES_ERR (xb : Nat) : Fld := ⟨xb + 0x00060, 0, 32⟩
abbrev R.LANE_CODE_ERR_CNT (xb : Nat) : Fld := ⟨xb + 0x00064, 0, 32⟩
abbrev R.LANE_LOOP_ERR_CNT (xb : Nat) : Fld := ⟨xb + 0x00068, 0, 32⟩
abbrev R.LANE_PRBS_ERR_CNT (xb : Nat) : Fld := ⟨xb + 0x0006C, 0, 32⟩
abbrev R.LANE_PRBS_BITS_LO (xb : Nat) : Fld := ⟨xb + 0x00070, 0, 32⟩
abbrev R.LANE_PRBS_BITS_HI (xb : Nat) : Fld := ⟨xb + 0x00074, 0, 32⟩
abbrev R.LANE_ALIGN_LOSS_CNT (xb : Nat) : Fld := ⟨xb + 0x00078, 0, 32⟩
abbrev R.LANE_FEATHER_CNT (xb : Nat) : Fld := ⟨xb + 0x0007C, 0, 32⟩
abbrev R.LANE_SIG_TX (xb : Nat) : Fld := ⟨xb + 0x00080, 0, 32⟩
abbrev R.LANE_SIG_TX_STROKE (xb : Nat) : Fld := ⟨xb + 0x00084, 0, 20⟩
abbrev R.LANE_SIG_RX (xb : Nat) : Fld := ⟨xb + 0x00088, 0, 32⟩
abbrev R.LANE_SIG_RX_STROKE (xb : Nat) : Fld := ⟨xb + 0x0008C, 0, 20⟩
abbrev R.SLIP_CTL_REPLAY_TMO : Fld := ⟨0x70040, 0, 10⟩
abbrev R.SLIP_CTL_ACK_LAT : Fld := ⟨0x70040, 16, 4⟩
abbrev R.SLIP_CTL_REPLAY_MAX : Fld := ⟨0x70040, 24, 4⟩
abbrev R.SLIP_READ_TMO : Fld := ⟨0x70044, 0, 16⟩
abbrev R.SLIP_STNn_STATUS_STATE (n : Nat) : Fld := ⟨0x70100 + 64 * n, 0, 3⟩
abbrev R.SLIP_STNn_STATUS_TXG (n : Nat) : Fld := ⟨0x70100 + 64 * n, 4, 3⟩
abbrev R.SLIP_STNn_STATUS_RXG (n : Nat) : Fld := ⟨0x70100 + 64 * n, 8, 3⟩
abbrev R.SLIP_STNn_STATUS_PEER_RXGOOD (n : Nat) : Fld := ⟨0x70100 + 64 * n, 12, 3⟩
abbrev R.SLIP_STNn_STATUS_HOLD (n : Nat) : Fld := ⟨0x70100 + 64 * n, 16, 1⟩
abbrev R.SLIP_STNn_STATUS_REPLAY_FULL (n : Nat) : Fld := ⟨0x70100 + 64 * n, 17, 1⟩
abbrev R.SLIP_STNn_PEER_CAP_VERSION (n : Nat) : Fld := ⟨0x70104 + 64 * n, 0, 8⟩
abbrev R.SLIP_STNn_PEER_CAP_BEATS (n : Nat) : Fld := ⟨0x70104 + 64 * n, 8, 4⟩
abbrev R.SLIP_STNn_PEER_CAP_MAXPL (n : Nat) : Fld := ⟨0x70104 + 64 * n, 12, 2⟩
abbrev R.SLIP_STNn_PEER_CAP_MAX_READS (n : Nat) : Fld := ⟨0x70104 + 64 * n, 16, 6⟩
abbrev R.SLIP_STNn_PEER_CAP_STATION (n : Nat) : Fld := ⟨0x70104 + 64 * n, 24, 8⟩
abbrev R.SLIP_STNn_SEQ_TX_NEXT (n : Nat) : Fld := ⟨0x70108 + 64 * n, 0, 12⟩
abbrev R.SLIP_STNn_SEQ_TX_ACKED (n : Nat) : Fld := ⟨0x70108 + 64 * n, 16, 12⟩
abbrev R.SLIP_STNn_SEQ_RX_E (n : Nat) : Fld := ⟨0x7010C + 64 * n, 0, 12⟩
abbrev R.SLIP_STNn_PEER_ID (n : Nat) : Fld := ⟨0x7010C + 64 * n, 16, 16⟩
abbrev R.SLIP_STNn_REPLAY_PKTS (n : Nat) : Fld := ⟨0x70110 + 64 * n, 0, 12⟩
abbrev R.SLIP_STNn_REPLAY_BYTES (n : Nat) : Fld := ⟨0x70114 + 64 * n, 0, 19⟩
abbrev R.SLIP_STNn_REPLAY_CNT (n : Nat) : Fld := ⟨0x70118 + 64 * n, 0, 32⟩
abbrev R.SLIP_STNn_NAK_TX_CNT (n : Nat) : Fld := ⟨0x7011C + 64 * n, 0, 32⟩
abbrev R.SLIP_STNn_CRC_ERR_CNT (n : Nat) : Fld := ⟨0x70120 + 64 * n, 0, 32⟩
abbrev R.SLIP_STNn_REPLAY_FULL_CC (n : Nat) : Fld := ⟨0x70124 + 64 * n, 0, 32⟩
abbrev R.SLIP_STNn_HOLD_CC (n : Nat) : Fld := ⟨0x70128 + 64 * n, 0, 32⟩
abbrev R.SLIP_STNn_DEGRADE_CNT (n : Nat) : Fld := ⟨0x7012C + 64 * n, 0, 32⟩
abbrev R.SLIP_STNn_LINKDOWN_CNT (n : Nat) : Fld := ⟨0x70130 + 64 * n, 0, 32⟩
abbrev R.SLIP_STNn_READ_TMO_CNT (n : Nat) : Fld := ⟨0x70134 + 64 * n, 0, 32⟩
abbrev R.SLIP_STNn_PKT_TX_CNT (n : Nat) : Fld := ⟨0x70138 + 64 * n, 0, 32⟩
abbrev R.SLIP_STNn_PROTO_ERR_CNT (n : Nat) : Fld := ⟨0x7013C + 64 * n, 0, 32⟩
abbrev R.SAT_CTL_ACCEPT_COPY (pg : Nat) : Fld := ⟨pg * 4096 + 0x00040, 0, 1⟩
abbrev R.SAT_CR_OFS (pg : Nat) : Fld := ⟨pg * 4096 + 0x00044, 0, 8⟩
abbrev R.SAT_AGE_MAX (pg : Nat) : Fld := ⟨pg * 4096 + 0x00048, 0, 8⟩
abbrev R.SAT_RT_REF (pg : Nat) : Fld := ⟨pg * 4096 + 0x0004C, 0, 9⟩
abbrev R.SAT_STATUS_RT (pg : Nat) : Fld := ⟨pg * 4096 + 0x00050, 0, 8⟩
abbrev R.SAT_CAP_VERSION (pg : Nat) : Fld := ⟨pg * 4096 + 0x00054, 0, 8⟩
abbrev R.SAT_CAP_MODEL (pg : Nat) : Fld := ⟨pg * 4096 + 0x00054, 16, 16⟩
abbrev R.SAT_CAP_CELLS (pg : Nat) : Fld := ⟨pg * 4096 + 0x00058, 0, 15⟩
abbrev R.SAT_HIT_CNT (pg : Nat) : Fld := ⟨pg * 4096 + 0x00060, 0, 32⟩
abbrev R.SAT_LATE_CNT (pg : Nat) : Fld := ⟨pg * 4096 + 0x00064, 0, 32⟩
abbrev R.SAT_PARTIAL_CNT (pg : Nat) : Fld := ⟨pg * 4096 + 0x00068, 0, 32⟩
abbrev R.SAT_DISCARD_CNT (pg : Nat) : Fld := ⟨pg * 4096 + 0x0006C, 0, 32⟩
abbrev R.SAT_FRAME_ERR_CNT (pg : Nat) : Fld := ⟨pg * 4096 + 0x00070, 0, 32⟩
abbrev R.SAT_RESP_TMO_CNT (pg : Nat) : Fld := ⟨pg * 4096 + 0x00074, 0, 32⟩
abbrev R.SAT_GAP_CR (pg : Nat) : Fld := ⟨pg * 4096 + 0x00078, 0, 32⟩
abbrev R.SAT_RESYNC_CNT (pg : Nat) : Fld := ⟨pg * 4096 + 0x0007C, 0, 32⟩
abbrev R.SAT_GAP_FIRST_LO (pg : Nat) : Fld := ⟨pg * 4096 + 0x00080, 0, 32⟩
abbrev R.SAT_GAP_FIRST_HI (pg : Nat) : Fld := ⟨pg * 4096 + 0x00084, 0, 32⟩
abbrev R.SAT_GAP_LAST_LO (pg : Nat) : Fld := ⟨pg * 4096 + 0x00088, 0, 32⟩
abbrev R.SAT_GAP_LAST_HI (pg : Nat) : Fld := ⟨pg * 4096 + 0x0008C, 0, 32⟩
abbrev R.SHADOW_PORT_SEL : Fld := ⟨0x88040, 0, 4⟩
abbrev R.SHADOW_ADDR : Fld := ⟨0x88044, 0, 14⟩
abbrev R.SHADOW_DATA (c : Nat) : Fld := ⟨0x88048 + 1048576 * c, 0, 16⟩
abbrev R.SHADOW_DATA_MARK (c : Nat) : Fld := ⟨0x88048 + 1048576 * c, 16, 1⟩
abbrev R.SHADOW_DATA_SETTLING (c : Nat) : Fld := ⟨0x88048 + 1048576 * c, 17, 1⟩
abbrev R.SHADOW_DATA_ECC (c : Nat) : Fld := ⟨0x88048 + 1048576 * c, 18, 1⟩
abbrev R.SHADOW_FORGET : Fld := ⟨0x8804C, 0, 1⟩
abbrev R.SHADOW_SCRUB_EN : Fld := ⟨0x88050, 0, 1⟩
abbrev R.SHADOW_SCRUB_PERIOD : Fld := ⟨0x88050, 8, 8⟩
abbrev R.SHADOW_WQ_LEVEL (c : Nat) : Fld := ⟨0x88058 + 1048576 * c, 0, 7⟩
abbrev R.SHADOW_UPSET_CNT : Fld := ⟨0x8805C, 0, 32⟩
abbrev R.SHADOW_STUCK_CNT : Fld := ⟨0x88060, 0, 32⟩
abbrev R.SHADOW_WQ_FULL_CNT : Fld := ⟨0x88064, 0, 32⟩
abbrev R.SHADOW_PASS_CNT : Fld := ⟨0x88068, 0, 32⟩
abbrev R.SHADOW_LAST_UPSET_ADDR : Fld := ⟨0x8806C, 0, 14⟩
abbrev R.SHADOW_LAST_UPSET_PORT : Fld := ⟨0x8806C, 16, 4⟩
abbrev R.SHADOW_PASS_ST (c : Nat) : Fld := ⟨0x88070 + 1048576 * c, 0, 16⟩
abbrev R.SHADOW_ECC_FAIL_CNT : Fld := ⟨0x88074, 0, 32⟩
abbrev R.SATSTAT_RND_TYPES : Fld := ⟨0x89040, 0, 16⟩
abbrev R.SATSTAT_SERVO_PORTS : Fld := ⟨0x89044, 0, 16⟩
abbrev R.SATSTAT_TRIM_LSB : Fld := ⟨0x89048, 0, 4⟩
abbrev R.SATSTAT_TRIM_WIDTH : Fld := ⟨0x89048, 8, 4⟩
abbrev R.SATSTAT_TRIM_POL : Fld := ⟨0x89048, 16, 1⟩
abbrev R.SATSTAT_TRIM_BASE : Fld := ⟨0x8904C, 0, 14⟩
abbrev R.SATSTAT_SERVO_FIRST : Fld := ⟨0x89050, 0, 14⟩
abbrev R.SATSTAT_SERVO_LAST : Fld := ⟨0x89050, 16, 14⟩
abbrev R.SATSTAT_TARGET : Fld := ⟨0x89054, 0, 16⟩
abbrev R.SATSTAT_DEADBAND : Fld := ⟨0x89054, 16, 16⟩
abbrev R.SATSTAT_SERVO_N : Fld := ⟨0x89058, 0, 24⟩
abbrev R.SATSTAT_SERVO_MAX : Fld := ⟨0x8905C, 0, 7⟩
abbrev R.SATSTAT_PORT_SEL : Fld := ⟨0x89060, 0, 4⟩
abbrev R.SATSTAT_CELL_SEL : Fld := ⟨0x89064, 0, 14⟩
abbrev R.SATSTAT_OCC (c : Nat) : Fld := ⟨0x89068 + 1048576 * c, 0, 16⟩
abbrev R.SATSTAT_N_CR (c : Nat) : Fld := ⟨0x8906C + 1048576 * c, 0, 24⟩
abbrev R.SATSTAT_STEP_CNT : Fld := ⟨0x89070, 0, 32⟩
abbrev R.SATSTAT_LIMIT_CNT : Fld := ⟨0x89074, 0, 32⟩
abbrev R.SATSTAT_HELD_CNT : Fld := ⟨0x89078, 0, 32⟩
abbrev R.HK_EXCk_VSET (k : Nat) : Fld := ⟨0x90040 + 4 * k, 0, 11⟩
abbrev R.HK_EXCk_EN (k : Nat) : Fld := ⟨0x90040 + 4 * k, 16, 1⟩
abbrev R.HK_EXCk_I (k : Nat) : Fld := ⟨0x90050 + 4 * k, 0, 16⟩
abbrev R.HK_EXCk_OPEN (k : Nat) : Fld := ⟨0x90050 + 4 * k, 16, 1⟩
abbrev R.HK_EXCk_SHORT (k : Nat) : Fld := ⟨0x90050 + 4 * k, 17, 1⟩
abbrev R.HK_EXCk_OFF (k : Nat) : Fld := ⟨0x90050 + 4 * k, 18, 1⟩
abbrev R.HK_REG_TRIG_SRC : Fld := ⟨0x90060, 0, 2⟩
abbrev R.HK_REG_TRIG_SEL : Fld := ⟨0x90060, 4, 2⟩
abbrev R.HK_REG_TRIG_DELAY : Fld := ⟨0x90060, 16, 16⟩
abbrev R.HK_INJ_TRIG_SRC : Fld := ⟨0x90064, 0, 2⟩
abbrev R.HK_INJ_TRIG_SEL : Fld := ⟨0x90064, 4, 2⟩
abbrev R.HK_INJ_TRIG_DELAY : Fld := ⟨0x90064, 16, 16⟩
abbrev R.HK_REG_GO : Fld := ⟨0x90068, 0, 1⟩
abbrev R.HK_INJ_GO : Fld := ⟨0x90068, 1, 1⟩
abbrev R.HK_SELFTEST_GO : Fld := ⟨0x90068, 2, 1⟩
abbrev R.HK_REG_CTL_CONT : Fld := ⟨0x9006C, 0, 1⟩
abbrev R.HK_STATUS_REG_BUSY : Fld := ⟨0x90070, 0, 1⟩
abbrev R.HK_STATUS_INJ_BUSY : Fld := ⟨0x90070, 1, 1⟩
abbrev R.HK_STATUS_ST_BUSY : Fld := ⟨0x90070, 2, 1⟩
abbrev R.HK_STATUS_ST_PENDING : Fld := ⟨0x90070, 3, 1⟩
abbrev R.HK_STATUS_ST_PASS : Fld := ⟨0x90070, 4, 1⟩
abbrev R.HK_STATUS_AWAKE : Fld := ⟨0x90070, 5, 1⟩
abbrev R.HK_ST_RES_OFS : Fld := ⟨0x90074, 0, 16⟩
abbrev R.HK_ST_RES_GAIN : Fld := ⟨0x90074, 16, 16⟩
abbrev R.HK_LAST_REFUSE_CAUSE : Fld := ⟨0x90078, 0, 2⟩
abbrev R.HK_PTn_CTL_EN (n : Nat) : Fld := ⟨0x90080 + 16 * n, 0, 1⟩
abbrev R.HK_PTn_PERIOD (n : Nat) : Fld := ⟨0x90084 + 16 * n, 0, 24⟩
abbrev R.HK_PTn_HIGH (n : Nat) : Fld := ⟨0x90088 + 16 * n, 0, 24⟩
abbrev R.HK_CONV_CNT : Fld := ⟨0x900C0, 0, 32⟩
abbrev R.HK_ABORT_CNT : Fld := ⟨0x900C4, 0, 32⟩
abbrev R.HK_REG_LOST_CNT : Fld := ⟨0x900C8, 0, 32⟩
abbrev R.HK_INJ_LOST_CNT : Fld := ⟨0x900CC, 0, 32⟩
abbrev R.HKSEQ_REG_LEN : Fld := ⟨0x91040, 0, 7⟩
abbrev R.HKSEQ_INJ_LEN : Fld := ⟨0x91040, 8, 4⟩
abbrev R.HKSEQ_REG_PASS : Fld := ⟨0x91044, 0, 8⟩
abbrev R.HKSEQ_LIMIT_MAP0 : Fld := ⟨0x91048, 0, 32⟩
abbrev R.HKSEQ_LIMIT_MAP1 : Fld := ⟨0x9104C, 0, 32⟩
abbrev R.HKSEQ_LIMIT_MAP2 : Fld := ⟨0x91050, 0, 8⟩
abbrev R.HKSEQ_ENT_INP (e : Nat) : Fld := ⟨0x91000 + e, 0, 7⟩
abbrev R.HKSEQ_ENT_INN (e : Nat) : Fld := ⟨0x91000 + e, 8, 7⟩
abbrev R.HKSEQ_ENT_GAIN (e : Nat) : Fld := ⟨0x91000 + e, 16, 3⟩
abbrev R.HKSEQ_ENT_REF (e : Nat) : Fld := ⟨0x91000 + e, 20, 1⟩
abbrev R.HKSEQ_ENT_EXS (e : Nat) : Fld := ⟨0x91000 + e, 21, 2⟩
abbrev R.HKSEQ_ENT_OVS (e : Nat) : Fld := ⟨0x91000 + e, 24, 3⟩
abbrev R.HKSEQ_ENT_SLOT (e : Nat) : Fld := ⟨0x91000 + e, 28, 4⟩
abbrev R.HKSEQ_ENT_SETTLE (e : Nat) : Fld := ⟨0x91004 + e, 0, 10⟩
abbrev R.HKSEQ_ENT_LIM_HI (e : Nat) : Fld := ⟨0x91008 + e, 0, 32⟩
abbrev R.HKSEQ_ENT_LIM_LO (e : Nat) : Fld := ⟨0x9100C + e, 0, 32⟩
abbrev R.HKSEQ_RESr_STAT (r : Nat) : Fld := ⟨0x91580 + 8 * r, 0, 32⟩
abbrev R.HKSEQ_RESr_VAL (r : Nat) : Fld := ⟨0x91584 + 8 * r, 0, 32⟩
abbrev R.HKCURVE_SLOTs_CURVE (s : Nat) : Fld := ⟨0x92100 + 32 * s, 0, 4⟩
abbrev R.HKCURVE_SLOTs_Pp (s p : Nat) : Fld := ⟨0x92104 + 32 * s + 4 * p, 0, 32⟩
abbrev R.HKCURVE_RANGE_CNT : Fld := ⟨0x92040, 0, 32⟩
abbrev R.RING_STATUS_POS : Fld := ⟨0x98040, 0, 8⟩
abbrev R.RING_STATUS_POS_VALID : Fld := ⟨0x98040, 8, 1⟩
abbrev R.RING_STATUS_RING : Fld := ⟨0x98040, 16, 8⟩
abbrev R.RING_STATUS_NUMBERED : Fld := ⟨0x98040, 24, 1⟩
abbrev R.RING_STATUS_BYPASS_OPEN : Fld := ⟨0x98040, 25, 1⟩
abbrev R.RING_STATUS_TAINTED : Fld := ⟨0x98040, 26, 1⟩
abbrev R.RING_LAST_WALK_COUNT : Fld := ⟨0x98044, 0, 9⟩
abbrev R.RING_LAST_WALK_TAINT : Fld := ⟨0x98044, 16, 1⟩
abbrev R.RING_LAST_WALK_ASSIGN : Fld := ⟨0x98044, 17, 1⟩
abbrev R.RING_BUF_LEVEL_NOW : Fld := ⟨0x98048, 0, 6⟩
abbrev R.RING_BUF_LEVEL_HIGH : Fld := ⟨0x98048, 16, 6⟩
abbrev R.RING_FRAMING_ERR_CNT : Fld := ⟨0x9804C, 0, 32⟩
abbrev R.RING_CRC_ERR_CNT : Fld := ⟨0x98050, 0, 32⟩
abbrev R.RING_ABORT_CNT : Fld := ⟨0x98054, 0, 32⟩
abbrev R.RING_OVF_CNT : Fld := ⟨0x98058, 0, 32⟩
abbrev R.RING_PROTO_ERR_CNT : Fld := ⟨0x9805C, 0, 32⟩
abbrev R.RING_BYPASS_CNT : Fld := ⟨0x98060, 0, 32⟩
abbrev R.RING_PERFORMED_CNT : Fld := ⟨0x98064, 0, 32⟩
abbrev R.RING_INSERT_CNT : Fld := ⟨0x98068, 0, 32⟩
abbrev R.RING_DELETE_CNT : Fld := ⟨0x9806C, 0, 32⟩
abbrev R.RING_WALK_CNT : Fld := ⟨0x98070, 0, 32⟩
abbrev R.TCUx_DIGEST (pg : Nat) : Fld := ⟨pg * 4096 + 0x00040, 0, 32⟩
abbrev R.TCUx_SELFCHECK_CNT (pg : Nat) : Fld := ⟨pg * 4096 + 0x00044, 0, 32⟩
abbrev R.TCUx_MEMTEST_PASS_CNT (pg : Nat) : Fld := ⟨pg * 4096 + 0x00048, 0, 32⟩
abbrev R.TCUx_MEMTEST_POS (pg : Nat) : Fld := ⟨pg * 4096 + 0x0004C, 0, 16⟩
abbrev R.TCUx_RETEST (pg : Nat) : Fld := ⟨pg * 4096 + 0x00050, 0, 1⟩
abbrev R.TCUx_UNFIT_CAUSE (pg : Nat) : Fld := ⟨pg * 4096 + 0x00054, 0, 2⟩
abbrev R.COX_CLAIM_A : Fld := ⟨0x04040, 0, 8⟩
abbrev R.COX_CLAIM_B : Fld := ⟨0x04044, 0, 8⟩
abbrev R.COX_SWAP : Fld := ⟨0x04048, 0, 1⟩
abbrev R.COX_STATUS_ACTIVE : Fld := ⟨0x0404C, 0, 1⟩
abbrev R.COX_STATUS_EFF_A : Fld := ⟨0x0404C, 8, 8⟩
abbrev R.COX_STATUS_EFF_B : Fld := ⟨0x0404C, 16, 8⟩
abbrev R.COX_STATUS_PENDING : Fld := ⟨0x0404C, 24, 1⟩
abbrev R.COX_LAST_DECISION_KIND : Fld := ⟨0x04050, 0, 3⟩
abbrev R.COX_LAST_DECISION_CN_LO : Fld := ⟨0x04050, 16, 16⟩
abbrev R.COX_LAST_REFUSE_CAUSE : Fld := ⟨0x04054, 0, 2⟩
abbrev R.COX_MISMATCH_CNT : Fld := ⟨0x04060, 0, 32⟩
abbrev R.COX_SWAP_CNT : Fld := ⟨0x04064, 0, 32⟩
abbrev R.COX_UNDECIDED_CNT : Fld := ⟨0x04068, 0, 32⟩
abbrev R.COX_TIE_CNT : Fld := ⟨0x0406C, 0, 32⟩
abbrev R.COX_VOTE_CNT : Fld := ⟨0x04070, 0, 32⟩
abbrev R.COX_RESEED_CNT : Fld := ⟨0x04074, 0, 32⟩
abbrev R.HEALTH_STATUS_NO_MIRROR : Fld := ⟨0x06040, 0, 1⟩
abbrev R.HEALTH_STATUS_DEGRADED : Fld := ⟨0x06040, 1, 1⟩
abbrev R.HEALTH_STATUS_GUARANTEE : Fld := ⟨0x06040, 2, 1⟩
abbrev R.HEALTH_STATUS_SUPPLY_OK : Fld := ⟨0x06040, 8, 1⟩
abbrev R.HEALTH_STATUS_TEMP_OK : Fld := ⟨0x06040, 9, 1⟩
abbrev R.HEALTH_STATUS_MIRROR_FIT : Fld := ⟨0x06040, 10, 1⟩
abbrev R.HEALTH_STATUS_SPARES_OK : Fld := ⟨0x06040, 11, 1⟩
abbrev R.HEALTH_STATUS_EASY_KEPT : Fld := ⟨0x06040, 12, 1⟩
abbrev R.HEALTH_SUPPLY_LOW : Fld := ⟨0x06044, 0, 6⟩
abbrev R.HEALTH_SUPPLY_HIGH : Fld := ⟨0x06044, 8, 6⟩
abbrev R.HEALTH_TEMP_HOT : Fld := ⟨0x06048, 0, 4⟩
abbrev R.HEALTH_EXPOSED_FIRST_LO : Fld := ⟨0x06050, 0, 32⟩
abbrev R.HEALTH_EXPOSED_FIRST_HI : Fld := ⟨0x06054, 0, 32⟩
abbrev R.HEALTH_EXPOSED_LAST_LO : Fld := ⟨0x06058, 0, 32⟩
abbrev R.HEALTH_EXPOSED_LAST_HI : Fld := ⟨0x0605C, 0, 32⟩
abbrev R.HEALTH_SCRUB_PASS_ST : Fld := ⟨0x06060, 0, 16⟩
abbrev R.HEALTH_SCRUB_SBE_CNT : Fld := ⟨0x06064, 0, 32⟩
abbrev R.HEALTH_SCRUB_DBE_CNT : Fld := ⟨0x06068, 0, 32⟩
abbrev R.HEALTH_LAST_DBE_MEM : Fld := ⟨0x0606C, 0, 8⟩
abbrev R.HEALTH_LAST_DBE_CN_LO : Fld := ⟨0x0606C, 16, 16⟩
abbrev R.HEALTH_FAULT_CNTc (c : Nat) : Fld := ⟨0x06080 + 4 * c, 0, 32⟩
abbrev R.HEALTH_ATTN_MAPk (k : Nat) : Fld := ⟨0x060C0 + 4 * k, 0, 32⟩
abbrev R.ID_RESET_CAUSE_POR : Fld := ⟨0x00058, 0, 1⟩
abbrev R.ID_RESET_CAUSE_SUPPLY : Fld := ⟨0x00058, 1, 1⟩
abbrev R.ID_RESET_CAUSE_PIN : Fld := ⟨0x00058, 2, 1⟩
abbrev R.ID_RESET_CAUSE_RING : Fld := ⟨0x00058, 3, 1⟩
abbrev R.ID_IO_CFG_PWM_SLEW : Fld := ⟨0x0005C, 0, 2⟩
abbrev R.ID_IO_CFG_TDO_SLEW : Fld := ⟨0x0005C, 2, 2⟩

/-! The events (R7, R37). -/
abbrev E.KEY_KEY_FAULT : Ev := ⟨0x01, 4⟩
abbrev E.KEY_LOCKED_WRITE : Ev := ⟨0x01, 5⟩
abbrev E.CLK_SWITCH_REFUSED : Ev := ⟨0x08, 4⟩
abbrev E.CLK_SOURCE_LOST : Ev := ⟨0x08, 5⟩
abbrev E.CLK_COAST_ENTER : Ev := ⟨0x08, 6⟩
abbrev E.CLK_RELOCKED : Ev := ⟨0x08, 7⟩
abbrev E.CLK_READY_CHANGE : Ev := ⟨0x08, 8⟩
abbrev E.CLK_FALLBACK_TAKEN : Ev := ⟨0x08, 9⟩
abbrev E.CLK_BAND_REFUSED : Ev := ⟨0x08, 10⟩
abbrev E.CLK_XO_FAULT : Ev := ⟨0x08, 11⟩
abbrev E.TIME_STEP : Ev := ⟨0x0C, 4⟩
abbrev E.TIME_RESYNC : Ev := ⟨0x0C, 5⟩
abbrev E.TIME_ORBIT_MISMATCH : Ev := ⟨0x0C, 6⟩
abbrev E.TIME_SETTLED : Ev := ⟨0x0C, 7⟩
abbrev E.TIME_CMP_LATE : Ev := ⟨0x0C, 8⟩
abbrev E.TIME_REFUSED : Ev := ⟨0x0C, 9⟩
abbrev E.SYNC_EXCHANGE_DONE : Ev := ⟨0x0D, 4⟩
abbrev E.SYNC_RESP_TIMEOUT : Ev := ⟨0x0D, 5⟩
abbrev E.SYNC_CN_MISMATCH : Ev := ⟨0x0D, 6⟩
abbrev E.SYNC_MOOR_QUIET : Ev := ⟨0x0D, 7⟩
abbrev E.SYNC_MOOR_RESYNC : Ev := ⟨0x0D, 8⟩
abbrev E.SYNC_ALIGN_CHANGE : Ev := ⟨0x0D, 9⟩
abbrev E.SYNC_EXCH_WRAP : Ev := ⟨0x0D, 10⟩
abbrev E.PACEx_LINK_UP (pg : Nat) : Ev := ⟨pg, 4⟩
abbrev E.PACEx_LINK_DOWN (pg : Nat) : Ev := ⟨pg, 5⟩
abbrev E.PACEA_DATA_SWITCH : Ev := ⟨0x0E, 6⟩
abbrev E.PACEA_SWITCH_REFUSED : Ev := ⟨0x0E, 7⟩
abbrev E.PACEA_TRIG_PARITY : Ev := ⟨0x0E, 8⟩
abbrev E.PACEA_TRIG_BLIND : Ev := ⟨0x0E, 9⟩
abbrev E.PACEx_FRAME_ERR (pg : Nat) : Ev := ⟨pg, 10⟩
abbrev E.PACEx_CMD_ERR (pg : Nat) : Ev := ⟨pg, 11⟩
abbrev E.PACEA_CMD_REFUSED : Ev := ⟨0x0E, 12⟩
abbrev E.PACEA_EASY_BREACH : Ev := ⟨0x0E, 13⟩
abbrev E.PACEA_ACCEPT_WRAP : Ev := ⟨0x0E, 14⟩
abbrev E.PACEA_HOLD_END : Ev := ⟨0x0E, 15⟩
abbrev E.BANK_TRIM_ADDR_ERR (pg : Nat) : Ev := ⟨pg, 4⟩
abbrev E.BANK_TRIM_CLAMPED (pg : Nat) : Ev := ⟨pg, 5⟩
abbrev E.BANK_HK_TAP_BLOCKED (pg : Nat) : Ev := ⟨pg, 6⟩
abbrev E.BANK_TRIM_DONE (pg : Nat) : Ev := ⟨pg, 7⟩
abbrev E.BANK_RANGE_REFUSED (pg : Nat) : Ev := ⟨pg, 8⟩
abbrev E.CAL_PU_DONE : Ev := ⟨0x07, 4⟩
abbrev E.CAL_SUSPECT : Ev := ⟨0x07, 5⟩
abbrev E.CAL_BAD : Ev := ⟨0x07, 6⟩
abbrev E.CAL_DEAD : Ev := ⟨0x07, 7⟩
abbrev E.CAL_CMP_FAIL : Ev := ⟨0x07, 8⟩
abbrev E.CAL_STUCK : Ev := ⟨0x07, 9⟩
abbrev E.CAL_NOW_DONE : Ev := ⟨0x07, 10⟩
abbrev E.CAL_NOW_REFUSED : Ev := ⟨0x07, 11⟩
abbrev E.CAL_SELFTEST_FAIL : Ev := ⟨0x07, 12⟩
abbrev E.CAL_ROT_STOPPED : Ev := ⟨0x07, 13⟩
abbrev E.PRISM_LEDGER_REFUSED : Ev := ⟨0x28, 4⟩
abbrev E.PRISM_SET_REFUSED : Ev := ⟨0x28, 5⟩
abbrev E.PRISM_FADE_WAIT : Ev := ⟨0x28, 6⟩
abbrev E.PRISM_FADE_REFUSED : Ev := ⟨0x28, 7⟩
abbrev E.PRISM_FADE_START : Ev := ⟨0x28, 8⟩
abbrev E.PRISM_FADE_DONE : Ev := ⟨0x28, 9⟩
abbrev E.PRISM_SEL_ERR : Ev := ⟨0x28, 10⟩
abbrev E.PRISM_FADE_WRAP : Ev := ⟨0x28, 11⟩
abbrev E.PCOEF_COMMITTED : Ev := ⟨0x29, 4⟩
abbrev E.PCOEF_RELEASED : Ev := ⟨0x29, 5⟩
abbrev E.PCOEF_REFUSED : Ev := ⟨0x29, 6⟩
abbrev E.PCOEF_WRITE_LOCKED : Ev := ⟨0x29, 7⟩
abbrev E.PCOEF_ECC_FAIL : Ev := ⟨0x29, 8⟩
abbrev E.RSMP_REFUSED : Ev := ⟨0x2A, 4⟩
abbrev E.RSMP_SERVO_LIMIT : Ev := ⟨0x2A, 5⟩
abbrev E.RSMP_SERVO_HELD : Ev := ⟨0x2A, 6⟩
abbrev E.RSMP_RATIO_APPLIED : Ev := ⟨0x2A, 7⟩
abbrev E.RSMP_SEL_ERR : Ev := ⟨0x2A, 8⟩
abbrev E.RSMP_LOG_HIGH : Ev := ⟨0x2A, 9⟩
abbrev E.RSMP_STEP_WRAP : Ev := ⟨0x2A, 10⟩
abbrev E.RSMP_RECORD_WRAP : Ev := ⟨0x2A, 11⟩
abbrev E.TPRIM_REFUSED : Ev := ⟨0x2C, 4⟩
abbrev E.TPRIM_SAT : Ev := ⟨0x2C, 5⟩
abbrev E.TPRIM_ALIGN_FILL : Ev := ⟨0x2C, 6⟩
abbrev E.TPRIM_ALIGN_DROP : Ev := ⟨0x2C, 7⟩
abbrev E.TPRIM_SEL_ERR : Ev := ⟨0x2C, 8⟩
abbrev E.TPRIM_FRAME_WRAP : Ev := ⟨0x2C, 9⟩
abbrev E.ACQ_OVERRUN : Ev := ⟨0x30, 4⟩
abbrev E.ACQ_REFUSED : Ev := ⟨0x30, 5⟩
abbrev E.ACQ_REACH_FAIL : Ev := ⟨0x30, 6⟩
abbrev E.ACQ_QUEUE_FULL : Ev := ⟨0x30, 7⟩
abbrev E.ACQ_AUTO_FIRED : Ev := ⟨0x30, 8⟩
abbrev E.ACQ_RATE_OVER : Ev := ⟨0x30, 9⟩
abbrev E.ACQ_ECC_VOID : Ev := ⟨0x30, 10⟩
abbrev E.ACQ_PRESCALE_UP : Ev := ⟨0x30, 11⟩
abbrev E.ACQ_ENQ_WRAP : Ev := ⟨0x30, 12⟩
abbrev E.START_DOUBLE : Ev := ⟨0x31, 4⟩
abbrev E.START_REFUSED : Ev := ⟨0x31, 5⟩
abbrev E.START_EDGE_WRAP : Ev := ⟨0x31, 6⟩
abbrev E.SELF_TRIG : Ev := ⟨0x32, 4⟩
abbrev E.SELF_COINC_BLOCKED : Ev := ⟨0x32, 5⟩
abbrev E.SELF_SEL_ERR : Ev := ⟨0x32, 6⟩
abbrev E.SELF_REFUSED : Ev := ⟨0x32, 7⟩
abbrev E.SELF_TRIG_WRAP : Ev := ⟨0x32, 8⟩
abbrev E.NEIGH_RECAL_DONE : Ev := ⟨0x33, 4⟩
abbrev E.NEIGH_LINK_DOWN : Ev := ⟨0x33, 5⟩
abbrev E.NEIGH_RANGE : Ev := ⟨0x33, 6⟩
abbrev E.NEIGH_PARITY : Ev := ⟨0x33, 7⟩
abbrev E.NEIGH_ALIGN_ERR : Ev := ⟨0x33, 8⟩
abbrev E.FRAG_DISCARD : Ev := ⟨0x38, 4⟩
abbrev E.FRAG_REFUSED : Ev := ⟨0x38, 5⟩
abbrev E.FRAG_SAT_TRUNC : Ev := ⟨0x38, 6⟩
abbrev E.FRAG_VOID_SENT : Ev := ⟨0x38, 7⟩
abbrev E.FRAG_SHED : Ev := ⟨0x38, 8⟩
abbrev E.FRAG_SEL_ERR : Ev := ⟨0x38, 9⟩
abbrev E.FRAG_FRAG_WRAP : Ev := ⟨0x38, 10⟩
abbrev E.FRAG_SHED_WRAP : Ev := ⟨0x38, 11⟩
abbrev E.FRAG_REC_WRAP : Ev := ⟨0x38, 12⟩
abbrev E.LENS_ECC_FAIL : Ev := ⟨0x39, 4⟩
abbrev E.LENS_STALL : Ev := ⟨0x39, 5⟩
abbrev E.LENS_BLOCK_WRAP : Ev := ⟨0x39, 6⟩
abbrev E.LENS_IN_WRAP : Ev := ⟨0x39, 7⟩
abbrev E.LENS_OUT_WRAP : Ev := ⟨0x39, 8⟩
abbrev E.DERAND_EASY_ON : Ev := ⟨0x4A, 4⟩
abbrev E.DERAND_EASY_OFF : Ev := ⟨0x4A, 5⟩
abbrev E.DERAND_PRIORITY : Ev := ⟨0x4A, 6⟩
abbrev E.DERAND_SHED_ON : Ev := ⟨0x4A, 7⟩
abbrev E.DERAND_STRANDED : Ev := ⟨0x4A, 8⟩
abbrev E.DERAND_ECC_FAIL : Ev := ⟨0x4A, 9⟩
abbrev E.CREW_DESC_ERR : Ev := ⟨0x40, 4⟩
abbrev E.CREW_LIST_END : Ev := ⟨0x40, 5⟩
abbrev E.CREW_QUIESCED : Ev := ⟨0x40, 6⟩
abbrev E.CREW_REFUSED : Ev := ⟨0x40, 7⟩
abbrev E.CREW_TRUNC : Ev := ⟨0x40, 8⟩
abbrev E.CREW_CREDIT_OVF : Ev := ⟨0x40, 9⟩
abbrev E.CREW_FETCH_WRAP : Ev := ⟨0x40, 10⟩
abbrev E.SEATS_SEAT_SPILL : Ev := ⟨0x41, 4⟩
abbrev E.SEATS_SEAT_WAIT : Ev := ⟨0x41, 5⟩
abbrev E.STN_PAUSED (pg : Nat) : Ev := ⟨pg, 4⟩
abbrev E.STN_RESTART (pg : Nat) : Ev := ⟨pg, 5⟩
abbrev E.STN_REFUSED (pg : Nat) : Ev := ⟨pg, 6⟩
abbrev E.STN_BYTES_WRAP (pg : Nat) : Ev := ⟨pg, 7⟩
abbrev E.STN_FRAG_WRAP (pg : Nat) : Ev := ⟨pg, 8⟩
abbrev E.STN_DESC_WRAP (pg : Nat) : Ev := ⟨pg, 9⟩
abbrev E.LANE_RX_ALIGNED (pg : Nat) : Ev := ⟨pg, 4⟩
abbrev E.LANE_RX_LOST (pg : Nat) : Ev := ⟨pg, 5⟩
abbrev E.LANE_LOOP_ERR (pg : Nat) : Ev := ⟨pg, 6⟩
abbrev E.LANE_CHK_LOCK (pg : Nat) : Ev := ⟨pg, 7⟩
abbrev E.LANE_CHK_LOST (pg : Nat) : Ev := ⟨pg, 8⟩
abbrev E.LANE_TX_PHASE_ERR (pg : Nat) : Ev := ⟨pg, 9⟩
abbrev E.LANE_TEST_HELD (pg : Nat) : Ev := ⟨pg, 10⟩
abbrev E.LANE_ES_DONE (pg : Nat) : Ev := ⟨pg, 11⟩
abbrev E.LANE_FEATHER_WRAP (pg : Nat) : Ev := ⟨pg, 12⟩
abbrev E.SLIP_LINK_UP : Ev := ⟨0x70, 4⟩
abbrev E.SLIP_LINK_DOWN : Ev := ⟨0x70, 5⟩
abbrev E.SLIP_DEGRADE : Ev := ⟨0x70, 6⟩
abbrev E.SLIP_RESTORE : Ev := ⟨0x70, 7⟩
abbrev E.SLIP_REPLAY : Ev := ⟨0x70, 8⟩
abbrev E.SLIP_REPLAY_FULL : Ev := ⟨0x70, 9⟩
abbrev E.SLIP_CAP_MISMATCH : Ev := ⟨0x70, 10⟩
abbrev E.SLIP_READ_TMO : Ev := ⟨0x70, 11⟩
abbrev E.SLIP_PROTO_ERR : Ev := ⟨0x70, 12⟩
abbrev E.SLIP_PKT_WRAP : Ev := ⟨0x70, 13⟩
abbrev E.SAT_LINK_UP (pg : Nat) : Ev := ⟨pg, 4⟩
abbrev E.SAT_LINK_DOWN (pg : Nat) : Ev := ⟨pg, 5⟩
abbrev E.SAT_RUN (pg : Nat) : Ev := ⟨pg, 6⟩
abbrev E.SAT_RT_CHANGE (pg : Nat) : Ev := ⟨pg, 7⟩
abbrev E.SAT_PARTIAL (pg : Nat) : Ev := ⟨pg, 8⟩
abbrev E.SAT_LATE (pg : Nat) : Ev := ⟨pg, 9⟩
abbrev E.SAT_FRAME_ERR (pg : Nat) : Ev := ⟨pg, 10⟩
abbrev E.SAT_RESP_TMO (pg : Nat) : Ev := ⟨pg, 11⟩
abbrev E.SAT_HIT_WRAP (pg : Nat) : Ev := ⟨pg, 12⟩
abbrev E.SHADOW_WQ_FULL : Ev := ⟨0x88, 4⟩
abbrev E.SHADOW_UPSET : Ev := ⟨0x88, 5⟩
abbrev E.SHADOW_STUCK : Ev := ⟨0x88, 6⟩
abbrev E.SHADOW_PASS_DONE : Ev := ⟨0x88, 7⟩
abbrev E.SHADOW_ECC_FAIL : Ev := ⟨0x88, 8⟩
abbrev E.SHADOW_PASS_WRAP : Ev := ⟨0x88, 9⟩
abbrev E.SATSTAT_STEP : Ev := ⟨0x89, 4⟩
abbrev E.SATSTAT_LIMIT : Ev := ⟨0x89, 5⟩
abbrev E.SATSTAT_HELD : Ev := ⟨0x89, 6⟩
abbrev E.SATSTAT_STEP_WRAP : Ev := ⟨0x89, 7⟩
abbrev E.SATSTAT_REFUSED : Ev := ⟨0x89, 8⟩
abbrev E.HK_EXC_OPEN : Ev := ⟨0x90, 4⟩
abbrev E.HK_EXC_SHORT : Ev := ⟨0x90, 5⟩
abbrev E.HK_SELFTEST_DONE : Ev := ⟨0x90, 6⟩
abbrev E.HK_SELFTEST_FAIL : Ev := ⟨0x90, 7⟩
abbrev E.HK_TRIG_LOST : Ev := ⟨0x90, 8⟩
abbrev E.HK_ABORT : Ev := ⟨0x90, 9⟩
abbrev E.HK_CONV_WRAP : Ev := ⟨0x90, 10⟩
abbrev E.HK_REFUSED : Ev := ⟨0x90, 11⟩
abbrev E.HKSEQ_REG_DONE : Ev := ⟨0x91, 4⟩
abbrev E.HKSEQ_INJ_DONE : Ev := ⟨0x91, 5⟩
abbrev E.HKSEQ_LIMIT : Ev := ⟨0x91, 6⟩
abbrev E.HKSEQ_REFUSED : Ev := ⟨0x91, 7⟩
abbrev E.HKCURVE_RANGE : Ev := ⟨0x92, 4⟩
abbrev E.HKCURVE_CFG : Ev := ⟨0x92, 5⟩
abbrev E.HKCURVE_REFUSED : Ev := ⟨0x92, 6⟩
abbrev E.RING_FRAMING_ERR : Ev := ⟨0x98, 4⟩
abbrev E.RING_CRC_ERR : Ev := ⟨0x98, 5⟩
abbrev E.RING_ABORT : Ev := ⟨0x98, 6⟩
abbrev E.RING_OVF : Ev := ⟨0x98, 7⟩
abbrev E.RING_WALK : Ev := ⟨0x98, 8⟩
abbrev E.RING_NUMBERED : Ev := ⟨0x98, 9⟩
abbrev E.RING_BYPASS : Ev := ⟨0x98, 10⟩
abbrev E.RING_PERF_WRAP : Ev := ⟨0x98, 11⟩
abbrev E.RING_INSERT_WRAP : Ev := ⟨0x98, 12⟩
abbrev E.RING_DELETE_WRAP : Ev := ⟨0x98, 13⟩
abbrev E.RING_WALK_WRAP : Ev := ⟨0x98, 14⟩
abbrev E.TCUx_UNFIT (pg : Nat) : Ev := ⟨pg, 4⟩
abbrev E.TCUx_SELFTEST_DONE (pg : Nat) : Ev := ⟨pg, 5⟩
abbrev E.TCUx_MEMTEST_WRAP (pg : Nat) : Ev := ⟨pg, 6⟩
abbrev E.COX_MISMATCH : Ev := ⟨0x04, 4⟩
abbrev E.COX_SWAP : Ev := ⟨0x04, 5⟩
abbrev E.COX_UNDECIDED : Ev := ⟨0x04, 6⟩
abbrev E.COX_CLAIM_TIE : Ev := ⟨0x04, 7⟩
abbrev E.COX_REFUSED : Ev := ⟨0x04, 8⟩
abbrev E.COX_VOTE : Ev := ⟨0x04, 9⟩
abbrev E.HEALTH_FAULT : Ev := ⟨0x06, 4⟩
abbrev E.HEALTH_SUPPLY : Ev := ⟨0x06, 5⟩
abbrev E.HEALTH_TEMP : Ev := ⟨0x06, 6⟩
abbrev E.HEALTH_COND_LOST : Ev := ⟨0x06, 7⟩
abbrev E.HEALTH_EXPOSED : Ev := ⟨0x06, 8⟩
abbrev E.HEALTH_SCRUB_DBE : Ev := ⟨0x06, 9⟩

end Sys2Proof.Machine
end

