-- ==== Sys2Proof/Machine/RegMap.lean ====
section
/-! DEFINITION. The register map (R34, R37, R450, R451 and the register tables of every chapter): for each
kind of page, the fields of its body with their access codes and their reset values. -/

namespace Sys2Proof.Machine

/-- Body fields of the ID page: base, stride, count, low bit, width, access, reset, reset step. -/
def Map.ID : List FieldSpec := [
  ⟨0x040, 4, 1, 0, 16, .ro, 0xC768, 0⟩,
  ⟨0x044, 4, 1, 0, 16, .rwK, 0x0, 0⟩,
  ⟨0x048, 4, 1, 0, 1, .ro, 0x0, 0⟩,
  ⟨0x04C, 4, 1, 0, 1, .wo, 0x0, 0⟩,
  ⟨0x050, 4, 1, 0, 16, .ro, 0x0, 0⟩,
  ⟨0x054, 4, 1, 0, 32, .ctS, 0x0, 0⟩,
  ⟨0x060, 4, 8, 0, 32, .rwI, 0x0, 0⟩,
  ⟨0x058, 4, 1, 0, 1, .ro, 0x0, 0⟩,
  ⟨0x058, 4, 1, 1, 1, .ro, 0x0, 0⟩,
  ⟨0x058, 4, 1, 2, 1, .ro, 0x0, 0⟩,
  ⟨0x058, 4, 1, 3, 1, .ro, 0x0, 0⟩,
  ⟨0x05C, 4, 1, 0, 2, .rwB, 0x2, 0⟩,
  ⟨0x05C, 4, 1, 2, 2, .rwB, 0x1, 0⟩]

/-- Body fields of the KEY page: base, stride, count, low bit, width, access, reset, reset step. -/
def Map.KEY : List FieldSpec := [
  ⟨0x040, 4, 1, 0, 32, .wo, 0x0, 0⟩,
  ⟨0x044, 4, 1, 0, 1, .ro, 0x0, 0⟩,
  ⟨0x044, 4, 1, 1, 1, .ro, 0x0, 0⟩,
  ⟨0x048, 4, 1, 0, 32, .ctS, 0x0, 0⟩,
  ⟨0x04C, 4, 1, 0, 32, .ctS, 0x0, 0⟩]

/-- Body fields of the TCUx page: base, stride, count, low bit, width, access, reset, reset step. -/
def Map.TCUx : List FieldSpec := [
  ⟨0x040, 4, 1, 0, 32, .ro, 0x0, 0⟩,
  ⟨0x044, 4, 1, 0, 32, .ctS, 0x0, 0⟩,
  ⟨0x048, 4, 1, 0, 32, .ctW, 0x0, 0⟩,
  ⟨0x04C, 4, 1, 0, 16, .ro, 0x0, 0⟩,
  ⟨0x050, 4, 1, 0, 1, .rwK, 0x0, 0⟩,
  ⟨0x054, 4, 1, 0, 2, .ro, 0x0, 0⟩]

/-- Body fields of the COX page: base, stride, count, low bit, width, access, reset, reset step. -/
def Map.COX : List FieldSpec := [
  ⟨0x040, 4, 1, 0, 8, .rwK, 0x80, 0⟩,
  ⟨0x044, 4, 1, 0, 8, .rwK, 0x40, 0⟩,
  ⟨0x048, 4, 1, 0, 1, .rwK, 0x0, 0⟩,
  ⟨0x04C, 4, 1, 0, 1, .ro, 0x0, 0⟩,
  ⟨0x04C, 4, 1, 8, 8, .ro, 0x80, 0⟩,
  ⟨0x04C, 4, 1, 16, 8, .ro, 0x40, 0⟩,
  ⟨0x04C, 4, 1, 24, 1, .ro, 0x0, 0⟩,
  ⟨0x050, 4, 1, 0, 3, .ro, 0x0, 0⟩,
  ⟨0x050, 4, 1, 16, 16, .ro, 0x0, 0⟩,
  ⟨0x054, 4, 1, 0, 2, .ro, 0x0, 0⟩,
  ⟨0x060, 4, 1, 0, 32, .ctS, 0x0, 0⟩,
  ⟨0x064, 4, 1, 0, 32, .ctS, 0x0, 0⟩,
  ⟨0x068, 4, 1, 0, 32, .ctS, 0x0, 0⟩,
  ⟨0x06C, 4, 1, 0, 32, .ctS, 0x0, 0⟩,
  ⟨0x070, 4, 1, 0, 32, .ctS, 0x0, 0⟩,
  ⟨0x074, 4, 1, 0, 32, .ctS, 0x0, 0⟩]

/-- Body fields of the EVM page: base, stride, count, low bit, width, access, reset, reset step. -/
def Map.EVM : List FieldSpec := [
  ⟨0x040, 4, 1, 0, 32, .ctS, 0x0, 0⟩,
  ⟨0x100, 4, 64, 0, 7, .rwB, 0x0, 0⟩,
  ⟨0x100, 4, 64, 7, 1, .rwB, 0x0, 0⟩,
  ⟨0x100, 4, 64, 8, 7, .rwB, 0x0, 0⟩,
  ⟨0x100, 4, 64, 15, 1, .rwB, 0x0, 0⟩,
  ⟨0x100, 4, 64, 16, 7, .rwB, 0x0, 0⟩,
  ⟨0x100, 4, 64, 23, 1, .rwB, 0x0, 0⟩,
  ⟨0x100, 4, 64, 24, 7, .rwB, 0x0, 0⟩,
  ⟨0x100, 4, 64, 31, 1, .rwB, 0x0, 0⟩]

/-- Body fields of the HEALTH page: base, stride, count, low bit, width, access, reset, reset step. -/
def Map.HEALTH : List FieldSpec := [
  ⟨0x040, 4, 1, 0, 1, .ro, 0x0, 0⟩,
  ⟨0x040, 4, 1, 1, 1, .ro, 0x0, 0⟩,
  ⟨0x040, 4, 1, 2, 1, .ro, 0x0, 0⟩,
  ⟨0x040, 4, 1, 8, 1, .ro, 0x0, 0⟩,
  ⟨0x040, 4, 1, 9, 1, .ro, 0x0, 0⟩,
  ⟨0x040, 4, 1, 10, 1, .ro, 0x0, 0⟩,
  ⟨0x040, 4, 1, 11, 1, .ro, 0x0, 0⟩,
  ⟨0x040, 4, 1, 12, 1, .ro, 0x0, 0⟩,
  ⟨0x044, 4, 1, 0, 6, .ro, 0x0, 0⟩,
  ⟨0x044, 4, 1, 8, 6, .ro, 0x0, 0⟩,
  ⟨0x048, 4, 1, 0, 4, .ro, 0x0, 0⟩,
  ⟨0x050, 4, 1, 0, 32, .ro, 0x0, 0⟩,
  ⟨0x054, 4, 1, 0, 32, .ro, 0x0, 0⟩,
  ⟨0x058, 4, 1, 0, 32, .ro, 0x0, 0⟩,
  ⟨0x05C, 4, 1, 0, 32, .ro, 0x0, 0⟩,
  ⟨0x060, 4, 1, 0, 16, .ro, 0x0, 0⟩,
  ⟨0x064, 4, 1, 0, 32, .ctS, 0x0, 0⟩,
  ⟨0x068, 4, 1, 0, 32, .ctS, 0x0, 0⟩,
  ⟨0x06C, 4, 1, 0, 8, .ro, 0x0, 0⟩,
  ⟨0x06C, 4, 1, 16, 16, .ro, 0x0, 0⟩,
  ⟨0x084, 4, 13, 0, 32, .ctS, 0x0, 0⟩,
  ⟨0x0C0, 4, 8, 0, 32, .ro, 0x0, 0⟩]

/-- Body fields of the CAL page, part 1. -/
def Map.CAL1 : List FieldSpec := [
  ⟨0x040, 4, 1, 0, 24, .rwB, 0xFFFFFF, 0⟩,
  ⟨0x044, 4, 1, 0, 8, .rwB, 0x8, 0⟩,
  ⟨0x044, 4, 1, 8, 8, .rwB, 0xC, 0⟩,
  ⟨0x048, 4, 1, 0, 10, .wo, 0x0, 0⟩,
  ⟨0x048, 4, 1, 15, 1, .wo, 0x0, 0⟩,
  ⟨0x04C, 4, 1, 0, 10, .ro, 0x0, 0⟩,
  ⟨0x04C, 4, 1, 16, 1, .ro, 0x0, 0⟩,
  ⟨0x050, 4, 1, 0, 5, .ro, 0x0, 0⟩,
  ⟨0x050, 4, 1, 8, 6, .ro, 0x0, 0⟩,
  ⟨0x054, 4, 1, 0, 32, .ro, 0x0, 0⟩,
  ⟨0x058, 4, 1, 0, 32, .ro, 0x0, 0⟩,
  ⟨0x060, 4, 1, 0, 32, .ctS, 0x0, 0⟩,
  ⟨0x064, 4, 1, 0, 32, .ctS, 0x0, 0⟩,
  ⟨0x068, 4, 1, 0, 32, .ctS, 0x0, 0⟩,
  ⟨0x06C, 4, 1, 0, 32, .ctS, 0x0, 0⟩,
  ⟨0x070, 4, 1, 0, 32, .ctS, 0x0, 0⟩,
  ⟨0x074, 4, 1, 0, 32, .ctS, 0x0, 0⟩,
  ⟨0x100, 4, 24, 0, 4, .ro, 0x8, 0⟩,
  ⟨0x100, 4, 24, 4, 5, .ro, 0x0, 0⟩,
  ⟨0x100, 4, 24, 16, 1, .ro, 0x0, 0⟩,
  ⟨0x100, 4, 24, 17, 1, .ro, 0x0, 0⟩,
  ⟨0x100, 4, 24, 18, 1, .ro, 0x0, 0⟩,
  ⟨0x100, 4, 24, 19, 3, .ro, 0x0, 0⟩,
  ⟨0x180, 4, 24, 0, 32, .ro, 0xFFFFFFFF, 0⟩,
  ⟨0x200, 4, 24, 0, 32, .ro, 0xFFFFFFFF, 0⟩]

/-- Body fields of the CAL page, part 2. -/
def Map.CAL2 : List FieldSpec := [
  ⟨0x280, 4, 24, 0, 2, .ro, 0x3, 0⟩,
  ⟨0x300, 4, 24, 0, 32, .ro, 0x0, 0⟩]

/-- Body fields of the CAL page: base, stride, count, low bit, width, access, reset, reset step. -/
def Map.CAL : List FieldSpec := Map.CAL1 ++ Map.CAL2

/-- Body fields of the CLK page: base, stride, count, low bit, width, access, reset, reset step. -/
def Map.CLK : List FieldSpec := [
  ⟨0x040, 4, 1, 0, 2, .rwB, 0x3, 0⟩,
  ⟨0x044, 4, 1, 0, 2, .rwB, 0x0, 0⟩,
  ⟨0x044, 4, 1, 2, 1, .rwB, 0x0, 0⟩,
  ⟨0x044, 4, 1, 4, 2, .rwB, 0x0, 0⟩,
  ⟨0x044, 4, 1, 6, 1, .rwB, 0x0, 0⟩,
  ⟨0x044, 4, 1, 8, 2, .rwB, 0x0, 0⟩,
  ⟨0x044, 4, 1, 10, 1, .rwB, 0x0, 0⟩,
  ⟨0x048, 4, 1, 0, 16, .rwB, 0x7530, 0⟩,
  ⟨0x04C, 4, 1, 0, 16, .rwB, 0xC350, 0⟩,
  ⟨0x050, 4, 1, 0, 24, .rwB, 0x35C28F, 0⟩,
  ⟨0x054, 4, 1, 0, 2, .ro, 0x3, 0⟩,
  ⟨0x054, 4, 1, 2, 1, .ro, 0x0, 0⟩,
  ⟨0x054, 4, 1, 3, 1, .ro, 0x0, 0⟩,
  ⟨0x054, 4, 1, 8, 1, .ro, 0x0, 0⟩,
  ⟨0x054, 4, 1, 9, 1, .ro, 0x0, 0⟩,
  ⟨0x054, 4, 1, 10, 1, .ro, 0x0, 0⟩,
  ⟨0x054, 4, 1, 11, 1, .ro, 0x0, 0⟩,
  ⟨0x058, 4, 1, 0, 1, .rwK, 0x1, 0⟩,
  ⟨0x05C, 4, 1, 0, 16, .ro, 0x0, 0⟩,
  ⟨0x060, 4, 4, 0, 24, .ro, 0x0, 0⟩,
  ⟨0x060, 4, 4, 31, 1, .ro, 0x0, 0⟩,
  ⟨0x070, 4, 1, 0, 3, .ro, 0x0, 0⟩,
  ⟨0x074, 4, 1, 0, 32, .ctS, 0x0, 0⟩,
  ⟨0x078, 4, 1, 0, 32, .ctS, 0x0, 0⟩,
  ⟨0x07C, 4, 1, 0, 32, .ctS, 0x0, 0⟩]

/-- Body fields of the TIME page, part 1. -/
def Map.TIME1 : List FieldSpec := [
  ⟨0x040, 4, 1, 0, 32, .ro, 0x0, 0⟩,
  ⟨0x044, 4, 1, 0, 32, .ro, 0x0, 0⟩,
  ⟨0x048, 4, 1, 0, 32, .ro, 0x0, 0⟩,
  ⟨0x04C, 4, 1, 0, 16, .ro, 0x0, 0⟩,
  ⟨0x050, 4, 1, 0, 30, .ro, 0x0, 0⟩,
  ⟨0x054, 4, 1, 0, 16, .ro, 0x0, 0⟩,
  ⟨0x058, 4, 1, 0, 32, .ro, 0x0, 0⟩,
  ⟨0x05C, 4, 1, 0, 12, .ro, 0x0, 0⟩,
  ⟨0x060, 4, 1, 0, 32, .ro, 0x0, 0⟩,
  ⟨0x064, 4, 1, 0, 12, .rwB, 0x690, 0⟩,
  ⟨0x068, 4, 1, 0, 32, .rwB, 0xCF3CF3CF, 0⟩,
  ⟨0x06C, 4, 1, 0, 8, .rwB, 0x17, 0⟩,
  ⟨0x070, 4, 1, 0, 32, .ro, 0x0, 0⟩,
  ⟨0x074, 4, 1, 0, 32, .ctS, 0x0, 0⟩,
  ⟨0x078, 4, 1, 0, 32, .ctS, 0x0, 0⟩,
  ⟨0x07C, 4, 1, 0, 32, .ro, 0x0, 0⟩,
  ⟨0x080, 4, 1, 0, 1, .ro, 0x0, 0⟩,
  ⟨0x080, 4, 1, 1, 1, .ro, 0x0, 0⟩,
  ⟨0x080, 4, 1, 2, 1, .ro, 0x0, 0⟩,
  ⟨0x080, 4, 1, 3, 1, .ro, 0x0, 0⟩,
  ⟨0x100, 16, 8, 0, 1, .rwI, 0x0, 0⟩,
  ⟨0x100, 16, 8, 1, 1, .rwI, 0x0, 0⟩,
  ⟨0x100, 16, 8, 2, 1, .rwI, 0x0, 0⟩,
  ⟨0x104, 16, 8, 0, 32, .rwI, 0x0, 0⟩,
  ⟨0x108, 16, 8, 0, 32, .rwI, 0x0, 0⟩]

/-- Body fields of the TIME page, part 2. -/
def Map.TIME2 : List FieldSpec := [
  ⟨0x10C, 16, 8, 0, 32, .rwI, 0x0, 0⟩,
  ⟨0x180, 32, 8, 0, 7, .rwB, 0x0, 0⟩,
  ⟨0x180, 32, 8, 7, 1, .rwB, 0x0, 0⟩,
  ⟨0x180, 32, 8, 8, 1, .wo, 0x0, 0⟩,
  ⟨0x180, 32, 8, 16, 1, .ro, 0x0, 0⟩,
  ⟨0x184, 32, 8, 0, 32, .ro, 0x0, 0⟩,
  ⟨0x188, 32, 8, 0, 32, .ro, 0x0, 0⟩,
  ⟨0x18C, 32, 8, 0, 32, .ro, 0x0, 0⟩,
  ⟨0x190, 32, 8, 0, 16, .ro, 0x0, 0⟩,
  ⟨0x194, 32, 8, 0, 30, .ro, 0x0, 0⟩,
  ⟨0x198, 32, 8, 0, 16, .ro, 0x0, 0⟩,
  ⟨0x19C, 32, 8, 0, 32, .ctS, 0x0, 0⟩]

/-- Body fields of the TIME page: base, stride, count, low bit, width, access, reset, reset step. -/
def Map.TIME : List FieldSpec := Map.TIME1 ++ Map.TIME2

/-- Body fields of the SYNC page: base, stride, count, low bit, width, access, reset, reset step. -/
def Map.SYNC : List FieldSpec := [
  ⟨0x040, 4, 1, 0, 1, .rwB, 0x1, 0⟩,
  ⟨0x040, 4, 1, 1, 1, .rwB, 0x0, 0⟩,
  ⟨0x040, 4, 1, 2, 1, .rwB, 0x1, 0⟩,
  ⟨0x040, 4, 1, 8, 8, .rwB, 0x10, 0⟩,
  ⟨0x044, 4, 1, 0, 32, .rwB, 0x3E80000, 0⟩,
  ⟨0x048, 4, 1, 0, 32, .rwB, 0x4000, 0⟩,
  ⟨0x04C, 4, 1, 0, 12, .rwB, 0x1, 0⟩,
  ⟨0x050, 4, 1, 0, 11, .rwB, 0x200, 0⟩,
  ⟨0x054, 4, 1, 0, 16, .rwB, 0xAE14, 0⟩,
  ⟨0x058, 4, 1, 0, 16, .rwB, 0x0, 0⟩,
  ⟨0x05C, 4, 1, 0, 32, .rwB, 0x0, 0⟩,
  ⟨0x060, 4, 6, 0, 32, .rwB, 0x0, 0⟩,
  ⟨0x080, 4, 1, 0, 32, .ro, 0x0, 0⟩,
  ⟨0x084, 4, 1, 0, 32, .ro, 0x0, 0⟩,
  ⟨0x088, 4, 1, 0, 12, .ro, 0x0, 0⟩,
  ⟨0x088, 4, 1, 16, 6, .ro, 0x0, 0⟩,
  ⟨0x0A0, 4, 6, 0, 24, .ro, 0x0, 0⟩,
  ⟨0x0C0, 4, 1, 0, 32, .ctW, 0x0, 0⟩,
  ⟨0x0C4, 4, 1, 0, 32, .ctS, 0x0, 0⟩,
  ⟨0x0C8, 4, 1, 0, 32, .ctS, 0x0, 0⟩]

/-- Body fields of the PACEx page: base, stride, count, low bit, width, access, reset, reset step. -/
def Map.PACEx : List FieldSpec := [
  ⟨0x040, 4, 1, 0, 1, .rwB, 0x0, 0⟩,
  ⟨0x040, 4, 1, 1, 1, .rwB, 0x0, 0⟩,
  ⟨0x040, 4, 1, 2, 1, .rwB, 0x1, 0⟩,
  ⟨0x040, 4, 1, 3, 1, .rwB, 0x0, 0⟩,
  ⟨0x044, 4, 1, 0, 1, .ro, 0x0, 0⟩,
  ⟨0x044, 4, 1, 1, 1, .ro, 0x0, 0⟩,
  ⟨0x044, 4, 1, 8, 8, .ro, 0x0, 0⟩,
  ⟨0x048, 4, 1, 0, 12, .ro, 0x0, 0⟩,
  ⟨0x048, 4, 1, 16, 4, .ro, 0x0, 0⟩,
  ⟨0x048, 4, 1, 20, 1, .ro, 0x0, 0⟩,
  ⟨0x04C, 4, 1, 0, 32, .ctS, 0x0, 0⟩,
  ⟨0x050, 4, 1, 0, 32, .ctS, 0x0, 0⟩,
  ⟨0x054, 4, 1, 0, 32, .ctS, 0x0, 0⟩,
  ⟨0x058, 4, 1, 0, 32, .ctS, 0x0, 0⟩,
  ⟨0x05C, 4, 1, 0, 32, .ctS, 0x0, 0⟩,
  ⟨0x060, 4, 1, 0, 32, .ctS, 0x0, 0⟩]

/-- Body fields of the PACEA page: base, stride, count, low bit, width, access, reset, reset step. -/
def Map.PACEA : List FieldSpec := [
  ⟨0x080, 4, 1, 0, 1, .ro, 0x0, 0⟩,
  ⟨0x084, 4, 1, 0, 32, .ctS, 0x0, 0⟩,
  ⟨0x088, 4, 1, 0, 32, .ctS, 0x0, 0⟩,
  ⟨0x08C, 4, 1, 0, 32, .ro, 0x0, 0⟩,
  ⟨0x090, 4, 1, 0, 32, .ro, 0x0, 0⟩,
  ⟨0x094, 4, 1, 0, 32, .ro, 0x0, 0⟩,
  ⟨0x098, 4, 1, 0, 32, .ro, 0x0, 0⟩,
  ⟨0x09C, 4, 1, 0, 32, .ctS, 0x0, 0⟩,
  ⟨0x0A0, 4, 1, 0, 32, .ctS, 0x0, 0⟩,
  ⟨0x0A4, 4, 1, 0, 32, .ctS, 0x0, 0⟩,
  ⟨0x0A8, 4, 1, 0, 32, .ctS, 0x0, 0⟩,
  ⟨0x0AC, 4, 1, 0, 32, .ctW, 0x0, 0⟩,
  ⟨0x0B0, 4, 1, 0, 4, .ro, 0x0, 0⟩,
  ⟨0x0B0, 4, 1, 4, 4, .ro, 0x0, 0⟩,
  ⟨0x0B0, 4, 1, 16, 16, .ro, 0x0, 0⟩,
  ⟨0x0B4, 4, 1, 0, 1, .ro, 0x0, 0⟩,
  ⟨0x0B4, 4, 1, 1, 1, .ro, 0x0, 0⟩]

/-- Body fields of the BANK page: base, stride, count, low bit, width, access, reset, reset step. -/
def Map.BANK : List FieldSpec := [
  ⟨0x040, 4, 32, 0, 1, .rwB, 0x1, 0⟩,
  ⟨0x040, 4, 32, 1, 1, .rwB, 0x0, 0⟩,
  ⟨0x040, 4, 32, 2, 2, .rwB, 0x0, 0⟩,
  ⟨0x040, 4, 32, 4, 1, .rwB, 0x1, 0⟩,
  ⟨0x0C0, 4, 33, 0, 6, .rwB, 0x20, 0⟩,
  ⟨0x0C0, 4, 33, 8, 6, .ro, 0x20, 0⟩,
  ⟨0x0C0, 4, 33, 16, 1, .rwB, 0x0, 0⟩,
  ⟨0x0C0, 4, 33, 17, 1, .ro, 0x0, 0⟩,
  ⟨0x0C0, 4, 33, 18, 1, .ro, 0x0, 0⟩,
  ⟨0x150, 4, 1, 0, 6, .rwI, 0x0, 0⟩,
  ⟨0x150, 4, 1, 8, 6, .rwI, 0x0, 0⟩,
  ⟨0x154, 4, 1, 0, 10, .rwB, 0x0, 0⟩,
  ⟨0x158, 4, 1, 0, 10, .ro, 0x0, 0⟩,
  ⟨0x158, 4, 1, 16, 10, .ro, 0x0, 0⟩,
  ⟨0x15C, 4, 1, 0, 10, .ro, 0x0, 0⟩,
  ⟨0x160, 4, 1, 0, 12, .rwB, 0x800, 0⟩,
  ⟨0x164, 4, 1, 0, 1, .rwB, 0x0, 0⟩,
  ⟨0x164, 4, 1, 1, 1, .rwB, 0x0, 0⟩,
  ⟨0x168, 4, 1, 0, 12, .ro, 0x800, 0⟩,
  ⟨0x168, 4, 1, 16, 1, .ro, 0x0, 0⟩,
  ⟨0x168, 4, 1, 17, 1, .ro, 0x0, 0⟩,
  ⟨0x168, 4, 1, 18, 1, .ro, 0x0, 0⟩,
  ⟨0x200, 4, 32, 0, 32, .ctS, 0x0, 0⟩]

/-- Body fields of the PRISM page: base, stride, count, low bit, width, access, reset, reset step. -/
def Map.PRISM : List FieldSpec := [
  ⟨0x040, 4, 1, 0, 10, .rwI, 0x0, 0⟩,
  ⟨0x044, 4, 1, 0, 1, .rwB, 0x0, 0⟩,
  ⟨0x044, 4, 1, 1, 2, .rwB, 0x0, 0⟩,
  ⟨0x044, 4, 1, 3, 6, .rwB, 0x0, 0⟩,
  ⟨0x044, 4, 1, 16, 16, .rwB, 0x8000, 0⟩,
  ⟨0x048, 4, 1, 0, 18, .rwB, 0x0, 0⟩,
  ⟨0x04C, 4, 1, 0, 1, .ro, 0x0, 0⟩,
  ⟨0x04C, 4, 1, 1, 1, .ro, 0x0, 0⟩,
  ⟨0x04C, 4, 1, 2, 6, .ro, 0x0, 0⟩,
  ⟨0x04C, 4, 1, 8, 12, .ro, 0x0, 0⟩,
  ⟨0x050, 4, 1, 0, 10, .rwB, 0x0, 0⟩,
  ⟨0x050, 4, 1, 10, 6, .rwB, 0x0, 0⟩,
  ⟨0x050, 4, 1, 16, 3, .rwB, 0x0, 0⟩,
  ⟨0x054, 4, 1, 0, 8, .rwB, 0x10, 0⟩,
  ⟨0x058, 4, 1, 0, 4, .ro, 0x0, 0⟩,
  ⟨0x058, 4, 1, 4, 5, .ro, 0x0, 0⟩,
  ⟨0x058, 4, 1, 16, 10, .ro, 0x0, 0⟩,
  ⟨0x060, 4, 1, 0, 32, .ctS, 0x0, 0⟩,
  ⟨0x064, 4, 1, 0, 32, .ctS, 0x0, 0⟩,
  ⟨0x068, 4, 1, 0, 32, .ctS, 0x0, 0⟩,
  ⟨0x06C, 4, 1, 0, 32, .ctW, 0x0, 0⟩,
  ⟨0x070, 4, 1, 0, 32, .ctS, 0x0, 0⟩,
  ⟨0x100, 4, 24, 0, 13, .ro, 0x0, 0⟩,
  ⟨0x100, 4, 24, 16, 4, .ro, 0x0, 0⟩,
  ⟨0x100, 4, 24, 20, 6, .ro, 0x0, 0⟩]

/-- Body fields of the PCOEF page: base, stride, count, low bit, width, access, reset, reset step. -/
def Map.PCOEF : List FieldSpec := [
  ⟨0x040, 4, 1, 0, 6, .rwI, 0x0, 0⟩,
  ⟨0x044, 4, 1, 0, 8, .rwI, 0x0, 0⟩,
  ⟨0x048, 4, 1, 0, 18, .rwI, 0x0, 0⟩,
  ⟨0x04C, 4, 1, 0, 6, .rwB, 0x0, 0⟩,
  ⟨0x04C, 4, 1, 8, 9, .rwB, 0x0, 0⟩,
  ⟨0x04C, 4, 1, 31, 1, .rwB, 0x0, 0⟩,
  ⟨0x050, 4, 1, 0, 2, .ro, 0x0, 0⟩,
  ⟨0x050, 4, 1, 8, 9, .ro, 0x0, 0⟩,
  ⟨0x050, 4, 1, 24, 1, .ro, 0x0, 0⟩,
  ⟨0x054, 4, 1, 0, 26, .ro, 0x0, 0⟩,
  ⟨0x058, 4, 1, 0, 32, .ro, 0x0, 0⟩,
  ⟨0x05C, 4, 1, 0, 32, .ro, 0x0, 0⟩,
  ⟨0x060, 4, 1, 0, 32, .ro, 0x0, 0⟩,
  ⟨0x064, 4, 1, 0, 32, .ro, 0x0, 0⟩,
  ⟨0x068, 4, 1, 0, 3, .ro, 0x0, 0⟩,
  ⟨0x068, 4, 1, 8, 6, .ro, 0x0, 0⟩,
  ⟨0x070, 4, 1, 0, 32, .ctS, 0x0, 0⟩,
  ⟨0x074, 4, 1, 0, 32, .ctS, 0x0, 0⟩]

/-- Body fields of the RSMP page: base, stride, count, low bit, width, access, reset, reset step. -/
def Map.RSMP : List FieldSpec := [
  ⟨0x040, 4, 1, 0, 10, .rwI, 0x0, 0⟩,
  ⟨0x044, 4, 1, 0, 16, .rwB, 0x0, 0⟩,
  ⟨0x048, 4, 1, 0, 1, .rwB, 0x0, 0⟩,
  ⟨0x04C, 4, 1, 0, 16, .ro, 0x0, 0⟩,
  ⟨0x04C, 4, 1, 16, 16, .ro, 0x0, 0⟩,
  ⟨0x050, 4, 1, 0, 24, .rwB, 0x0, 0⟩,
  ⟨0x054, 4, 1, 0, 32, .ro, 0x0, 0⟩,
  ⟨0x058, 4, 1, 0, 2, .ro, 0x1, 0⟩,
  ⟨0x05C, 4, 1, 0, 16, .rwB, 0x0, 0⟩,
  ⟨0x060, 4, 1, 0, 4, .rwB, 0x1, 0⟩,
  ⟨0x060, 4, 1, 8, 8, .rwB, 0x10, 0⟩,
  ⟨0x060, 4, 1, 16, 16, .rwB, 0x100, 0⟩,
  ⟨0x064, 4, 1, 0, 20, .rwB, 0x4000, 0⟩,
  ⟨0x068, 4, 1, 0, 12, .rwB, 0x100, 0⟩,
  ⟨0x06C, 4, 1, 0, 16, .rwB, 0x0, 0⟩,
  ⟨0x070, 4, 1, 0, 13, .ro, 0x0, 0⟩,
  ⟨0x074, 4, 1, 0, 4, .ro, 0x0, 0⟩,
  ⟨0x078, 4, 1, 0, 32, .ctW, 0x0, 0⟩,
  ⟨0x07C, 4, 1, 0, 32, .ctS, 0x0, 0⟩,
  ⟨0x080, 4, 1, 0, 32, .ctS, 0x0, 0⟩,
  ⟨0x084, 4, 1, 0, 32, .ctS, 0x0, 0⟩,
  ⟨0x088, 4, 1, 0, 32, .ctW, 0x0, 0⟩,
  ⟨0x090, 4, 1, 0, 9, .rwI, 0x0, 0⟩,
  ⟨0x094, 4, 1, 0, 16, .ro, 0x0, 0⟩]

/-- Body fields of the TPRIM page: base, stride, count, low bit, width, access, reset, reset step. -/
def Map.TPRIM : List FieldSpec := [
  ⟨0x040, 4, 1, 0, 2, .rwB, 0x2, 0⟩,
  ⟨0x040, 4, 1, 2, 1, .rwB, 0x0, 0⟩,
  ⟨0x040, 4, 1, 4, 3, .rwB, 0x0, 0⟩,
  ⟨0x040, 4, 1, 8, 1, .rwB, 0x1, 0⟩,
  ⟨0x040, 4, 1, 9, 2, .rwB, 0x0, 0⟩,
  ⟨0x044, 4, 1, 0, 6, .rwB, 0x0, 0⟩,
  ⟨0x048, 4, 1, 0, 15, .rwB, 0x40, 0⟩,
  ⟨0x04C, 4, 1, 0, 10, .rwI, 0x0, 0⟩,
  ⟨0x054, 4, 1, 0, 1, .rwB, 0x1, 0⟩,
  ⟨0x054, 4, 1, 1, 1, .rwB, 0x0, 0⟩,
  ⟨0x054, 4, 1, 2, 2, .rwB, 0x0, 0⟩,
  ⟨0x058, 4, 1, 0, 18, .rwB, 0x0, 0⟩,
  ⟨0x05C, 4, 1, 0, 2, .ro, 0x0, 0⟩,
  ⟨0x060, 4, 1, 0, 32, .ctW, 0x0, 0⟩,
  ⟨0x064, 4, 1, 0, 32, .ctS, 0x0, 0⟩,
  ⟨0x068, 4, 1, 0, 32, .ctS, 0x0, 0⟩,
  ⟨0x06C, 4, 1, 0, 32, .ctS, 0x0, 0⟩,
  ⟨0x070, 4, 1, 0, 32, .ctS, 0x0, 0⟩,
  ⟨0x080, 4, 1, 0, 12, .rwB, 0x400, 0⟩,
  ⟨0x084, 4, 15, 0, 12, .rwB, 0x0, 0⟩,
  ⟨0x080, 4, 16, 16, 12, .rwB, 0x0, 0⟩]

/-- Body fields of the ACQ page: base, stride, count, low bit, width, access, reset, reset step. -/
def Map.ACQ : List FieldSpec := [
  ⟨0x040, 4, 1, 0, 12, .rwB, 0x64, 0⟩,
  ⟨0x044, 4, 1, 0, 2, .rwB, 0x0, 0⟩,
  ⟨0x048, 4, 1, 0, 16, .rwB, 0x0, 0⟩,
  ⟨0x048, 4, 1, 16, 4, .rwB, 0xF, 0⟩,
  ⟨0x04C, 4, 1, 0, 9, .rwB, 0x60, 0⟩,
  ⟨0x050, 4, 1, 0, 3, .rwB, 0x4, 0⟩,
  ⟨0x054, 4, 1, 0, 9, .ro, 0x0, 0⟩,
  ⟨0x054, 4, 1, 16, 9, .ro, 0x0, 0⟩,
  ⟨0x058, 4, 1, 0, 1, .ro, 0x0, 0⟩,
  ⟨0x058, 4, 1, 1, 1, .ro, 0x0, 0⟩,
  ⟨0x058, 4, 1, 2, 3, .ro, 0x0, 0⟩,
  ⟨0x058, 4, 1, 5, 1, .ro, 0x0, 0⟩,
  ⟨0x05C, 4, 1, 0, 2, .ro, 0x0, 0⟩,
  ⟨0x05C, 4, 1, 8, 4, .ro, 0x0, 0⟩,
  ⟨0x060, 4, 1, 0, 32, .ctW, 0x0, 0⟩,
  ⟨0x064, 4, 1, 0, 32, .ctS, 0x0, 0⟩,
  ⟨0x068, 4, 1, 0, 32, .ctS, 0x0, 0⟩,
  ⟨0x06C, 4, 1, 0, 32, .ctS, 0x0, 0⟩,
  ⟨0x070, 4, 1, 0, 32, .ctS, 0x0, 0⟩,
  ⟨0x074, 4, 1, 0, 32, .ctS, 0x0, 0⟩,
  ⟨0x078, 4, 1, 0, 32, .ctS, 0x0, 0⟩,
  ⟨0x07C, 4, 1, 0, 32, .ctS, 0x0, 0⟩,
  ⟨0x100, 4, 16, 0, 6, .rwB, 0x8, 0⟩,
  ⟨0x100, 4, 16, 16, 16, .rwB, 0x0, 0⟩]

/-- Body fields of the START page: base, stride, count, low bit, width, access, reset, reset step. -/
def Map.START : List FieldSpec := [
  ⟨0x040, 16, 4, 0, 1, .rwB, 0x0, 0⟩,
  ⟨0x040, 16, 4, 1, 1, .rwB, 0x0, 0⟩,
  ⟨0x040, 16, 4, 2, 1, .rwB, 0x0, 0⟩,
  ⟨0x040, 16, 4, 4, 4, .rwB, 0x0, 0⟩,
  ⟨0x044, 16, 4, 0, 20, .rwB, 0x0, 0⟩,
  ⟨0x048, 16, 4, 0, 16, .rwB, 0x1, 0⟩,
  ⟨0x04C, 16, 4, 0, 12, .ro, 0x0, 0⟩,
  ⟨0x04C, 16, 4, 16, 16, .ro, 0x0, 0⟩,
  ⟨0x080, 4, 4, 0, 32, .ctW, 0x0, 0⟩,
  ⟨0x090, 4, 4, 0, 32, .ctS, 0x0, 0⟩]

/-- Body fields of the SELF page: base, stride, count, low bit, width, access, reset, reset step. -/
def Map.SELF : List FieldSpec := [
  ⟨0x040, 4, 1, 0, 1, .rwB, 0x0, 0⟩,
  ⟨0x040, 4, 1, 1, 1, .rwB, 0x0, 0⟩,
  ⟨0x040, 4, 1, 2, 1, .rwB, 0x0, 0⟩,
  ⟨0x040, 4, 1, 4, 2, .rwB, 0x1, 0⟩,
  ⟨0x040, 4, 1, 8, 4, .rwB, 0xE, 0⟩,
  ⟨0x040, 4, 1, 16, 16, .rwB, 0x10, 0⟩,
  ⟨0x044, 4, 1, 0, 24, .rwB, 0x0, 0⟩,
  ⟨0x048, 4, 1, 0, 10, .rwI, 0x0, 0⟩,
  ⟨0x04C, 4, 1, 0, 1, .rwB, 0x0, 0⟩,
  ⟨0x04C, 4, 1, 1, 1, .rwB, 0x0, 0⟩,
  ⟨0x050, 4, 1, 0, 17, .rwB, 0x4000, 0⟩,
  ⟨0x054, 4, 1, 0, 16, .rwB, 0x1, 0⟩,
  ⟨0x060, 4, 1, 0, 32, .ctW, 0x0, 0⟩,
  ⟨0x064, 4, 1, 0, 32, .ctS, 0x0, 0⟩,
  ⟨0x068, 4, 1, 0, 32, .ctS, 0x0, 0⟩,
  ⟨0x06C, 4, 1, 0, 32, .ctS, 0x0, 0⟩,
  ⟨0x070, 4, 1, 0, 32, .ctS, 0x0, 0⟩]

/-- Body fields of the NEIGH page: base, stride, count, low bit, width, access, reset, reset step. -/
def Map.NEIGH : List FieldSpec := [
  ⟨0x040, 16, 4, 0, 1, .rwB, 0x0, 0⟩,
  ⟨0x040, 16, 4, 1, 1, .rwB, 0x1, 0⟩,
  ⟨0x040, 16, 4, 2, 1, .rwB, 0x0, 0⟩,
  ⟨0x044, 16, 4, 0, 4, .rwB, 0x0, 0⟩,
  ⟨0x044, 16, 4, 8, 6, .rwB, 0x0, 0⟩,
  ⟨0x048, 16, 4, 0, 2, .ro, 0x0, 0⟩,
  ⟨0x048, 16, 4, 4, 1, .ro, 0x0, 0⟩,
  ⟨0x048, 16, 4, 5, 1, .ro, 0x0, 0⟩,
  ⟨0x048, 16, 4, 6, 1, .ro, 0x0, 0⟩,
  ⟨0x048, 16, 4, 8, 2, .ro, 0x0, 0⟩,
  ⟨0x04C, 16, 4, 0, 20, .ro, 0x0, 0⟩,
  ⟨0x080, 4, 4, 0, 20, .ro, 0x0, 0⟩,
  ⟨0x090, 4, 4, 0, 32, .ctS, 0x0, 0⟩,
  ⟨0x0A0, 4, 4, 0, 32, .ctS, 0x0, 0⟩]

/-- Body fields of the FRAG page, part 1. -/
def Map.FRAG1 : List FieldSpec := [
  ⟨0x040, 4, 1, 0, 10, .rwI, 0x0, 0⟩,
  ⟨0x044, 4, 1, 0, 18, .rwB, 0x0, 0⟩,
  ⟨0x048, 4, 1, 0, 4, .rwB, 0x8, 0⟩,
  ⟨0x04C, 4, 1, 0, 20, .rwB, 0x40, 0⟩,
  ⟨0x050, 4, 1, 0, 7, .rwB, 0x10, 0⟩,
  ⟨0x054, 4, 1, 0, 3, .ro, 0x0, 0⟩,
  ⟨0x060, 4, 1, 0, 32, .ctW, 0x0, 0⟩,
  ⟨0x064, 4, 1, 0, 32, .ctS, 0x0, 0⟩,
  ⟨0x068, 4, 1, 0, 32, .ctS, 0x0, 0⟩,
  ⟨0x06C, 4, 1, 0, 32, .ctS, 0x0, 0⟩,
  ⟨0x070, 4, 1, 0, 32, .ctW, 0x0, 0⟩,
  ⟨0x074, 4, 1, 0, 32, .ctW, 0x0, 0⟩,
  ⟨0x078, 4, 1, 0, 32, .ctS, 0x0, 0⟩,
  ⟨0x07C, 4, 1, 0, 32, .ctS, 0x0, 0⟩,
  ⟨0x080, 4, 24, 0, 32, .rwB, 0xFFFFFFFF, 0⟩,
  ⟨0x100, 16, 16, 0, 3, .rwB, 0x0, 0⟩,
  ⟨0x100, 16, 16, 4, 4, .rwB, 0x0, 0⟩,
  ⟨0x100, 16, 16, 8, 5, .rwB, 0x0, 0⟩,
  ⟨0x100, 16, 16, 16, 12, .rwB, 0x400, 0⟩,
  ⟨0x104, 16, 16, 0, 24, .rwB, 0xFFFFFF, 0⟩,
  ⟨0x108, 16, 16, 0, 17, .rwB, 0x40, 0⟩,
  ⟨0x10C, 16, 16, 0, 16, .rwB, 0x0, 0⟩,
  ⟨0x10C, 16, 16, 16, 5, .rwB, 0x0, 0⟩,
  ⟨0x10C, 16, 16, 24, 8, .rwB, 0x0, 0⟩,
  ⟨0x200, 4, 16, 0, 10, .rwB, 0x100, 0⟩]

/-- Body fields of the FRAG page, part 2. -/
def Map.FRAG2 : List FieldSpec := [
  ⟨0x280, 4, 8, 0, 18, .rwB, 0x10000, 0⟩,
  ⟨0x2A0, 4, 8, 0, 18, .rwB, 0x0, 1024⟩,
  ⟨0x2C0, 4, 8, 0, 18, .rwB, 0x4000, 0⟩]

/-- Body fields of the FRAG page: base, stride, count, low bit, width, access, reset, reset step. -/
def Map.FRAG : List FieldSpec := Map.FRAG1 ++ Map.FRAG2

/-- Body fields of the LENS page: base, stride, count, low bit, width, access, reset, reset step. -/
def Map.LENS : List FieldSpec := [
  ⟨0x040, 4, 1, 0, 1, .wo, 0x0, 0⟩,
  ⟨0x044, 4, 1, 0, 7, .ro, 0x0, 0⟩,
  ⟨0x044, 4, 1, 16, 7, .ro, 0x0, 0⟩,
  ⟨0x060, 4, 1, 0, 32, .ctW, 0x0, 0⟩,
  ⟨0x064, 4, 1, 0, 32, .ctW, 0x0, 0⟩,
  ⟨0x068, 4, 1, 0, 32, .ctW, 0x0, 0⟩,
  ⟨0x06C, 4, 1, 0, 32, .ctS, 0x0, 0⟩,
  ⟨0x070, 4, 1, 0, 32, .ctS, 0x0, 0⟩,
  ⟨0x074, 4, 1, 0, 32, .ctS, 0x0, 0⟩,
  ⟨0x078, 4, 1, 0, 32, .ctS, 0x0, 0⟩,
  ⟨0x07C, 4, 1, 0, 32, .ctS, 0x0, 0⟩,
  ⟨0x100, 4, 16, 0, 1, .rwB, 0x0, 0⟩,
  ⟨0x100, 4, 16, 1, 1, .rwB, 0x0, 0⟩]

/-- Body fields of the CREW page: base, stride, count, low bit, width, access, reset, reset step. -/
def Map.CREW : List FieldSpec := [
  ⟨0x040, 4, 1, 0, 12, .rwI, 0x0, 0⟩,
  ⟨0x044, 4, 8, 0, 32, .rwB, 0x0, 0⟩,
  ⟨0x064, 4, 1, 0, 12, .rwB, 0x0, 0⟩,
  ⟨0x064, 4, 1, 12, 2, .rwB, 0x0, 0⟩,
  ⟨0x068, 4, 1, 0, 12, .wo, 0x0, 0⟩,
  ⟨0x068, 4, 1, 16, 16, .wo, 0x0, 0⟩,
  ⟨0x06C, 4, 1, 0, 3, .ro, 0x0, 0⟩,
  ⟨0x06C, 4, 1, 16, 12, .ro, 0x0, 0⟩,
  ⟨0x070, 4, 1, 0, 12, .ro, 0x0, 0⟩,
  ⟨0x070, 4, 1, 16, 4, .ro, 0x0, 0⟩,
  ⟨0x080, 4, 1, 0, 32, .ctW, 0x0, 0⟩,
  ⟨0x084, 4, 1, 0, 32, .ctS, 0x0, 0⟩,
  ⟨0x088, 4, 1, 0, 32, .ctS, 0x0, 0⟩,
  ⟨0x08C, 4, 1, 0, 32, .ctS, 0x0, 0⟩,
  ⟨0x090, 4, 1, 0, 32, .ctS, 0x0, 0⟩,
  ⟨0x094, 4, 1, 0, 32, .ctS, 0x0, 0⟩,
  ⟨0x098, 4, 1, 0, 32, .ctS, 0x0, 0⟩,
  ⟨0x400, 4, 128, 0, 12, .rwB, 0x0, 0⟩,
  ⟨0x400, 4, 128, 16, 12, .rwB, 0x0, 0⟩]

/-- Body fields of the SEATS page: base, stride, count, low bit, width, access, reset, reset step. -/
def Map.SEATS : List FieldSpec := [
  ⟨0x040, 4, 1, 0, 7, .ro, 0x0, 0⟩,
  ⟨0x044, 4, 1, 0, 32, .ctS, 0x0, 0⟩,
  ⟨0x048, 4, 1, 0, 32, .ctS, 0x0, 0⟩,
  ⟨0x04C, 4, 1, 0, 6, .rwI, 0x0, 0⟩,
  ⟨0x050, 4, 1, 0, 12, .ro, 0x0, 0⟩,
  ⟨0x050, 4, 1, 16, 1, .ro, 0x0, 0⟩,
  ⟨0x050, 4, 1, 17, 1, .ro, 0x0, 0⟩,
  ⟨0x050, 4, 1, 24, 6, .ro, 0x0, 0⟩]

/-- Body fields of the STN page: base, stride, count, low bit, width, access, reset, reset step. -/
def Map.STN : List FieldSpec := [
  ⟨0x040, 4, 1, 0, 3, .rwB, 0x0, 0⟩,
  ⟨0x044, 4, 1, 0, 3, .ro, 0x0, 0⟩,
  ⟨0x044, 4, 1, 8, 1, .ro, 0x0, 0⟩,
  ⟨0x044, 4, 1, 9, 1, .ro, 0x0, 0⟩,
  ⟨0x048, 4, 1, 0, 12, .ro, 0x0, 0⟩,
  ⟨0x04C, 4, 1, 0, 32, .ro, 0x0, 0⟩,
  ⟨0x050, 4, 1, 0, 16, .ro, 0x0, 0⟩,
  ⟨0x054, 4, 1, 0, 32, .ro, 0x0, 0⟩,
  ⟨0x058, 4, 1, 0, 32, .ro, 0x0, 0⟩,
  ⟨0x05C, 4, 1, 0, 6, .ro, 0x0, 0⟩,
  ⟨0x05C, 4, 1, 8, 6, .ro, 0x0, 0⟩,
  ⟨0x060, 4, 1, 0, 32, .ctW, 0x0, 0⟩,
  ⟨0x064, 4, 1, 0, 32, .ctW, 0x0, 0⟩,
  ⟨0x068, 4, 1, 0, 32, .ctW, 0x0, 0⟩,
  ⟨0x06C, 4, 1, 0, 32, .ctS, 0x0, 0⟩,
  ⟨0x070, 4, 1, 0, 32, .ctS, 0x0, 0⟩]

/-- Body fields of the DERAND page: base, stride, count, low bit, width, access, reset, reset step. -/
def Map.DERAND : List FieldSpec := [
  ⟨0x040, 4, 1, 0, 18, .ro, 0x0, 0⟩,
  ⟨0x044, 4, 1, 0, 18, .ro, 0x0, 0⟩,
  ⟨0x048, 4, 1, 0, 18, .ro, 0x0, 0⟩,
  ⟨0x04C, 4, 1, 0, 1, .ro, 0x0, 0⟩,
  ⟨0x04C, 4, 1, 1, 1, .ro, 0x0, 0⟩,
  ⟨0x04C, 4, 1, 2, 1, .ro, 0x0, 0⟩,
  ⟨0x04C, 4, 1, 3, 1, .ro, 0x0, 0⟩,
  ⟨0x04C, 4, 1, 4, 1, .ro, 0x0, 0⟩,
  ⟨0x050, 4, 1, 0, 18, .ro, 0x0, 0⟩,
  ⟨0x054, 4, 1, 0, 32, .ctS, 0x0, 0⟩,
  ⟨0x058, 4, 1, 0, 32, .ctS, 0x0, 0⟩,
  ⟨0x05C, 4, 1, 0, 32, .ctS, 0x0, 0⟩,
  ⟨0x060, 4, 1, 0, 32, .ctS, 0x0, 0⟩]

/-- Body fields of the LANE page, part 1. -/
def Map.LANE1 : List FieldSpec := [
  ⟨0x040, 4, 1, 0, 4, .rwB, 0x8, 0⟩,
  ⟨0x040, 4, 1, 4, 4, .rwB, 0x4, 0⟩,
  ⟨0x040, 4, 1, 8, 2, .rwB, 0x1, 0⟩,
  ⟨0x040, 4, 1, 12, 1, .rwB, 0x0, 0⟩,
  ⟨0x044, 4, 1, 0, 4, .rwB, 0x0, 0⟩,
  ⟨0x044, 4, 1, 12, 1, .rwB, 0x0, 0⟩,
  ⟨0x048, 4, 1, 0, 1, .rwB, 0x0, 0⟩,
  ⟨0x048, 4, 1, 8, 8, .rwB, 0x10, 0⟩,
  ⟨0x04C, 4, 1, 0, 2, .rwB, 0x0, 0⟩,
  ⟨0x050, 4, 1, 0, 1, .rwB, 0x0, 0⟩,
  ⟨0x050, 4, 1, 1, 2, .rwB, 0x3, 0⟩,
  ⟨0x050, 4, 1, 3, 1, .rwB, 0x0, 0⟩,
  ⟨0x050, 4, 1, 4, 2, .rwB, 0x3, 0⟩,
  ⟨0x050, 4, 1, 6, 1, .rwB, 0x0, 0⟩,
  ⟨0x050, 4, 1, 7, 1, .rwB, 0x0, 0⟩,
  ⟨0x054, 4, 1, 0, 2, .ro, 0x0, 0⟩,
  ⟨0x054, 4, 1, 2, 1, .ro, 0x0, 0⟩,
  ⟨0x054, 4, 1, 3, 1, .ro, 0x0, 0⟩,
  ⟨0x054, 4, 1, 4, 1, .ro, 0x0, 0⟩,
  ⟨0x054, 4, 1, 5, 1, .ro, 0x0, 0⟩,
  ⟨0x054, 4, 1, 6, 1, .ro, 0x0, 0⟩,
  ⟨0x058, 4, 1, 0, 7, .rwI, 0x0, 0⟩,
  ⟨0x058, 4, 1, 8, 7, .rwI, 0x0, 0⟩,
  ⟨0x058, 4, 1, 16, 4, .rwI, 0x0, 0⟩,
  ⟨0x05C, 4, 1, 0, 1, .wo, 0x0, 0⟩]

/-- Body fields of the LANE page, part 2. -/
def Map.LANE2 : List FieldSpec := [
  ⟨0x060, 4, 1, 0, 32, .ro, 0x0, 0⟩,
  ⟨0x064, 4, 1, 0, 32, .ctS, 0x0, 0⟩,
  ⟨0x068, 4, 1, 0, 32, .ctS, 0x0, 0⟩,
  ⟨0x06C, 4, 1, 0, 32, .ctS, 0x0, 0⟩,
  ⟨0x070, 4, 1, 0, 32, .ro, 0x0, 0⟩,
  ⟨0x074, 4, 1, 0, 32, .ro, 0x0, 0⟩,
  ⟨0x078, 4, 1, 0, 32, .ctS, 0x0, 0⟩,
  ⟨0x07C, 4, 1, 0, 32, .ctW, 0x0, 0⟩,
  ⟨0x080, 4, 1, 0, 32, .ro, 0x0, 0⟩,
  ⟨0x084, 4, 1, 0, 20, .ro, 0x0, 0⟩,
  ⟨0x088, 4, 1, 0, 32, .ro, 0x0, 0⟩,
  ⟨0x08C, 4, 1, 0, 20, .ro, 0x0, 0⟩]

/-- Body fields of the LANE page: base, stride, count, low bit, width, access, reset, reset step. -/
def Map.LANE : List FieldSpec := Map.LANE1 ++ Map.LANE2

/-- Body fields of the SLIP page, part 1. -/
def Map.SLIP1 : List FieldSpec := [
  ⟨0x040, 4, 1, 0, 10, .rwB, 0x100, 0⟩,
  ⟨0x040, 4, 1, 16, 4, .rwB, 0x4, 0⟩,
  ⟨0x040, 4, 1, 24, 4, .rwB, 0x8, 0⟩,
  ⟨0x044, 4, 1, 0, 16, .rwB, 0x10, 0⟩,
  ⟨0x100, 64, 8, 0, 3, .ro, 0x0, 0⟩,
  ⟨0x100, 64, 8, 4, 3, .ro, 0x0, 0⟩,
  ⟨0x100, 64, 8, 8, 3, .ro, 0x0, 0⟩,
  ⟨0x100, 64, 8, 12, 3, .ro, 0x0, 0⟩,
  ⟨0x100, 64, 8, 16, 1, .ro, 0x0, 0⟩,
  ⟨0x100, 64, 8, 17, 1, .ro, 0x0, 0⟩,
  ⟨0x104, 64, 8, 0, 8, .ro, 0x0, 0⟩,
  ⟨0x104, 64, 8, 8, 4, .ro, 0x0, 0⟩,
  ⟨0x104, 64, 8, 12, 2, .ro, 0x0, 0⟩,
  ⟨0x104, 64, 8, 16, 6, .ro, 0x0, 0⟩,
  ⟨0x104, 64, 8, 24, 8, .ro, 0x0, 0⟩,
  ⟨0x108, 64, 8, 0, 12, .ro, 0x0, 0⟩,
  ⟨0x108, 64, 8, 16, 12, .ro, 0x0, 0⟩,
  ⟨0x10C, 64, 8, 0, 12, .ro, 0x0, 0⟩,
  ⟨0x10C, 64, 8, 16, 16, .ro, 0x0, 0⟩,
  ⟨0x110, 64, 8, 0, 12, .ro, 0x0, 0⟩,
  ⟨0x114, 64, 8, 0, 19, .ro, 0x0, 0⟩,
  ⟨0x118, 64, 8, 0, 32, .ctS, 0x0, 0⟩,
  ⟨0x11C, 64, 8, 0, 32, .ctS, 0x0, 0⟩,
  ⟨0x120, 64, 8, 0, 32, .ctS, 0x0, 0⟩,
  ⟨0x124, 64, 8, 0, 32, .ctS, 0x0, 0⟩]

/-- Body fields of the SLIP page, part 2. -/
def Map.SLIP2 : List FieldSpec := [
  ⟨0x128, 64, 8, 0, 32, .ctS, 0x0, 0⟩,
  ⟨0x12C, 64, 8, 0, 32, .ctS, 0x0, 0⟩,
  ⟨0x130, 64, 8, 0, 32, .ctS, 0x0, 0⟩,
  ⟨0x134, 64, 8, 0, 32, .ctS, 0x0, 0⟩,
  ⟨0x138, 64, 8, 0, 32, .ctW, 0x0, 0⟩,
  ⟨0x13C, 64, 8, 0, 32, .ctS, 0x0, 0⟩]

/-- Body fields of the SLIP page: base, stride, count, low bit, width, access, reset, reset step. -/
def Map.SLIP : List FieldSpec := Map.SLIP1 ++ Map.SLIP2

/-- Body fields of the SAT page: base, stride, count, low bit, width, access, reset, reset step. -/
def Map.SAT : List FieldSpec := [
  ⟨0x040, 4, 1, 0, 1, .rwB, 0x1, 0⟩,
  ⟨0x044, 4, 1, 0, 8, .rwB, 0x0, 0⟩,
  ⟨0x048, 4, 1, 0, 8, .rwB, 0x20, 0⟩,
  ⟨0x04C, 4, 1, 0, 9, .rwB, 0x100, 0⟩,
  ⟨0x050, 4, 1, 0, 8, .ro, 0x0, 0⟩,
  ⟨0x054, 4, 1, 0, 8, .ro, 0x0, 0⟩,
  ⟨0x054, 4, 1, 16, 16, .ro, 0x0, 0⟩,
  ⟨0x058, 4, 1, 0, 15, .ro, 0x0, 0⟩,
  ⟨0x060, 4, 1, 0, 32, .ctW, 0x0, 0⟩,
  ⟨0x064, 4, 1, 0, 32, .ctS, 0x0, 0⟩,
  ⟨0x068, 4, 1, 0, 32, .ctS, 0x0, 0⟩,
  ⟨0x06C, 4, 1, 0, 32, .ctS, 0x0, 0⟩,
  ⟨0x070, 4, 1, 0, 32, .ctS, 0x0, 0⟩,
  ⟨0x074, 4, 1, 0, 32, .ctS, 0x0, 0⟩,
  ⟨0x078, 4, 1, 0, 32, .ctS, 0x0, 0⟩,
  ⟨0x07C, 4, 1, 0, 32, .ctS, 0x0, 0⟩,
  ⟨0x080, 4, 1, 0, 32, .ro, 0x0, 0⟩,
  ⟨0x084, 4, 1, 0, 32, .ro, 0x0, 0⟩,
  ⟨0x088, 4, 1, 0, 32, .ro, 0x0, 0⟩,
  ⟨0x08C, 4, 1, 0, 32, .ro, 0x0, 0⟩]

/-- Body fields of the SHADOW page: base, stride, count, low bit, width, access, reset, reset step. -/
def Map.SHADOW : List FieldSpec := [
  ⟨0x040, 4, 1, 0, 4, .rwI, 0x0, 0⟩,
  ⟨0x044, 4, 1, 0, 14, .rwI, 0x0, 0⟩,
  ⟨0x048, 4, 1, 0, 16, .rwI, 0x0, 0⟩,
  ⟨0x048, 4, 1, 16, 1, .ro, 0x0, 0⟩,
  ⟨0x048, 4, 1, 17, 1, .ro, 0x0, 0⟩,
  ⟨0x048, 4, 1, 18, 1, .ro, 0x0, 0⟩,
  ⟨0x04C, 4, 1, 0, 1, .wo, 0x0, 0⟩,
  ⟨0x050, 4, 1, 0, 1, .rwB, 0x1, 0⟩,
  ⟨0x050, 4, 1, 8, 8, .rwB, 0x20, 0⟩,
  ⟨0x058, 4, 1, 0, 7, .ro, 0x0, 0⟩,
  ⟨0x05C, 4, 1, 0, 32, .ctS, 0x0, 0⟩,
  ⟨0x060, 4, 1, 0, 32, .ctS, 0x0, 0⟩,
  ⟨0x064, 4, 1, 0, 32, .ctS, 0x0, 0⟩,
  ⟨0x068, 4, 1, 0, 32, .ctW, 0x0, 0⟩,
  ⟨0x06C, 4, 1, 0, 14, .ro, 0x0, 0⟩,
  ⟨0x06C, 4, 1, 16, 4, .ro, 0x0, 0⟩,
  ⟨0x070, 4, 1, 0, 16, .ro, 0x0, 0⟩,
  ⟨0x074, 4, 1, 0, 32, .ctS, 0x0, 0⟩]

/-- Body fields of the SATSTAT page: base, stride, count, low bit, width, access, reset, reset step. -/
def Map.SATSTAT : List FieldSpec := [
  ⟨0x040, 4, 1, 0, 16, .rwB, 0x0, 0⟩,
  ⟨0x044, 4, 1, 0, 16, .rwB, 0x0, 0⟩,
  ⟨0x048, 4, 1, 0, 4, .rwB, 0x0, 0⟩,
  ⟨0x048, 4, 1, 8, 4, .rwB, 0x4, 0⟩,
  ⟨0x048, 4, 1, 16, 1, .rwB, 0x0, 0⟩,
  ⟨0x04C, 4, 1, 0, 14, .rwB, 0x0, 0⟩,
  ⟨0x050, 4, 1, 0, 14, .rwB, 0x0, 0⟩,
  ⟨0x050, 4, 1, 16, 14, .rwB, 0x3FFF, 0⟩,
  ⟨0x054, 4, 1, 0, 16, .rwB, 0x10, 0⟩,
  ⟨0x054, 4, 1, 16, 16, .rwB, 0x8, 0⟩,
  ⟨0x058, 4, 1, 0, 24, .rwB, 0x10000, 0⟩,
  ⟨0x05C, 4, 1, 0, 7, .rwB, 0x40, 0⟩,
  ⟨0x060, 4, 1, 0, 4, .rwI, 0x0, 0⟩,
  ⟨0x064, 4, 1, 0, 14, .rwI, 0x0, 0⟩,
  ⟨0x068, 4, 1, 0, 16, .ro, 0x0, 0⟩,
  ⟨0x06C, 4, 1, 0, 24, .ro, 0x0, 0⟩,
  ⟨0x070, 4, 1, 0, 32, .ctW, 0x0, 0⟩,
  ⟨0x074, 4, 1, 0, 32, .ctS, 0x0, 0⟩,
  ⟨0x078, 4, 1, 0, 32, .ctS, 0x0, 0⟩]

/-- Body fields of the HK page, part 1. -/
def Map.HK1 : List FieldSpec := [
  ⟨0x040, 4, 4, 0, 11, .rwB, 0x4E2, 0⟩,
  ⟨0x040, 4, 4, 16, 1, .rwB, 0x0, 0⟩,
  ⟨0x050, 4, 4, 0, 16, .ro, 0x0, 0⟩,
  ⟨0x050, 4, 4, 16, 1, .ro, 0x0, 0⟩,
  ⟨0x050, 4, 4, 17, 1, .ro, 0x0, 0⟩,
  ⟨0x050, 4, 4, 18, 1, .ro, 0x0, 0⟩,
  ⟨0x060, 4, 1, 0, 2, .rwB, 0x0, 0⟩,
  ⟨0x060, 4, 1, 4, 2, .rwB, 0x0, 0⟩,
  ⟨0x060, 4, 1, 16, 16, .rwB, 0x0, 0⟩,
  ⟨0x064, 4, 1, 0, 2, .rwB, 0x0, 0⟩,
  ⟨0x064, 4, 1, 4, 2, .rwB, 0x0, 0⟩,
  ⟨0x064, 4, 1, 16, 16, .rwB, 0x0, 0⟩,
  ⟨0x068, 4, 1, 0, 1, .wo, 0x0, 0⟩,
  ⟨0x068, 4, 1, 1, 1, .wo, 0x0, 0⟩,
  ⟨0x068, 4, 1, 2, 1, .wo, 0x0, 0⟩,
  ⟨0x06C, 4, 1, 0, 1, .rwB, 0x0, 0⟩,
  ⟨0x070, 4, 1, 0, 1, .ro, 0x0, 0⟩,
  ⟨0x070, 4, 1, 1, 1, .ro, 0x0, 0⟩,
  ⟨0x070, 4, 1, 2, 1, .ro, 0x0, 0⟩,
  ⟨0x070, 4, 1, 3, 1, .ro, 0x0, 0⟩,
  ⟨0x070, 4, 1, 4, 1, .ro, 0x0, 0⟩,
  ⟨0x070, 4, 1, 5, 1, .ro, 0x0, 0⟩,
  ⟨0x074, 4, 1, 0, 16, .ro, 0x0, 0⟩,
  ⟨0x074, 4, 1, 16, 16, .ro, 0x0, 0⟩,
  ⟨0x078, 4, 1, 0, 2, .ro, 0x0, 0⟩,
  ⟨0x080, 16, 4, 0, 1, .rwB, 0x0, 0⟩,
  ⟨0x084, 16, 4, 0, 24, .rwB, 0x61A8, 0⟩]

/-- Body fields of the HK page, part 2. -/
def Map.HK2 : List FieldSpec := [
  ⟨0x088, 16, 4, 0, 24, .rwB, 0x30D4, 0⟩,
  ⟨0x0C0, 4, 1, 0, 32, .ctW, 0x0, 0⟩,
  ⟨0x0C4, 4, 1, 0, 32, .ctS, 0x0, 0⟩,
  ⟨0x0C8, 4, 1, 0, 32, .ctS, 0x0, 0⟩,
  ⟨0x0CC, 4, 1, 0, 32, .ctS, 0x0, 0⟩]

/-- Body fields of the HK page: base, stride, count, low bit, width, access, reset, reset step. -/
def Map.HK : List FieldSpec := Map.HK1 ++ Map.HK2

/-- Body fields of the HKSEQ page, part 1. -/
def Map.HKSEQ1 : List FieldSpec := [
  ⟨0x040, 4, 1, 0, 7, .rwB, 0x1, 0⟩,
  ⟨0x040, 4, 1, 8, 4, .rwB, 0x1, 0⟩,
  ⟨0x044, 4, 1, 0, 8, .ro, 0x0, 0⟩,
  ⟨0x048, 4, 1, 0, 32, .ro, 0x0, 0⟩,
  ⟨0x04C, 4, 1, 0, 32, .ro, 0x0, 0⟩,
  ⟨0x050, 4, 1, 0, 8, .ro, 0x0, 0⟩,
  ⟨0x100, 16, 64, 0, 7, .rwB, 0x4B, 0⟩,
  ⟨0x500, 16, 8, 0, 7, .rwB, 0x4B, 0⟩,
  ⟨0x100, 16, 64, 8, 7, .rwB, 0x7F, 0⟩,
  ⟨0x500, 16, 8, 8, 7, .rwB, 0x7F, 0⟩,
  ⟨0x100, 16, 64, 16, 3, .rwB, 0x0, 0⟩,
  ⟨0x500, 16, 8, 16, 3, .rwB, 0x0, 0⟩,
  ⟨0x100, 16, 64, 20, 1, .rwB, 0x0, 0⟩,
  ⟨0x500, 16, 8, 20, 1, .rwB, 0x0, 0⟩,
  ⟨0x100, 16, 64, 21, 2, .rwB, 0x0, 0⟩,
  ⟨0x500, 16, 8, 21, 2, .rwB, 0x0, 0⟩,
  ⟨0x100, 16, 64, 24, 3, .rwB, 0x0, 0⟩,
  ⟨0x500, 16, 8, 24, 3, .rwB, 0x0, 0⟩,
  ⟨0x100, 16, 64, 28, 4, .rwB, 0x0, 0⟩,
  ⟨0x500, 16, 8, 28, 4, .rwB, 0x0, 0⟩,
  ⟨0x104, 16, 64, 0, 10, .rwB, 0x0, 0⟩,
  ⟨0x504, 16, 8, 0, 10, .rwB, 0x0, 0⟩,
  ⟨0x108, 16, 64, 0, 32, .rwB, 0x7FFFFFFF, 0⟩,
  ⟨0x508, 16, 8, 0, 32, .rwB, 0x7FFFFFFF, 0⟩,
  ⟨0x10C, 16, 64, 0, 32, .rwB, 0x80000000, 0⟩]

/-- Body fields of the HKSEQ page, part 2. -/
def Map.HKSEQ2 : List FieldSpec := [
  ⟨0x50C, 16, 8, 0, 32, .rwB, 0x80000000, 0⟩,
  ⟨0x580, 8, 72, 0, 32, .ro, 0x0, 0⟩,
  ⟨0x584, 8, 72, 0, 32, .ro, 0x0, 0⟩]

/-- Body fields of the HKSEQ page: base, stride, count, low bit, width, access, reset, reset step. -/
def Map.HKSEQ : List FieldSpec := Map.HKSEQ1 ++ Map.HKSEQ2

/-- Body fields of the HKCURVE page: base, stride, count, low bit, width, access, reset, reset step. -/
def Map.HKCURVE : List FieldSpec := [
  ⟨0x100, 32, 16, 0, 4, .rwB, 0x0, 0⟩,
  ⟨0x104, 32, 16, 0, 32, .rwB, 0x0, 0⟩,
  ⟨0x108, 32, 16, 0, 32, .rwB, 0x0, 0⟩,
  ⟨0x10C, 32, 16, 0, 32, .rwB, 0x0, 0⟩,
  ⟨0x040, 4, 1, 0, 32, .ctS, 0x0, 0⟩]

/-- Body fields of the RING page: base, stride, count, low bit, width, access, reset, reset step. -/
def Map.RING : List FieldSpec := [
  ⟨0x040, 4, 1, 0, 8, .ro, 0x0, 0⟩,
  ⟨0x040, 4, 1, 8, 1, .ro, 0x0, 0⟩,
  ⟨0x040, 4, 1, 16, 8, .ro, 0x0, 0⟩,
  ⟨0x040, 4, 1, 24, 1, .ro, 0x0, 0⟩,
  ⟨0x040, 4, 1, 25, 1, .ro, 0x0, 0⟩,
  ⟨0x040, 4, 1, 26, 1, .ro, 0x0, 0⟩,
  ⟨0x044, 4, 1, 0, 9, .ro, 0x0, 0⟩,
  ⟨0x044, 4, 1, 16, 1, .ro, 0x0, 0⟩,
  ⟨0x044, 4, 1, 17, 1, .ro, 0x0, 0⟩,
  ⟨0x048, 4, 1, 0, 6, .ro, 0x0, 0⟩,
  ⟨0x048, 4, 1, 16, 6, .ro, 0x0, 0⟩,
  ⟨0x04C, 4, 1, 0, 32, .ctS, 0x0, 0⟩,
  ⟨0x050, 4, 1, 0, 32, .ctS, 0x0, 0⟩,
  ⟨0x054, 4, 1, 0, 32, .ctS, 0x0, 0⟩,
  ⟨0x058, 4, 1, 0, 32, .ctS, 0x0, 0⟩,
  ⟨0x05C, 4, 1, 0, 32, .ctS, 0x0, 0⟩,
  ⟨0x060, 4, 1, 0, 32, .ctS, 0x0, 0⟩,
  ⟨0x064, 4, 1, 0, 32, .ctW, 0x0, 0⟩,
  ⟨0x068, 4, 1, 0, 32, .ctW, 0x0, 0⟩,
  ⟨0x06C, 4, 1, 0, 32, .ctW, 0x0, 0⟩,
  ⟨0x070, 4, 1, 0, 32, .ctW, 0x0, 0⟩]

/-- The common header (R37) without its computed words. -/
def Map.HEADER : List FieldSpec := [
  ⟨0x008, 4, 1, 0, 1, .rwB, 0x0, 0⟩,
  ⟨0x008, 4, 1, 1, 1, .rwI, 0x0, 0⟩,
  ⟨0x008, 4, 1, 2, 1, .rwI, 0x0, 0⟩,
  ⟨0x00C, 4, 1, 0, 4, .ro, 0x0, 0⟩,
  ⟨0x00C, 4, 1, 9, 1, .ro, 0x0, 0⟩,
  ⟨0x010, 4, 1, 0, 16, .ro, 0x0, 0⟩,
  ⟨0x010, 4, 1, 16, 16, .ro, 0x0, 0⟩,
  ⟨0x014, 4, 1, 0, 32, .sc, 0x0, 0⟩,
  ⟨0x018, 4, 1, 0, 16, .rwI, 0x0, 0⟩,
  ⟨0x01C, 4, 1, 0, 8, .ro, 0x0, 0⟩,
  ⟨0x01C, 4, 1, 8, 8, .ro, 0x0, 0⟩,
  ⟨0x01C, 4, 1, 16, 16, .ro, 0x0, 0⟩,
  ⟨0x024, 4, 1, 0, 16, .ro, 0x0, 0⟩]

/-- The transceiver block of a Pace or Rigger page: the LANE fields at each LANE offset plus 0x1C0, without
FEATHER (R320). -/
def Map.XCVR : List FieldSpec :=
  (Map.LANE.filter (fun f => f.base != 0x048)).map (fun f => { f with base := f.base + 0x1C0 })

/-- The fields of LANE24 to LANE31: the receiver fields, RX_STATE, ES and SIG_RX read zero and ignore writes, and so
does FEATHER.EN (chapter 15). -/
def Map.TRIGLANE : List FieldSpec :=
  Map.LANE.filter (fun f =>
    !(f.base == 0x044 || f.base == 0x058 || f.base == 0x05C || f.base == 0x060 || f.base == 0x088 || f.base == 0x08C
      || (f.base == 0x054 && (f.lo == 0 || f.lo == 4 || f.lo == 5)) || (f.base == 0x048 && f.lo == 0)))

/-- The first page of each page type with the number of its instances (R450). -/
def pageTypes : List (Nat × Nat) := [
  (0x00, 1), (0x01, 1), (0x02, 2), (0x04, 1), (0x05, 1), (0x06, 1), (0x07, 1), (0x08, 1), (0x0C, 1), (0x0D, 1),
  (0x0E, 2), (0x10, 24), (0x28, 1), (0x29, 1), (0x2A, 1), (0x2C, 1), (0x30, 1), (0x31, 1), (0x32, 1), (0x33, 1),
  (0x38, 1), (0x39, 1), (0x40, 1), (0x41, 1), (0x42, 8), (0x4A, 1), (0x50, 32), (0x70, 1), (0x78, 16), (0x88, 1),
  (0x89, 1), (0x90, 1), (0x91, 1), (0x92, 1), (0x98, 1)]

/-- The first page of the type of page `pg`; none for a page that the directory does not list (R35, R451). -/
def pageType (pg : Nat) : Option Nat :=
  (pageTypes.find? (fun t => t.1 ≤ pg && pg < t.1 + t.2)).map (·.1)

/-- Every page of the directory, in the order of their numbers. -/
def allPages : List Nat := pageTypes.flatMap (fun t => (List.range t.2).map (t.1 + ·))

/-- The body fields of page `pg`. -/
def bodyFields (pg : Nat) : List FieldSpec :=
  match pageType pg with
  | some 0x00 => Map.ID
  | some 0x01 => Map.KEY
  | some 0x02 => Map.TCUx
  | some 0x04 => Map.COX
  | some 0x05 => Map.EVM
  | some 0x06 => Map.HEALTH
  | some 0x07 => Map.CAL
  | some 0x08 => Map.CLK
  | some 0x0C => Map.TIME
  | some 0x0D => Map.SYNC
  | some 0x0E => if pg = 0x0E then Map.PACEx ++ Map.PACEA ++ Map.XCVR else Map.PACEx ++ Map.XCVR
  | some 0x10 => Map.BANK
  | some 0x28 => Map.PRISM
  | some 0x29 => Map.PCOEF
  | some 0x2A => Map.RSMP
  | some 0x2C => Map.TPRIM
  | some 0x30 => Map.ACQ
  | some 0x31 => Map.START
  | some 0x32 => Map.SELF
  | some 0x33 => Map.NEIGH
  | some 0x38 => Map.FRAG
  | some 0x39 => Map.LENS
  | some 0x40 => Map.CREW
  | some 0x41 => Map.SEATS
  | some 0x42 => Map.STN
  | some 0x4A => Map.DERAND
  | some 0x50 => if 0x68 ≤ pg then Map.TRIGLANE else Map.LANE
  | some 0x70 => Map.SLIP
  | some 0x78 => Map.SAT ++ Map.XCVR
  | some 0x88 => Map.SHADOW
  | some 0x89 => Map.SATSTAT
  | some 0x90 => Map.HK
  | some 0x91 => Map.HKSEQ
  | some 0x92 => Map.HKCURVE
  | some 0x98 => Map.RING
  | _ => []

/-- Whether a row of a register table has a field in the word at offset `off`. -/
def fieldHits (f : FieldSpec) (off : Nat) : Bool :=
  decide (f.base ≤ off) && (off - f.base) % f.stride == 0 && decide ((off - f.base) / f.stride < f.count)

/-- The fields of the register word at address `a`; none at a reserved offset, on a reserved page or at an address that
is not a multiple of 4. -/
def fieldsAt (a : Nat) : List FieldSpec :=
  let pg := a / 4096
  let off := a % 4096
  match pageType pg with
  | none => []
  | some _ => (if off < 0x040 then Map.HEADER else bodyFields pg).filter (fieldHits · off)

/-- The bits of a field within its word. -/
def fieldMask (f : FieldSpec) : Word := BitVec.ofNat 32 ((2 ^ f.w - 1) * 2 ^ f.lo)

/-- The bits of the word at address `a` whose access code satisfies `p`. -/
def accMask (a : Nat) (p : Acc → Bool) : Word :=
  (fieldsAt a).foldl (fun m f => if p f.acc then m ||| fieldMask f else m) 0

/-- Whether an access code takes a staged entry (R40). -/
def accBuffered : Acc → Bool
  | .rwB => true
  | .rwK => true
  | _ => false

/-- Whether a word holds a field of access code `c`. -/
def hasAcc (a : Nat) (c : Acc) : Bool := (fieldsAt a).any (fun f => f.acc == c)

/-- The word of a register key (R6, with the selector above bit 20) right after a reset. -/
def resetWord (key : Nat) : Word :=
  let a := key % 1048576
  BitVec.ofNat 32 ((fieldsAt a).foldl
    (fun n f => n + (f.reset + f.step * ((a % 4096 - f.base) / f.stride)) * 2 ^ f.lo) 0)

/-- PAGE_CAP.KEYED (R451). -/
def pageKeyed (pg : Nat) : Bool := pg == 0x00 || pg == 0x02 || pg == 0x03 || pg == 0x04 || pg == 0x08

/-- PAGE_CAP.PAUSE (R451). -/
def pagePausable (pg : Nat) : Bool := pg == 0x38 || pg == 0x40 || (decide (0x42 ≤ pg) && decide (pg ≤ 0x49))

/-- PAGE_ID of a listed page (R450). -/
def pageIdWord (pg : Nat) : Word :=
  match pageType pg with
  | none => 0
  | some t => BitVec.ofNat 32 (t * 2 ^ 24 + 0x01 * 2 ^ 16 + (pg - t))

/-- PAGE_CAP of a listed page (R451): BUF on every page, OWN bit [16] on PACEA. -/
def pageCapWord (pg : Nat) : Word :=
  match pageType pg with
  | none => 0
  | some _ => BitVec.ofNat 32 (1 + (if pagePausable pg then 2 else 0) + (if pageKeyed pg then 4 else 0)
      + (if pg = 0x0E then 2 ^ 16 else 0))

end Sys2Proof.Machine
end

