-- ==== Sys2Proof/Machine/State.lean ====
section
/-! DEFINITION. The state of the hub as plain data: the register words, the staged queues, the clocks and times, and
the state of every engine behind the registers; the outcomes a command may stop with; the state after reset. -/

namespace Sys2Proof.Machine

/-- Why a command stops with a fault. No command of this table does: the spec gives each of them an effect. -/
inductive Fault where
  /-- Raised by no command; safe, since nothing is claimed of it. -/
  | none_
deriving DecidableEq, Repr

/-- Why a command is refused. -/
inductive Refusal where
  /-- The command's meaning is not written yet; safe, since the machine stops. Raised only by the arms of `exec`. -/
  | notModelled (mnemonic : String)
deriving DecidableEq, Repr

/-- Where the hub stands between a reset and service (R423, R455): held in power-on reset; counting XO cycles with the
management clock stopped; sweeping its memories; running. -/
inductive Phase where
  | held | xoCount | sweeping | running
deriving DecidableEq, Repr

/-- Who asked the arbiter for an access, and so how it is answered: a host at the port itself, a control frame of the
Pace link (R109), or a Regatta frame (R390). -/
inductive Origin where
  | host
  | pace (seq : Byte)
  | ring (f : RingFrame)
deriving DecidableEq, Repr

/-- An access that waits at the arbiter; `data` none is a read. -/
structure ArbReq where
  port   : Port
  addr   : RegAddr
  data   : Option Word
  keyed  : Bool
  origin : Origin
deriving DecidableEq, Repr

/-- A staged entry of a page (R41): the bits of `mask` of the word at `key` take those of `data`. -/
structure Staged where
  page : Nat
  key  : Nat
  mask : Word
  data : Word
deriving DecidableEq, Repr

/-- What the hub puts out while it performs a command: answers, frames, packets and words on its links and pins. -/
inductive Output where
  /-- The answer to a host's access: port, address, data, STATUS (R108). -/
  | answer (p : Port) (a : RegAddr) (d : Word) (status : Nat)
  /-- A control frame queued for the Pace return (R107, R108): its bytes from TYPE to CRC. -/
  | paceCtl (frame : List Byte)
  /-- A return frame (R105): the Pace lanes it leaves on, comma, status byte, six control symbols. -/
  | paceReturn (lanes : List PaceLane) (comma : Byte) (status : Byte) (ctl : List LineSym)
  /-- A frame sent on RING_OUT (R389). -/
  | ring (f : RingFrame)
  /-- The hub ends a frame on RING_OUT with ABORT (R386). -/
  | ringAbort
  /-- The word sent on NBOj in a crossing (R233). -/
  | neigh (j : Nat) (w : Byte)
  /-- A packet sent on a station's Slipway stream (R325): its bytes from TYPE to CRC. -/
  | slip (n : Nat) (bytes : List Byte)
  /-- The catch marker's MAP byte on a station's lanes (R322). -/
  | marker (n : Nat) (map : Byte)
  /-- A frame on SDNpp (R346): port, comma, fast command byte, six configuration symbols. -/
  | satFrame (p : Nat) (comma fast : Byte) (ctl : List LineSym)
  /-- A new period of pulse timer n begins (R374): PWMn is high for the first `high` of `period` converter clocks. -/
  | pwm (n period high : Nat)
  /-- The word of IDCODE, offered on TDO (R448). -/
  | idcode (w : Word)
  /-- The boundary-scan chain under an instruction (R448): what its cells drive onto the pins, and the levels that they have captured. -/
  | boundary (i : TapInstr) (driven captured : List Bool)
  /-- A frame of a trigger lane (R202): lane index, comma, frame bytes. -/
  | laneFrame (k : Nat) (comma : Byte) (bytes : List Byte)
  /-- What a transmitter sends in a crossing (R301, R316), by base address: groups of ten bits, bit a lowest. -/
  | line (xb : Nat) (groups : List (BitVec 10))
deriving DecidableEq, Repr

/-- A pattern checker (R317): the last bits it took or predicts, how many bits have seeded it, the consecutive matches, while it is
locked the places of the recent mismatches among the bits compared, and how often it has locked or lost its lock since
STATUS.CHK_LOCK was told last. -/
structure Checker where
  reg  : Nat
  have_ : Nat
  run  : Nat
  bits : Nat
  miss : List Nat
  turns : Nat
deriving DecidableEq, Repr

/-- An open delay exchange (R85); times are Hub Time in 2^-16 ns, from second 0. -/
structure Exchange where
  lane    : PaceLane
  t1      : Int
  t2      : Int
  coasted : Bool
  stroke  : Nat
  t3      : Option Int
  seq     : Byte
  reqCr   : Nat
deriving DecidableEq, Repr

/-- The progress of a full resynchronisation (R90): none; waiting for an announcement; due where the hub's own count
reaches `atCn`, with the new CN and, after a change of alignment, the new ALIGN_K and target phase. -/
inductive Resync where
  | idle
  | waiting
  | named (atCn : BitVec 64) (newCn : BitVec 64)
deriving DecidableEq, Repr

/-- The check on waking (R97): what the exchange and the announcement have given so far. -/
structure WakeCheck where
  align : Option (Nat × Nat)
  label : Option Int
deriving DecidableEq, Repr

/-- Clock state behind the CLK page. Frequencies are in units of 1,000/2^21 Hz, in which XO_RATIO counts 25,000, a gate's
COUNT 800,000 and a kHz 2^21 (R61, R67). -/
structure Clk where
  fbc      : Nat
  xoStable : Bool
  xoFailed : Bool
  gates    : List Nat        -- consecutive good gates of A, B, CLKIN, up to 2 (R68)
  moving   : Bool            -- f_BC moves with COAST set (R70, R72)
  moveEnd  : Option Nat      -- the crossing at which a move downward has ended
  offset   : Int             -- the phase offset in force since the last switch (R71)
  moorFreq : Option Nat      -- f_BC against the XO as recorded when the hub moored (R96)
  coastAt  : Option Nat      -- the crossing in which COAST was raised last (R309)
deriving DecidableEq, Repr

/-- Crossing number, Hub Time and synchronisation state. `cr` counts crossings since crossing 0 and never jumps. -/
structure Time where
  cr         : Nat
  cn         : BitVec 64
  sec        : BitVec 48
  sub        : Nat           -- 2^-32 ns within the second (R81)
  ns32       : BitVec 64     -- NS32 in [63:32], its fraction in [31:0] (R84)
  catchDue   : Bool
  lastCatch  : Nat           -- cr of the last catch
  catches    : Nat           -- catches made since reset
  orbitReset : Bool
  exch       : Option Exchange
  reqSeq     : Byte
  lastExch   : Option Nat    -- cr of the last completed exchange
  slew       : Int           -- 2^-16 ns still to be removed (R86)
  step       : Option Int    -- Hub Time step due at the next catch
  alignTgt   : Int           -- target of ALIGN_PHASE, 1/4,096 cr
  alignCur   : Int           -- phase in force
  wakePh     : Int           -- phase that a quiet wake has left to be removed (R97), 1/4,096 cr
  newAlign   : Option (Nat × Nat)   -- ALIGN_K and ALIGN_PHASE that the next full resynchronisation brings in (R88)
  resync     : Resync
  irregular  : Bool          -- the stroke in progress is the irregular one of R90
  wake       : Option WakeCheck
deriving DecidableEq, Repr

/-- Crossings whose frames a Pace lane, or the hub, has not received (R115): the first of them while that lasts, and the last
such gap that has ended, from its first crossing up to the one in which it ended. -/
structure Gap where
  open_ : Option Nat
  last  : Option (Nat × Nat)
deriving DecidableEq, Repr

/-- A gap covers a crossing. -/
def Gap.covers (g : Gap) (c : Nat) : Bool :=
  (match g.open_ with
    | some f => decide (f ≤ c)
    | none => false)
  || (match g.last with
    | some (f, t) => decide (f ≤ c) && decide (c < t)
    | none => false)

/-- A gap begins with a crossing, unless one is open. -/
def Gap.begin (g : Gap) (c : Nat) : Gap := if g.open_.isSome then g else { g with open_ := some c }

/-- A gap ends: crossing `c` is received again. -/
def Gap.end_ (g : Gap) (c : Nat) : Gap := match g.open_ with
  | some f => ⟨none, some (f, c)⟩
  | none => g

/-- Pace link state beyond its registers. -/
structure Pace where
  runCmd   : Option Bool     -- the last RUN_START (true) or RUN_STOP of the stroke (R104)
  moorCmd  : Option Bool     -- the last MOOR (true) or WAKE of the stroke
  linkWake : Bool            -- a lane returned to ENABLED while Moored with WAKE_ON_LINK (R117)
  trigErr  : Nat             -- catches until TRIG_ERR ends (R105)
  trigErrCr : Nat            -- the crossing whose trigger byte was lost last
  nE       : Option (BitVec 64)   -- local crossing of the first return frame with EASY (R106)
  breach   : Bool            -- EASY_BREACH raised in this episode
  gapA     : Gap             -- arrival crossings without a frame on lane A; while the lane is not ENABLED, open
  gapB     : Gap
  outGap   : Gap             -- an outage is open (R115), and which arrival crossings it and the last one took
  quiet    : Bool            -- the outage in progress began while Moored (R117), or has its first blind crossing still ahead: it is not told
  lost     : List Nat        -- recent arrival crossings whose trigger byte was lost (R101), newest first
  noComma  : List (PaceLane × Nat) -- recent crossings counted in COMMA_ERR_CNT, newest first
  sent     : List LineSym    -- the return frame's symbols in this crossing
  lastReq  : Option (Byte × List Byte)   -- SEQ and stored answer of the request performed last (R109)
  frameDue : Bool            -- the crossing has begun and its return frame has not been sent yet
  txq      : List (List LineSym)  -- control frames waiting to be sent
  txCur    : List LineSym         -- the rest of the frame in progress
deriving DecidableEq, Repr

/-- A timing and control unit beyond its page (R406): when its self-test began, its self-check errors by crossing, and when
it last entered MIRROR. -/
structure Tcu where
  stStart    : Option Nat
  stDue      : Bool          -- the first self-test after a reset waits for the first catch after SWEEP_DONE (R423)
  errs       : List Nat
  lastReseed : Option Nat
  memFrom    : Nat           -- cr at which the background memory test's pass in progress began (R407)
deriving DecidableEq, Repr

/-- A decision of the Cox that waits for a catch (R404), with the crossing whose digest first differed. -/
inductive CoxWait where
  | none
  | swap (first : BitVec 64)
  | reseed
deriving DecidableEq, Repr

/-- The Cox beyond its page. -/
structure Cox where
  wait     : CoxWait
  waitFrom : Nat             -- cr of the detection, R404
  hostSwap : Bool            -- a host SWAP awaits the oarlocks (R411)
  mismatch : Bool            -- a mismatch since the last entry into MIRROR (R416)
  voteIn   : Option Nat      -- the stroke (catch count) in which COX.VOTE was raised last (R401)
deriving DecidableEq, Repr

/-- What the comparator of an overlap has taken (R144): the pairs, those kept, the sum of their differences and of the squares. -/
structure Compare where
  seen : Nat
  n    : Nat
  sum  : Int
  sq   : Int
deriving DecidableEq, Repr

/-- The activity monitor of a slice (R151): the last CODE that has left correction and how many words in a row have had it with OVR = 0,
and the newest words, which have not left correction yet, oldest first. -/
structure Monitor where
  code : Nat
  run  : Nat
  late : List (BitVec 16)
deriving DecidableEq, Repr

/-- Idle time of a bank's spare: the channel index whose failed slot rests (R146), or none for one that is passed over (R147); the
strokes that remain; and whether the rotation index advances when they have passed. -/
structure Rest where
  chan : Option Nat
  left : Nat
  adv  : Bool
deriving DecidableEq, Repr

/-- The calibration sequencer of one bank (chapter 07). Times are counted in catches. -/
structure BankCal where
  spare    : Nat             -- CAL.BANKb.STATE.SPARE
  index    : Nat             -- the channel index of the slot, or the one served permanently
  rotIdx   : Nat             -- the next index of the rotation
  now      : Bool            -- the slot in progress is a CAL_NOW slot
  phaseSt  : Nat             -- the catch at which the spare entered its state
  rests    : List Rest       -- the idle times that remain, one after another (R146, R147)
  queue    : List Nat        -- CAL_NOW requests, indices, head first
  extended : Bool            -- R148
  rotating : Bool
  attempt  : Nat             -- R139: 1 or 2; 0 while an abandoned calibration waits for the wake
  step     : Nat             -- R138: 1 to 5; in a self-test 2 to 5, 6 once all have converged, 7 once one has failed (R149)
  stepSt   : Nat             -- the catch at which the step began
  failed   : List Nat        -- slices that failed this attempt
  second   : List Nat        -- slices that the second attempt runs on
  stuckPu  : List Nat        -- slices found stuck during power-up calibration
  health   : List Nat        -- 33 codes: 0 OK, 1 SUSPECT, 2 BAD, 3 UNCAL
  puDone   : Bool
  ovl      : Option Bool     -- the comparison of the overlap in progress
  cmp      : Compare
  backBad  : Bool            -- an overlap back has failed in this slot (R140, R146)
  reach    : Bool            -- the spare's targets lie within 127 taps (R143)
  stReq    : Bool            -- a self-test requested by R146 waits
  stFor    : Option Nat      -- the channel index whose overlap asked for the self-test
  pow      : BitVec 32       -- channels powered in this stroke
  up       : BitVec 32       -- channels powered in this stroke and the one before (R127)
  dead     : BitVec 32       -- CAL.DEADb
  stuck    : List Nat        -- slices whose monitor has fired in this stroke (R152)
  runs     : List Monitor    -- of each slice (R151)
  hot      : List (Nat × Nat) -- slices whose monitor has fired, and the crossing of the first of the 256 words, until STUCK_SLICE
deriving DecidableEq, Repr

/-- A value of the main path with its flags (R155, R159, R185); VOID is the absence of an entry. -/
structure Val where
  v   : Int
  ovr : Bool
  sub : Bool
deriving DecidableEq, Repr

/-- A running cross-fade (R174, R176): channel, old and target profile, F, starting crossing, rate R. -/
structure Fade where
  chan : Nat
  old  : Nat
  new  : Nat
  len  : Nat
  n0   : Nat
  rate : Nat
deriving DecidableEq, Repr

/-- A waiting fade request (R175): the catches it has waited, and whether FADE_WAIT has been raised for it. -/
structure FadeReq where
  chan   : Nat
  prof   : Nat
  len    : Nat
  waited : Nat
  told   : Bool
deriving DecidableEq, Repr

/-- A part of a channel's output stream (R180, R190, R191): from crossing `cr` on, output `idx + k` sits at Prism position
R·cr + k·step/2^32. -/
structure Seg where
  cr   : Nat
  idx  : Nat
  rate : Nat
  step : Nat
deriving DecidableEq, Repr

/-- What the primitive path has made of a crossing (R197 to R204): the settings of its stroke, the eight lanes' sums and
status bits. -/
structure TpCr where
  cr    : Nat
  cn    : BitVec 16
  hub   : BitVec 16
  catch_ : Bool
  on    : Bool
  step  : Bool
  brk   : Bool
  group : Nat
  wide  : Bool
  thr   : Nat
  align : Nat
  sums  : List (List Nat)
  st    : List (BitVec 8)
deriving DecidableEq, Repr

/-- An entry of the accept queue (R217, R425): the source, the trigger type, the accepted crossing's CN (word 1), its hub
number and Hub Time (word 3), the anchor crossing (which may lie before crossing 0), for a START trigger T' in 1/4,096 cr
and the fine time, the window's OFS and LEN, and the event number. -/
structure Entry where
  src    : Nat
  type   : Nat
  word1  : BitVec 64
  hub    : Nat
  word3  : BitVec 64
  anchor : Int
  startT : Option Int
  fine   : Nat
  ofs    : Int
  len    : Nat
  evNo   : Nat
  dbe    : Bool := false     -- a double-bit error hit the entry (R412)
deriving DecidableEq, Repr

/-- A bank block while it is coded (R245, R277): its header with PWORDS = 0 and its rate map, the elements not yet given to a
Lens block, by channel, the words coded so far, and whether it waits (0), is in an engine (1) or is coded (2). -/
structure BankPart where
  hdr   : List (BitVec 64)
  todo  : List (List Int)
  words : List (BitVec 64)
  stage : Nat
deriving DecidableEq, Repr

/-- A feature record's amplitude and time for the trim servo (R192): its channel, the crossing of the window's first output,
and whether no output carries VOID or OVR. -/
structure Pulse where
  chan  : Nat
  first : Int
  clean : Bool
  a     : Int
  tau   : Int
deriving DecidableEq, Repr

/-- A fragment in the builder's staging memory (R238, R261): words 0 to 3 with LENGTH = 0, its bank blocks, the satellite and
record blocks, and what the rules of Lens and of the derandomiser need of it. -/
structure Frag where
  id     : Nat
  type   : Nat
  evNo   : Nat
  crew   : Nat
  classA : Bool
  prio   : Nat
  w0     : BitVec 64
  w1     : BitVec 64
  w2     : BitVec 64
  w3     : BitVec 64
  banks  : List BankPart
  tail   : List (BitVec 64)
  blocks : Nat
  recs   : List (BitVec 64)
  raw    : Bool
  chanFlush : Bool
  pulses : List Pulse
  read   : Bool              -- its windows have been read (R261)
deriving DecidableEq, Repr

/-- A Lens engine that codes a block (R277): the fragment and the place of its bank block, the block's elements, whether the
block is the payload's last or was flushed, the core clock at which its first byte entered, the core clocks that preparing it again
costs, and, where a double-bit error in the dictionary has ended its coding, the bytes coded by then (R278). -/
structure Engine where
  frag    : Nat
  bank    : Nat
  elems   : List Int
  last    : Bool
  flushed : Bool
  start   : Nat
  extra   : Nat
  cut     : Option Nat
deriving DecidableEq, Repr

/-- A fragment or shed record in the derandomiser (R280): its place in the order of admission, its words, crew, class and
priority, the words with a double-bit error, and whether STRANDED has been raised for it. -/
structure Held where
  id     : Nat
  words  : List (BitVec 64)
  crew   : Nat
  classA : Bool
  prio   : Nat
  evNo   : Nat
  shed   : Bool
  recs   : Nat
  bad    : List Nat
  told   : Bool
  done   : Bool              -- its last STATUS has been issued; the lines wait for the acknowledgement
deriving DecidableEq, Repr

/-- A descriptor as fetched (R291), with its own address. -/
structure Desc where
  addr   : Nat
  ofs    : Nat
  len    : Nat
  notify : Bool
deriving DecidableEq, Repr

/-- A read slot in use (R295, R298): the crew and GEN of its tag, the address read, the crossing of the request, and whether it
has become stale. -/
structure Slot where
  crew   : Nat
  gen    : Nat
  addr   : Nat
  cr     : Nat
  stale  : Bool
deriving DecidableEq, Repr

/-- A station's fragment in progress (R293, R294): the fragment's place in the order of admission, the delivery crew, the
descriptor in progress, the bytes written in it, the fragment bytes of the descriptors before it, whether the descriptor
ends where it stands (R298), and whether its reads have met a double-bit error (R280). -/
structure Dma where
  held : Nat
  crew : Nat
  desc : Option Desc
  sent : Nat
  base : Nat
  stop : Bool
  met  : Bool
deriving DecidableEq, Repr

/-- A descriptor whose STATUS write is not yet acknowledged (R336, R345): the fragment, the crew, the descriptor, the offset
and number of its fragment bytes, STATUS bits [61:56] (of one that is
written again, ECC as its reads have met it since), and the sequence number of the STATUS write. -/
structure Job where
  held  : Nat
  crew  : Nat
  desc  : Desc
  base  : Nat
  bytes : Nat
  bits  : Nat
  seq   : Nat
deriving DecidableEq, Repr

/-- A sequenced packet in a replay buffer (R337), its bytes from TYPE to CRC. -/
structure Pkt where
  seq   : Nat
  bytes : List Byte
  write : Bool
deriving DecidableEq, Repr

/-- A station's Slipway link beyond its registers (chapter 16). -/
structure Link where
  replay  : List Pkt
  txq     : List LineSym     -- the stream's symbols that have not left yet (R321)
  heldq   : List LineSym     -- sequenced packets that had not begun to leave when HOLD or a re-form stopped them (R338, R341)
  marker  : Option (Nat × Byte) -- the crossing of the last catch marker sent, and its MAP byte (R322)
  stall   : List Nat         -- the sizes of the packets for which the transmitter stalls (R337)
  repQ    : List Nat         -- the packets that a replay in progress has still to send
  repLeft : Nat              -- symbols of the stream up to the last one replayed that has not left yet (R335)
  repWait : Bool             -- a replay waits for HOLD to clear (R345)
  timer   : Nat              -- the crossing from which REPLAY_TMO counts
  rowSeq  : Nat              -- the packet at which the last replays in a row began
  rowCnt  : Nat
  nakSent : Bool             -- R334
  rxDue   : Nat              -- packets performed and not acknowledged (R333)
  ackFrom : Option Nat       -- the crossing of the first of them
  reform  : Bool             -- the peer has lost a member lane; the group re-forms at the next catch (R341)
  ctlq    : List (List Byte) -- ACK, NAK and CAP packets that wait for feathered lanes
  jobs    : List Job         -- unacknowledged descriptors, oldest first
  redo    : List Job         -- descriptors to restart after link-up (R345), oldest first
  redoSent : Nat             -- bytes of the first of them written again
  lost    : List Nat         -- positions whose receiver is not good: a marker within the window makes it good (R340)
  good    : List Nat         -- for each position, the crossing from which its receiver has been good
  mkGood  : List Nat         -- receive-good maps of the peer's last two markers, newest first
  mkOk    : Nat              -- consecutive catches with valid markers
  mkBad   : Nat              -- consecutive catches without one
  capSeen : Bool
  capTold : Bool             -- CAP_MISMATCH raised in this stay in CAPS
  capSt   : Nat              -- the catch count at which CAPS was entered
  capCr   : Option Nat       -- the crossing of the last CAP sent
deriving DecidableEq, Repr

/-- A request that awaits a satellite's answer (R350): a CAP_REQ, or the READ_BLOCK of a block of 32 cells. -/
inductive SatAsk where
  | cap
  | block (k : Nat)
deriving DecidableEq, Repr

/-- What a Rigger port's receiver holds of the upstream item in progress (R348): its bytes so far, whether it is a configuration
frame, and whether, after a code error, the receiver waits for the next special code group (R357). -/
structure SatItemRx where
  bytes : List Byte
  frame : Bool
  skip  : Bool
deriving DecidableEq, Repr

/-- A Rigger port beyond its page and its shadow words (chapter 17). -/
structure SatPort where
  tx       : List LineSym    -- configuration symbols that have not left yet
  item     : SatItemRx       -- the upstream item in progress (R348)
  itemTold : Nat             -- items that a code error of this crossing has ended already
  asked    : Option (SatAsk × Nat) -- the request outstanding, and the crossing in which its last symbol leaves
  queue    : List Nat        -- the host queue of addresses (R360)
  dirty    : List Nat        -- dirty cells, ascending
  settling : Assoc Bool      -- settling cells; true once their WRITE has been sent (R362)
  suspect  : List Nat        -- cells rewritten after an upset and not compared since
  due      : Option Nat      -- a block whose READ_BLOCK is due (R361)
  dueCr    : Option Nat      -- the crossing in which a block last became due
  retry    : Option Nat      -- a block whose answer timed out
  next     : Nat             -- the next block of the pass
  passSt   : Option Nat      -- the catch count at which the pass began
  syncDue  : Bool            -- SYNC goes out at the next catch (R355)
  syncSt   : Option Nat      -- the catch count from which the four strokes of R355 run
  rt       : Option Nat      -- the RT of the last arrival since RESYNC or SYNC (R356)
  agree    : Nat             -- consecutive arrivals that agree
  learnt   : Nat             -- those of them at which RT_REF was 0x100 (R356)
  match_   : Nat             -- consecutive arrivals that match
  lateTold : Option Nat      -- the stroke in which SAT.LATE was raised last
  stepped  : Option Nat      -- the cell last stepped by the servo (R365)
deriving DecidableEq, Repr

/-- What a housekeeping sequence does (R371 to R373): nothing, counting its delay, waiting for the converter, running. -/
inductive HkRun where
  | idle | delay | waiting | running
deriving DecidableEq, Repr

/-- The housekeeping entry in progress (R371): injected or regular, its index, its setting word, limits and curve slot as they
stood when it started, REG_PASS or the count of injected passes then, and the flags EXC, NOCONN and TDAC_SEQ so far. -/
structure HkEntry where
  inj    : Bool
  idx    : Nat
  cfg    : Word
  limHi  : Int
  limLo  : Int
  curve  : Nat
  params : List Word
  seqNo  : Nat
  exc    : Bool
  noConn : Bool
  tdac   : Bool
deriving DecidableEq, Repr

/-- An excitation output's monitor (R369): consecutive samples below 10 µA, at 10 µA or more, and above 25 mA. -/
structure ExcMon where
  low  : Nat
  high : Nat
  above : Nat
deriving DecidableEq, Repr

/-- The housekeeping block beyond its pages (chapter 18). -/
structure Hk where
  reg     : HkRun
  inj     : HkRun
  regLen  : Nat              -- entries of the pass in progress
  injLen  : Nat
  regIdx  : Nat              -- the regular entry in progress, or to restart after an abort (R373)
  cur     : Option HkEntry
  injPass : Nat              -- injected passes, modulo 256 (R377)
  stAgain : Bool             -- an aborted self-test restarts when the injected sequence ends (R375)
  exc     : List ExcMon      -- 4
  pt      : Assoc (Nat × Nat) -- running pulse timers: PERIOD and HIGH of the period in progress (R374)
deriving DecidableEq, Repr

/-- The Regatta ring beyond its page (chapter 19): a HELLO is due (R400); the time of the last change of the bypass, framing
error or ABORT (R398); the time at which FRAMING_ERR was raised last (R384); the default hub number that waits for the next
catch (R399). Then the elastic buffer (R386): its characters, oldest first; whether a frame is being received, and whether the rest
of it is discarded; whether a received frame is being sent; the hub's own frames that wait for a gap, and the characters of the one
begun that have still to leave; the IDLEs that left last in a row, up to two. Then the valid characters in a row at RING_IN, up to
16, and the IDLEs in a row there, up to three (R394), and the time of the last HELLO (R400). Last, the data characters of the frame
being received, while nothing but them has come since its SOF (R389), and the time that has passed, in 2^-32 ns, whatever f_BC is
(log entry 43). -/
structure Ring where
  hello  : Bool
  taint  : Option Nat
  told   : Option Nat
  number : Option Nat
  buf    : List RingChar
  rxIn   : Bool
  rxDrop : Bool
  txIn   : Bool
  own    : Nat
  ownLeft : Nat
  idles  : Nat
  valid  : Nat
  rxIdles : Nat
  helloAt : Nat
  rxBytes : Option (List Byte)
  now     : Nat
deriving DecidableEq, Repr

/-- The supplies and the boundary scan: the rails outside their monitor windows (R394, R431), and the cells of the boundary-scan
chain (R448). -/
structure Pads where
  railsOut : List Nat
  cells    : List Bool
deriving DecidableEq, Repr

/-- The event-matrix sources that fired in one core clock (R59): the crossing, the core clock in it, and the sources. -/
structure Firing where
  cr   : Nat
  cc   : Nat
  srcs : List Nat
deriving DecidableEq, Repr

/-- The whole state of the hub. -/
structure State where
  pending  : List Instr      -- the commands that wait, first in, first out
  out      : List Output     -- what the last command put out
  evtSeen  : List Ev         -- the events of the clock in progress (R47)
  fired    : List (Nat × Nat) -- event-matrix sources that this command has fired, and their core clocks in the crossing
  evmq     : List Firing     -- firings on their way to the task inputs, one for each core clock (R59)
  free     : Nat             -- how many free values have been drawn (the model's own field)
  phase    : Phase
  swept    : List Nat        -- the memories that the sweep has passed (R57), as `memoryOf` numbers them
  regs     : Assoc Word      -- register words that differ from their reset values
  prevRegs : Assoc Word      -- the register words as they stood before the last catch (R22)
  strokeEnd : Assoc Word     -- the register words as the previous stroke left them (R52)
  snap     : Assoc Word      -- snapshot copies of the counters (R52)
  holdC    : Assoc Word      -- holding copies of port C (R53)
  holdG    : Assoc Word
  staged   : List Staged     -- in the order of acceptance, all pages (R41, R43)
  ovf      : List Nat        -- pages whose queue has overflowed in this stroke (R42)
  unlockC  : Bool            -- R44
  unlockG  : Bool
  snapReq  : Bool            -- R52
  arbC     : List ArbReq     -- accesses of port C that wait at the arbiter (R55, R57)
  arbG     : List ArbReq
  served   : Port            -- the port served last (R55)
  clk      : Clk
  time     : Time
  pace     : Pace
  tcuA     : Tcu
  tcuB     : Tcu
  cox      : Cox
  banks    : List BankCal    -- 24
  trimCur  : Assoc Int       -- current trims, by (33 bank + slice) * 64 + index of R128, 58 the skew
  trimCal  : Assoc Int       -- the sequencer's targets
  overs    : List (Nat × Nat) -- slices (33 bank + slice) and samples far beyond the range, last crossing (R125)
  words    : Assoc (BitVec 16) -- corrected words (R124) by (4 crossing + phase) * 1024 + channel; VOID where none is listed
  vals     : Assoc Val       -- baseline values, same keys
  pouts    : Assoc Val       -- Prism outputs by (4 crossing + j) * 1024 + channel
  stat     : Assoc Nat       -- status entries by crossing (R215): COAST 1, RESYNC 2
  cnSegs   : List (Nat × BitVec 64) -- (crossing, its CN) at each jump of CN, newest first
  hubSegs  : List (Nat × Nat)       -- (crossing, HUB_NUMBER) at each change, newest first
  fades    : List Fade
  prevFades : List Fade      -- the fades running before the last catch
  fadeQ    : List FadeReq    -- waiting requests of all banks in order
  profiles : Assoc (Nat × Nat) -- state and LEN of each profile (R164, R165)
  badTaps  : List Nat        -- 256 profile + tap of coefficients with a double-bit error (R170)
  segs     : Assoc (List Seg) -- output streams by channel, newest part first
  marks    : List (Nat × Option Nat) -- catch crossings at which a delay changed, of a channel or of all (R194)
  rateCr   : Assoc Nat       -- the last catch crossing that changed a channel's Prism rate
  prevRateCr : Assoc Nat
  records  : List (BitVec 64) -- the record log (R194), oldest first
  hist     : Assoc Nat       -- trim servo bins by channel * 512 + bin (R192)
  histClr  : Assoc Nat       -- the crossing of the catch that last cleared a channel's histogram
  servoN   : Assoc Nat       -- servo steps of a channel in the current block of 256 st
  wake     : Assoc Val       -- Wake words by stream index * 1024 + channel; VOID where none is listed (R212, R213)
  wakeBad  : List Nat        -- ring row * 1024 + channel of rows with a double-bit error
  accQ     : List Entry      -- the accept queue (R217), head first
  evNo     : Nat             -- the next event number (R242)
  runStart : Nat             -- the crossing of the catch that last started a run (R213)
  startQ   : List (Nat × Nat × Nat) -- stamped START edges that will trigger: edge crossing, input, fine time (R219)
  startLast : Assoc Nat      -- the crossing of the last stamped edge of each input
  presc    : Assoc Nat       -- triggers of a source since the one last kept, by source code (R232)
  hits     : Assoc Nat       -- hub hits HIT by crossing, where not zero (R230)
  nbHits   : Assoc Nat       -- neighbour hits presented, by hit crossing * 4 + port
  selfLast : Option Nat      -- the last crossing that became a self-trigger
  selfSeen : Option Nat      -- the crossing last decided
  coincTold : Option Nat     -- the stroke in which COINC_BLOCKED was raised last
  autoCnt  : Nat             -- catches since a trigger last entered the queue (R231)
  autoDue  : Bool            -- that count reached TIMEOUT at the last catch, and its AUTO trigger has not entered yet (R231)
  nbSt     : Assoc Nat       -- the catch at which a neighbour port's training period began
  nbMsg    : Assoc (Nat × Nat) -- the port message being received: bits taken, value (R233)
  nbErrs   : Assoc (List Nat) -- crossings of a port's recent words with wrong parity, newest first (R236)
  nbMiss   : Assoc Nat       -- catches in a row at which a port's CATCH was missing (R236)
  easyBroken : Bool          -- EASY_BREACH since the last RUN_START (R415)
  frags    : List Frag       -- staging memory, in the order of starting
  fragId   : Nat
  recBad   : List Nat        -- the places in the phase-record log with a double-bit error (R412)
  engines  : Assoc Engine    -- the engines that are coding
  lensStall : Option Nat     -- the stroke in which LENS.STALL was raised last
  lensWait : Option Nat      -- the core clock from which a payload's wait for an engine is still to be counted (R277)
  lensClk  : Nat             -- the core clock of the newest event in Lens: a later one of the same crossing does not precede it (R277)
  offer    : Option Held     -- the offer that waits for room (R281)
  held     : List Held       -- the derandomiser, oldest admission first
  admitId  : Nat
  shedSeen : Bool            -- R243
  tests    : List Nat        -- Pace and Rigger transceivers in TEST, by base address (R315)
  laneFrom : Assoc Nat       -- the first crossing from which a readout lane's idle crossings count (R307)
  txRd     : List Nat        -- transmitters whose running disparity is positive, by base address (R301)
  rxRd     : List Nat        -- receivers whose running disparity is positive (R302)
  rxErr    : Assoc (List Nat) -- the crossings of a receiver's code errors, newest first, by base address (R303)
  codeTold : Assoc Nat       -- code errors of this crossing counted so far, by base address
  rxTail   : Assoc (List Bool) -- the last six bits that an ALIGNED receiver took, where a comma may begin (R303), by base address
  prbs     : Assoc Nat       -- the last bits sent by a pattern generator (R316), by base address
  checks   : Assoc Checker   -- pattern checkers (R317), by base address
  txOff    : List Nat        -- transmitters whose symbol 0 has left its slot (R306)
  loopFrom : Assoc Nat       -- the crossing from which a loop monitor compares (R312)
  loopTold : Assoc Nat       -- the stroke in which LOOP_ERR was raised last
  es       : Assoc Nat       -- the crossing in which a running eye scan started (R318)
  sig      : Assoc (BitVec 32) -- running signatures by 2 base + direction (R314)
  sigRun   : Assoc Nat       -- the stroke of the frames that a Pace lane is receiving, by base address (R314)
  sigDone  : Assoc (BitVec 32 × Nat) -- the last whole receive signature of a Pace lane, and its stroke
  laneBusy : Assoc Nat       -- the last crossing in which a readout lane carried a part of a packet (R307)
  slipWant : Assoc Nat       -- the crossing in which a station began to wait for feathered lanes
  links    : List Link       -- 8
  dmas     : Assoc Dma       -- fragments in progress by station
  slots    : Assoc Slot      -- read slots in use by station * 32 + slot
  fetched  : Assoc (List Desc) -- fetched descriptors of a crew that no fragment uses yet, oldest first
  seats    : Assoc Nat       -- the crew in each seat (R296)
  seatUse  : List Nat        -- seats in use, most recent first
  quiesce  : Assoc Nat       -- the crossing at which a crew entered QUIESCING (R298)
  seatWait : Bool            -- a station waits for a seat
  spillTold : Option Nat     -- the stroke in which SEAT_SPILL was raised last
  slipTold : Option Nat      -- the stroke in which SLIP.REPLAY was raised last
  satHits  : Assoc (List Word) -- placed hits by crossing * 16 + port, in order of arrival (R352)
  satGaps  : List (Nat × Int × Int) -- crossings marked SAT_GAP: port, first, last
  satOut   : Assoc Nat       -- the crossing at which a port left RUN, for a port that is not in RUN
  satFast  : Assoc Nat       -- what the fast command byte of this crossing carries on a Rigger port: 16 CODE + TYPE (R347)
  sats     : List SatPort    -- 16
  passTold : Option Nat      -- the stroke in which SHADOW.PASS_DONE was raised last
  hk       : Hk
  tap      : TapInstr        -- the instruction in force in the test access port (R448)
  pads     : Pads
  ring     : Ring
  tp       : List TpCr       -- newest first
  tpMarks  : List (Nat × Bool) -- catch crossings with STEP; true where the peak finder does not compare across (R207)
  tpLast   : Option (BitVec 16 × BitVec 16 × Nat × Bool) -- hub, CN, GROUP, WIDTH of the frames sent last
deriving DecidableEq, Repr

/-- A link that carries nothing. -/
def linkReset : Link where
  replay := []
  txq := []
  heldq := []
  marker := none
  stall := []
  repQ := []
  repLeft := 0
  repWait := false
  timer := 0
  rowSeq := 0
  rowCnt := 0
  nakSent := false
  rxDue := 0
  ackFrom := none
  reform := false
  ctlq := []
  jobs := []
  redo := []
  redoSent := 0
  lost := [0, 1, 2]
  good := [0, 0, 0]
  mkGood := []
  mkOk := 0
  mkBad := 0
  capSeen := false
  capTold := false
  capSt := 0
  capCr := none

/-- A port that has nothing in progress. -/
def satPortReset : SatPort where
  tx := []
  item := ⟨[], false, false⟩
  itemTold := 0
  asked := none
  queue := []
  dirty := []
  settling := []
  suspect := []
  due := none
  dueCr := none
  retry := none
  next := 0
  passSt := none
  syncDue := false
  syncSt := none
  rt := none
  agree := 0
  learnt := 0
  match_ := 0
  lateTold := none
  stepped := none

/-- A monitor that has seen nothing. -/
def excReset : ExcMon where
  low := 0
  high := 0
  above := 0

/-- Housekeeping at rest. -/
def hkReset : Hk where
  reg := .idle
  inj := .idle
  regLen := 1
  injLen := 1
  regIdx := 0
  cur := none
  injPass := 0
  stAgain := false
  exc := List.replicate 4 excReset
  pt := []

/-- A bank whose page is DISABLED. -/
def bankOff : BankCal where
  spare := 8
  index := 0
  rotIdx := 0
  now := false
  phaseSt := 0
  rests := []
  queue := []
  extended := false
  rotating := false
  attempt := 0
  step := 0
  stepSt := 0
  failed := []
  second := []
  stuckPu := []
  health := List.replicate 33 3
  puDone := false
  ovl := none
  cmp := ⟨0, 0, 0, 0⟩
  backBad := false
  reach := true
  stReq := false
  stFor := none
  pow := 0
  up := 0
  dead := 0
  stuck := []
  runs := []
  hot := []

/-- The clocks at reset (R64, R66, R70): the XO counted from the start, the free-run frequency of the reset XO_RATIO. -/
def clkReset : Clk where
  fbc := 0x35C28F * 25000
  xoStable := false
  xoFailed := false
  gates := [0, 0, 0]
  moving := false
  moveEnd := none
  offset := 0
  moorFreq := none
  coastAt := none

/-- CN, Hub Time and NS32 at reset: zero (R455). -/
def timeReset : Time where
  cr := 0
  cn := 0
  sec := 0
  sub := 0
  ns32 := 0
  catchDue := false
  lastCatch := 0
  catches := 0
  orbitReset := false
  exch := none
  reqSeq := 0
  lastExch := none
  slew := 0
  step := none
  alignTgt := 0
  alignCur := 0
  wakePh := 0
  newAlign := none
  resync := .idle
  irregular := false
  wake := none

/-- The Pace link at reset. -/
def paceReset : Pace where
  runCmd := none
  moorCmd := none
  linkWake := false
  trigErr := 0
  trigErrCr := 0
  frameDue := false
  nE := none
  breach := false
  gapA := ⟨some 0, none⟩
  gapB := ⟨some 0, none⟩
  outGap := ⟨none, none⟩
  quiet := false
  lost := []
  noComma := []
  sent := []
  lastReq := none
  txq := []
  txCur := []

/-- A unit at reset; the one that is not Active waits for its self-test (R423). -/
def tcuReset (due : Bool) : Tcu where
  stStart := none
  stDue := due
  errs := []
  lastReseed := none
  memFrom := 0

/-- The Cox at reset. -/
def coxReset : Cox where
  wait := .none
  waitFrom := 0
  hostSwap := false
  mismatch := false
  voteIn := none

/-- The hub right after the release of its power-on reset (R418, R423): the XO is being counted, RESET_CAUSE reads POR, TCU A is
Active and TCU B in SELFTEST, every other register at its reset value, and every memory as the sweep will leave it. -/
def State.reset : State where
  pending := []
  out := []
  evtSeen := []
  fired := []
  evmq := []
  free := 0
  phase := .xoCount
  swept := []
  regs := [(0x00058, 1), (0x0200C, 1), (0x0300C, 3)]
  prevRegs := [(0x00058, 1), (0x0200C, 1), (0x0300C, 3)]
  strokeEnd := []
  snap := []
  holdC := []
  holdG := []
  staged := []
  ovf := []
  unlockC := false
  unlockG := false
  snapReq := false
  arbC := []
  arbG := []
  served := .C
  clk := clkReset
  time := timeReset
  pace := paceReset
  tcuA := tcuReset false
  tcuB := tcuReset true
  cox := coxReset
  banks := List.replicate 24 bankOff
  trimCur := []
  trimCal := []
  overs := []
  words := []
  vals := []
  pouts := []
  stat := []
  cnSegs := []
  hubSegs := []
  fades := []
  prevFades := []
  fadeQ := []
  profiles := []
  badTaps := []
  segs := []
  marks := []
  rateCr := []
  prevRateCr := []
  records := []
  hist := []
  histClr := []
  servoN := []
  wake := []
  wakeBad := []
  accQ := []
  evNo := 0
  runStart := 0
  startQ := []
  startLast := []
  presc := []
  hits := []
  nbHits := []
  selfLast := none
  selfSeen := none
  coincTold := none
  autoCnt := 0
  autoDue := false
  nbSt := []
  nbMsg := []
  nbErrs := []
  nbMiss := []
  easyBroken := false
  frags := []
  fragId := 0
  recBad := []
  engines := []
  lensStall := none
  lensWait := none
  lensClk := 0
  offer := none
  held := []
  admitId := 0
  shedSeen := false
  tests := []
  laneFrom := []
  txRd := []
  rxRd := []
  rxErr := []
  codeTold := []
  rxTail := []
  prbs := []
  checks := []
  txOff := []
  loopFrom := []
  loopTold := []
  es := []
  sig := []
  sigRun := []
  sigDone := []
  laneBusy := []
  slipWant := []
  links := List.replicate 8 linkReset
  dmas := []
  slots := []
  fetched := []
  seats := []
  seatUse := []
  quiesce := []
  seatWait := false
  spillTold := none
  slipTold := none
  satHits := []
  satGaps := []
  satOut := []
  satFast := []
  sats := List.replicate 16 satPortReset
  passTold := none
  hk := hkReset
  tap := .idcode
  pads := ⟨[], []⟩
  ring := ⟨false, none, none, none, [], false, false, false, 0, 0, 0, 0, 0, 0, none, 0⟩
  tp := []
  tpMarks := []
  tpLast := none

end Sys2Proof.Machine
end

