-- ==== Sys2Proof/Machine/Ops.lean ====
section
/-! DEFINITION. The named operations over the state: register words and fields, events and their sequence numbers (R47),
counters (R50, R51), fault codes (R37), the free values, the outputs, and the few rules that every family uses. -/

namespace Sys2Proof.Machine

/-- `w` bits of `x` from bit `lo`. -/
def bits (x : Word) (lo w : Nat) : Nat := (BitVec.extractLsb' lo w x).toNat

/-- `x` with `v` in the `w` bits from bit `lo`. -/
def setBits (x : Word) (lo w v : Nat) : Word :=
  (x &&& ~~~ BitVec.ofNat 32 ((2 ^ w - 1) * 2 ^ lo)) ||| BitVec.ofNat 32 (v % 2 ^ w * 2 ^ lo)

/-- The signed reading of a `w`-bit number. -/
def signed (w n : Nat) : Int := if n < 2 ^ (w - 1) then n else (n : Int) - 2 ^ w

/-- The `w`-bit two's complement code of an integer. -/
def unsigned (w : Nat) (i : Int) : Nat := (i % (2 ^ w : Nat)).toNat

/-- An integer held between two bounds. -/
def clampI (lo hi i : Int) : Int := if i < lo then lo else if hi < i then hi else i

/-- A quotient rounded toward zero (R86). -/
def truncDiv (a b : Int) : Int := a.tdiv b

/-- A quotient rounded to the nearest integer, ties upward; `b` is positive. -/
def roundDiv (a b : Int) : Int := (2 * a + b) / (2 * b)

namespace State

/-! Register words and fields. -/

/-- The register word at a key. -/
def rd (s : State) (key : Nat) : Word := Assoc.getD resetWord s.regs key

/-- The state with a register word written. -/
def wr (s : State) (key : Nat) (v : Word) : State := { s with regs := Assoc.setD resetWord s.regs key v }

/-- A field's value. -/
def get (s : State) (f : Fld) : Nat := bits (s.rd f.key) f.lo f.w

/-- A field's value read as signed. -/
def geti (s : State) (f : Fld) : Int := signed f.w (s.get f)

/-- A one-bit field. -/
def flag (s : State) (f : Fld) : Bool := s.get f == 1

/-- The state with a field written. -/
def set (s : State) (f : Fld) (v : Nat) : State := s.wr f.key (setBits (s.rd f.key) f.lo f.w v)

/-- The state with a field written with a signed value. -/
def seti (s : State) (f : Fld) (v : Int) : State := s.set f (unsigned f.w v)

/-- The state with a one-bit field written. -/
def setb (s : State) (f : Fld) (b : Bool) : State := s.set f (if b then 1 else 0)

/-- A field as it stood before the last catch (R22). -/
def getPrev (s : State) (f : Fld) : Nat := bits (Assoc.getD resetWord s.prevRegs f.key) f.lo f.w

/-! Events, counters and fault codes. -/

/-- An event occurs: its bit sets, and EVT_SEQ of its page rises by one in this clock, once however many events the page
has in it (R47). -/
def raise (s : State) (e : Ev) : State :=
  let k := e.page * 4096 + 0x010
  let w := s.rd k
  let seen := s.evtSeen.any (fun o => o.page == e.page)
  let seq := if seen then bits w 16 16 else (bits w 16 16 + 1) % 2 ^ 16
  let s := s.wr k (setBits (w ||| BitVec.ofNat 32 (2 ^ e.bit)) 16 16 seq)
  if s.evtSeen.contains e then s else { s with evtSeen := e :: s.evtSeen }

/-- Whether an event's bit is set. -/
def hasEvt (s : State) (e : Ev) : Bool := (s.rd (e.page * 4096 + 0x010)).getLsbD e.bit

/-- A CT-S counter counts `n` (R50): it saturates below its top bit, which is PEGGED; reaching the maximum raises the
page's PEGGED event. -/
def countBy (s : State) (f : Fld) (n : Nat) : State :=
  let lim := 2 ^ (f.w - 1) - 1
  let old := s.get f
  let cur := old % 2 ^ (f.w - 1)
  let new := if cur + n < lim then cur + n else lim
  if new < lim then s.set f (old - cur + new)
  else
    let s := s.set f (2 ^ (f.w - 1) + lim)
    if cur < lim then s.raise (E.PEGGED (f.key / 4096 % 256)) else s

/-- A CT-S counter counts one. -/
def count (s : State) (f : Fld) : State := s.countBy f 1

/-- A CT-W counter counts `n`, wraps and raises its wrap event (R51). -/
def countW (s : State) (f : Fld) (wrap : Ev) (n : Nat := 1) : State :=
  let v := s.get f + n
  let s := s.set f (v % 2 ^ f.w)
  if v < 2 ^ f.w then s else s.raise wrap

/-- The page's FAULT_CODE latches a fault with the crossing's number (R37). -/
def fault (s : State) (pg cls detail : Nat) : State :=
  s.wr (pg * 4096 + 0x01C) (BitVec.ofNat 32 (cls % 256 + detail % 256 * 256 + s.time.cn.toNat % 65536 * 65536))

/-- `k` faults of class `c` of R414 on HEALTH: counted; recorded and raised unless the class is only counted. -/
def healthFaults (s : State) (c k detail : Nat) : State :=
  let s := s.countBy (R.HEALTH_FAULT_CNTc c) k
  if c = 0x01 ∨ c = 0x03 then s else (s.fault 0x06 c detail).raise E.HEALTH_FAULT

/-- One fault of class `c` of R414 (R414). -/
def healthFault (s : State) (c detail : Nat) : State := s.healthFaults c 1 detail

/-! Outputs, event-matrix firings, free values. -/

/-- The hub puts something out. -/
def emit (s : State) (o : Output) : State := { s with out := s.out ++ [o] }

/-- The number under which the next free value is drawn, and the state after the draw. -/
def draw (s : State) : Nat × State := (s.free, { s with free := s.free + 1 })

/-! Pages. -/

/-- PAGE_CTL.ENABLE as active. -/
def enabled (s : State) (pg : Nat) : Bool := s.flag (R.PAGE_CTL_ENABLE pg)

/-- A Pace or Rigger transceiver is in TEST (R315). -/
def inTest (s : State) (xb : Nat) : Bool := s.tests.contains xb

/-- The stored PAGE_STATE.STATE of a page with a state machine. -/
def pstate (s : State) (pg : Nat) : Nat := s.get (R.PAGE_STATE_STATE pg)

/-- A page with a state machine enters a state. -/
def setPstate (s : State) (pg v : Nat) : State := s.set (R.PAGE_STATE_STATE pg) v

/-- The staged entries of a page, in order. -/
def entries (s : State) (pg : Nat) : List Staged := s.staged.filter (fun e => e.page == pg)

/-- The registers clocked by the management clock answer, and the crossing side runs, from the start of the memory
sweep (R66, R455). -/
def alive (s : State) : Bool := s.phase == .sweeping || s.phase == .running

/-- The crossing number as a number. -/
def cnN (s : State) : Nat := s.time.cn.toNat

/-- The position in the stroke, CN mod 256 (R17). -/
def pos (s : State) : Nat := s.time.cn.toNat % 256

/-- Hub Time at the start of the crossing, in 2^-32 ns from second 0 (R81). -/
def hubTime (s : State) : Nat := s.time.sec.toNat * (1000000000 * 2 ^ 32) + s.time.sub

/-- The increment of Hub Time per crossing, TIME.INCR, in 2^-32 ns (R82). -/
def incr (s : State) : Nat := s.get R.TIME_INCR_LO + s.get R.TIME_INCR_HI * 2 ^ 32

/-- The clock state machine's LOCKED to a Pace source (R79): ENABLED with Pace A or Pace B as the source in use. -/
def lockedToPace (s : State) : Bool :=
  s.pstate 0x08 == 1 && decide (s.get R.CLK_STATUS_ACTIVE_SRC < 2)

/-- The data lane (R113). -/
def dataLane (s : State) : PaceLane := if s.get R.PACEA_DATA_LANE = 0 then .A else .B

/-- TIME.STATUS.MOORED (R96). -/
def moored (s : State) : Bool := s.flag R.TIME_STATUS_MOORED

/-- The run state (R104). -/
def running (s : State) : Bool := s.flag R.PACEA_RUN_ACTIVE

/-- The COAST flag (R74). -/
def coast (s : State) : Bool := s.flag R.CLK_STATUS_COAST

/-- A field in the stroke of crossing `n`, which is the present stroke or the one before (R22). -/
def getAt (s : State) (n : Nat) (f : Fld) : Nat := if n < s.time.lastCatch then s.getPrev f else s.get f

/-- A one-bit field in the stroke of crossing `n`. -/
def flagAt (s : State) (n : Nat) (f : Fld) : Bool := s.getAt n f == 1

/-- A signed field in the stroke of crossing `n`. -/
def getiAt (s : State) (n : Nat) (f : Fld) : Int := signed f.w (s.getAt n f)

/-- The CN of crossing `n` (R216). -/
def cnAt (s : State) (n : Nat) : BitVec 64 :=
  match s.cnSegs.find? (fun e => decide (e.1 ≤ n)) with
  | some (c, v) => v + BitVec.ofNat 64 (n - c)
  | none => BitVec.ofNat 64 n

/-- The hub number in force in crossing `n` (R14). -/
def hubAt (s : State) (n : Nat) : Nat :=
  match s.hubSegs.find? (fun e => decide (e.1 ≤ n)) with
  | some (_, v) => v
  | none => 0

end State

/-! Lists. -/

/-- The state after a fold over a list. -/
def forEach {α : Type} (l : List α) (s : State) (f : State → α → State) : State := l.foldl f s

/-- The value of the first entry of a list of a given key. -/
def lookupNat {α : Type} (l : List (Nat × α)) (k : Nat) : Option α := (l.find? (fun e => e.1 == k)).map (·.2)

end Sys2Proof.Machine
end

