-- ==== Sys2Proof/Machine/Operands.lean ====
section
/-! DEFINITION. The forms in which operands reach the hub and results leave it: the CRCs of the links (R107, R260, R389),
line symbols, trigger bytes (R100), fast commands (R102), control frames (R107, R108). -/

namespace Sys2Proof.Machine

/-! Checks over bytes. -/

/-- One bit of the CRC-16 of R107: polynomial 0x1021, most significant bit first. -/
def crc16Bit (c : BitVec 16) : BitVec 16 := if c.getLsbD 15 then (c <<< 1) ^^^ 0x1021 else c <<< 1

/-- One byte of the CRC-16. -/
def crc16Byte (c : BitVec 16) (b : Byte) : BitVec 16 :=
  (List.range 8).foldl (fun c _ => crc16Bit c) (c ^^^ (b.zeroExtend 16 <<< 8))

/-- CRC-16 over bytes, initial value 0xFFFF, no final XOR (R107). -/
def crc16 (l : List Byte) : BitVec 16 := l.foldl crc16Byte 0xFFFF

/-- One bit of a reflected CRC-32C (polynomial 0x1EDC6F41, least significant bit first). -/
def crc32cBit (c : BitVec 32) : BitVec 32 := if c.getLsbD 0 then (c >>> 1) ^^^ 0x82F63B78 else c >>> 1

/-- One byte of the CRC-32C. -/
def crc32cByte (c : BitVec 32) (b : Byte) : BitVec 32 :=
  (List.range 8).foldl (fun c _ => crc32cBit c) (c ^^^ b.zeroExtend 32)

/-- The running CRC-32C of bytes from a register value. -/
def crc32cFrom (c : BitVec 32) (l : List Byte) : BitVec 32 := l.foldl crc32cByte c

/-- CRC-32C over bytes (R260): initial value and final XOR 0xFFFF_FFFF. -/
def crc32c (l : List Byte) : BitVec 32 := crc32cFrom 0xFFFFFFFF l ^^^ 0xFFFFFFFF

/-- The `n` low bytes of a number, least significant first (R5). -/
def leBytes (n v : Nat) : List Byte := (List.range n).map (fun i => BitVec.ofNat 8 (v / 2 ^ (8 * i)))

/-- The number that little-endian bytes spell. -/
def ofLeBytes : List Byte → Nat
  | [] => 0
  | b :: l => b.toNat + 256 * ofLeBytes l

/-! Line symbols. -/

/-- A data symbol. -/
def symD (b : Byte) : LineSym := b.zeroExtend 10

/-- A special code group by its byte. -/
def symK (b : Byte) : LineSym := b.zeroExtend 10 ||| 0x100

/-- K28.0, between control frames. -/
def k280 : LineSym := symK 0x1C

/-- The symbols of a control frame (R107): K27.7, the bytes, the CRC-16 high byte first, K29.7. -/
def controlSyms (bytes : List Byte) : List LineSym :=
  let c := crc16 bytes
  [symK 0xFB] ++ bytes.map symD ++ [symD (c.extractLsb' 8 8), symD (c.extractLsb' 0 8), symK 0xFD]

/-! Trigger bytes and fast commands. -/

/-- The number of ones of a byte. -/
def ones (b : Byte) : Nat := ((List.range 8).filter (fun i => b.getLsbD i)).length

/-- A trigger byte is valid (R100): an odd number of ones, bits [2:1] zero. -/
def trigValid (b : Byte) : Bool := ones b % 2 == 1 && !b.getLsbD 1 && !b.getLsbD 2

/-- ACCEPT of a trigger byte. -/
def trigAccept (b : Byte) : Bool := b.getLsbD 7

/-- TYPE of a trigger byte. -/
def trigType (b : Byte) : Nat := b.toNat / 8 % 16

/-- Symbols 2 and 3 carry a correct command, or none (R102): the complement matches, the code is defined, and the argument
is zero for every code but CAL_PULSE. -/
def cmdOk (sym2 sym3 : Byte) : Bool :=
  let code := sym2.toNat / 16
  let arg := sym2.toNat % 16
  sym3 == ~~~ sym2 && decide (code ≤ 8) && (arg == 0 || code == 6)

end Sys2Proof.Machine
end

