-- ==== Sys2Proof/Machine/Serial.lean ====
section
/-! DEFINITION. What the serial transceivers share (chapter 15): the blocks of the transceivers (R300, R320), the 8b/10b code (R301,
R302) and the test patterns (R316). The code groups are those of IEEE 802.3 clause 36, which R301 names and does not reprint
(PRESUMED, log entry 56). -/

namespace Sys2Proof.Machine

/-! Transceivers. -/

/-- The base address of a transceiver's block (R320). -/
def xcvrBase : Xcvr → Nat
  | .lane n => (0x50 + n.val) * 4096
  | .pace l => l.page * 4096 + 0x1C0
  | .sat p => (0x78 + p.val) * 4096 + 0x1C0

/-- The page of a transceiver. -/
def xcvrPage (x : Xcvr) : Nat := xcvrBase x / 4096

/-- The lane number of a transceiver on a LANE page. -/
def xcvrLane : Xcvr → Option Nat
  | .lane n => some n.val
  | .pace _ => none
  | .sat _ => none

/-- A transceiver has a receiver: LANE24 to LANE31 have none (R300). -/
def hasRx (x : Xcvr) : Bool := match xcvrLane x with
  | some n => decide (n < 24)
  | none => true

/-- Symbols per crossing (R300). -/
def symsPerCr (x : Xcvr) : Nat := if (xcvrLane x).isSome then 40 else 8

/-- Every transceiver. -/
def allXcvrs : List Xcvr :=
  (List.finRange 32).map .lane ++ [.pace .A, .pace .B] ++ (List.finRange 16).map .sat

/-! The 8b/10b code. Sub-blocks are written with bit a, or f, leftmost. -/

/-- The sub-block abcdei of D.x, at negative running disparity. -/
def sixTable : List Nat :=
  [0b100111, 0b011101, 0b101101, 0b110001, 0b110101, 0b101001, 0b011001, 0b111000,
   0b111001, 0b100101, 0b010101, 0b110100, 0b001101, 0b101100, 0b011100, 0b010111,
   0b011011, 0b100011, 0b010011, 0b110010, 0b001011, 0b101010, 0b011010, 0b111010,
   0b110011, 0b100110, 0b010110, 0b110110, 0b001110, 0b101110, 0b011110, 0b101011]

/-- The sub-block fghj of D.x.y, at negative running disparity after abcdei. -/
def fourTable : List Nat := [0b1011, 0b1001, 0b0101, 0b1100, 0b1101, 0b1010, 0b0110, 0b1110]

/-- The sub-block fghj of K.x.y, at negative running disparity after abcdei. -/
def fourTableK : List Nat := [0b1011, 0b0110, 0b1010, 0b1100, 0b1101, 0b0101, 0b1001, 0b0111]

/-- The ones among the low `n` bits of a number. -/
def onesOf (n v : Nat) : Nat := ((List.range n).filter (fun i => v.testBit i)).length

/-- The running disparity, true where positive, after a sub-block of `n` bits. -/
def dispAfter (rd : Bool) (n v : Nat) : Bool :=
  let k := onesOf n v
  if n < 2 * k then true
  else if 2 * k < n then false
  else if n = 6 then (if v = 0b000111 then true else if v = 0b111000 then false else rd)
  else (if v = 0b0011 then true else if v = 0b1100 then false else rd)

/-- A sub-block at either running disparity, from its form at the negative one: unbalanced blocks and the two balanced blocks that
the code keeps apart are complemented at the positive one. -/
def blockAt (rd : Bool) (n v : Nat) : Nat :=
  if rd && (2 * onesOf n v != n || (n == 6 && v == 0b111000) || (n == 4 && v == 0b1100)) then 2 ^ n - 1 - v else v

/-- The sub-blocks abcdei and fghj of a symbol at a running disparity. -/
def subBlocks (rd : Bool) (y : LineSym) : Nat × Nat :=
  let b := y.toNat % 256
  let x := b % 32
  let k := y.getLsbD 8
  let six := blockAt rd 6 (if k && x == 28 then 0b001111 else (sixTable[x]?).getD 0)
  let rd := dispAfter rd 6 six
  let four :=
    if k then
      let v := (fourTableK[b / 32]?).getD 0
      if rd then 15 - v else v
    else if b / 32 = 7 ∧ (if rd then x = 11 ∨ x = 13 ∨ x = 14 else x = 17 ∨ x = 18 ∨ x = 20) then (if rd then 0b1000 else 0b0111)
    else blockAt rd 4 ((fourTable[b / 32]?).getD 0)
  (six, four)

/-- The code group of a symbol at a running disparity: bit a is sent first and is the lowest (R301). -/
def codeGroup (rd : Bool) (y : LineSym) : BitVec 10 :=
  let s := subBlocks rd y
  (BitVec.ofNat 10 (s.1 * 16 + s.2)).reverse

/-- The running disparity after a group of ten bits, valid or not. -/
def dispNext (rd : Bool) (g : BitVec 10) : Bool :=
  let v := g.reverse.toNat
  dispAfter (dispAfter rd 6 (v / 16)) 4 (v % 16)

/-- The code groups that symbols take in turn, and the running disparity after them. -/
def encodeAll : Bool → List LineSym → List (BitVec 10) × Bool
  | rd, [] => ([], rd)
  | rd, y :: ys =>
    let g := codeGroup rd y
    let r := encodeAll (dispNext rd g) ys
    (g :: r.1, r.2)

/-- The bytes of the twelve special code groups. -/
def specials : List Byte := [0x1C, 0x3C, 0x5C, 0x7C, 0x9C, 0xBC, 0xDC, 0xFC, 0xF7, 0xFB, 0xFD, 0xFE]

/-- The error symbol that a receiver delivers for a code error (R302, R314). -/
def errorSym : LineSym := 0x200

/-- The symbol of a received group at the receiver's running disparity: the error symbol where it is no valid code group for it
(R302). The sub-block abcdei leaves at most one x of D.x. -/
def decodeGroup (rd : Bool) (g : BitVec 10) : LineSym :=
  let data := match sixTable.findIdx? (fun t => blockAt rd 6 t == g.reverse.toNat / 16) with
    | some x => (List.range 8).map (fun y => symD (BitVec.ofNat 8 (32 * y + x)))
    | none => []
  ((data ++ specials.map symK).find? (fun y => codeGroup rd y == g)).getD errorSym

/-- The symbols of received groups, and the running disparity after them, which every group moves (R302). -/
def decodeAll : Bool → List (BitVec 10) → List LineSym × Bool
  | rd, [] => ([], rd)
  | rd, g :: gs =>
    let r := decodeAll (dispNext rd g) gs
    (decodeGroup rd g :: r.1, r.2)

/-- The bits of groups in the order sent. -/
def bitsOf (gs : List (BitVec 10)) : List Bool := gs.flatMap (fun g => (List.range 10).map (fun i => g.getLsbD i))

/-- Seven bits are a comma: 0011111 or 1100000 in the order received (R303). -/
def isComma (l : List Bool) : Bool :=
  l == [false, false, true, true, true, true, true] || l == [true, true, false, false, false, false, false]

/-- The groups, by place, in which a comma ends that does not begin with bit a of a group; `tail` are the six bits before them. -/
def commasAstray (tail : List Bool) (gs : List (BitVec 10)) : List Nat :=
  let bs := tail ++ bitsOf gs
  ((List.range (10 * gs.length)).filter (fun i =>
    i % 10 != 6 && isComma ((bs.drop (i + tail.length - 6)).take 7))).map (· / 10)

/-! Test patterns. -/

/-- The exponents of a pattern's polynomial x^a + x^b + 1 (R316). -/
def prbsTaps (pat : Nat) : Nat × Nat :=
  if pat = 0 then (7, 6) else if pat = 1 then (15, 14) else if pat = 2 then (23, 18) else (31, 28)

/-- The next bit of a pattern after the bits that `reg` holds, the latest lowest. -/
def prbsBit (pat reg : Nat) : Bool := (reg.testBit ((prbsTaps pat).1 - 1)) != (reg.testBit ((prbsTaps pat).2 - 1))

/-- A bit joins the bits that a pattern's register holds. -/
def prbsPush (pat reg : Nat) (b : Bool) : Nat := (2 * reg + b.toNat) % 2 ^ (prbsTaps pat).1

/-- The next `n` bits of a pattern, and its register after them. -/
def prbsBits (pat : Nat) : Nat → Nat → List Bool × Nat
  | 0, reg => ([], reg)
  | n + 1, reg =>
    let b := prbsBit pat reg
    let r := prbsBits pat n (prbsPush pat reg b)
    (b :: r.1, r.2)

/-- Ten bits as a group, the first lowest. -/
def groupOfBits (l : List Bool) : BitVec 10 := BitVec.ofNat 10 (l.foldr (fun b v => b.toNat + 2 * v) 0)

/-- A stream of bits, ten at a time. -/
def groupBits : Nat → List Bool → List (BitVec 10)
  | 0, _ => []
  | n + 1, l => groupOfBits (l.take 10) :: groupBits n (l.drop 10)

namespace State

/-! What receivers and pattern checkers hold. -/

/-- RX_STATE. -/
def rxState (s : State) (xb : Nat) : Nat := s.get (R.LANE_STATUS_RX_STATE xb)

/-- A running eye scan is aborted (R318). -/
def esAbort (s : State) (xb : Nat) : State :=
  if (Assoc.find? s.es xb).isSome then { s with es := Assoc.del s.es xb }.set (R.LANE_STATUS_ES_ABORT xb) 1 else s

/-- The receiver is switched off: RX_STATE is DOWN. -/
def rxOff (s : State) (xb : Nat) : State :=
  (if s.rxState xb = 2 then s.esAbort xb else s).set (R.LANE_STATUS_RX_STATE xb) 0

/-- Running disparity of a transmitter, true where positive (R301). -/
def txDisp (s : State) (xb : Nat) : Bool := s.txRd.contains xb

/-- The transmitter's running disparity takes a value. -/
def setTxDisp (s : State) (xb : Nat) (rd : Bool) : State :=
  { s with txRd := if rd then (if s.txRd.contains xb then s.txRd else xb :: s.txRd) else s.txRd.filter (· != xb) }

/-- Coding starts at negative disparity (R301). -/
def codeStart (s : State) (xb : Nat) : State := s.setTxDisp xb false

/-- The receiver's running disparity takes a value (R302). -/
def setRxDisp (s : State) (xb : Nat) (rd : Bool) : State :=
  { s with rxRd := if rd then (if s.rxRd.contains xb then s.rxRd else xb :: s.rxRd) else s.rxRd.filter (· != xb) }

/-- Symbols leave a transmitter coded (R301). The legs of a transmitter with TX_CFG.INV = 1 are swapped (R310). -/
def sendSyms (s : State) (xb : Nat) (ys : List LineSym) : State :=
  if ys.isEmpty then s
  else
    let r := encodeAll (s.txDisp xb) ys
    (s.setTxDisp xb r.2).emit (.line xb (if s.flag (R.LANE_TX_CFG_INV xb) then r.1.map (~~~ ·) else r.1))

/-- A pattern generator starts (R316); the bits that its register holds then are not stated: a free value other than zero (log
entry 2). -/
def prbsStart (s : State) (xb : Nat) : State :=
  let d := s.draw
  let n := (prbsTaps (s.get (R.LANE_TEST_TX_PAT xb))).1
  { d.2 with prbs := Assoc.put d.2.prbs xb (1 + Config.free d.1 % (2 ^ n - 1)) }

/-- A pattern checker that holds no bits yet (R317). -/
def checkIdle : Checker := ⟨0, 0, 0, 0, [], 0⟩

/-- A pattern checker. -/
def checker (s : State) (xb : Nat) : Checker := Assoc.getD (fun _ => checkIdle) s.checks xb

/-- A pattern checker takes a value. -/
def setChecker (s : State) (xb : Nat) (c : Checker) : State := { s with checks := Assoc.put s.checks xb c }

/-- One bit of the stream reaches a checker of pattern `pat`, locked or not (R317). Unlocked, it seeds itself with the bit and compares
the bit with its prediction once it holds enough of them: the 64th match in a row locks it. Locked, it runs freely and notes a
mismatch: the 64th among the last 1,024 bits ends the lock, and it seeds itself again. -/
def checkBit (pat : Nat) (locked : Bool) (c : Checker) (b : Bool) : Bool × Checker :=
  let n := (prbsTaps pat).1
  let p := prbsBit pat c.reg
  if locked then
    let miss := if p = b then c.miss else c.bits :: c.miss.filter (fun i => decide (c.bits < i + 1024))
    if 64 ≤ miss.length then (false, { checkIdle with turns := c.turns + 1 })
    else (true, { c with reg := prbsPush pat c.reg p, bits := c.bits + 1, miss := miss })
  else
    let run := if c.have_ < n then 0 else if p = b then c.run + 1 else 0
    let c := { c with reg := prbsPush pat c.reg b, have_ := min n (c.have_ + 1), run := run }
    if 64 ≤ run then (true, { c with run := 0, bits := 0, miss := [], turns := c.turns + 1 }) else (false, c)

/-- The checker is locked: as STATUS.CHK_LOCK told last, turned as often as it has locked or lost its lock since (R317). -/
def locked (s : State) (xb : Nat) : Bool :=
  s.flag (R.LANE_STATUS_CHK_LOCK xb) != decide ((s.checker xb).turns % 2 = 1)

end State

end Sys2Proof.Machine
end

