-- ==== Sys2Proof/Machine/Clk.lean ====
section
/-! DEFINITION. Clocks (chapter 03): frequencies, readiness, loss and coast, the switch at a catch, relock. -/

namespace Sys2Proof.Machine

/-! Frequencies in units of 1,000/2^21 Hz. -/

/-- A kHz figure. -/
def khz (n : Nat) : Nat := n * 2 ^ 21

/-- A gate's COUNT of crossings over 65,536 XO cycles (R67). -/
def gateFreq (count : Nat) : Nat := count * 800000

/-- The XO free-run frequency of an XO_RATIO (R61). -/
def xoFreq (ratio : Nat) : Nat := ratio * 25000

namespace State

/-- The band of R67 holds a frequency. -/
def inBand (s : State) (f : Nat) : Bool :=
  decide (khz (s.get R.CLK_BAND_FLOOR) ≤ f) && decide (f ≤ khz (s.get R.CLK_BAND_CEIL))

/-- The free-run frequency as programmed. -/
def xoNow (s : State) : Nat := xoFreq (s.get R.CLK_XO_RATIO)

/-- The frequency of a source: as programmed for the XO, whose gate counts its own cycles (log entry 66), as last measured for the
others (R67). -/
def srcFreq (s : State) (src : Nat) : Nat :=
  if src = 3 then s.xoNow else gateFreq (s.get (R.CLK_SRC_FREQn_COUNT src))

/-- The frequency by which R71 judges a target: as last measured (R67); that of an XO which no gate has measured yet, as
programmed (DESIGN CHOICE, log entry 66). -/
def srcMeasured (s : State) (src : Nat) : Nat :=
  if src = 3 ∧ !s.flag (R.CLK_SRC_FREQn_VALID 3) then s.xoNow else gateFreq (s.get (R.CLK_SRC_FREQn_COUNT src))

/-- A frequency lies within ±200 ppm of the present f_BC (R70, R71). While f_BC moves, the present f_BC is its value before the
move, or after it where the move goes down (DESIGN CHOICE, log entry 66). -/
def near (s : State) (f : Nat) : Bool :=
  decide (((f : Int) - s.clk.fbc).natAbs * 1000000 ≤ 200 * s.clk.fbc)

/-- READY flag of a source (R68). -/
def ready (s : State) (src : Nat) : Bool := s.flag ⟨0x08054, 8 + src, 1⟩

/-- A READY flag takes a value; a change raises READY_CHANGE. -/
def setReady (s : State) (src : Nat) (b : Bool) : State :=
  if s.ready src = b then s else (s.setb ⟨0x08054, 8 + src, 1⟩ b).raise E.CLK_READY_CHANGE

/-- READY_XO follows the XO's stability and the programmed frequency (R68). -/
def refreshReadyXo (s : State) : State :=
  s.setReady 3 (s.clk.xoStable && !s.clk.xoFailed && s.inBand s.xoNow)

/-- A source is in use: the clock state is ENABLED, RAMP or ACQUIRE (R72). -/
def sourceInUse (s : State) : Bool := s.pstate 0x08 == 1 || s.pstate 0x08 == 3 || s.pstate 0x08 == 4

/-- COAST is entered and the outputs step down to the band floor (R74). -/
def enterCoast (s : State) : State :=
  let s := (s.setPstate 0x08 2).set R.CLK_STATUS_COAST 1
  let s := (s.set R.CLK_STATUS_LOCKED 0).raise E.CLK_COAST_ENTER
  let s := s.count R.CLK_COAST_CNT
  { s with clk := { s.clk with
    fbc := khz (s.get R.CLK_BAND_FLOOR), moving := false, moveEnd := none, coastAt := some s.time.cr } }

/-- The source in use is lost for `cause` (R73, R74); nothing is declared while Moored (R428) or with no source in use. An XO in use that
fails is both a source loss, class 0x01, and an XO fault, class 0x02; FAULT_CODE keeps 0x02 (DESIGN CHOICE, log entry 66). -/
def loseSource (s : State) (cause : Nat) : State :=
  if s.sourceInUse && !s.moored then
    let src := s.get R.CLK_STATUS_ACTIVE_SRC
    let s := (s.set R.CLK_LOSS_CAUSE cause).raise E.CLK_SOURCE_LOST
    let s := s.fault 0x08 (if cause = 5 then 2 else 1) src
    s.enterCoast.healthFault 0x0A src
  else s

/-- The READY flag and the gate count of a source fall (R68). -/
def unready (s : State) (src : Nat) : State :=
  let s := { s with clk := { s.clk with gates := s.clk.gates.set src 0 } }
  s.setReady src false

/-- A Pace lane meets a loss criterion of R73: its READY flag clears, and if it is the source in use, it is lost. -/
def clkLaneLost (s : State) (l : PaceLane) (cause : Nat) : State :=
  let s := s.unready l.idx
  if s.get R.CLK_STATUS_ACTIVE_SRC = l.idx then s.loseSource cause else s

/-- One source's part of a frequency gate (R67, R68): its count, its gates in a row, its READY flag; a source in use that
drifts out of band is lost (R73). READY_XO follows the programmed frequency, not the gate, so no gate declares an XO in use lost
for its frequency (DESIGN CHOICE, log entry 66). -/
def gateOne (s : State) (src : Nat) (g : GateCount) : State :=
  let s := (s.set (R.CLK_SRC_FREQn_COUNT src) g.count.toNat).set (R.CLK_SRC_FREQn_VALID src) 1
  if src = 3 then s.refreshReadyXo
  else
    let inb := s.inBand (gateFreq g.count.toNat)
    let lock := if src = 2 then g.good
      else g.good && (s.pstate (0x0E + src) == 1 || s.pstate (0x0E + src) == 4)
        && !s.inTest ((0x0E + src) * 4096 + 0x1C0)
    let n := if inb && lock then min 2 ((s.clk.gates[src]?).getD 0 + 1) else 0
    let was := s.ready src
    let s := { s with clk := { s.clk with gates := s.clk.gates.set src n } }
    let drop := !inb || (src == 2 && !g.good)
    let s := s.setReady src (n == 2 || (was && !drop))
    let s := if s.get R.CLK_STATUS_ACTIVE_SRC = src ∧ (s.pstate 0x08 = 1 ∨ s.pstate 0x08 = 4) ∧ !s.moored
      then { s with clk := { s.clk with fbc := gateFreq g.count.toNat } } else s
    if was && !inb && s.get R.CLK_STATUS_ACTIVE_SRC == src then s.loseSource 6 else s

/-- A move of f_BC to the free-run frequency beyond ±200 ppm (R70, R72): COAST is set; a rise ends when the ramp is
done, a fall within 2 cr. -/
def moveToXo (s : State) : State :=
  let s := s.set R.CLK_STATUS_COAST 1
  let s := { s with clk := { s.clk with coastAt := some s.time.cr } }
  if s.clk.fbc < s.xoNow then { s with clk := { s.clk with moving := true, moveEnd := none } }
  else { s with clk := { s.clk with moving := true, moveEnd := some (s.time.cr + 2), fbc := s.xoNow } }

/-- f_BC follows the programmed free-run frequency: within ±200 ppm the loops follow it, else it moves (R70, R72). -/
def followXo (s : State) : State :=
  if s.near s.xoNow then { s with clk := { s.clk with fbc := s.xoNow } } else s.moveToXo

/-- The hub runs on the XO after the CLK page is disabled or reset (R70); `phase` is the target's measured phase. A Moored hub's
loops already run from the XO, at the recorded ratio, and stay there (R96). -/
def clkDisable (s : State) (phase : Int) : State :=
  let s := (s.setPstate 0x08 0).set R.CLK_STATUS_ACTIVE_SRC 3
  if s.moored then s.set R.CLK_STATUS_LOCKED 1
  else if s.near s.xoNow then
    let s := (s.set R.CLK_STATUS_LOCKED 1).seti R.CLK_SWITCH_OFFSET phase
    { s with clk := { s.clk with fbc := s.xoNow, offset := phase, moving := false, moveEnd := none } }
  else (s.set R.CLK_STATUS_LOCKED 0).moveToXo

/-- A switch to a READY target at a catch (R69, R71, R79): phase-continuous from a locked clock within ±200 ppm, else
as a relock from the band floor; in RAMP and ACQUIRE, and while f_BC moves, always as a relock (DESIGN CHOICE, log entry 66: R79
has rows for ENABLED and DISABLED only). While Moored the switch only names the source to which the hub will relock (R96,
R428). -/
def clkSwitch (s : State) (src : Nat) (phase : Int) : State :=
  if s.moored then (s.set R.CLK_STATUS_ACTIVE_SRC src).setPstate 0x08 (if s.pstate 0x08 = 0 then 1 else s.pstate 0x08)
  else if s.near (s.srcMeasured src) && !s.clk.moving && (s.pstate 0x08 == 0 || s.pstate 0x08 == 1) then
    let f := s.srcFreq src
    let s := (s.set R.CLK_STATUS_ACTIVE_SRC src).setPstate 0x08 1
    let s := (s.set R.CLK_STATUS_LOCKED 1).seti R.CLK_SWITCH_OFFSET phase
    { s with clk := { s.clk with fbc := f, offset := phase } }
  else (s.enterCoast.set R.CLK_STATUS_ACTIVE_SRC src).setPstate 0x08 3

/-- The SRC_SEL switch that a staged CLK set asks for, if any (R69, R70, R76): enabling the page counts as a switch from
the XO, and a write that names the source in use is none. -/
def clkSwitchAsked (s0 cand : State) (es : List Staged) : Option Nat :=
  let src := cand.get R.CLK_SRC_SEL_SRC
  if !cand.enabled 0x08 then none
  else if !s0.enabled 0x08 then (if src = 3 then none else some src)
  else if es.any (fun e => e.key == R.CLK_SRC_SEL_SRC.key) && src != s0.get R.CLK_STATUS_ACTIVE_SRC then some src
  else none

/-- The conditions of R72 on the registers as a CLK set would leave them. A source in use that no gate has measured yet (VALID = 0)
fails none of them (DESIGN CHOICE, log entry 66). -/
def clkBandBad (s0 cand : State) : Bool :=
  let lo := cand.get R.CLK_BAND_FLOOR
  let hi := cand.get R.CLK_BAND_CEIL
  let src := s0.get R.CLK_STATUS_ACTIVE_SRC
  decide (lo < 30000) || decide (50000 < hi) || decide (hi < lo + 20)
    || (s0.sourceInUse && s0.flag (R.CLK_SRC_FREQn_VALID src)
        && !cand.inBand (gateFreq (s0.get (R.CLK_SRC_FREQn_COUNT src))))
    || decide (cand.xoNow < khz 30000) || decide (khz 50000 < cand.xoNow)

/-- A CLK set's part after its registers have applied: the page disabled or enabled, a switch, a change of ratio. -/
def clkApplied (s0 s : State) (es : List Staged) (phase : Int) : State :=
  let s := s.refreshReadyXo
  let ratio := s.get R.CLK_XO_RATIO != s0.get R.CLK_XO_RATIO
  if !s.enabled 0x08 then
    if s0.enabled 0x08 then s.clkDisable phase
    else if ratio && !s.moored then s.followXo
    else s
  else
    match clkSwitchAsked s0 s es with
    | some src =>
      if s.pstate 0x08 = 2 then s
      else s.clkSwitch src phase
    | none =>
      let s := if s0.enabled 0x08 then s else (s.setPstate 0x08 1).set R.CLK_STATUS_LOCKED 1
      if ratio && !s.moored && (s.pstate 0x08 == 1 || s.pstate 0x08 == 4) && s.get R.CLK_STATUS_ACTIVE_SRC == 3 then
        s.followXo
      else s

/-- The relock source of R75, with READY flags as they stood before the catch: the selected source, else the first
enabled and READY entry of FALLBACK; `true` marks one from the list. -/
def relockSource (s0 s : State) : Option (Nat × Bool) :=
  let sel := s.get R.CLK_SRC_SEL_SRC
  let fb := [(R.CLK_FALLBACK_FB0, R.CLK_FALLBACK_EN0), (R.CLK_FALLBACK_FB1, R.CLK_FALLBACK_EN1),
    (R.CLK_FALLBACK_FB2, R.CLK_FALLBACK_EN2)]
  if s0.ready sel then some (sel, false)
  else ((fb.filter (fun e => s.flag e.2 && s0.ready (s.get e.1))).head?).map (fun e => (s.get e.1, true))

/-- In COAST, the relock choice at a catch (R75). -/
def clkRelock (s0 s : State) : State :=
  if s.pstate 0x08 = 2 ∧ !s.moored then
    match relockSource s0 s with
    | none => s
    | some (src, fromList) =>
      let s := (s.set R.CLK_STATUS_ACTIVE_SRC src).setPstate 0x08 3
      if fromList then s.raise E.CLK_FALLBACK_TAKEN else s
  else s

/-- COAST clears at a catch reached in LOCKED with no move in progress (R70, R72, R78). -/
def clkCatchStart (s : State) : State :=
  if s.coast && (s.pstate 0x08 == 1 || s.pstate 0x08 == 0) && !s.clk.moving then s.set R.CLK_STATUS_COAST 0 else s

/-- A move of f_BC to the XO has ended: the hub is LOCKED in ENABLED and DISABLED, and in ACQUIRE once it has acquired (R70, R72, R78). -/
def moveDone (s : State) : State :=
  let s := if s.pstate 0x08 = 0 ∨ s.pstate 0x08 = 1 then s.set R.CLK_STATUS_LOCKED 1 else s
  { s with clk := { s.clk with moving := false, moveEnd := none } }

/-- The clocks' part of a crossing: a fall that has ended, and COAST_CR. -/
def clkTick (s : State) : State :=
  let s := match s.clk.moveEnd with
    | some e => if e ≤ s.time.cr then s.moveDone else s
    | none => s
  if s.coast then s.count R.CLK_COAST_CR else s

/-- Mooring records f_BC against the XO and runs the loops from the XO at that ratio (R96), which ends a move in progress. -/
def clkMoor (s : State) : State :=
  let s := if s.pstate 0x08 = 0 then s.set R.CLK_STATUS_LOCKED 1 else s
  { s with clk := { s.clk with moorFreq := some s.clk.fbc, moving := false, moveEnd := none } }

/-- The relock on waking (R97, R429): from the source in use through RAMP and ACQUIRE, or COAST until one is READY. A hub
whose CLK page is DISABLED goes from the recorded ratio to the free-run frequency (R70). -/
def clkWake (s : State) : State :=
  let s := { s with clk := { s.clk with moorFreq := none } }
  if s.enabled 0x08 then
    let s := s.enterCoast
    if s.ready (s.get R.CLK_STATUS_ACTIVE_SRC) then s.setPstate 0x08 3 else s
  else if s.near s.xoNow then { s with clk := { s.clk with fbc := s.xoNow } }
  else (s.set R.CLK_STATUS_LOCKED 0).moveToXo

/-! The commands of the clocks. -/

/-- FREQ_GATE (R67). -/
def doFreqGate (s : State) (a b c x : GateCount) : State :=
  if s.alive && s.clk.xoStable then (((s.gateOne 0 a).gateOne 1 b).gateOne 2 c).gateOne 3 x else s

/-- XO_FAULT (R73): the amplitude detector has failed; the XO must be judged stable again before it is READY (R68). -/
def doXoFault (s : State) : State :=
  if s.alive && s.clk.xoStable then
    let s := { s with clk := { s.clk with xoFailed := true } }
    let s := ((s.raise E.CLK_XO_FAULT).setReady 3 false).fault 0x08 2 3
    if s.get R.CLK_STATUS_ACTIVE_SRC = 3 then s.loseSource 5 else s
  else s

/-- SOURCE_LOST (R73): a criterion other than those of a lane's DOWN and of the XO, with a source that it applies to. -/
def doSourceLost (s : State) (cause : Nat) : State :=
  let src := s.get R.CLK_STATUS_ACTIVE_SRC
  let fits := (decide (src < 2) && (cause == 1 || cause == 2 || cause == 4 || cause == 7))
    || (src == 2 && (cause == 3 || cause == 4)) || (src == 3 && cause == 4)
  if cause = 5 then s.doXoFault
  else if s.alive && fits && s.sourceInUse && !s.moored then
    let s := if decide (2 ≤ src) && cause == 4 then s else s.unready src
    s.loseSource cause
  else s

/-- RAMP_DONE (R77): f_BC has reached the target of a relock, or of a move to the XO; a Moored hub ramps nowhere (R96). -/
def doRampDone (s : State) : State :=
  if s.moored then s
  else if s.alive && s.pstate 0x08 == 3 then
    { s.setPstate 0x08 4 with clk := { s.clk with fbc := s.srcFreq (s.get R.CLK_STATUS_ACTIVE_SRC) } }
  else if s.alive && s.clk.moving && s.clk.moveEnd == none then
    { s with clk := { s.clk with fbc := s.xoNow } }.moveDone
  else s

/-- RELOCKED (R78): ACQUIRE ends in LOCKED. -/
def doRelocked (s : State) : State :=
  if s.alive && !s.moored && s.pstate 0x08 == 4 then ((s.setPstate 0x08 1).set R.CLK_STATUS_LOCKED 1).raise E.CLK_RELOCKED else s

end State

end Sys2Proof.Machine
end

