-- ==== Sys2Proof/Machine/Time.lean ====
section
/-! DEFINITION. Hub Time, crossing numbers, synchronisation, compare and capture units (chapter 04), and the firing of
event-matrix sources (R59). -/

namespace Sys2Proof.Machine

/-- A second in units of 2^-32 ns. -/
def secondSub : Nat := 1000000000 * 2 ^ 32

/-- A time of the timing master in 2^-16 ns from second 0. -/
def stamp16 (t : TimeStamp) : Int := ((t.sec.toNat * 1000000000 + t.ns.toNat) * 65536 + t.frac.toNat : Nat)

/-- A signed value as a register of `w` bits holds it; one that does not fit is a value the spec does not state (log
entry 3), drawn free. -/
def State.putSigned (s : State) (f : Fld) (v : Int) : State :=
  if -(2 ^ (f.w - 1) : Int) ≤ v ∧ v < 2 ^ (f.w - 1) then s.seti f v
  else let d := s.draw; d.2.set f (Config.free d.1)

/-- As `putSigned`, for an unsigned register. -/
def State.putUnsigned (s : State) (f : Fld) (v : Int) : State :=
  if 0 ≤ v ∧ v < 2 ^ f.w then s.set f v.toNat
  else let d := s.draw; d.2.set f (Config.free d.1)

namespace State

/-- Hub Time moves by a signed amount in 2^-32 ns, carrying into the 48-bit seconds (R81). -/
def addHubTime (s : State) (d : Int) : State :=
  let t := (s.hubTime : Int) + d
  let sec := t / secondSub
  { s with time := { s.time with sec := BitVec.ofInt 48 sec, sub := (t - sec * secondSub).toNat } }

/-- Hub Time at core clock `p` of the crossing: the boundary plus p/16 of the increment (R81). -/
def hubTimeAt (s : State) (p : Nat) : Nat :=
  s.hubTime + (((s.incr : Int) + s.geti R.TIME_RATE_ADJ) * p / 16).toNat

/-! Capture units (R95) and the event matrix (R59). -/

/-- Capture unit `n` meets its source's event at Hub Time `t` (2^-32 ns): it latches, or counts a miss while FULL. -/
def capture (s : State) (n t : Nat) : State :=
  if s.flag (R.TIME_CAPn_CTL_FULL n) then s.count (R.TIME_CAPn_MISS n)
  else
    let cn := s.cnN
    let sec := t / secondSub % 2 ^ 48
    let sub := t % secondSub
    let s := (s.set (R.TIME_CAPn_CTL_FULL n) 1).set (R.TIME_CAPn_CN_LO n) cn
    let s := (s.set (R.TIME_CAPn_CN_HI n) (cn / 2 ^ 32)).set (R.TIME_CAPn_SEC_LO n) sec
    let s := (s.set (R.TIME_CAPn_SEC_HI n) (sec / 2 ^ 32)).set (R.TIME_CAPn_NS n) (sub / 2 ^ 32)
    s.set (R.TIME_CAPn_FRAC n) (sub / 2 ^ 16)

/-- Event-matrix source `src` fires in core clock `cc` of the crossing, at Hub Time `t`: every capture unit that selects it
takes it, and it goes to the task inputs. -/
def fireAt (s : State) (src cc t : Nat) : State :=
  let s := if s.enabled 0x0C then
      forEach (List.range 8) s (fun s n =>
        if s.flag (R.TIME_CAPn_CTL_EN n) && s.get (R.TIME_CAPn_CTL_SRC n) == src then s.capture n t else s)
    else s
  { s with fired := s.fired ++ [(src, cc)] }

/-- A source fires at cc phase 0 of the crossing. -/
def fire (s : State) (src : Nat) : State := s.fireAt src 0 s.hubTime

/-- A source fires at a core clock of the crossing that the command does not tell: its phase is free (log entry 2). -/
def fireFree (s : State) (src : Nat) : State :=
  let d := s.draw
  d.2.fireAt src (Config.free d.1 % 16) (d.2.hubTimeAt (Config.free d.1 % 16))

/-- Whether task `n` selects source `src`. -/
def taskSelects (s : State) (n src : Nat) : Bool :=
  (s.flag (R.EVM_TASK_SELn_EN_A n) && s.get (R.EVM_TASK_SELn_SRC_A n) == src)
    || (s.flag (R.EVM_TASK_SELn_EN_B n) && s.get (R.EVM_TASK_SELn_SRC_B n) == src)
    || (s.flag (R.EVM_TASK_SELn_EN_C n) && s.get (R.EVM_TASK_SELn_SRC_C n) == src)
    || (s.flag (R.EVM_TASK_SELn_EN_D n) && s.get (R.EVM_TASK_SELn_SRC_D n) == src)

/-! Compare units (R93, R94). -/

/-- The time-mode target of CMPn in 2^-32 ns, seconds modulo 65,536. -/
def cmpTimeTarget (s : State) (n : Nat) : Nat :=
  s.get (R.TIME_CMPn_TARGET_HI n) % 65536 * secondSub + s.get (R.TIME_CMPn_TARGET_LO n) % 2 ^ 30 * 2 ^ 32

/-- The time-mode target of CMPn lies at or before Hub Time `t`: seconds modulo 65,536, within 32,768 s. -/
def cmpTimePassed (s : State) (n t : Nat) : Bool :=
  let w : Int := 65536 * secondSub
  decide (((t : Int) - s.cmpTimeTarget n) % w < w / 2)

/-- A forward step of Hub Time by `d` (2^-32 ns) to the present one has gone over the time-mode target of CMPn, however far (R94). -/
def cmpSteppedOver (s : State) (n : Nat) (d : Int) : Bool :=
  decide (((s.cmpTimeTarget n : Int) - (s.hubTime - d)) % (65536 * secondSub) < d)

/-- The CN-mode target of CMPn. -/
def cmpTarget (s : State) (n : Nat) : Nat :=
  s.get (R.TIME_CMPn_TARGET_LO n) + s.get (R.TIME_CMPn_TARGET_HI n) * 2 ^ 32

/-- An armed compare unit whose target has passed by now (Hub Time `t`). -/
def cmpPassed (s : State) (n t : Nat) : Bool :=
  if s.get (R.TIME_CMPn_CTL_MODE n) = 0 then decide (s.cmpTarget n ≤ s.cnN) else s.cmpTimePassed n t

/-- Compare unit `n` fires in core clock `cc`, at Hub Time `t`, late or not: with REPEAT and a PERIOD it adds PERIOD, or after a late
firing as many as put the target in the future, and stays armed; else it disarms (R93, R94). -/
def cmpDo (s : State) (n cc t : Nat) (late : Bool) : State :=
  let s := if late then s.raise E.TIME_CMP_LATE else s
  let s := s.fireAt n cc t
  let per := s.get (R.TIME_CMPn_PERIOD n)
  if s.flag (R.TIME_CMPn_CTL_REPEAT n) && per != 0 then
    if s.get (R.TIME_CMPn_CTL_MODE n) = 0 then
      let tgt := s.cmpTarget n
      let k := if late then (s.cnN - tgt) / per + 1 else 1
      let tgt := (tgt + k * per) % 2 ^ 64
      (s.set (R.TIME_CMPn_TARGET_LO n) tgt).set (R.TIME_CMPn_TARGET_HI n) (tgt / 2 ^ 32)
    else
      let tgt := s.get (R.TIME_CMPn_TARGET_HI n) % 65536 * 1000000000 + s.get (R.TIME_CMPn_TARGET_LO n) % 2 ^ 30
      let w : Int := 65536 * secondSub
      let behind := (((t : Int) - tgt * 2 ^ 32) % w).toNat
      let k := if late then behind / (per * 2 ^ 32) + 1 else 1
      let tgt := (tgt + k * per) % (65536 * 1000000000)
      (s.set (R.TIME_CMPn_TARGET_LO n) (tgt % 1000000000)).set (R.TIME_CMPn_TARGET_HI n) (tgt / 1000000000)
  else s.set (R.TIME_CMPn_CTL_ARM n) 0

/-- The target of an armed unit lies before now, so that it can no longer be met; `d` is the step of Hub Time that has led here. -/
def cmpGone (s : State) (n : Nat) (d : Int) : Bool :=
  if s.get (R.TIME_CMPn_CTL_MODE n) = 0 then decide (s.cmpTarget n < s.cnN)
  else s.cmpTimePassed n (s.hubTime - 1) || s.cmpSteppedOver n d

/-- Every armed unit of a mode whose target a step of Hub Time by `d`, or a jump of CN, has passed fires late (R94). -/
def cmpLate (s : State) (mode : Nat) (d : Int) : State :=
  if s.enabled 0x0C then
    forEach (List.range 8) s (fun s n =>
      if s.flag (R.TIME_CMPn_CTL_ARM n) && s.get (R.TIME_CMPn_CTL_MODE n) == mode && s.cmpGone n d then
        s.cmpDo n 0 s.hubTime true else s)
  else s

/-- A write to CMPn.CTL: the fields take their values, and a unit armed with a target already passed fires at once (R93); that
firing stands at cc phase 0 of the crossing of the write (DESIGN CHOICE, log entry 60). -/
def cmpArm (s : State) (n : Nat) (d : Word) : State :=
  let s := s.set ⟨0x0C100 + 16 * n, 0, 3⟩ (bits d 0 3)
  if s.enabled 0x0C && s.flag (R.TIME_CMPn_CTL_ARM n) && s.cmpPassed n s.hubTime then s.cmpDo n 0 s.hubTime true else s

/-- CMP_FIRE (R93): in CN mode in the crossing whose CN is the target, in time mode in the first crossing by whose last
core clock Hub Time has reached it. -/
def doCmpFire (s : State) (n : Nat) : State :=
  if s.alive && s.enabled 0x0C && s.flag (R.TIME_CMPn_CTL_ARM n) then
    if s.get (R.TIME_CMPn_CTL_MODE n) = 0 then
      (if s.cmpTarget n = s.cnN then s.cmpDo n 0 s.hubTime false else s)
    else
      match (List.range 16).find? (fun p => s.cmpTimePassed n (s.hubTimeAt p)) with
      | some p => s.cmpDo n p (s.hubTimeAt p) false
      | none => s
  else s

/-- CAP_REARM (R95). -/
def capRearm (s : State) (n : Nat) (d : Word) : State :=
  if bits d 8 1 = 1 then s.set (R.TIME_CAPn_CTL_FULL n) 0 else s

/-! The exchange (R85 to R87). -/

/-- An open exchange is discarded (R85). -/
def loseExchange (s : State) : State :=
  match s.time.exch with
  | none => s
  | some e =>
    let s := (s.count R.SYNC_LOST_CNT).fault 0x0D 1 e.lane.idx
    { s with time := { s.time with exch := none } }

/-- The data lane has changed: an open exchange can no longer complete (R85). It stays open, and is discarded and counted when its
DELAY_RESP arrives, at its timeout or at the next SYNC (DESIGN CHOICE, log entry 20). -/
def spoilExchange (s : State) : State :=
  match s.time.exch with
  | none => s
  | some e => { s with time := { s.time with exch := some { e with coasted := true } } }

/-- A stamp of this hub in 2^-16 ns, `phase`/4,096 into the crossing: at the boundary comma in native mode; in legacy mode
somewhere within the Pace symbol period after it, with the correction (R87). -/
def hubStamp (s : State) (phase : Nat) (sign : Int) : Int × State :=
  let at_ (u : Nat) : Int := ((s.hubTime + ((s.incr : Int) + s.geti R.TIME_RATE_ADJ).toNat * u / 4096) / 65536 : Nat)
  if s.get R.SYNC_CTL_STAMP_MODE = 0 then (at_ phase, s)
  else
    let d := s.draw
    (at_ (phase + Config.free d.1 % 513) + sign * s.geti R.SYNC_LEGACY_CORR, d.2)

/-- The data lane delivers frames: its link is ENABLED and no outage lasts (R114, R115). -/
def dataUp (s : State) : Bool := s.alive && s.pstate s.dataLane.page == 1 && s.pace.outGap.open_.isNone

/-- SYNC_MESSAGE (R85): t2 is stamped and an exchange opens; while the SYNC page is DISABLED a SYNC opens none (DESIGN CHOICE, log
entry 20), nor while the hub is Moored (R96). -/
def doSync (s : State) (t1 : TimeStamp) (phase : Nat) : State :=
  if s.dataUp && s.enabled 0x0D && !s.moored then
    let s := s.loseExchange
    let t2 := s.hubStamp phase 1
    let s := t2.2
    { s with time := { s.time with exch := some {
        lane := s.dataLane, t1 := stamp16 t1, t2 := t2.1, coasted := s.coast, stroke := s.time.catches,
        t3 := none, seq := 0, reqCr := 0 } } }
  else s

/-- The DELAY_REQ of an open exchange is due in this crossing: REQ_OFFSET after the catch, in the stroke after SYNC
(R85, R110). -/
def reqDue (s : State) : Bool :=
  match s.time.exch with
  | none => false
  | some e => e.t3 == none && decide (e.stroke < s.time.catches)
      && s.time.cr == s.time.lastCatch + s.get R.SYNC_CTL_REQ_OFFSET && !s.moored

/-- EXCHANGE_TIMEOUT (R85): no DELAY_RESP within 64 st of DELAY_REQ. -/
def doExchangeTimeout (s : State) : State :=
  match s.time.exch with
  | none => s
  | some e =>
    if s.alive && e.t3 != none && decide (e.reqCr + 64 * 256 ≤ s.time.cr) then
      s.loseExchange.raise E.SYNC_RESP_TIMEOUT
    else s

/-- A full resynchronisation starts, unless one is pending (R90, R103). -/
def startResync (s : State) : State :=
  if s.time.resync == .idle then
    { s.set R.TIME_STATUS_RESYNC_PENDING 1 with time := { s.time with resync := .waiting } }
  else s

/-- A full resynchronisation to catch `c` is fixed: `own` is the hub's number for the named catch as its ALIGN_K labels
it; a new ALIGN_K shifts where that catch falls (R88, R90). -/
def nameResync (s : State) (own c : BitVec 64) : State :=
  let k := s.get R.SYNC_ALIGN_K
  let k' := match s.time.newAlign with
    | some a => a.1
    | none => k
  { s.set R.TIME_STATUS_RESYNC_PENDING 1 with
    time := { s.time with resync := .named (own + BitVec.ofInt 64 ((k : Int) - k')) c } }

/-- ALIGN_K and ALIGN_PHASE of a one-way delay in 2^-16 ns (R88); none where it cannot be aligned. The crossing period is TIME.INCR
(DESIGN CHOICE, log entry 21). A phase of exactly half a step rounds down: at 1/8,192 cr above a whole crossing R88 has no
carry yet. -/
def alignOf (s : State) (d : Int) : Option (Nat × Nat) :=
  let inc : Int := s.incr
  if d < 0 ∨ inc = 0 then none
  else
    let k := (d * 65536 + inc - 1) / inc
    let ph := -roundDiv (d * 2 ^ 28 - k * 4096 * inc) inc
    let kp := if ph = 4096 then (k - 1, (0 : Int)) else (k, ph)
    if 63 < kp.1 then none else some (kp.1.toNat, kp.2.toNat)

/-- The stroke in progress is the irregular one where a named resynchronisation cuts it short or lengthens it (R18, R90). -/
def markIrregular (s : State) : State :=
  { s with time := { s.time with irregular := match s.time.resync with
    | .named at_ _ =>
      let n := (at_ - s.time.cn).toNat + (s.time.cr - s.time.lastCatch)
      decide (n < 384) && n != 256
    | _ => false } }

/-- The alignment that the next full resynchronisation brings in becomes `a`, or none (R88). A catch that is named already falls where
the new ALIGN_K has it; where that would lie behind the hub, the next announcement names another (DESIGN CHOICE, log entry 21). -/
def putAlign (s : State) (a : Option (Nat × Nat)) : State :=
  let k (a : Option (Nat × Nat)) : Int := match a with
    | some a => a.1
    | none => s.get R.SYNC_ALIGN_K
  let d := k s.time.newAlign - k a
  let r : Resync := match s.time.resync with
    | .named at_ c =>
      if d = 0 ∨ at_ = s.time.cn then .named at_ c
      else if 0 ≤ (at_ + BitVec.ofInt 64 d - s.time.cn).toInt then .named (at_ + BitVec.ofInt 64 d) c
      else .waiting
    | r => r
  { s with time := { s.time with newAlign := a, resync := r } }.markIrregular

/-- A new alignment (R88): a phase change within the deadband moves nothing; a new ALIGN_K asks for a full
resynchronisation. -/
def applyAlign (s : State) (k ph : Nat) : State :=
  let s := { s with clk := { s.clk with offset := 0 } }
  if k = s.get R.SYNC_ALIGN_K then
    let s := s.putAlign none
    if ((ph : Int) - s.time.alignTgt).natAbs < s.get R.SYNC_ALIGN_DEADBAND then s
    else { s.raise E.SYNC_ALIGN_CHANGE with time := { (s.raise E.SYNC_ALIGN_CHANGE).time with alignTgt := ph } }
  else
    (s.raise E.SYNC_ALIGN_CHANGE).startResync.putAlign (some (k, ph))

/-- The check on waking once the exchange and the announcement are in (R97): `serve` is an announcement that can itself
serve a resynchronisation, with the hub's own number for the catch it names. The difference counts whole crossings, the change of
the alignment, and the part of a crossing by which the extrapolation has drifted from the nearest boundary of the source, which
the loops measure in ACQUIRE: a free value within ±1/2 cr (log entry 2). -/
def wakeDecide (s : State) (serve : Option (BitVec 64 × BitVec 64)) : State :=
  match s.time.wake with
  | some { align := some (k, ph), label := some diff } =>
    let d := s.draw
    let drift : Int := (Config.free d.1 % 4097 : Nat) - 2048
    let s := d.2
    let e : Int := ((k : Int) - s.get R.SYNC_ALIGN_K) * 4096 - diff * 4096 + (s.time.alignCur - ph) + drift
    let s := { s with time := { s.time with wake := none } }
    if e.natAbs ≤ s.get R.SYNC_MOOR_GUARD then
      let s := (s.raise E.SYNC_MOOR_QUIET).set R.SYNC_ALIGN_K k
      { s with time := { s.time with alignTgt := ph, alignCur := ph, wakePh := e } }
    else
      let s := (s.raise E.SYNC_MOOR_RESYNC).putAlign (some (k, ph))
      match serve with
      | some (own, c) => if own = c then s.startResync else s.nameResync own c
      | none => s.startResync
  | _ => s

/-- The offset of a completed exchange acts on Hub Time (R86): a step at the next catch, or a slew and a rate. -/
def servo (s : State) (offset : Int) : State :=
  if s.flag R.SYNC_CTL_SERVO_EN then
    let s' := if !s.flag R.TIME_STATUS_TIME_VALID || decide ((s.get R.SYNC_STEP_LIMIT : Int) < offset.natAbs) then
        { s.set R.TIME_STATUS_TIME_VALID 1 with time := { s.time with step := some (-offset) } }
      else
        let dcr : Int := s.time.cr - s.time.lastExch.getD s.time.cr
        let lim : Int := s.incr * 100 / 1000000
        let adj := clampI (-lim) lim (s.geti R.TIME_RATE_ADJ - truncDiv (offset * 65536) (16 * dcr))
        { s.seti R.TIME_RATE_ADJ adj with time := { s.time with slew := -offset } }
    s'
  else s

/-- The cable length of a port from a mean delay in 2^-16 ns (R92), to the nearest 1/256 m. -/
def cableLen (s : State) (p : Nat) (mean : Int) : State :=
  let num := (mean - s.get R.SYNC_FIXED_LAT * 256) * 299792458 * s.get R.SYNC_VF * 256
  s.putUnsigned (R.SYNC_CABLE_LENp p) (roundDiv num (2 ^ 32 * 1000000000))

/-- The check on waking has its exchange, and so the aligned Pace phase it compares with (R97). -/
def wakeAlign (s : State) (k ph : Nat) : State :=
  match s.time.wake with
  | some w => { s with time := { s.time with wake := some { w with align := some (k, ph) } } }.wakeDecide none
  | none => s

/-- The alignment that a one-way delay `d` asks for (R88): a delay that cannot be aligned, and ALIGN_EN = 0, keep the one in force.
A hub that has woken on a Pace clock gives it to its check first (R97). -/
def aligned (s : State) (d : Int) (lane : Nat) : State :=
  let waking := s.time.wake.isSome && s.lockedToPace
  let held (s : State) : State := if waking then s.wakeAlign (s.get R.SYNC_ALIGN_K) (s.time.alignCur % 4096).toNat else s
  if s.flag R.SYNC_CTL_ALIGN_EN then
    match s.alignOf d with
    | none => held (s.fault 0x0D 2 lane)
    | some (k, ph) => if waking then s.wakeAlign k ph else s.applyAlign k ph
  else held s

/-- With ALIGN_EN = 0 the alignment holds (R88): the phase stays where it is, one that waits for a full resynchronisation is dropped, and
the named catch falls where the present ALIGN_K has it. -/
def alignHold (s : State) : State :=
  if s.flag R.SYNC_CTL_ALIGN_EN then s
  else { s with time := { s.time with alignTgt := s.time.alignCur } }.putAlign none

/-- An exchange completes with t4 (R86, R88, R92). -/
def completeExchange (s : State) (e : Exchange) (t3 t4 : Int) : State :=
  let a := e.t2 - e.t1 - s.geti (R.SYNC_ASYMp e.lane.idx)
  let b := t4 - t3 + s.geti (R.SYNC_ASYMp e.lane.idx)
  let mean := (a + b) / 2
  let d := mean + s.geti (R.SYNC_ASYMp e.lane.idx)
  let offset := (a - b) / 2
  let s := { s with time := { s.time with exch := none } }
  let s := (s.putSigned R.SYNC_OFFSET offset).putUnsigned R.SYNC_MEAN_DELAY mean
  let s := (s.servo offset).cableLen e.lane.idx mean
  let s := (s.countW R.SYNC_EXCH_CNT E.SYNC_EXCH_WRAP).raise E.SYNC_EXCHANGE_DONE
  { s with time := { s.time with lastExch := some s.time.cr } }.aligned d e.lane.idx

/-- DELAY_RESP (R85, R86): only the data lane's completes an exchange, and only the answer to its DELAY_REQ. -/
def doDelayResp (s : State) (lane : PaceLane) (seq : Byte) (t4 : TimeStamp) : State :=
  match s.time.exch with
  | none => s
  | some e =>
    match e.t3 with
    | none => s
    | some t3 =>
      if s.dataUp && lane == s.dataLane && seq == e.seq && !s.moored then
        (if e.coasted || lane != e.lane then s.loseExchange else s.completeExchange e t3 (stamp16 t4))
      else s

/-- HOLD ends (R116). -/
def endHold (s : State) : State :=
  if s.flag R.PACEA_RUN_HOLD then (s.set R.PACEA_RUN_HOLD 0).raise E.PACEA_HOLD_END else s

/-- The hub's own CN for the catch that an announcement names, where `own` is that catch's number in the present count and
alignment: a resynchronisation that is named for an earlier catch will have changed the count by then (R89, R90). -/
def ownAt (s : State) (own : BitVec 64) : BitVec 64 :=
  match s.time.resync with
  | .named at_ c =>
    let k' := match s.time.newAlign with
      | some a => a.1
      | none => s.get R.SYNC_ALIGN_K
    let place := own + BitVec.ofInt 64 ((s.get R.SYNC_ALIGN_K : Int) - k')
    if 0 ≤ (place - at_).toInt then c + (place - at_) else own
  | _ => own

/-- The hub's own number, in its present alignment, for the catch that an announcement delivered in this crossing names: that of
crossing m + 1,024. R89 says by when it is delivered; the command stands in crossing m + ALIGN_K + 2 (DESIGN CHOICE, log entry 20). -/
def announced (s : State) : BitVec 64 := s.time.cn - BitVec.ofNat 64 (s.get R.SYNC_ALIGN_K + 2) + 1024

/-- CN_ANNOUNCE (R89, R90, R97, R116). An announcement in the check on waking is compared there (R97): it raises MOOR_QUIET or
MOOR_RESYNC and no CN_MISMATCH beside it (DESIGN CHOICE, log entry 20), and serves a resynchronisation that was waiting for one. -/
def doAnnounce (s : State) (c : BitVec 64) (inSlot : Bool) : State :=
  if !s.dataUp || s.moored then s
  else if !inSlot || c.toNat % 256 != 0 then s.count R.SYNC_ANN_BAD_CNT
  else
    let own := s.announced
    let s := if !s.lockedToPace || own == c then s.endHold else s
    match s.time.wake, s.lockedToPace with
    | some w, true =>
      let t := { s with time := { s.time with wake := some { w with label := some ((own - c).toInt) } } }.wakeDecide
        (some (own, c))
      if s.time.resync == .waiting && t.time.resync == .waiting then t.nameResync t.announced c else t
    | _, _ =>
      let differs := s.lockedToPace && s.ownAt own != c
      let s := if differs then s.raise E.SYNC_CN_MISMATCH else s
      match s.time.resync with
      | .waiting => s.nameResync own c
      | .named _ _ => s
      | .idle => if differs then s.nameResync own c else s

/-! The crossing and the catch. -/

/-- The orbit counters step (R83); a return to 0 fires its source. -/
def orbitTick (s : State) : State :=
  if s.get R.TIME_ORBIT_LEN ≤ s.get R.TIME_ORBIT_POS + 1 then
    let s := (s.set R.TIME_ORBIT_POS 0).set R.TIME_ORBIT_CNT (s.get R.TIME_ORBIT_CNT + 1)
    s.fire 0x18
  else s.set R.TIME_ORBIT_POS (s.get R.TIME_ORBIT_POS + 1)

/-- A full resynchronisation is due in this crossing (R90). -/
def resyncDue (s : State) : Bool :=
  match s.time.resync with
  | .named at_ _ => at_ == s.time.cn
  | _ => false

/-- The catch of this crossing is made by the counting of CN: at CN mod 256 = 0, but for one that a named resynchronisation
replaces or omits because it follows within 128 cr (R17, R90). -/
def catchComes (s : State) : Bool :=
  s.pos == 0 &&
    match s.time.resync with
    | .named at_ _ => decide (128 ≤ (at_ - s.time.cn).toNat)
    | _ => true

/-- The next crossing is a catch's, by the counting of CN or as a named resynchronisation has it (R17, R90). -/
def catchNext (s : State) : Bool :=
  let t := { s with time := { s.time with cn := s.time.cn + 1 } }
  t.catchComes || t.resyncDue

/-- CN, Hub Time, NS32, the orbit counters and the phase step at a crossing boundary (R81, R83, R84, R88). -/
def timeTick (s : State) : State :=
  let s := s.addHubTime ((s.incr : Int) + s.geti R.TIME_RATE_ADJ)
  let mv := clampI (-64) 64 (s.time.alignTgt - s.time.alignCur)
  let s := { s with time := { s.time with
    cr := s.time.cr + 1, cn := s.time.cn + 1, ns32 := s.time.ns32 + BitVec.ofNat 64 s.incr,
    alignCur := s.time.alignCur + mv, wakePh := s.time.wakePh - clampI (-64) 64 s.time.wakePh } }
  let s := (s.set R.SYNC_ALIGN_PHASE (s.time.alignCur % 4096).toNat).orbitTick
  { s with time := { s.time with catchDue := s.catchComes } }

/-- A pending step of Hub Time, and the stroke's share of a slew, at a catch (R86); a forward step fires the compare units
it passes (R94). -/
def timeCatch (s : State) : State :=
  let s := match s.time.step with
    | none => s
    | some d =>
      let s := { s with time := { s.time with step := none } }
      let s := ((s.addHubTime (d * 65536)).raise E.TIME_STEP).count R.TIME_STEP_CNT
      if 0 < d then s.cmpLate 1 (d * 65536) else s
  let lim : Int := s.get R.SYNC_SLEW_MAX
  let part := clampI (-lim) lim s.time.slew
  let s := s.addHubTime (part * 65536)
  { s with time := { s.time with slew := s.time.slew - part } }

/-- Arrival of an orbit-start comma on `lane` (R83, R111): on the data lane it applies a pending ORBIT_RESET or checks
ORBIT_POS of crossing n − ALIGN_K; with both lanes at least ALIGNED the skew is measured. -/
def doOrbitComma (s : State) (lane : PaceLane) (skew : Option Int) : State :=
  let up (l : PaceLane) : Bool := s.pstate l.page == 1 || s.pstate l.page == 4
  if !s.alive || !up lane then s
  else
    let s := match skew with
      | none => s
      | some d =>
        if up lane.other then
          let put (s : State) (l : PaceLane) (d : Int) : State :=
            let whole := d / 4096
            let oor := decide (whole < -8) || decide (7 < whole)
            let s := (s.set (R.PACEx_SKEW_PHASE l.page) (d % 4096).toNat).setb (R.PACEx_SKEW_OOR l.page) oor
            if oor then s.set (R.PACEx_SKEW_WHOLE l.page) 0 else s.seti (R.PACEx_SKEW_WHOLE l.page) whole
          put (put s lane d) lane.other (-d)
        else s
    if lane != s.dataLane then s
    else
      let len := max 1 (s.get R.TIME_ORBIT_LEN)
      let k := s.get R.SYNC_ALIGN_K
      if s.time.orbitReset then
        let s := (s.set R.TIME_ORBIT_POS (k % len)).set R.TIME_ORBIT_CNT (k / len)
        { s with time := { s.time with orbitReset := false } }
      else if ((s.get R.TIME_ORBIT_POS : Int) - k) % len != 0 then
        (s.raise E.TIME_ORBIT_MISMATCH).count R.TIME_ORBIT_MISMATCH_CNT
      else s

end State

end Sys2Proof.Machine
end

