-- ==== Sys2Proof/Machine/Pace.lean ====
section
/-! DEFINITION. The Pace link (chapter 05): link states, the data lane and its repair from the partner, outages and HOLD, fast
commands, the control channel and the return frame. -/

namespace Sys2Proof.Machine

namespace State

/-- A lane's link is ENABLED, and the lane is not in TEST, where it counts as DISABLED (R112, R315). -/
def laneUp (s : State) (l : PaceLane) : Bool := s.pstate l.page == 1 && !s.inTest (l.page * 4096 + 0x1C0)

/-- A lane's kept whole-crossing difference from the data lane lies between −8 and 0, as far as a register shows it (R112). -/
def skewFits (s : State) (l : PaceLane) : Bool :=
  !s.flag (R.PACEx_SKEW_OOR l.page) && decide (s.geti (R.PACEx_SKEW_WHOLE l.page) ≤ 0)

/-- A lane may take over from the data lane or repair it (R112): it is ENABLED and its kept whole-crossing difference from
the data lane lies between −8 and 0. -/
def usable (s : State) (l : PaceLane) : Bool :=
  s.laneUp l && (l == s.dataLane || s.skewFits l)

/-- The data lane changes (R113). -/
def switchTo (s : State) (l : PaceLane) : State :=
  let s := (s.set R.PACEA_DATA_LANE l.idx).raise E.PACEA_DATA_SWITCH
  (s.count R.PACEA_SWITCH_CNT).spoilExchange

/-- The label of the frame that arrives in this crossing: n − ALIGN_K (R99). -/
def frameLabel (s : State) : BitVec 64 := s.time.cn - BitVec.ofNat 64 (s.get R.SYNC_ALIGN_K)

/-- The label of the frame that arrives on a lane in this crossing: a partner frame's takes ALIGN_K plus the whole-crossing
difference from the data lane (R111). -/
def laneLabel (s : State) (l : PaceLane) : BitVec 64 :=
  if l == s.dataLane then s.frameLabel else s.frameLabel - BitVec.ofInt 64 (s.geti (R.PACEx_SKEW_WHOLE l.page))

/-- The label of the frame whose trigger byte and command are delivered now: m = n − ALIGN_K − 2 (R99). -/
def deliveryLabel (s : State) : BitVec 64 := s.time.cn - BitVec.ofNat 64 (s.get R.SYNC_ALIGN_K + 2)

/-! Crossings received and not received (R99, R115). -/

/-- The crossing in which the frame that is delivered now arrived (R99). -/
def arrival (s : State) : Nat := s.time.cr - 2

/-- The gaps of a lane. -/
def gapOf (s : State) : PaceLane → Gap
  | .A => s.pace.gapA
  | .B => s.pace.gapB

/-- The gaps of a lane, changed. -/
def updGap (s : State) (l : PaceLane) (f : Gap → Gap) : State := match l with
  | .A => { s with pace := { s.pace with gapA := f s.pace.gapA } }
  | .B => { s with pace := { s.pace with gapB := f s.pace.gapB } }

/-- An outage lasts (R115). -/
def outage (s : State) : Bool := s.pace.outGap.open_.isSome

/-- A lane received whole the frame that is delivered now. The partner's copy arrived earlier by its whole-crossing difference
(R111, R112). -/
def whole (s : State) (l : PaceLane) : Bool :=
  if l == s.dataLane then !(s.gapOf l).covers s.arrival
  else s.skewFits l && !(s.gapOf l).covers (s.arrival - (s.geti (R.PACEx_SKEW_WHOLE l.page)).natAbs)

/-- The first and the last label of the blind crossings `a` to `b` of an outage are latched (R115). -/
def blindLabels (s : State) (first last : BitVec 64) (new : Bool) : State :=
  let f := first.toNat
  let l := last.toNat
  let s := if new then (s.set R.PACEA_BLIND_FIRST_LO f).set R.PACEA_BLIND_FIRST_HI (f / 2 ^ 32) else s
  (s.set R.PACEA_BLIND_LAST_LO l).set R.PACEA_BLIND_LAST_HI (l / 2 ^ 32)

/-- The outage is on from arrival crossing `c` (R115): TRIG_BLIND is raised where it begins during a run, and its crossings before
this one are blind, but for those whose trigger bytes were counted as lost when they fell due (R101). -/
def openOutage (s : State) (c : Nat) : State :=
  let s := { s with pace := { s.pace with outGap := s.pace.outGap.begin c, quiet := false } }
  let s := if s.running then s.raise E.PACEA_TRIG_BLIND else s
  let past := ((List.range (s.time.cr - c)).map (c + ·)).filter (fun a => !s.pace.lost.contains a)
  let s := if s.running then s.countBy R.PACEA_BLIND_CR past.length else s
  let first := s.frameLabel - BitVec.ofNat 64 (s.time.cr - c)
  s.blindLabels first (if c < s.time.cr then s.frameLabel - 1 else first) true

/-- An outage begins with arrival crossing `c`; one that begins while Moored is not told, and makes no crossing blind until the
hub wakes (R117), and one whose first crossing the partner still repairs is told when that crossing comes. -/
def startOutage (s : State) (c : Nat) : State :=
  if s.outage then s
  else if s.moored || decide (s.time.cr < c) then { s with pace := { s.pace with outGap := s.pace.outGap.begin c, quiet := true } }
  else s.openOutage c

/-- An outage's first arrival crossing without a frame has come. -/
def outageHere (s : State) : Bool := match s.pace.outGap.open_ with
  | some c => decide (c ≤ s.time.cr)
  | none => false

/-- A crossing that ends during an outage was blind (R115); an outage that began while Moored becomes one when the hub is awake. -/
def blindTick (s : State) : State :=
  if !s.outageHere || s.moored then s
  else
    let s := if s.pace.quiet then
        { s with pace := { s.pace with outGap := ⟨none, s.pace.outGap.last⟩ } }.openOutage s.time.cr
      else s
    let s := if s.running then s.count R.PACEA_BLIND_CR else s
    s.blindLabels 0 s.frameLabel false

/-- An outage ends once a usable lane delivers again: the data lane itself, or a partner that has become usable (R113), and
the hub enters HOLD (R116), but for an outage that began and ended while Moored (R117). -/
def endOutage (s : State) : State :=
  if s.outage then
    let s := if !s.laneUp s.dataLane && s.usable s.dataLane.other then s.switchTo s.dataLane.other else s
    if s.laneUp s.dataLane then
      let hold := !s.pace.quiet
      let s := { s with pace := { s.pace with outGap := s.pace.outGap.end_ s.time.cr, quiet := false } }
      if hold then s.set R.PACEA_RUN_HOLD 1 else s
    else s
  else s

/-- The first arrival crossing that neither lane delivers when the data lane is lost from crossing `c` on and the partner is not
usable: crossings that the partner still repaired are not lost. -/
def outFrom (s : State) (c : Nat) : Nat :=
  let l := s.dataLane.other
  match s.skewFits l, (s.gapOf l).open_ with
  | true, some g => max c (g + (s.geti (R.PACEx_SKEW_WHOLE l.page)).natAbs)
  | _, _ => c

/-- The data lane is lost from arrival crossing `c` on (R113): the hub switches to a usable partner, or an outage begins. While
Moored no fault code is set (R117). -/
def dataLost (s : State) (c : Nat) : State :=
  let l := s.dataLane
  if s.usable l.other then s.switchTo l.other
  else
    let s := s.raise E.PACEA_SWITCH_REFUSED
    let s := if s.moored then s else s.fault 0x0E 2 l.idx
    s.startOutage (s.outFrom c)

/-- A lane has left SIGNAL, ALIGNED or ENABLED, its frames missing from arrival crossing `c` on (R113, R114): the loss is reported,
the clock and the data lane react at once. `host` marks a lane that its page has disabled, for which a fault is set where the
lane was in use. -/
def paceLost (s : State) (l : PaceLane) (cause c : Nat) (host : Bool) : State :=
  let used := l == s.dataLane || (s.sourceInUse && s.get R.CLK_STATUS_ACTIVE_SRC == l.idx)
  let s := s.raise (E.PACEx_LINK_DOWN l.page)
  let s := if s.moored || (host && !used) then s else s.fault l.page 1 l.idx
  let s := if s.moored || host then s else s.healthFault 0x09 l.idx
  let s := s.updGap l (fun g => g.begin c)
  let s := s.clkLaneLost l cause
  if l == s.dataLane then s.dataLost c else s

/-- The kept skew is forgotten (R111). -/
def forgetSkew (s : State) : State :=
  let one (s : State) (pg : Nat) : State := (s.set (R.PACEx_SKEW_OOR pg) 1).set (R.PACEx_SKEW_WHOLE pg) 0
  one (one s 0x0E) 0x0F

/-- The receiver of a Pace lane is off, or starts anew (R303, R318, R320): an eye scan is aborted, and RX_STATE is DOWN. -/
def paceRxOff (s : State) (l : PaceLane) : State := s.rxOff (l.page * 4096 + 0x1C0)

/-- The catch has applied ENABLE of a Pace page, old value `was` (R114): the receiver and the transmitter are on, whose coding starts
at negative disparity (R301), or off. -/
def paceEnable (s : State) (l : PaceLane) (was : Bool) : State :=
  let now := s.enabled l.page
  if now && !was then (s.setPstate l.page 2).codeStart (l.page * 4096 + 0x1C0)
  else if was && !now then (s.setPstate l.page 0).paceRxOff l
  else s

/-- The catch has disabled a lane's page in state `st` of the link (R113, R114). -/
def paceDisabled (s : State) (l : PaceLane) (st : Nat) : State :=
  if st = 1 ∨ st = 3 ∨ st = 4 then s.paceLost l 2 s.time.cr true
  else if l == s.dataLane then s.dataLost s.time.cr
  else s

/-- The catch has applied the ENABLEs of both Pace pages; `s0` is the state before it. What a disabled lane loses is judged once both lanes
are what the catch makes them (R112, R113), by the difference kept until then, which is forgotten with it (R111). -/
def paceEnables (s s0 : State) : State :=
  let off (l : PaceLane) : Bool := s0.enabled l.page && !s.enabled l.page
  let same (l : PaceLane) : Bool := s0.enabled l.page == s.enabled l.page
  let st (l : PaceLane) : Nat := s.pstate l.page
  let t := (s.paceEnable .A (s0.enabled 0x0E)).paceEnable .B (s0.enabled 0x0F)
  let t := if off .A then t.paceDisabled .A (st .A) else t
  let t := if off .B then t.paceDisabled .B (st .B) else t
  if same .A && same .B then t else t.forgetSkew

/-- The preferred data lane (R113). -/
def preferred (s : State) : PaceLane :=
  if !s.flag (R.PACEx_CTL_PREFER 0x0E) && s.flag (R.PACEx_CTL_PREFER 0x0F) then .B else .A

/-- The move back to a preferred lane at a catch (R113). -/
def paceRevert (s : State) : State :=
  let l := s.preferred
  if l != s.dataLane && s.flag (R.PACEx_CTL_REVERT l.page) && s.usable l then s.switchTo l else s

/-! Link events. -/

/-- PACE_SIGNAL_PRESENT (R114): DOWN to SIGNAL. -/
def doPaceSignal (s : State) (l : PaceLane) : State :=
  if s.alive && s.pstate l.page == 2 then s.setPstate l.page 3 else s

/-- PACE_ALIGNED (R114): SIGNAL to ALIGNED. -/
def doPaceAligned (s : State) (l : PaceLane) : State :=
  if s.alive && s.pstate l.page == 3 then s.setPstate l.page 4 else s

/-- A control frame joins the return stream (R107). -/
def sendControl (s : State) (bytes : List Byte) : State :=
  let s := s.emit (.paceCtl bytes)
  { s with pace := { s.pace with txq := s.pace.txq ++ [controlSyms bytes] } }

/-- The LINK_INFO frame (R108): Pace version 0x01 and the hub number; its SEQ is not stated (log entry 3). -/
def sendLinkInfo (s : State) : State :=
  let d := s.draw
  d.2.sendControl ([0x86, BitVec.ofNat 8 (Config.free d.1), 0x01] ++ leBytes 2 (s.get R.ID_HUB_NUMBER))

/-- PACE_LINK_UP (R114, R116, R117): ALIGNED to ENABLED. -/
def doPaceUp (s : State) (l : PaceLane) : State :=
  if s.alive && s.pstate l.page == 4 then
    let s := ((s.setPstate l.page 1).raise (E.PACEx_LINK_UP l.page)).sendLinkInfo
    let s := (if s.laneUp l then s.updGap l (fun g => g.end_ s.time.cr) else s).endOutage
    if s.moored && s.flag (R.PACEx_CTL_WAKE_ON_LINK l.page) then { s with pace := { s.pace with linkWake := true } } else s
  else s

/-- 16 code errors within the last 256 crossings of a receiver (R114, R303, R355). -/
def sixteenErrors (s : State) (xb : Nat) : Bool :=
  decide (16 ≤ ((Assoc.getD (fun _ => []) s.rxErr xb).filter (fun c => decide (s.time.cr < c + 256))).length)

/-- Crossings of a Pace lane without a valid boundary comma (R114), this one and the three before it, which join COMMA_ERR_CNT but
for those that its symbols have shown already. -/
def fourCommas (s : State) (l : PaceLane) : State :=
  let told := s.pace.noComma.filter (fun e => e.1 == l && decide (s.time.cr ≤ e.2 + 3))
  s.countBy (R.PACEx_COMMA_ERR_CNT l.page) (4 - told.length)

/-- PACE_LINK_DOWN (R114): the comma and code criteria act in ALIGNED and ENABLED, loss of signal in SIGNAL too. -/
def doPaceDown (s : State) (l : PaceLane) (cause : DownCause) : State :=
  let st := s.pstate l.page
  let deep := st == 1 || st == 4
  let down := s.setPstate l.page 2
  if !s.alive then s
  else match cause with
    | .lossOfSignal => if deep || st == 3 then down.paceLost l 2 s.time.cr false else s
    | .commas => if deep then (down.fourCommas l).paceLost l 1 (s.time.cr - 3) false else s
    | .codeErrors => if deep && s.sixteenErrors (l.page * 4096 + 0x1C0) then down.paceLost l 7 s.time.cr false else s

/-- LINK_INFO (R114): the master's version. -/
def doLinkInfo (s : State) (l : PaceLane) (v : Byte) : State :=
  if s.alive && s.laneUp l then s.set (R.PACEx_STATUS_PARTNER_VER l.page) v.toNat else s

/-- ORBIT_START_COMMA (R83, R111): then a partner that the new skew makes usable may end an outage (R113). -/
def doOrbitStart (s : State) (l : PaceLane) (skew : Option Int) : State := (s.doOrbitComma l skew).endOutage

/-! Fields with repair (R101, R102). -/

/-- What the repair of a field gives: the value to use and whether it came from the partner; none if no lane delivers a
valid one. -/
def repaired {α : Type} (s : State) (ok : α → Bool) (a b : Option α) : Option (α × Bool) :=
  let own := if s.dataLane == .A then a else b
  let oth := if s.dataLane == .A then b else a
  match (if s.whole s.dataLane then own.filter ok else none) with
  | some v => some (v, false)
  | none => (if s.whole s.dataLane.other then oth.filter ok else none).map (fun v => (v, true))

/-- Each lane that delivered a frame counts a bad field on its own page (R101, R102). -/
def countBad (s : State) (cnt : Nat → Fld) (ev : Option (Nat → Ev)) (a b : Bool) : State :=
  let one (s : State) (l : PaceLane) (here : Bool) : State :=
    if here && s.whole l then
      let s := s.count (cnt l.page)
      match ev with
      | some e => s.raise (e l.page)
      | none => s
    else s
  one (one s .A a) .B b

/-- A field was taken from the partner: a repair on the data lane, and a fault of class 0x07 (R112, R414). -/
def countRepair (s : State) : State :=
  (s.count (R.PACEx_REPAIR_CNT s.dataLane.page)).healthFault 0x07 s.dataLane.idx

/-- A control frame is received (R112): the data lane's copy, or with `rep` the usable partner's in its place, which counts as a
repair. -/
def frameFrom (s : State) (rep : Bool) (act : State → State) : State :=
  if !rep then act s
  else if s.alive && !s.outage && s.usable s.dataLane.other then (act s).countRepair
  else s

/-- The frame that is delivered now has been received (R99, R102, R115): no outage took it, and a lane had its frames then. -/
def commandsArrive (s : State) : Bool :=
  s.alive && !s.pace.outGap.covers s.arrival && (s.whole s.dataLane || s.whole s.dataLane.other)

/-- The control channel is received (R107, R115). -/
def controlArrives (s : State) : Bool :=
  s.alive && !s.outage && (s.laneUp s.dataLane || s.usable s.dataLane.other)

/-- A fast command of `code` (R102, R103): repaired, refused as bad, or accepted, latched in LAST_CMD and fired as its
event source; in HOLD a CAL_PULSE is discarded (R116). `act` is its own effect. -/
def fastCommand (s : State) (code arg : Nat) (a b : LaneCopy) (act : State → State) : State :=
  if !s.commandsArrive then s
  else
    let opt (c : LaneCopy) : Option LaneCopy := if c == .absent then none else some c
    match s.repaired (· == LaneCopy.good) (opt a) (opt b) with
    | none => s.countBad R.PACEx_CMD_ERR_CNT (some E.PACEx_CMD_ERR) (a != .absent) (b != .absent)
    | some (_, rep) =>
      let s := if rep then s.countRepair else s
      if code = 6 ∧ s.flag R.PACEA_RUN_HOLD then s.count R.PACEA_HELD_ACCEPTS
      else
        let m := s.deliveryLabel.toNat
        let s := (s.set R.PACEA_LAST_CMD_CODE code).set R.PACEA_LAST_CMD_ARG arg
        let s := s.set R.PACEA_LAST_CMD_CN_LO m
        act (s.fire (0x0B + code))

/-- FAST_COMMAND_DISCARD (R102): a command that neither lane delivers correctly; where the partner shows that no command was sent, its
0x00 and 0xFF repair the data lane's copy. -/
def doCommandDiscard (s : State) (a b : Option (Byte × Byte)) : State :=
  if !s.commandsArrive then s
  else
    match s.repaired (fun p => cmdOk p.1 p.2) a b with
    | some (v, rep) => if rep && v == (0x00, 0xFF) then s.countRepair else s
    | none => s.countBad R.PACEx_CMD_ERR_CNT (some E.PACEx_CMD_ERR) a.isSome b.isSome

/-- A command that the hub understood but may not obey is counted on the data lane (R104, R426). -/
def refuseCommand (s : State) : State :=
  (s.count (R.PACEx_CMD_ERR_CNT s.dataLane.page)).raise E.PACEA_CMD_REFUSED

/-- CONTROL_FRAME_DISCARD (R108): on the lane that was the data lane when the frame's K27.7 arrived, be it disabled since. -/
def doFrameDiscard (s : State) (l : PaceLane) : State :=
  if s.alive then
    (s.count (R.PACEx_FRAME_ERR_CNT l.page)).raise (E.PACEx_FRAME_ERR l.page)
  else s

/-! The return frame. -/

/-- The six control symbols of a crossing (R105, R107, R110): the rest of the frame in progress, then waiting frames, of
which none starts that would still be in progress in the crossing of a DELAY_REQ; `room` is how many symbols remain
until that crossing. -/
def controlNext : Nat → Option Nat → List LineSym → List (List LineSym) → List LineSym × List LineSym × List (List LineSym)
  | 0, _, cur, q => ([], cur, q)
  | n + 1, room, c :: cur, q =>
    let r := controlNext n (room.map (· - 1)) cur q
    (c :: r.1, r.2)
  | n + 1, room, [], [] =>
    let r := controlNext n (room.map (· - 1)) [] []
    (k280 :: r.1, r.2)
  | n + 1, room, [], f :: q =>
    let fits := match room with
      | some r => decide (f.length ≤ r)
      | none => true
    match fits, f with
    | true, c :: cur =>
      let r := controlNext n (room.map (· - 1)) cur q
      (c :: r.1, r.2)
    | _, _ =>
      let r := controlNext n (room.map (· - 1)) [] (f :: q)
      (k280 :: r.1, r.2)

/-- The crossing of the next catch: the next multiple of 256, or the catch of a named resynchronisation that replaces it (R17, R90). -/
def nextCatch (s : State) : Nat :=
  let k := 256 - s.pos
  match s.time.resync with
  | .named at_ _ =>
    let d := (at_ - s.time.cn).toNat
    s.time.cr + (if 0 < d ∧ d < k + 128 then d else k)
  | _ => s.time.cr + k

/-- How many control symbols remain before the crossing of the DELAY_REQ that an open exchange will send (R85, R110). -/
def requestRoom (s : State) : Option Nat :=
  match s.time.exch with
  | none => none
  | some e =>
    let at_ := (if e.stroke < s.time.catches then s.time.lastCatch else s.nextCatch) + s.get R.SYNC_CTL_REQ_OFFSET
    if e.t3 == none && decide (s.time.cr ≤ at_) && !s.moored then some (6 * (at_ - s.time.cr)) else none

/-- The six control symbols of this crossing (R105, R107, R110), and what of the frames then remains. The DELAY_REQ has its crossing to
itself; a frame that is already in progress when its SYNC opens the exchange goes on after it (DESIGN CHOICE, log entry 54). -/
def controlPart (s : State) : List LineSym × List LineSym × List (List LineSym) :=
  if s.reqDue then (controlSyms [0x83, s.time.reqSeq + 1], s.pace.txCur, s.pace.txq)
  else controlNext 6 s.requestRoom s.pace.txCur s.pace.txq

/-- DELAY_REQ_SEND (R85, R110): t3 is stamped at the boundary of this crossing, whose return frame carries the DELAY_REQ. -/
def doDelayReq (s : State) : State :=
  match s.time.exch with
  | none => s
  | some e =>
    if s.alive && s.reqDue then
      let t3 := s.hubStamp 0 (-1)
      let s := t3.2
      let seq := s.time.reqSeq + 1
      let s := { s with time := { s.time with reqSeq := seq, exch := some { e with
        t3 := some t3.1, seq := seq, reqCr := s.time.cr, coasted := e.coasted || s.coast } } }
      s.emit (.paceCtl [0x83, seq])
    else s

end State

end Sys2Proof.Machine
end

