-- ==== Sys2Proof/Machine/Bank.lean ====
section
/-! DEFINITION. The converter slices and the BANK pages (chapter 06): which slice serves a channel, the corrected word and its
flags, the trims and their walk, the test DAC and its tap. -/

namespace Sys2Proof.Machine

/-- SPARE codes of CAL.BANKb.STATE (R152). -/
def spPowerup : Nat := 0
def spIdle : Nat := 1
def spSelftest : Nat := 2
def spOverlapOn : Nat := 3
def spServing : Nat := 4
def spOverlapBack : Nat := 5
def spPermanent : Nat := 6
def spLost : Nat := 7
def spOff : Nat := 8

/-- The reset value of a trim: nominal skew 32, the others 0 (R128). -/
def trimReset (key : Nat) : Int := if key % 64 = 58 then 32 else 0

/-- The LSB of a range in units of 2^-29/10 V (R118). -/
def lsbOf (range : Nat) : Int := if range = 0 then 655360 else if range = 1 then 524288 else 327680

/-- The unclamped code of an input (R124): 8,192 + round(V/L); `up` decides an exact tie, which R124 leaves open. -/
def codeRaw (v l : Int) (up : Bool) : Int :=
  let q := v / l
  let r := v - q * l
  8192 + q + (if 2 * r < l then 0 else if 2 * r = l then (if up then 1 else 0) else 1)

/-- How far an input lies beyond full scale, in units; 0 or less within it (R125). -/
def beyond (v l : Int) : Int := max (v - 8191 * l) (-8192 * l - v)

/-- OVR of an input by itself (R125); `near` is the comparator's decision between 1.0 and 1.5 LSB. -/
def ovrOf (v l : Int) (near : Bool) : Bool :=
  let b := 2 * beyond v l
  decide (3 * l < b) || (decide (2 * l < b) && near)

/-- An input more than 1.5 × full scale beyond the range (R125). -/
def farOver (v l : Int) : Bool := decide (24576 * l < beyond v l)

/-- The comparator takes a pair, the spare's word and the primary's; one with OVR is dropped (R144). -/
def Compare.take (c : Compare) (x y : BitVec 16) : Compare :=
  let d : Int := ((x.toNat % 16384 : Nat) : Int) - (y.toNat % 16384 : Nat)
  if x.getLsbD 14 || y.getLsbD 14 then { c with seen := c.seen + 1 }
  else ⟨c.seen + 1, c.n + 1, c.sum + d, c.sq + d * d⟩

namespace State

/-- The sequencer of bank `b`. -/
def bank (s : State) (b : Nat) : BankCal := (s.banks[b]?).getD bankOff

/-- The sequencer of bank `b`, written. -/
def setBank (s : State) (b : Nat) (k : BankCal) : State := { s with banks := s.banks.set b k }

/-- The spare is connected to a channel of the bank. -/
def spareServes (k : BankCal) : Bool := k.spare == spServing || k.spare == spOverlapBack || k.spare == spPermanent

/-- The slice that serves channel `i` of bank `b`; none where R126 makes the channel VOID. -/
def serving (s : State) (b i : Nat) : Option Nat :=
  let k := s.bank b
  if s.enabled (0x10 + b) && k.puDone && k.up.getLsbD i && !k.dead.getLsbD i then
    some (if spareServes k && k.index == i then 32 else i)
  else none

/-- The corrected word of slice `sl` of bank `b` from the sample at phase `p` of crossing `n`, its buffer in the range of channel
`i` (R121, R124, R125), and the state after the draw that decides a tie. -/
def makeWord (s : State) (ins : List SliceSample) (overs : List (Nat × Nat)) (n b i sl p : Nat) : BitVec 16 × State :=
  let x := ins.find? (fun e => e.bank.val == b && e.slice.val == sl && e.phase.val == p)
  let v : Int := (x.map (·.v)).getD 0
  let l := lsbOf (s.get (R.BANK_CHi_RANGE (0x10 + b) i))
  let tie := decide (2 * (v % l) = l)
  let d := if tie then s.draw else (0, s)
  let code := (clampI 0 16383 (codeRaw v l (Config.free d.1 % 2 == 1))).toNat
  let q := 4 * n + p
  let above := ovrOf v l ((x.map (·.near)).getD false)
    || overs.any (fun e => e.1 == 33 * b + sl && decide (e.2 < q) && decide (q ≤ e.2 + 2))
  (BitVec.ofNat 16 (code + (if above then 0x4000 else 0) + (if sl = 32 then 0x8000 else 0)), d.2)

/-- The slices of bank `b` that are powered: all of an ENABLED bank, but for the primaries of channels that are powered down once
its power-up calibration has ended (R127, R138, R427). -/
def activeSlices (s : State) (b : Nat) : List Nat :=
  let k := s.bank b
  if s.enabled (0x10 + b) && !s.moored then
    (List.range 33).filter (fun sl => sl == 32 || !k.puDone || k.pow.getLsbD sl)
  else []

/-- What the active slices of bank `b` have sampled in crossing `n`: slice, phase, word. -/
def sliceWords (s : State) (ins : List SliceSample) (overs : List (Nat × Nat)) (n b : Nat) :
    List (Nat × Nat × BitVec 16) × State :=
  ((s.activeSlices b).flatMap (fun sl => (List.range 4).map (fun p => (sl, p)))).foldl (fun r q =>
    let w := r.2.makeWord ins overs n b (if q.1 = 32 then (s.bank b).index else q.1) q.1 q.2
    (r.1 ++ [(q.1, q.2, w.1)], w.2)) ([], s)

/-- The samples of the crossing that lie far beyond their slice's range (R125). -/
def farSamples (s : State) (ins : List SliceSample) (n : Nat) : List (Nat × Nat) :=
  (ins.filter (fun e =>
    let b := e.bank.val
    let i := if e.slice.val = 32 then (s.bank b).index else e.slice.val
    farOver e.v (lsbOf (s.get (R.BANK_CHi_RANGE (0x10 + b) i))))).map
      (fun e => (33 * e.bank.val + e.slice.val, 4 * n + e.phase.val))

/-- The words of the slices that serve channels enter the pipeline (R122, R126); those of a slice found stuck in this stroke are
VOID (R152). -/
def deliverWords (s : State) (ws : List (Nat × Nat × BitVec 16)) (n b : Nat) : State :=
  if (s.bank b).puDone then
    forEach (List.range 32) s (fun s i =>
      match s.serving b i with
      | none => s
      | some sl =>
        if (s.bank b).stuck.contains sl then s
        else forEach (ws.filter (fun w => w.1 == sl)) s (fun s w =>
          { s with words := Assoc.put s.words ((4 * n + w.2.1) * 1024 + 32 * b + i) w.2.2 }))
  else s

/-- A word leaves correction into a monitor (R151): the CODE and the length of the run. -/
def runStep (r : Nat × Nat) (w : BitVec 16) : Nat × Nat :=
  let c := w.toNat % 16384
  if w.getLsbD 14 then (c, 0) else if c = r.1 then (c, r.2 + 1) else (c, 1)

/-- A monitor takes the words of one more crossing, of which and of those before it all but the five newest have left correction by the
crossing's end (R122, R151). The monitor, and how many words before the crossing's last one the 256th of a run was, if one has left. -/
def runOn (m : Monitor) (ws : List (BitVec 16)) : Monitor × Option Nat :=
  let all := m.late ++ ws
  let gone := all.length - 5
  let r := (all.take gone).zipIdx.foldl (fun (r : (Nat × Nat) × Option Nat) (w : BitVec 16 × Nat) =>
    let t := runStep r.1 w.1
    (t, if t.2 = 256 then some (all.length - 1 - w.2) else r.2)) ((m.code, m.run), none)
  (⟨r.1.1, r.1.2, all.drop gone⟩, r.2)

/-- The activity monitors of bank `b` take the words of crossing `n`. -/
def monitors (s : State) (ws : List (Nat × Nat × BitVec 16)) (n b : Nat) : State :=
  let k := s.bank b
  if ws.isEmpty && k.runs.isEmpty then s
  else
    let rs := (List.range 33).map (fun sl =>
      let l := (ws.filter (fun w => w.1 == sl)).map (fun w => w.2.2)
      if l.isEmpty then (⟨0, 0, []⟩, none) else runOn ((k.runs[sl]?).getD ⟨0, 0, []⟩) l)
    let hot := rs.zipIdx.filterMap (fun (x : (Monitor × Option Nat) × Nat) =>
      x.1.2.map (fun back => (x.2, (4 * n + 3 - back - 255) / 4)))
    s.setBank b { k with runs := rs.map (·.1), hot := hot ++ k.hot.filter (fun e => !hot.any (fun f => f.1 == e.1)) }

/-- An overlap whose comparator is at work (R143, R144). -/
def comparing (k : BankCal) : Bool := (k.spare == spOverlapOn && k.reach) || k.spare == spOverlapBack

/-- The comparator takes the pairs of one crossing: from crossing 128 of an overlap on, those in which no word is VOID
(R144). -/
def compareTake (s : State) (ws : List (Nat × Nat × BitVec 16)) (b : Nat) : State :=
  let k := s.bank b
  if comparing k && decide (128 ≤ s.pos) && !k.stuck.contains 32 && !k.stuck.contains k.index then
    let word (sl p : Nat) : Option (BitVec 16) := (ws.find? (fun w => w.1 == sl && w.2.1 == p)).map (fun w => w.2.2)
    let c := (List.range 4).foldl (fun c p =>
      match word 32 p, word k.index p with
      | some x, some y => c.take x y
      | _, _ => c) k.cmp
    s.setBank b { k with cmp := c }
  else s

/-- The samples of the crossing that ends become words: those of the serving slices go on, the monitors and the comparator take
theirs. -/
def sampleBank (s : State) (ins : List SliceSample) (overs : List (Nat × Nat)) (n b : Nat) : State :=
  let r := s.sliceWords ins overs n b
  ((r.2.deliverWords r.1 n b).monitors r.1 n b).compareTake r.1 b

/-- The words that leave correction in the crossing count in OVR_CNT where they carry OVR: phases 0 to 2 of crossing
n − 2 and phase 3 of crossing n − 3 (R122). -/
def countOvr (s : State) (n : Nat) : State :=
  if n < 2 then s
  else
    forEach (s.words.filter (fun e => decide (4 * (n - 2) ≤ e.1 / 1024 + 1) && decide (e.1 / 1024 ≤ 4 * (n - 2) + 2)
        && e.2.getLsbD 14)) s (fun s e =>
      let c := e.1 % 1024
      s.count (R.BANK_OVR_CNTi (0x10 + c / 32) (c % 32)))

/-! Trims. -/

/-- The current value of a trim. -/
def trim (s : State) (b sl i : Nat) : Int := Assoc.getD trimReset s.trimCur ((33 * b + sl) * 64 + i)

/-- The active host target of a trim (R130, R131). -/
def hostTarget (s : State) (b sl i : Nat) : Int :=
  if i = 58 then s.get (R.BANK_SLICEi_SKEW_TGT (0x10 + b) sl) else s.geti (R.BANK_TRIM_TGT (0x10 + b) (sl * 64 + i))

/-- The target that a trim walks toward (R129, R130). -/
def trimTarget (s : State) (b sl i : Nat) : Int :=
  if s.flag (R.BANK_SLICEi_TRIM_OWNER (0x10 + b) sl) then s.hostTarget b sl i
  else Assoc.getD trimReset s.trimCal ((33 * b + sl) * 64 + i)

/-- Every trim of the slice is at its target. -/
def atTarget (s : State) (b sl : Nat) : Bool :=
  (List.range 59).all (fun i => s.trim b sl i == s.trimTarget b sl i)

/-- A slice's trims all move by one tap toward their targets (R129); a host-owned slice that reaches them all raises
TRIM_DONE. -/
def walkSlice (s : State) (b sl : Nat) : State :=
  if s.atTarget b sl then s
  else
    let s := forEach (List.range 59) s (fun s i =>
      let cur := s.trim b sl i
      let mv := clampI (-1) 1 (s.trimTarget b sl i - cur)
      { s with trimCur := Assoc.setD trimReset s.trimCur ((33 * b + sl) * 64 + i) (cur + mv) })
    if s.flag (R.BANK_SLICEi_TRIM_OWNER (0x10 + b) sl) && s.atTarget b sl then s.raise (E.BANK_TRIM_DONE (0x10 + b)) else s

/-- The slices of bank `b` whose trims move in this crossing (R129). -/
def walking (s : State) (b : Nat) : List Nat :=
  let k := s.bank b
  if s.moored then []
  else if k.spare = spPowerup then List.range 33
  else if k.spare = spSelftest then [32]
  else if k.spare = spOverlapOn then (if s.pos < 128 then [32] else [])
  else if k.spare = spServing then [k.index]
  else []

/-- A trim target from the sequencer's measurement (R129), held to the trim's range (R128). -/
def setCalTarget (s : State) (t : CalTarget) : State :=
  let i := t.index.val
  let v := if i = 58 then clampI 0 63 t.value
    else if 12 ≤ i ∧ i ≤ 54 then clampI (-16) 15 t.value else clampI (-511) 511 t.value
  { s with trimCal := Assoc.setD trimReset s.trimCal ((33 * t.bank.val + t.slice.val) * 64 + i) v }

/-- The banks' part of a crossing that ends, crossing `n`. Words of more than 80 crossings ago are no longer needed. -/
def bankTick (s : State) (i : TickIn) (n : Nat) : State :=
  let overs := s.overs ++ s.farSamples i.samples n
  let s := forEach (List.range 24) s (fun s b => s.sampleBank i.samples overs n b)
  let s := { s with overs := overs.filter (fun e => decide (4 * n ≤ e.2)),
                    words := s.words.filter (fun e => decide (n < e.1 / 4096 + 80)) }
  let s := s.countOvr n
  let s := forEach i.calTargets s setCalTarget
  forEach (List.range 24) s (fun s b => forEach (s.walking b) s (fun s sl => s.walkSlice b sl))

/-! The BANK pages. -/

/-- A staged TRIM_TGT as it applies (R131): thresholds from [4:0], the others held within ±511 with TRIM_CLAMPED. -/
def applyTrimTgt (s : State) (pg key : Nat) (d : Word) : State :=
  let i := key / 1048576 % 64
  let f : Fld := ⟨key, 0, 10⟩
  if 12 ≤ i ∧ i ≤ 54 then s.seti f (signed 5 (bits d 0 5))
  else
    let v := signed 10 (bits d 0 10)
    if v = -512 then (s.seti f (-511)).raise (E.BANK_TRIM_CLAMPED pg) else s.seti f v

/-- A staged BANK set is refused if any of its entries writes RANGE = 0b11 (R119), whether or not a later one writes it over. -/
def bankRefuse (es : List Staged) : Bool :=
  es.any (fun e => decide (0x040 ≤ e.key % 4096) && decide (e.key % 4096 < 0x0C0) && bits e.data 2 2 == 3)

/-- The sequencer holds the bank's test DAC (R133, R134). -/
def dacHeld (s : State) (b : Nat) : Bool :=
  let k := s.bank b
  (k.spare == spPowerup && k.attempt != 0) || k.spare == spSelftest

/-- HK_TAP of an ENABLED bank (R135): that of a DISABLED bank, whose test DAC is powered down, asks for nothing and blocks no other bank
(DESIGN CHOICE, log entry 25). -/
def tapAsked (s : State) (b : Nat) : Bool := s.enabled (0x10 + b) && s.flag (R.BANK_TDAC_CTL_HK_TAP (0x10 + b))

/-- The bank whose test DAC is on the housekeeping bus: the lowest that asks (R135). -/
def tapBank (s : State) : Option Nat := (List.range 24).find? (fun b => s.tapAsked b)

/-- HK_BLOCKED of a bank. -/
def tapBlocked (s : State) (b : Nat) : Bool := s.tapAsked b && s.tapBank != some b

/-- A bank that becomes blocked at this catch raises HK_TAP_BLOCKED once (R135). -/
def tapCatch (s0 s : State) : State :=
  forEach (List.range 24) s (fun s b =>
    if s.tapBlocked b && !s0.tapBlocked b then s.raise (E.BANK_HK_TAP_BLOCKED (0x10 + b)) else s)

/-- The budgets of a self-test's steps in strokes (R149). -/
def stBudget (step : Nat) : Nat := if step = 2 then 128 else if step = 3 then 256 else 64

/-- The step in which the sequencer uses the DAC; none between the steps of a self-test and its end, and once a step has gone on
beyond its budget without word of its end. -/
def dacStep (s : State) (b : Nat) : Nat :=
  let k := s.bank b
  if k.spare = spSelftest ∧ k.stepSt + stBudget k.step < s.time.catches then 0 else k.step

/-- TDAC_STATUS.CODE at the moment of a read (R133): the host's code; 0x800 in step STAGE; in step RANGE one of its four codes (R138,
R149), which of them is free; else a code that the spec does not fix (log entry 2). -/
def dacCode (s : State) (b : Nat) : Nat × State :=
  if !s.enabled (0x10 + b) || !s.dacHeld b then (s.get (R.BANK_TDAC_CODE (0x10 + b)), s)
  else if s.dacStep b = 3 then (0x800, s)
  else
    let d := s.draw
    if s.dacStep b = 4 then (([0x333, 0xCCD, 0x4CD, 0xB33][Config.free d.1 % 4]?).getD 0x333, d.2)
    else (Config.free d.1 % 4096, d.2)

end State

end Sys2Proof.Machine
end

