-- ==== Sys2Proof/Machine/Prism.lean ====
section
/-! DEFINITION. Prism filter banks (chapter 08): the baseline stage, the filter, coefficient profiles, the tap ledger and
cross-fades. -/

namespace Sys2Proof.Machine

/-- Outputs per crossing of a RATE code (R162). -/
def rateOf (code : Nat) : Nat := if code = 0 then 4 else if code = 1 then 2 else 1

/-- The 18-bit signed clamp and whether it acted (R154, R158). -/
def clamp18 (y : Int) : Int × Bool :=
  let c := clampI (-131072) 131071 y
  (c, c != y)

namespace State

/-! Channels and profiles. -/

/-- The channels with CH_CFG.EN = 1 in a set of register words: only a listed word can have it. -/
def chansOn (regs : Assoc Word) : List Nat :=
  (regs.filter (fun e => e.1 % 1048576 == 0x28044 && e.2.getLsbD 0)).map (fun e => e.1 / 1048576)

/-- The register words in force in the stroke of crossing `n`. -/
def regsAt (s : State) (n : Nat) : Assoc Word := if n < s.time.lastCatch then s.prevRegs else s.regs

/-- A profile's state: 0 UNCOMMITTED, 1 COMMITTED, 2 RELEASING. -/
def profState (s : State) (p : Nat) : Nat := (Assoc.getD (fun _ => (0, 0)) s.profiles p).1

/-- A profile's committed length, 0 while UNCOMMITTED. -/
def profLen (s : State) (p : Nat) : Nat := (Assoc.getD (fun _ => (0, 0)) s.profiles p).2

/-- A profile enters a state with a length. -/
def setProf (s : State) (p st len : Nat) : State :=
  { s with profiles := Assoc.setD (fun _ => (0, 0)) s.profiles p (st, len) }

/-- A coefficient. -/
def coef (s : State) (p k : Nat) : Int := s.geti (R.PCOEF_COEF (p * 256 + k))

/-- The norm over the first `n` taps of a profile (R165). -/
def norm (s : State) (p n : Nat) : Nat :=
  (s.regs.filter (fun e => e.1 % 1048576 == 0x29048 && e.1 / 1048576 / 256 == p && decide (e.1 / 1048576 % 256 < n))).foldl
    (fun m e => m + (signed 18 (bits e.2 0 18)).natAbs) 0

/-- A profile is in use (R166). -/
def inUse (s : State) (p : Nat) : Bool :=
  (chansOn s.regs).any (fun c => s.get (R.PRISM_CH_CFG_PROFILE c) == p)
    || s.fades.any (fun f => f.old == p || f.new == p)
    || s.fadeQ.any (fun f => f.prof == p || s.get (R.PRISM_CH_CFG_PROFILE f.chan) == p)

/-- A channel's Prism rate R. -/
def rate (s : State) (c : Nat) : Nat := rateOf (s.get (R.PRISM_CH_CFG_RATE c))

/-! The ledger (R171 to R173). -/

/-- A channel's cost without a fade. -/
def cost (s : State) (c : Nat) : Nat :=
  if s.flag (R.PRISM_CH_CFG_EN c) then s.profLen (s.get (R.PRISM_CH_CFG_PROFILE c)) * s.rate c else 0

/-- The addition of a fade of channel `c` to profile `p`. -/
def fadeCost (s : State) (c p : Nat) : Nat := s.profLen p * s.rate c

/-- The charge of a bank. -/
def charge (s : State) (b : Nat) : Nat :=
  ((chansOn s.regs).filter (fun c => c / 32 == b)).foldl (fun n c => n + s.cost c) 0
    + (s.fades.filter (fun f => f.chan / 32 == b)).foldl (fun n f => n + s.fadeCost f.chan f.new) 0

/-- The charge of a bank and the additions of its waiting fades (R173). -/
def chargeWaiting (s : State) (b : Nat) : Nat :=
  s.charge b + (s.fadeQ.filter (fun f => f.chan / 32 == b)).foldl (fun n f => n + s.fadeCost f.chan f.prof) 0

/-- The channel has a running or waiting fade. -/
def hasFade (s : State) (c : Nat) : Bool := s.fades.any (fun f => f.chan == c) || s.fadeQ.any (fun f => f.chan == c)

/-- The fade requests of a staged PRISM set, as words. -/
def fadeWords (es : List Staged) : List Word :=
  (es.filter (fun e => e.key == R.PRISM_FADE_REQ_CHANNEL.key)).map (fun e => e.data)

/-- The channels whose CH_CFG a staged PRISM set writes. -/
def cfgChans (es : List Staged) : List Nat :=
  (es.filter (fun e => e.key % 1048576 == 0x28044)).map (fun e => e.key / 1048576)

/-- The smallest channel of a list. -/
def lowest (l : List Nat) : Option Nat := l.foldl (fun m c => match m with
  | none => some c
  | some d => some (min c d)) none

/-- The refusal of a staged PRISM set (R162, R168, R173, R174, R456): the lowest cause met and its lowest channel. `s0` is the
state before the catch, `s` the state before action 3 with the profiles as before the catch (R24), `cand` what the set would
leave of it. Cause 0x3 is met by any entry that writes RATE = 0b11. Cause 0x5 ranges over the 24 banks there are (R12):
a request for a CHANNEL above 767 lies in no bank's queue and meets cause 0x6 alone. -/
def prismRefuse (s0 s cand : State) (es : List Staged) : Option (Nat × Nat) :=
  let cfg := cfgChans es
  let reqs := fadeWords es
  let ch (w : Word) : Nat := bits w 0 10
  let full := ((List.range 24).filter (fun b =>
    cfg.any (fun c => c / 32 == b && cand.cost c != s.cost c)
      && decide (4096 < cand.chargeWaiting b) && decide (s0.chargeWaiting b < cand.chargeWaiting b))).head?
  let ledger := match full with
    | none => none
    | some b => some ((lowest (cfg.filter (fun c => c / 32 == b && decide (s.cost c < cand.cost c)))).getD (32 * b))
  let profile := lowest (((chansOn cand.regs).filter (fun c => s0.profState (cand.get (R.PRISM_CH_CFG_PROFILE c)) != 1))
    ++ (reqs.filter (fun w => s0.profState (bits w 10 6) != 1)).map ch)
  let rate3 := lowest (cfgChans (es.filter (fun e => bits e.data 1 2 == 3)))
  let busy := lowest ((reqs.filter (fun w => s.hasFade (ch w) || decide (1 < (reqs.filter (fun v => ch v == ch w)).length))).map ch)
  let queue := ((List.range 24).filter (fun b =>
    let n := (reqs.filter (fun w => ch w / 32 == b)).length
    decide (0 < n) && decide (8 < n + (s.fadeQ.filter (fun f => f.chan / 32 == b)).length))).head?
  let queueCh := match queue with
    | none => none
    | some b => lowest ((reqs.filter (fun w => ch w / 32 == b)).map ch)
  let target := lowest ((reqs.filter (fun w => decide (767 < ch w) || !cand.flag (R.PRISM_CH_CFG_EN (ch w))
      || bits w 10 6 == cand.get (R.PRISM_CH_CFG_PROFILE (ch w)) || bits w 16 3 == 7)).map ch)
  let conflict := lowest (cfg.filter (fun c => s.hasFade c
      && bits (cand.rd (R.PRISM_CH_CFG_EN c).key) 0 9 != bits (s.rd (R.PRISM_CH_CFG_EN c).key) 0 9))
  ([(1, ledger), (2, profile), (3, rate3), (4, busy), (5, queueCh), (6, target), (7, conflict)].filterMap
    (fun e => e.2.map (fun c => (e.1, c)))).head?

/-- A PRISM refusal as it is recorded (R173, R174, R456). -/
def prismRefused (s : State) (cause c : Nat) : State :=
  let s := (s.set R.PRISM_LAST_REFUSE_CAUSE cause).set R.PRISM_LAST_REFUSE_BANK (c / 32)
  let s := (s.set R.PRISM_LAST_REFUSE_CHANNEL c).fault 0x28 1 cause
  if cause = 1 then (s.raise E.PRISM_LEDGER_REFUSED).count R.PRISM_LEDGER_REFUSED_CNT
  else (s.raise E.PRISM_SET_REFUSED).count R.PRISM_SET_REFUSED_CNT

/-- An applied PRISM set: its fade requests join the queue (R174). -/
def prismApplied (s : State) (es : List Staged) : State :=
  { s with fadeQ := s.fadeQ ++ (fadeWords es).map (fun w => FadeReq.mk (bits w 0 10) (bits w 10 6) (bits w 16 3) 0 false) }

/-- A PRISM page reset: every fade ends without FADE_DONE (R422). -/
def prismReset (s : State) : State := { s with fades := [], fadeQ := [] }

/-- The fades that have delivered their last output end at the catch (R177). -/
def fadesEnd (s : State) : State :=
  forEach (s.fades.filter (fun f => decide (f.n0 + f.len / f.rate ≤ s.time.cr))) s (fun s f =>
    let s := { s with fades := s.fades.filter (fun g => g.chan != f.chan) }
    let s := s.set (R.PRISM_CH_CFG_PROFILE f.chan) f.new
    (s.countW R.PRISM_FADE_DONE_CNT E.PRISM_FADE_WRAP).raise E.PRISM_FADE_DONE)

/-- A waiting request of a bank leaves the queue. -/
def fadeDrop (s : State) (c : Nat) : State := { s with fadeQ := s.fadeQ.filter (fun f => f.chan != c) }

/-- Action 5 for one bank (R175): requests start in order while the ledger has room; a blocked head that has waited too long
is refused and the next examined. -/
def fadesBank (s : State) (b : Nat) : Nat → State
  | 0 => s
  | n + 1 =>
    match s.fadeQ.find? (fun f => f.chan / 32 == b) with
    | none => s
    | some f =>
      let r := s.rate f.chan
      if s.charge b + s.fadeCost f.chan f.prof ≤ 4096 then
        let s := { s.fadeDrop f.chan with fades := s.fades ++
          [Fade.mk f.chan (s.get (R.PRISM_CH_CFG_PROFILE f.chan)) f.prof (16 * 2 ^ f.len) s.time.cr r] }
        (s.raise E.PRISM_FADE_START).fadesBank b n
      else
        let s := if f.told then s else s.raise E.PRISM_FADE_WAIT
        if s.get R.PRISM_FADE_CTL_WAIT_MAX ≤ f.waited then
          let s := (s.fadeDrop f.chan).count R.PRISM_FADE_REFUSED_CNT
          let s := (s.raise E.PRISM_FADE_REFUSED).fault 0x28 2 8
          let s := (s.set R.PRISM_LAST_REFUSE_CAUSE 8).set R.PRISM_LAST_REFUSE_BANK b
          (s.set R.PRISM_LAST_REFUSE_CHANNEL f.chan).fadesBank b n
        else { s with fadeQ := s.fadeQ.map (fun g => if g.chan = f.chan then { g with told := true } else g) }

/-- Action 5 (R175): with the PRISM page ENABLED every bank is examined and every request left waits one catch more. -/
def fadesCatch (s : State) : State :=
  if s.enabled 0x28 then
    let s := forEach (List.range 24) s (fun s b => s.fadesBank b 9)
    { s with fadeQ := s.fadeQ.map (fun f => { f with waited := f.waited + 1 }) }
  else s

/-! The PCOEF page. -/

/-- A write to PCOEF.COEF (R164): refused while the profile is locked or the page DISABLED. -/
def coefWrite (s : State) (d : Word) : State :=
  let p := s.get R.PCOEF_PSEL
  let k := s.get R.PCOEF_TAP
  if s.profState p = 0 ∧ s.enabled 0x29 then
    let s := (s.set (R.PCOEF_COEF (p * 256 + k)) (bits d 0 18)).set R.PCOEF_TAP ((k + 1) % 256)
    { s with badTaps := s.badTaps.filter (· != p * 256 + k) }
  else (s.raise E.PCOEF_WRITE_LOCKED).count R.PCOEF_WRITE_LOCKED_CNT

/-- The cause for which one COMMIT entry is refused in a state (R165, R167), lowest first. -/
def commitCause (s0 s : State) (w : Word) : Option Nat :=
  let p := bits w 0 6
  let len := bits w 8 9
  if w.getLsbD 31 then
    (if s.profState p = 1 ∧ s0.inUse p then some 3 else none)
  else if len = 0 ∨ 256 < len then some 1
  else if 2 ^ 22 ≤ s.norm p len then some 2
  else if s.profState p ≠ 0 then some 4
  else none

/-- One COMMIT entry as it applies (R165, R167). -/
def commitOne (s : State) (w : Word) : State :=
  let p := bits w 0 6
  if w.getLsbD 31 then (if s.profState p = 1 then s.setProf p 2 (s.profLen p) else s)
  else (s.setProf p 1 (bits w 8 9)).raise E.PCOEF_COMMITTED

/-- The COMMIT entries of a staged PCOEF set, in order. -/
def commitWords (es : List Staged) : List Word :=
  (es.filter (fun e => e.key == R.PCOEF_COMMIT_PROFILE.key)).map (fun e => e.data)

/-- Every refusal of a PCOEF set: each entry checked against the state that those before it leave (R169). -/
def commitCauses (s0 : State) : State → List Word → List (Nat × Nat)
  | _, [] => []
  | s, w :: ws =>
    match commitCause s0 s w with
    | some c => (c, bits w 0 6) :: commitCauses s0 s ws
    | none => commitCauses s0 (s.commitOne w) ws

/-- The refusal of a staged PCOEF set: the lowest cause and its lowest profile (R456). -/
def pcoefRefuse (s0 s : State) (es : List Staged) : Option (Nat × Nat) :=
  let l := commitCauses s0 s (commitWords es)
  match lowest (l.map (·.1)) with
  | none => none
  | some c => (lowest ((l.filter (fun e => e.1 == c)).map (·.2))).map (fun p => (c, p))

/-- A PCOEF refusal as it is recorded. -/
def pcoefRefused (s : State) (cause p : Nat) : State :=
  let s := (s.set R.PCOEF_LAST_REFUSE_CAUSE cause).set R.PCOEF_LAST_REFUSE_PROFILE p
  (s.raise E.PCOEF_REFUSED).fault 0x29 (if cause = 3 then 2 else 1) p

/-- An applied PCOEF set. -/
def pcoefApplied (s : State) (es : List Staged) : State := forEach (commitWords es) s commitOne

/-- The second check of releases under way (R167), against the state before the catch. -/
def releasesEnd (s0 s : State) : State :=
  forEach (s.profiles.filter (fun e => e.2.1 == 2)) s (fun s e =>
    if s0.inUse e.1 then (s.setProf e.1 1 e.2.2).pcoefRefused 3 e.1
    else (s.setProf e.1 0 0).raise E.PCOEF_RELEASED)

/-- PCOEF_ECC_FAIL (R170). -/
def doCoefEcc (s : State) (p k : Nat) : State :=
  if s.alive then
    let known := s.badTaps.contains (p * 256 + k)
    let s := if known then s else { s with badTaps := (p * 256 + k) :: s.badTaps }.healthFault 0x02 0x03
    ((s.raise E.PCOEF_ECC_FAIL).count R.PCOEF_ECC_FAIL_CNT).fault 0x29 3 p
  else s

/-! The datapath of a crossing. -/

/-- A word of crossing `n` becomes a baseline value (R154, R155). -/
def baseline (s : State) (n q c : Nat) (w : BitVec 16) : State :=
  let u : Int := (w.toNat % 16384 : Nat) - 8192
  let x := 16 * u - s.getiAt n (R.PRISM_CH_PED c)
  let v := clamp18 ((x * (s.getAt n (R.PRISM_CH_CFG_FGAIN c) : Nat) + 16384) / 32768)
  let s := { s with vals := Assoc.put s.vals (q * 1024 + c) ⟨v.1, w.getLsbD 14 || v.2, w.getLsbD 15⟩ }
  if v.2 && s.flagAt n (R.PRISM_CH_CFG_EN c) then s.count R.PRISM_SAT_CNT else s

/-- The accumulator and flags of one filter over the values at `q` and before (R157 to R159); none where the support holds a
VOID value or a coefficient with a double-bit error. -/
def fir (s : State) (p len q c : Nat) : Option Val :=
  if s.badTaps.any (fun t => t / 256 == p && decide (t % 256 < len)) then none
  else
    (List.range len).foldl (fun acc k =>
      match acc with
      | none => none
      | some a =>
        if q < k then none
        else match Assoc.find? s.vals ((q - k) * 1024 + c) with
          | none => none
          | some x => some ⟨a.v + s.coef p k * x.v, a.ovr || x.ovr, a.sub || x.sub⟩) (some ⟨0, false, false⟩)

/-- The rounded, unclamped output of R158. -/
def firOut (a : Int) : Int := (a + 65536) / 131072

/-- Output `j` of channel `c` in crossing `n` (R157 to R159, R176): the profile alone, or the blend of a fade. -/
def prismOut (s : State) (n c j : Nat) : Option Val × Bool :=
  let r := rateOf (s.getAt n (R.PRISM_CH_CFG_RATE c))
  let d := 4 / r
  let q := 4 * n + (j + 1) * d - 1
  let own := s.getAt n (R.PRISM_CH_CFG_PROFILE c)
  let fs := if n < s.time.lastCatch then s.prevFades else s.fades
  let last (p : Nat) : Option Val × Bool :=
    match s.fir p (s.profLen p) q c with
    | none => (none, false)
    | some a =>
      let y := clamp18 (firOut a.v)
      (some ⟨y.1, a.ovr || y.2, a.sub⟩, y.2)
  match fs.find? (fun f => f.chan == c) with
  | none => last own
  | some f =>
    let i := (n - f.n0) * f.rate + j
    if f.len ≤ i then last f.new
    else
      match s.fir f.old (s.profLen f.old) q c, s.fir f.new (s.profLen f.new) q c with
      | some a, some b =>
        let z := (firOut a.v * ((f.len : Int) - 1 - i) + firOut b.v * ((i : Int) + 1) + f.len / 2) / f.len
        let y := clamp18 z
        (some ⟨y.1, a.ovr || b.ovr || y.2, a.sub || b.sub⟩, y.2)
      | _, _ => (none, false)

/-- Prism's part of the crossing that ends, for crossing `n`, whose words have all left correction by now (R122, R160,
R163). -/
def prismTick (s : State) (n : Nat) : State :=
  let ws := s.words.filter (fun e => e.1 / 4096 == n)
  let s := forEach ws s (fun s e => s.baseline n (e.1 / 1024) (e.1 % 1024) e.2)
  let s := { s with vals := s.vals.filter (fun e => decide (n < e.1 / 4096 + 66)),
                    pouts := s.pouts.filter (fun e => decide (n < e.1 / 4096 + 96)) }
  if s.flagAt n (R.PAGE_CTL_ENABLE 0x28) then
    forEach (chansOn (s.regsAt n)) s (fun s c =>
      forEach (List.range (rateOf (s.getAt n (R.PRISM_CH_CFG_RATE c)))) s (fun s j =>
        let o := s.prismOut n c j
        let s := if o.2 then s.count R.PRISM_SAT_CNT else s
        match o.1 with
        | none => s
        | some y => { s with pouts := Assoc.put s.pouts ((4 * n + j) * 1024 + c) y }))
  else s

end State

end Sys2Proof.Machine
end

