-- ==== Sys2Proof/Machine/Rsmp.lean ====
section
/-! DEFINITION. Fractional resampling and alignment (chapter 09): the output streams, the interpolator, changes of delay and
ratio, the trim servo and the record log; the writing of the Wake rings (R212 to R214). -/

namespace Sys2Proof.Machine

/-- A ratio or position of 1 in the 32 fractional bits of R190. -/
def one32 : Nat := 4294967296

/-- STEP of a RHO, 32 fractional bits (R190): 2^24 / RHO to the nearest. -/
def stepOf (rho : Nat) : Nat := if rho = 0 then one32 else (2 ^ 57 + rho) / (2 * rho)

/-- The cosine of `m`/40,960 of a turn for a quarter turn and less, in 2^-30, by its power series. -/
def cosQuarter (m : Nat) : Int :=
  let x := (6746518852 * m / 40960 : Nat)
  let q : Int := (x * x / 2 ^ 30 : Nat)
  [182, 132, 90, 56, 30, 12, 2].foldl (fun (acc : Int) (d : Int) => 2 ^ 30 - q * acc / (d * 2 ^ 30)) (2 ^ 30)

/-- The cosine of `m`/40,960 of a turn, in 2^-30. -/
def cosTurn (m : Int) : Int :=
  let r := (m % 40960).toNat
  let h := if 20480 < r then 40960 - r else r
  if 10240 < h then -cosQuarter (20480 - h) else cosQuarter h

/-- Whether the 16 coefficients of phase `p` lie within the kernel term of R186 at 1/40 to 16/40 of the sample rate: the sum of
`g[k]`·e^(iω(7 + p/1,024 − k)) deviates from 2^17 by at most 3.162 × 10^-5 × 131,072 (4.1445 LSB; -90 dB of a full scale). -/
def kernelNear (p : Nat) (g : List Int) : Bool :=
  ((List.range 16).map (· + 1)).all (fun (j : Nat) =>
    let at_ (k : Nat) : Int := (j : Int) * (7168 + (p : Int) - 1024 * (k : Int))
    let re := (g.mapIdx (fun k x => x * cosTurn (at_ k))).sum - 2 ^ 47
    let im := (g.mapIdx (fun k x => x * cosTurn (at_ k - 10240))).sum
    decide ((re * re + im * im) * 100000000 ≤ (41445 * 2 ^ 30) ^ 2))

/-- The phases at which R183 leaves room for the bound of R186: at any other, the least deviation that 16 coefficients of sum
2^17 and magnitudes of at most 1.25 × 2^17 reach on the band exceeds -90 dB (DEDUCED, log entry 30). -/
def kernelBound (p : Nat) : Bool := decide (p ≤ 3) || decide (1021 ≤ p)

/-- The conditions of R183 on the 16 coefficients of a phase from 1 to 1,023: signed 18-bit, none zero, their sum exactly 2^17,
their magnitudes at most 1.25 × 2^17 together, and their centre at 7 + p/1,024 to within half an LSB a coefficient (the reading
of "interpolates at position base − 7 − p/1,024", DEDUCED, log entry 30); and the kernel term of R186 at the phases that leave
room for it. -/
def kernelOk (p : Nat) (g : List Int) : Bool :=
  g.length == 16 && g.all (fun x => x != 0 && decide (-131072 ≤ x) && decide (x ≤ 131071)) && g.sum == 131072
    && decide ((g.map Int.natAbs).sum ≤ 163840)
    && decide (((g.mapIdx (fun k x => (k : Int) * x)).sum - (917504 + 128 * p)).natAbs ≤ 60)
    && (!kernelBound p || kernelNear p g)

/-- Coefficients that meet R183: between the two nearest samples a straight line, every other coefficient small. -/
def lineTaps (p : Nat) : List Int :=
  [-4, 4, -1, 1, -1, 1, 1, 131072 - 128 * p, 128 * p, -1, 1, -1, 1, -1, 1, -1]

/-- Coefficients of the phases 1 to 3 that meet R183 and R186; those of 1,023 to 1,021 are the same, last first. -/
def nearTaps : Nat → List Int
  | 1 => [-1, 4, -7, 15, -27, 51, -119, 131067, 128, -60, 35, -21, 12, -7, 3, -1]
  | 2 => [-3, 8, -16, 31, -56, 104, -238, 131062, 257, -120, 70, -42, 25, -14, 7, -3]
  | _ => [-5, 12, -24, 47, -83, 156, -357, 131057, 385, -180, 105, -63, 37, -21, 10, -4]

/-- Coefficients that meet what R183 and, where there is room, R186 say of a phase from 1 to 1,023. -/
def sampleTaps (p : Nat) : List Int :=
  if p ≤ 3 then nearTaps p else if 1021 ≤ p then (nearTaps (1024 - p)).reverse else lineTaps p

/-- The coefficients of a phase from 1 to 1,023: unpublished ones that meet R183, and R186 where R183 leaves room for it. -/
def kernelTaps (p : Nat) : List Int :=
  let g := (List.range 16).map (Config.kernelTap p)
  if kernelOk p g then g else sampleTaps p

/-- Coefficient `k` of kernel phase `p` (R183); the phases 0 and 1,024 are stated. -/
def kernel (p k : Nat) : Int :=
  if p = 0 then (if k = 7 then 131072 else 0)
  else if p = 1024 then (if k = 8 then 131072 else 0)
  else ((kernelTaps p)[k]?).getD 0

/-- Whether coefficient `k` of phase `p` is in the support of an output (R183, R185). -/
def kernelUsed (p k : Nat) : Bool := if p = 0 then k == 7 else if p = 1024 then k == 8 else true

/-- A stream that has never changed: R = 4, ratio 1, from crossing 0. -/
def segReset : List Seg := [⟨0, 0, 4, one32⟩]

/-- How many outputs a part of a stream has in crossings before `n` (R191): those whose Prism index, the position rounded
up, lies below R·n. -/
def Seg.count (g : Seg) (n : Nat) : Nat :=
  if n ≤ g.cr then 0 else (g.rate * (n - g.cr) - 1) * one32 / g.step + 1

/-- The crossing to which output `k` of a part of a stream belongs. -/
def Seg.crossing (g : Seg) (k : Nat) : Nat := g.cr + (k * g.step + one32 - 1) / one32 / g.rate

namespace State

/-- The output stream of a channel. -/
def stream (s : State) (c : Nat) : List Seg := Assoc.getD (fun _ => segReset) s.segs c

/-- The stream index of the first output of channel `c` that belongs to crossing `n` or later. -/
def streamIdx (s : State) (c n : Nat) : Nat :=
  match (s.stream c).find? (fun g => decide (g.cr ≤ n)) with
  | some g => g.idx + g.count n
  | none => 0

/-- The part of a stream that holds output `i`. -/
def segOf (s : State) (c i : Nat) : Seg := ((s.stream c).find? (fun g => decide (g.idx ≤ i))).getD ⟨0, 0, 4, one32⟩

/-- The crossing of output `i` of channel `c`. -/
def outCross (s : State) (c i : Nat) : Nat :=
  let g := s.segOf c i
  g.crossing (i - g.idx)

/-- The STEP in force: 1 while the RSMP page is DISABLED (R189). -/
def stepNow (s : State) : Nat := if s.enabled 0x2A then stepOf (s.get R.RSMP_RATIO_RHO) else one32

/-! Records (R194). -/

/-- A record enters the log, which holds 4,096. -/
def record (s : State) (cause chan new : Nat) (step : Int) : State :=
  if 4096 ≤ s.records.length then s
  else
    let w := cause * 2 ^ 62 + chan * 2 ^ 52 + new % 65536 * 2 ^ 36
      + unsigned 16 (clampI (-32768) 32767 step) * 2 ^ 20 + s.cnN / 256 % 2 ^ 20
    let s := { s with records := s.records ++ [BitVec.ofNat 64 w] }
    let s := s.countW R.RSMP_RECORD_CNT E.RSMP_RECORD_WRAP
    if s.records.length = 3073 then s.raise E.RSMP_LOG_HIGH else s

/-- A phase change is marked for PHASE_STEP. -/
def mark (s : State) (c : Option Nat) : State := { s with marks := (s.time.cr, c) :: s.marks }

/-! The RSMP page at a catch. -/

/-- The channels whose CH_DELAY a staged set writes, ascending. -/
def delayChans (es : List Staged) : List Nat :=
  let l := (es.filter (fun e => e.key % 1048576 == 0x2A044)).map (fun e => e.key / 1048576)
  (List.range 768).filter (fun c => l.contains c)

/-- The records a staged RSMP set needs (R189, R195). -/
def recordsNeeded (s0 cand : State) (es : List Staged) : Nat :=
  if s0.enabled 0x2A != cand.enabled 0x2A then 1
  else if !cand.enabled 0x2A then 0
  else ((delayChans es).filter (fun c => s0.get (R.RSMP_CH_DELAY c) != cand.get (R.RSMP_CH_DELAY c))).length
    + (if s0.get R.RSMP_RATIO_RHO = cand.get R.RSMP_RATIO_RHO then 0 else 1)

/-- The refusal of a staged RSMP set (R190, R195). -/
def rsmpRefuse (s0 cand : State) (es : List Staged) : Option Nat :=
  let rho := cand.get R.RSMP_RATIO_RHO
  if 0 < rho ∧ rho ≤ 0x400000 then some 1
  else if 4096 < s0.records.length + recordsNeeded s0 cand es then some 2
  else none

/-- An RSMP refusal as it is recorded. -/
def rsmpRefused (s : State) (cause : Nat) : State :=
  ((s.set R.RSMP_LAST_REFUSE_CAUSE cause).raise E.RSMP_REFUSED).fault 0x2A 1 cause

/-- The page has been enabled or disabled at this catch (R189). -/
def rsmpToggled (s0 s : State) : State :=
  if s0.enabled 0x2A = s.enabled 0x2A then s
  else
    let on := s.enabled 0x2A
    let s := (s.record 3 0x3FF (if on then 0xFFFF else 0) 0).mark none
    if on then s else { s with hist := [], histClr := Assoc.put s.histClr 1000 s.time.cr }

/-- An applied RSMP set: STEP, the records of host writes and of a new ratio (R187, R190, R194). RATIO_APPLIED is raised by every
set that applies a new RHO, also while the page is DISABLED (DEDUCED, log entry 28). -/
def rsmpApplied (s0 s : State) (es : List Staged) : State :=
  let both := s0.enabled 0x2A && s.enabled 0x2A
  let s := forEach (delayChans es) s (fun s c =>
    let old := s0.get (R.RSMP_CH_DELAY c)
    let new := s.get (R.RSMP_CH_DELAY c)
    let s := s.set (R.RSMP_CH_STATUS_SERVO_OFS c) 0
    if old != new && both then (s.record 0 c new ((new : Int) - old)).mark (some c) else s)
  let rho := s.get R.RSMP_RATIO_RHO
  if rho = s0.get R.RSMP_RATIO_RHO then s
  else
    let st := stepOf rho
    let s := (s.set R.RSMP_STEP_LO st).set R.RSMP_STEP_HI (st / one32)
    let s := s.raise E.RSMP_RATIO_APPLIED
    if both then (s.record 2 0x3FF (rho / 256) 0).mark none else s

/-- The channels whose Prism rate this catch has changed. -/
def rateChanges (s0 s : State) : List Nat :=
  let keys (x : State) : List Nat := (x.regs.filter (fun e => e.1 % 1048576 == 0x28044)).map (fun e => e.1 / 1048576)
  ((List.range 768).filter (fun c => (keys s0).contains c || (keys s).contains c)).filter (fun c => s0.rate c != s.rate c)

/-- A channel's stream goes on from this catch with its present rate and ratio, anchored at the catch (R188, R190). -/
def restream (s : State) (c : Nat) : State :=
  { s with segs := Assoc.put s.segs c (⟨s.time.cr, s.streamIdx c s.time.cr, s.rate c, s.stepNow⟩ :: s.stream c) }

/-- The output streams at a catch: rate changes (R162, R188), a change of ratio or a re-anchoring of the grid (R190). -/
def streamsCatch (s0 s : State) (resync : Bool) : State :=
  let ch := rateChanges s0 s
  let s := forEach ch s (fun s c =>
    let s := { s with rateCr := Assoc.put s.rateCr c s.time.cr, histClr := Assoc.put s.histClr c s.time.cr,
                      hist := s.hist.filter (fun e => e.1 / 512 != c) }
    s.mark (some c))
  if s.stepNow != s0.stepNow || (resync && s.stepNow != one32) then forEach (List.range 768) s (fun s c => s.restream c)
  else forEach ch s (fun s c => s.restream c)

/-! The trim servo (R192, R193). -/

/-- A histogram bin. -/
def histBin (s : State) (c b : Nat) : Nat := Assoc.getD (fun _ => 0) s.hist (c * 512 + b)

/-- The entries of a channel's histogram. -/
def histN (s : State) (c : Nat) : Nat := (s.hist.filter (fun e => e.1 / 512 == c)).foldl (fun n e => n + e.2) 0

/-- The catch that last cleared a channel's histogram. -/
def histClear (s : State) (c : Nat) : Nat :=
  max (Assoc.getD (fun _ => 0) s.histClr c) (Assoc.getD (fun _ => 0) s.histClr 1000)

/-- A pulse time enters a channel's histogram; every bin saturates at 65,535. -/
def histAdd (s : State) (c : Nat) (tau : Int) : State :=
  let b := (tau - s.geti R.RSMP_SERVO_TARGET) / 4 + 128
  let k := if b < 0 then 256 else if 255 < b then 257 else b.toNat
  { s with hist := Assoc.setD (fun _ => 0) s.hist (c * 512 + k) (min 65535 (s.histBin c k + 1)) }

/-- A channel's histogram is cleared at this catch. -/
def histClean (s : State) (c : Nat) : State :=
  { s with hist := s.hist.filter (fun e => e.1 / 512 != c), histClr := Assoc.put s.histClr c s.time.cr }

/-- The bin that holds entry `m`, counted upward, as the e of R193. -/
def medianOf (s : State) (c : Nat) : Nat → List Nat → Int
  | _, [] => 128
  | m, b :: l =>
    let n := s.histBin c b
    if m ≤ n then (if b = 256 then -129 else if b = 257 then 128 else (b : Int) - 128) else s.medianOf c (m - n) l

/-- The median of a channel's histogram. -/
def median (s : State) (c : Nat) : Int := s.medianOf c ((s.histN c + 1) / 2) ([256] ++ List.range 256 ++ [257])

/-- Action 6 for one channel (R193); `host` marks a host write of its delay at this catch. -/
def servoChan (s : State) (c : Nat) (host : Bool) : State :=
  let n := s.histN c
  if n = 0 ∨ n < s.get R.RSMP_SERVO_MIN then s
  else
    let e := s.median c
    if e.natAbs ≤ s.get R.RSMP_SERVO_CTL_DEADBAND then s.histClean c
    else if host then s
    else
      let d : Int := if 0 < e then -1 else 1
      let steps := Assoc.getD (fun _ => 0) s.servoN c
      let ofs := s.geti (R.RSMP_CH_STATUS_SERVO_OFS c) + d
      let new : Int := (s.get (R.RSMP_CH_DELAY c) : Int) + d
      if s.get R.RSMP_SERVO_CTL_SLEW ≤ steps ∨ 4096 ≤ s.records.length then
        (s.count R.RSMP_HELD_CNT).raise E.RSMP_SERVO_HELD
      else if (s.get R.RSMP_SERVO_CTL_RANGE : Int) < ofs.natAbs ∨ new < 0 ∨ 65535 < new then
        (s.count R.RSMP_LIMIT_CNT).raise E.RSMP_SERVO_LIMIT
      else
        let s := (s.set (R.RSMP_CH_DELAY c) new.toNat).seti (R.RSMP_CH_STATUS_SERVO_OFS c) ofs
        let s := { s with servoN := Assoc.put s.servoN c (steps + 1) }
        let s := (s.countW R.RSMP_STEP_CNT E.RSMP_STEP_WRAP).record 1 c new.toNat d
        (s.mark (some c)).histClean c

/-- Action 6 (R193): in ascending channel order. -/
def servoCatch (s : State) (host : List Nat) : State :=
  let s := if s.cnN / 256 % 256 = 0 then { s with servoN := [] } else s
  if s.enabled 0x2A && s.get R.RSMP_RATIO_RHO == 0 then
    forEach ((s.regs.filter (fun e => e.1 % 1048576 == 0x2A048 && e.2.getLsbD 0)).map (fun e => e.1 / 1048576)) s
      (fun s c => s.servoChan c (host.contains c))
  else s

/-! The datapath of a crossing. -/

/-- The Prism output with index `i` of channel `c` at rate `r`. -/
def prismAt (s : State) (c r : Nat) (i : Int) : Option Val :=
  if i < 0 then none else Assoc.find? s.pouts ((4 * (i.toNat / r) + i.toNat % r) * 1024 + c)

/-- The sum over a kernel phase's support, with its flags (R184, R185). -/
def phaseSum (s : State) (c r p : Nat) (base : Int) : Option Val :=
  ((List.range 16).filter (kernelUsed p)).foldl (fun acc (k : Nat) =>
    match acc, s.prismAt c r (base - k) with
    | some a, some x => some ⟨a.v + kernel p k * x.v, a.ovr || x.ovr, a.sub || x.sub⟩
    | _, _ => none) (some ⟨0, false, false⟩)

/-- Output `i` of channel `c`, which belongs to crossing `n` (R184, R185), and whether R188 makes it VOID. -/
def resample (s : State) (n c i : Nat) : Option Val × Bool × State :=
  let g := s.segOf c i
  let d := if s.flagAt n (R.PAGE_CTL_ENABLE 0x2A) then s.getAt n (R.RSMP_CH_DELAY c) else 0
  let u : Int := ((g.rate * g.cr * one32 + (i - g.idx) * g.step : Nat) : Int) - (d * 2 ^ 22 : Nat)
  let base := (u + (one32 : Int) - 1) / one32
  let x := (base * one32 - u).toNat
  let dr := if x % 65536 = 32768 then s.draw else (1, s)
  let s := dr.2
  let phi := if x % 65536 = 32768 then x / 65536 + Config.free dr.1 % 2 else (x + 32768) / 65536
  let p := phi / 64
  let a := phi % 64
  let since := Assoc.getD (fun _ => 0) (if n < s.time.lastCatch then s.prevRateCr else s.rateCr) c
  let low := if a = 0 ∧ p = 0 then base - 7 else if a = 0 ∧ p = 1024 then base - 8 else base - 15
  let old := decide (0 < since) && decide (low < ((g.rate * since : Nat) : Int))
  let out (y : Int) (o b : Bool) : Option Val :=
    let z := clamp18 y
    some ⟨z.1, o || z.2, b⟩
  if old then (none, true, s)
  else if a = 0 then
    match s.phaseSum c g.rate p base with
    | none => (none, false, s)
    | some v => (out ((v.v + 65536) / 131072) v.ovr v.sub, false, s)
  else
    match s.phaseSum c g.rate p base, s.phaseSum c g.rate (p + 1) base with
    | some v, some w =>
      (out (((64 - (a : Int)) * v.v + a * w.v + 2 ^ 22) / 2 ^ 23) (v.ovr || w.ovr) (v.sub || w.sub), false, s)
    | _, _ => (none, false, s)

/-- A Prism rate above ACQ.CTL.RMAX (R214). -/
def rateOver (rmax r : Nat) : Bool := decide (rateOf rmax < r)

/-- The rows with a double-bit error that the outputs of crossing `m` write anew. -/
def wakeHeal (s : State) (m : Nat) : State :=
  { s with wakeBad := s.wakeBad.filter (fun e =>
      let c := e % 1024
      let i := s.streamIdx c m
      !((List.range (s.streamIdx c (m + 1) - i)).any (fun k => (i + k) / 4 % 2048 == e / 1024))) }

/-- The channels whose resampler outputs of crossing `n` can matter: the enabled ones, and those whose rate changed so lately
that R188 may count outputs. -/
def rsmpChans (s : State) (n : Nat) : List Nat :=
  let on := if s.flagAt n (R.PAGE_CTL_ENABLE 0x28) then chansOn (s.regsAt n) else []
  on ++ ((s.rateCr.filter (fun e => decide (n < e.2 + 80) && !on.contains e.1)).map (·.1))

/-- The resampler's part of the crossing that ends, for crossing `n`: the outputs, written in their Wake rings (R182, R184,
R213, R214). -/
def rsmpTick (s : State) (n : Nat) : State :=
  let s := forEach (s.rsmpChans n) s (fun s c =>
    let i0 := s.streamIdx c n
    forEach (List.range (s.streamIdx c (n + 1) - i0)) s (fun s k =>
      let o := s.resample n c (i0 + k)
      let s := if o.2.1 then o.2.2.count R.RSMP_RATE_VOID_CNT else o.2.2
      match o.1 with
      | none => s
      | some y =>
        if rateOver (s.getAt n R.ACQ_CTL_RMAX) (rateOf (s.getAt n (R.PRISM_CH_CFG_RATE c))) then s
        else { s with wake := Assoc.put s.wake ((i0 + k) * 1024 + c) { y with ovr := y.ovr || y.v == -131072 } }))
  s.wakeHeal n

/-- Words that the ring has written over are no longer kept. -/
def wakePrune (s : State) : State :=
  { s with wake := s.wake.filter (fun e => decide (s.streamIdx (e.1 % 1024) (s.time.cr - 8) ≤ e.1 / 1024 + 8192)) }

end State

end Sys2Proof.Machine
end

