-- ==== Sys2Proof/Machine/Acq.lean ====
section
/-! DEFINITION. Triggers and the accept queue (chapter 11): accepts, START inputs, self-triggers, auto mode, the prescale, the
reach checks, and the neighbour ports. -/

namespace Sys2Proof.Machine

namespace State

/-! The accept queue (R217, R223, R242, R244). -/

/-- The next event number is taken (R242). -/
def takeNumber (s : State) : Nat × State := (s.evNo, { s with evNo := (s.evNo + 1) % 65536 })

/-- Word 3 of a trigger accepted `back` crossings before the present one (R244). -/
def acceptTime (s : State) (back : Int) : BitVec 64 :=
  let t := (s.hubTime : Int) - back * ((s.incr : Int) + s.geti R.TIME_RATE_ADJ)
  let sec := t / secondSub
  BitVec.ofNat 64 (unsigned 32 sec * 2 ^ 32 + (t - sec * secondSub).toNat / 2 ^ 32)

/-- A trigger offered to the accept queue of an ENABLED page (R217, R218, R223): its source, type, accepted crossing, anchor
crossing, and for a START trigger T' and the fine time. -/
def enqueue (s : State) (src type : Nat) (acc anchor : Int) (startT : Option Int) (fine : Nat) : State :=
  if 256 ≤ s.accQ.length then
    let s := (s.count R.ACQ_QUEUE_FULL_CNT).raise E.ACQ_QUEUE_FULL
    if src = 0 then ((s.takeNumber.2).raise E.ACQ_OVERRUN).fault 0x30 1 0 else s
  else
    let n := s.takeNumber
    let back := (s.time.cr : Int) - acc
    let e : Entry := {
      src := src, type := type, word1 := s.time.cn - BitVec.ofInt 64 back, hub := s.hubAt acc.toNat,
      word3 := s.acceptTime back, anchor := anchor, startT := startT, fine := fine,
      ofs := s.geti (R.ACQ_TYPEt_OFS type), len := s.get (R.ACQ_TYPEt_LEN type), evNo := n.1 }
    let s := { n.2 with accQ := n.2.accQ ++ [e], autoCnt := 0 }
    let s := s.set R.ACQ_QUEUE_LEVEL_HIGH (max (s.get R.ACQ_QUEUE_LEVEL_HIGH) s.accQ.length)
    s.countW R.ACQ_ENQ_CNT E.ACQ_ENQ_WRAP

/-- The effective prescale of a local source, P · 2^S (R232). -/
def prescale (s : State) (p : Nat) : Nat := max 1 p * 2 ^ s.get R.ACQ_STATUS_PS_SHIFT

/-- A trigger of a local source (R217, R232): dropped outside a run, counted while the page is DISABLED, then prescaled
(`p` is none for AUTO); the result says whether it went on to the queue. -/
def localTrigger (s : State) (src type : Nat) (p : Option Nat) (acc anchor : Int) (startT : Option Int) (fine : Nat) :
    Bool × State :=
  if !s.running then (false, s)
  else if !s.enabled 0x30 then (false, s.count R.ACQ_DISABLED_CNT)
  else
    let c := Assoc.getD (fun _ => 0) s.presc src
    let keep := match p with
      | none => true
      | some p => c == 0 || decide (s.prescale p ≤ c)
    if keep then
      let s := if p.isSome then { s with presc := Assoc.put s.presc src 1 } else s
      (decide (s.accQ.length < 256), s.enqueue src type acc anchor startT fine)
    else (false, { s with presc := Assoc.put s.presc src (c + 1) }.count R.ACQ_PRESCALED_CNT)

/-! The reach checks (R219, R220). -/

/-- The effective latencies of the enabled sources that produce a type. -/
def latencies (v : State) (t : Nat) : List Nat :=
  (if v.enabled 0x0E || v.enabled 0x0F then [v.get R.ACQ_LATENCY + v.get R.SYNC_ALIGN_K + 2] else [])
    ++ (if v.enabled 0x31 then
          ((List.range 4).filter (fun n => v.flag (R.START_INs_CTL_EN n) && v.flag (R.START_INs_CTL_TRIG n)
            && v.get (R.START_INs_CTL_TYPE n) == t)).map (fun n => (v.get (R.START_INs_DELAY n) + 4095) / 4096 + 3)
        else [])
    ++ (if v.enabled 0x32 && v.get R.SELF_CTL_TYPE == t then [26] else [])

/-- reach of a type (R219); a type that no source produces, or AUTO alone, has a latency of 0. -/
def reach (v : State) (t : Nat) : Int :=
  (rateOf (v.get R.ACQ_CTL_RMAX) * (v.latencies t).foldl max 0 : Nat) - v.geti (R.ACQ_TYPEt_OFS t)
    + v.get (R.ACQ_TYPEt_LEN t)

/-- The lowest type that fails R219. -/
def reachFails (v : State) : Option Nat := (List.range 16).find? (fun t => decide (8128 < v.reach t))

/-- The refusal of a staged ACQ set: the lowest cause and its lowest type (R219, R456). `v` holds the set over the state
before the catch. -/
def acqRefuse (v : State) : Option (Nat × Nat) :=
  match (List.range 16).find? (fun t => v.get (R.ACQ_TYPEt_LEN t) == 0 || decide (32 < v.get (R.ACQ_TYPEt_LEN t))) with
  | some t => some (1, t)
  | none =>
    match v.reachFails with
    | some t => some (2, t)
    | none => if v.get R.ACQ_CTL_RMAX = 3 then some (3, 0) else none

/-- An ACQ refusal as it is recorded. -/
def acqRefused (s : State) (cause t : Nat) : State :=
  let s := s.set R.ACQ_LAST_REFUSE_CAUSE cause
  let s := if cause = 3 then s else s.set R.ACQ_LAST_REFUSE_TYPE t
  (s.raise E.ACQ_REFUSED).fault 0x30 2 cause

/-- A refused START or SELF set: cause 0x2 REACH is its fault's DETAIL (R219). -/
def localRefused (s : State) (pg : Nat) (ev : Ev) : State := (s.raise ev).fault pg 2 2

/-- The check at the catch of a full resynchronisation with the new ALIGN_K (R220). -/
def reachResync (s : State) : State :=
  if s.reachFails.isSome && !s.flag R.ACQ_STATUS_REACH_HOLD then
    (s.set R.ACQ_STATUS_REACH_HOLD 1).raise E.ACQ_REACH_FAIL
  else s

/-- The queue's part of a catch, after the staged sets: REACH_HOLD ends (R220), RATE_OVER (R214), the prescale shift (R232)
and the count of auto mode (R231). -/
def acqCatch (s : State) : State :=
  let s := if s.flag R.ACQ_STATUS_REACH_HOLD && s.reachFails.isNone then s.set R.ACQ_STATUS_REACH_HOLD 0 else s
  let above := (chansOn s.regs).any (fun c => rateOver (s.get R.ACQ_CTL_RMAX) (s.rate c))
  let s := if above && !s.flag R.ACQ_STATUS_RATE_OVER then s.raise E.ACQ_RATE_OVER else s
  let s := s.setb R.ACQ_STATUS_RATE_OVER above
  let sh := s.get R.ACQ_STATUS_PS_SHIFT
  let top := s.get R.ACQ_PS_MAX
  let s :=
    if s.flag R.DERAND_STATUS_EASY then
      (if sh < top then (s.set R.ACQ_STATUS_PS_SHIFT (sh + 1)).raise E.ACQ_PRESCALE_UP
      else s.set R.ACQ_STATUS_PS_SHIFT top)
    else s.set R.ACQ_STATUS_PS_SHIFT (sh - 1)
  let t := s.get R.ACQ_AUTO_TIMEOUT
  { s with autoCnt := s.autoCnt + 1, autoDue := t != 0 && decide (t ≤ s.autoCnt + 1) }

/-! Accepts (R101, R105, R106, R116). -/

/-- The ports in RUN that copy accepts send this one (R347). -/
def copyAccept (s : State) (type : Nat) : State :=
  forEach (List.range 16) s (fun s p =>
    if s.pstate (0x78 + p) == 1 && s.flag (R.SAT_CTL_ACCEPT_COPY (0x78 + p)) then
      { s with satFast := Assoc.put s.satFast p (Assoc.getD (fun _ => 0) s.satFast p / 16 * 16 + 32 + type) }
    else s)

/-- An accept counted against the EASY contract (R106, R415). -/
def easyAccept (s : State) (m : BitVec 64) : State :=
  match s.pace.nE with
  | none => s
  | some e =>
    if e.toNat + s.get R.SYNC_ALIGN_K + 1 ≤ m.toNat then
      let s := s.count R.PACEA_EASY_ACCEPTS
      if 64 < s.get R.PACEA_EASY_ACCEPTS ∧ !s.pace.breach then
        { s.raise E.PACEA_EASY_BREACH with
          pace := { (s.raise E.PACEA_EASY_BREACH).pace with breach := true }, easyBroken := true }
      else s
    else s

/-- A valid accept of type `t` that no HOLD discards (R101, R217, R220). -/
def paceAccept (s : State) (t : Nat) : State :=
  let m := s.deliveryLabel
  let s := (s.countW R.PACEA_ACCEPT_CNT E.PACEA_ACCEPT_WRAP).fire 0x14
  let s := (s.easyAccept m).copyAccept t
  let acc : Int := (s.time.cr : Int) - (s.get R.SYNC_ALIGN_K + 2 : Nat)
  if !s.enabled 0x30 then (s.takeNumber.2).count R.ACQ_DISABLED_CNT
  else if s.flag R.ACQ_STATUS_REACH_HOLD then (s.takeNumber.2).count R.ACQ_REACH_HELD_CNT
  else s.enqueue 0 t acc (acc - s.get R.ACQ_LATENCY) none 0

/-- A crossing whose trigger byte no lane delivers validly is lost for triggering (R101, R105). -/
def trigLost (s : State) (a b : Bool) : State :=
  let s := (s.countBad R.PACEx_TRIG_PARITY_CNT none a b).raise E.PACEA_TRIG_PARITY
  let s := if s.running then s.count R.PACEA_BLIND_CR else s
  { s with pace := { s.pace with trigErr := 2, trigErrCr := s.time.cr, lost := (s.arrival :: s.pace.lost).take 8 } }

/-- The trigger bytes that the lanes delivered for the crossing m = n − ALIGN_K − 2 (R101). A crossing that neither lane delivered, where no
outage took it, is lost for triggering. In an outage its crossings are blind, and R101's actions for a lost crossing are not taken
beside that; an accept outside a run or in HOLD counts neither in ACCEPT_CNT nor in EASY_ACCEPTS (R101, R106, R115, R116: DESIGN
CHOICE, log entry 23). -/
def takeAccept (s : State) (a b : Option Byte) : State :=
  if !s.commandsArrive then
    (if s.alive && s.laneUp s.dataLane && !s.pace.outGap.covers s.arrival then s.trigLost false false else s)
  else
    match s.repaired trigValid a b with
    | none => s.trigLost a.isSome b.isSome
    | some (w, rep) =>
      let s := if rep then s.countRepair else s
      if !trigAccept w then s
      else if !s.running then s.count R.PACEA_NORUN_ACCEPTS
      else if s.flag R.PACEA_RUN_HOLD then (s.takeNumber.2).count R.PACEA_HELD_ACCEPTS
      else s.paceAccept (trigType w)

/-! START inputs (R225 to R227). -/

/-- START_EDGE: an edge of the selected sense on input `n` in this crossing; stamped, it fires its source at its own instant
and, with TRIG, will enter the queue 3 crossings later. -/
def doStartEdge (s : State) (n fine : Nat) (stampable : Bool) : State :=
  if !s.alive || !s.enabled 0x31 || !s.flag (R.START_INs_CTL_EN n) then s
  else if !stampable || Assoc.find? s.startLast n == some s.time.cr then
    (s.count (R.START_DOUBLE_CNTs n)).raise E.START_DOUBLE
  else
    let s := s.countW (R.START_EDGE_CNTs n) E.START_EDGE_WRAP
    let s := (s.set (R.START_INs_LAST_FINE n) fine).set (R.START_INs_LAST_CN_LO n) s.cnN
    let s := s.fireAt (0x08 + n) (fine / 256) (s.hubTime + (((s.incr : Int) + s.geti R.TIME_RATE_ADJ) * fine / 4096).toNat)
    let s := { s with startLast := Assoc.put s.startLast n s.time.cr }
    if s.flag (R.START_INs_CTL_TRIG n) then { s with startQ := s.startQ ++ [(s.time.cr, n, fine)] } else s

/-- A stamped edge becomes a trigger under the settings in force now (R226, R425). -/
def startEnter (s : State) (n cr fine : Nat) : State :=
  let t : Int := (4096 * cr + fine : Nat) - (s.get (R.START_INs_DELAY n) : Int)
  (s.localTrigger (1 + n) (s.get (R.START_INs_CTL_TYPE n)) (some (s.get (R.START_INs_PRESCALE n)))
    (t / 4096) (t / 4096) (some t) fine).2

/-- The edges stamped 3 crossings ago become triggers (R219), START0 first (R217). They enter after the Pace accept of their
crossing and before its SELF and AUTO triggers, and at the latest when the crossing ends. -/
def startDue (s : State) : State :=
  let due := s.startQ.filter (fun e => decide (e.1 + 3 ≤ s.time.cr))
  if due.isEmpty then s
  else
    let s := { s with startQ := s.startQ.filter (fun e => decide (s.time.cr < e.1 + 3)) }
    forEach (List.range 4) s (fun s n =>
      forEach (due.filter (fun e => e.2.1 == n)) s (fun s e => s.startEnter n e.1 e.2.2))

/-- ACCEPT (R101): the trigger bytes of a crossing, and after them the START triggers that enter in it (R217). -/
def doAccept (s : State) (a b : Option Byte) : State := if s.alive then (s.takeAccept a b).startDue else s

/-! Self-triggers (R228 to R230). -/

/-- A hit test of R228. -/
def isHit (s : State) (n c : Nat) (y : Int) : Bool :=
  let th : Int := s.getAt n (R.SELF_CH_THR c)
  if s.flagAt n (R.SELF_CH_CFG_POL c) then decide (y ≤ -th) else decide (th ≤ y)

/-- The channels with SELF.CH_CFG.EN = 1 in the stroke of crossing `n`. -/
def selfChans (s : State) (n : Nat) : List Nat :=
  ((s.regsAt n).filter (fun e => e.1 % 1048576 == 0x3204C && e.2.getLsbD 0)).map (fun e => e.1 / 1048576)

/-- The phases at which a channel, or a pair from its even channel on, hits in crossing `n` (R228, R229). -/
def hitPhases (s : State) (n c : Nat) : List Nat :=
  let r := rateOf (s.getAt n (R.PRISM_CH_CFG_RATE c))
  let out (c j : Nat) : Option Int := (Assoc.find? s.pouts ((4 * n + j) * 1024 + c)).map (·.v)
  ((List.range r).filter (fun j =>
    match out c j with
    | none => false
    | some y =>
      if s.flagAt n R.SELF_CTL_MODE then
        (match out (c + 1) j with
        | none => false
        | some z => s.isHit n c (y + z))
      else s.isHit n c y)).map (fun j => (j + 1) * (4 / r) - 1)

/-- The hub hit of crossing `n`, formed in crossing n + 5 (R229, R230). -/
def selfTick (s : State) (n : Nat) : State :=
  if !s.flagAt n (R.PAGE_CTL_ENABLE 0x32) then s
  else
    let pair := s.flagAt n R.SELF_CTL_MODE
    let cs := (s.selfChans n).filter (fun c => !pair || c % 2 == 0)
    let rateAt (c : Nat) : Nat := rateOf (s.getAt n (R.PRISM_CH_CFG_RATE c))
    let skip := if pair then cs.filter (fun c => rateAt c != rateAt (c + 1)) else []
    let s := s.countBy R.SELF_PAIR_SKIP_CR skip.length
    let banks := s.getAt n R.SELF_BANK_EN
    let use_ := cs.filter (fun c => !skip.contains c && (banks / 2 ^ (c / 32)) % 2 == 1)
    let ph := use_.flatMap (fun c => s.hitPhases n c)
    let h := (List.range 4).foldl (fun a p => a + (if ph.contains p then 2 ^ p else 0)) 0
    if h = 0 then s else { s.count R.SELF_HIT_CR with hits := Assoc.put s.hits n h }

/-- A port may take part in coincidence now (R230). -/
def eligible (s : State) (j : Nat) : Bool :=
  s.flag (R.NEIGH_PORTj_CTL_COINC j) && s.get (R.NEIGH_PORTj_STATUS_STATE j) == 3
    && s.flag R.TIME_STATUS_SETTLED && s.flag (R.NEIGH_PORTj_STATUS_PEER_SETTLED j)

/-- A port has presented a hit near crossing `n`. -/
def nbHit (s : State) (n w j : Nat) : Bool :=
  (List.range (2 * w + 1)).any (fun k => decide (w ≤ n + k)
    && Assoc.getD (fun _ => 0) s.nbHits ((n + k - w) * 4 + j) != 0)

/-- The coincidence of R230 for crossing `n`. -/
def coincides (s : State) (n : Nat) : Bool :=
  let w := s.get R.SELF_CTL_COINC_WIN
  let ok (j : Nat) : Bool := s.eligible j && s.nbHit n w j
  if s.flag R.SELF_CTL_COINC_ALL then
    (List.range 4).all (fun j => !s.flag (R.NEIGH_PORTj_CTL_COINC j) || ok j)
  else (List.range 4).any ok

/-- SELF_TRIGGER (R230): the decision for crossing n − 26, made once at the start of crossing n, under the settings in force then
(R425); START triggers of this crossing go first (R217). A DISABLED page makes none. -/
def doSelfTrigger (s : State) : State :=
  if !s.alive || s.time.cr < 26 || s.selfSeen == some (s.time.cr - 26) then s
  else
    let n := s.time.cr - 26
    let s := { s.startDue with selfSeen := some n }
    let held : Bool := match s.selfLast with
      | none => false
      | some l => decide (n ≤ l + s.get R.SELF_CTL_HOLDOFF)
    if !s.enabled 0x32 || Assoc.getD (fun _ => 0) s.hits n == 0 || held then s
    else if s.flag R.SELF_CTL_COINC_EN && !s.coincides n then
      let s := s.count R.SELF_COINC_FAIL_CR
      if (List.range 4).any (fun j => s.flag (R.NEIGH_PORTj_CTL_COINC j) && !s.eligible j) then
        let s := s.count R.SELF_COINC_BLOCKED_CR
        if s.coincTold = some s.time.catches then s
        else { s.raise E.SELF_COINC_BLOCKED with coincTold := some s.time.catches }
      else s
    else
      let s := { s.countW R.SELF_TRIG_CNT E.SELF_TRIG_WRAP with selfLast := some n }
      let r := s.localTrigger 5 (s.get R.SELF_CTL_TYPE) (some (s.get R.SELF_PRESCALE)) n n none 0
      if r.1 then (r.2.raise E.SELF_TRIG).fire 0x15 else r.2

/-! Auto mode (R231). -/

/-- AUTO_TRIGGER: in the crossing of a catch at which the catches since a trigger last entered have reached TIMEOUT. Triggers of
Pace and START that enter in that crossing go first, and the AUTO trigger still enters (R217, R231). -/
def doAutoTrigger (s : State) : State :=
  let s := if s.alive then s.startDue else s
  if s.alive && s.autoDue && s.time.lastCatch == s.time.cr && !s.time.catchDue && decide (0 < s.time.catches) then
    let s := { s with autoCnt := 0, autoDue := false }
    if s.running then
      let s := if s.enabled 0x30 then ((s.raise E.ACQ_AUTO_FIRED).count R.ACQ_AUTO_CNT).fire 0x16 else s
      (s.localTrigger 6 (s.get R.ACQ_AUTO_TYPE) none s.time.cr s.time.cr none 0).2
    else s
  else s

/-! Neighbour ports (R233 to R236). -/

/-- A port's state. -/
def nbState (s : State) (j : Nat) : Nat := s.get (R.NEIGH_PORTj_STATUS_STATE j)

/-- A port enters a state; a part-received port message is dropped. -/
def nbEnter (s : State) (j st : Nat) : State :=
  { s.set (R.NEIGH_PORTj_STATUS_STATE j) st with
    nbSt := Assoc.put s.nbSt j s.time.catches, nbMsg := Assoc.del s.nbMsg j,
    nbErrs := Assoc.del s.nbErrs j, nbMiss := Assoc.del s.nbMiss j }

/-- A port presents no hit and no SETTLED. -/
def nbSilent (s : State) (j : Nat) : State := s.set (R.NEIGH_PORTj_STATUS_PEER_SETTLED j) 0

/-- The word sent on port `j` in this crossing (R233, R236); none while the port is OFF. -/
def nbWordOut (s : State) (j : Nat) : Option Byte :=
  let st := s.nbState j
  if st = 0 then none
  else if st = 1 then some 0xCA
  else
    let c := s.pos
    let msg := s.get (R.NEIGH_PORTj_RX_DELAY j) + (if st = 3 then 2 ^ 20 else 0) + j * 2 ^ 21
    let aux := if 1 ≤ c ∧ c ≤ 32 then msg / 2 ^ (c - 1) % 2 else 0
    let hit := if s.enabled 0x32 && decide (6 ≤ s.time.cr) then Assoc.getD (fun _ => 0) s.hits (s.time.cr - 6) else 0
    let w := (if c = 0 then 128 else 0) + s.get R.TIME_STATUS_SETTLED * 64 + aux * 32 + hit
    some (BitVec.ofNat 8 (w + (if ones (BitVec.ofNat 8 w) % 2 = 1 then 0 else 16)))

/-- The ports' part of a crossing that begins: the words they send. -/
def neighSend (s : State) : State :=
  forEach (List.range 4) s (fun s j =>
    match s.nbWordOut j with
    | none => s
    | some w => s.emit (.neigh j w))

/-- Hits too old for any decision are dropped. -/
def hitsPrune (s : State) : State :=
  { s with hits := s.hits.filter (fun e => decide (s.time.cr ≤ e.1 + 64)),
           nbHits := s.nbHits.filter (fun e => decide (s.time.cr ≤ e.1 / 4 + 64)) }

/-- The cable length of a neighbour port, with half the round trip as its mean (R92, R234), once both delays are valid. -/
def nbCable (s : State) (j : Nat) : State :=
  if s.nbState j == 3 && s.flag (R.NEIGH_PORTj_STATUS_PEER_VALID j) then
    let sum : Int := s.get (R.NEIGH_PORTj_RX_DELAY j) + s.get (R.NEIGH_PEER_DELAYj j)
    let num := (sum * s.incr - s.get R.SYNC_FIXED_LAT * 256 * 65536 * 8192) * 299792458 * s.get R.SYNC_VF * 256
    s.putUnsigned (R.SYNC_CABLE_LENp (2 + j)) (roundDiv num (8192 * 2 ^ 48 * 1000000000))
  else s

/-- A bit of the peer's port message, bit `k` (R233): the message counts once all 32 have come in order. -/
def nbAux (s : State) (j k : Nat) (b : Bool) : State :=
  let v := if b then 2 ^ k else 0
  let old := if k = 0 then some 0 else (Assoc.find? s.nbMsg j).bind (fun m => if m.1 = k then some m.2 else none)
  match old with
  | none => { s with nbMsg := Assoc.del s.nbMsg j }
  | some m =>
    if k < 31 then { s with nbMsg := Assoc.put s.nbMsg j (k + 1, m + v) }
    else
      let w := BitVec.ofNat 32 (m + v)
      let s := { s with nbMsg := Assoc.del s.nbMsg j }
      let s := (s.set (R.NEIGH_PEER_DELAYj j) (bits w 0 20)).set (R.NEIGH_PORTj_STATUS_PEER_VALID j) (bits w 20 1)
      (s.set (R.NEIGH_PORTj_STATUS_PEER_PORT j) (bits w 21 2)).nbCable j

/-- A port leaves RUN for TRAIN (R236). -/
def nbDown (s : State) (j : Nat) : State := ((s.nbEnter j 1).nbSilent j).raise E.NEIGH_LINK_DOWN

/-- The CATCH of the peer's catch word came or was missing; the second in a row that is missing ends RUN (R236). -/
def nbCatchSeen (s : State) (j : Nat) (there : Bool) : State :=
  let n := if there then 0 else Assoc.getD (fun _ => 0) s.nbMiss j + 1
  if n < 2 then { s with nbMiss := Assoc.setD (fun _ => 0) s.nbMiss j n } else s.nbDown j

/-- A word with wrong parity (R233): it presents nothing; the 16th within 256 crossings ends RUN (R236), and so may a catch word. -/
def nbParity (s : State) (j c : Nat) : State :=
  let s := (s.count (R.NEIGH_PARITY_CNTj j)).raise E.NEIGH_PARITY
  let s := { s.nbSilent j with nbMsg := Assoc.del s.nbMsg j }
  if s.nbState j != 3 then s
  else
    let l := (s.time.cr :: (Assoc.getD (fun _ => []) s.nbErrs j)).filter (fun t => decide (s.time.cr < t + 256))
    if 16 ≤ l.length then s.nbDown j
    else
      let s := { s with nbErrs := Assoc.put s.nbErrs j l }
      if c = 0 then s.nbCatchSeen j false else s

/-- NEIGH_WORD (R233, R235, R236): the word presented in this crossing, sent by the peer 16 crossings ago with the hit of 22
crossings ago. -/
def doNeighWord (s : State) (j : Nat) (w : Byte) : State :=
  let st := s.nbState j
  let c := (s.time.cn - 16).toNat % 256
  if !s.alive || st < 2 then s
  else if ones w % 2 = 0 then s.nbParity j c
  else if st = 3 then
    let s := s.setb (R.NEIGH_PORTj_STATUS_PEER_SETTLED j) (w.getLsbD 6)
    let h := w.toNat % 16
    let s := if h != 0 && decide (22 ≤ s.time.cr) then
      { s with nbHits := Assoc.put s.nbHits ((s.time.cr - 22) * 4 + j) h } else s
    if c = 0 then s.nbCatchSeen j (w.getLsbD 7)
    else if c ≤ 32 then s.nbAux j (c - 1) (w.getLsbD 5) else s
  else s

/-- NEIGH_TRAINED (R236): TRAIN to MEASURE. -/
def doNeighTrained (s : State) (j : Nat) : State := if s.alive && s.nbState j == 1 then s.nbEnter j 2 else s

/-- NEIGH_TRAIN_TIMEOUT (R236): 16 st of training without lock. -/
def doNeighTimeout (s : State) (j : Nat) : State :=
  if s.alive && s.nbState j == 1 && decide (Assoc.getD (fun _ => 0) s.nbSt j + 16 ≤ s.time.catches) then
    (s.count (R.NEIGH_TRAIN_FAIL_CNTj j)).nbEnter j 1
  else s

/-- The sampling phase `fine` takes the first bit of a word that arrives `delay`/4,096 cr after the boundary inside that bit, which
lasts 512/4,096 cr: the phase counts modulo one bit (R235). -/
def fineAligns (delay fine : Nat) : Bool :=
  decide (0 < (64 * fine + 512 - delay % 512) % 512)

/-- NEIGH_CATCH_WORD (R234 to R236): the peer's CATCH word arrives `delay`/4,096 cr after the local catch. With AUTO = 0 the host's
COARSE and FINE must align it (log entry 32). RX_DELAY is a native time-stamp, and stamps are suspended while the hub is Moored
(R96): the port then stays in MEASURE. -/
def doNeighCatch (s : State) (j delay : Nat) : State :=
  if !s.alive || s.moored || s.nbState j != 2 then s
  else
    let s := s.set (R.NEIGH_PORTj_RX_DELAY j) delay
    if 61440 ≤ delay then (s.raise E.NEIGH_RANGE).fault 0x33 1 j
    else
      let coarse := 14 - delay / 4096
      let fine := ((delay + 256) % 4096 + 32) / 64 % 64
      let done (s : State) : State :=
        (((s.nbEnter j 3).set (R.NEIGH_PORTj_STATUS_RECAL_DONE j) 1).raise E.NEIGH_RECAL_DONE).nbCable j
      if s.flag (R.NEIGH_PORTj_CTL_AUTO j) then
        done ((s.set (R.NEIGH_PORTj_COMP_COARSE j) coarse).set (R.NEIGH_PORTj_COMP_FINE j) fine)
      else if s.get (R.NEIGH_PORTj_COMP_COARSE j) == coarse && fineAligns delay (s.get (R.NEIGH_PORTj_COMP_FINE j)) then done s
      else (s.raise E.NEIGH_ALIGN_ERR).nbEnter j 1

/-- NEIGH_LINK_DOWN (R236): RUN to TRAIN, on what no word presented shows. -/
def doNeighDown (s : State) (j : Nat) : State := if s.alive && s.nbState j == 3 then s.nbDown j else s

/-- The ports at the catch of a full resynchronisation (R236). -/
def neighResync (s : State) : State :=
  forEach (List.range 4) s (fun s j =>
    let s := if s.nbState j = 3 then (s.nbEnter j 2).nbSilent j else s
    s.set (R.NEIGH_PORTj_STATUS_RECAL_DONE j) 0)

/-- A port's enable as a catch applies it (R236). -/
def neighCatch (s : State) : State :=
  forEach (List.range 4) s (fun s j =>
    let on := s.flag (R.NEIGH_PORTj_CTL_EN j)
    if on && s.nbState j == 0 then s.nbEnter j 1
    else if !on && s.nbState j != 0 then (s.nbEnter j 0).nbSilent j
    else s)

end State

end Sys2Proof.Machine
end

