-- ==== Sys2Proof/Machine/Cal.lean ====
section
/-! DEFINITION. Spare slices and calibration (chapter 07): power-up calibration, the rotation, comparisons, self-tests,
CAL_NOW requests, stuck and dead slices. -/

namespace Sys2Proof.Machine

/-- The time-outs of the steps of power-up calibration in strokes (R138). -/
def puTimeout (step : Nat) : Nat :=
  if step = 1 then 512 else if step = 2 then 2048 else if step = 3 then 8192 else if step = 4 then 2048 else 3584

/-- A slice's health in a bank. -/
def BankCal.healthOf (k : BankCal) (sl : Nat) : Nat := (k.health[sl]?).getD 3

/-- The bank has a BAD slice. -/
def BankCal.anyBad (k : BankCal) : Bool := k.health.contains 2

/-- The BAD primaries whose channel is powered, lowest index first. -/
def BankCal.badPowered (k : BankCal) : List Nat :=
  (List.range 32).filter (fun i => k.healthOf i == 2 && k.pow.getLsbD i)

/-- A slot is in progress: overlap onto the spare, calibration or overlap back (R142). -/
def BankCal.inSlot (k : BankCal) : Bool := k.spare == spOverlapOn || k.spare == spServing || k.spare == spOverlapBack

/-- The strokes of idle time that remain before the next scheduled slot (R146, R147). -/
def BankCal.idleLeft (k : BankCal) : Nat := (k.rests.map (·.left)).sum

/-- A slot has not finished: one is in progress, or rests after its overlap has failed, with the self-test that belongs to it (R146, R153). -/
def BankCal.slotOpen (k : BankCal) : Bool :=
  k.inSlot || k.rests.any (fun r => r.chan.isSome) || (k.spare == spSelftest && k.stFor.isSome)

/-- The channel is powered and not DEAD, so that a slot may be run for it (R147). -/
def BankCal.runnable (k : BankCal) (i : Nat) : Bool := k.pow.getLsbD i && !k.dead.getLsbD i

/-- The rotation index advances; a new rotation is not extended yet (R147, R148). -/
def BankCal.advance (k : BankCal) : BankCal :=
  let r := (k.rotIdx + 1) % 32
  { k with rotIdx := r, extended := k.extended && r != 0 }

namespace State

/-- A slice gets a health code; SUSPECT and BAD are reported (R140, R139). -/
def setHealth (s : State) (b sl h : Nat) : State :=
  let k := s.bank b
  let s := s.setBank b { k with health := k.health.set sl h }
  if h = 1 then s.raise E.CAL_SUSPECT
  else if h = 2 then (s.raise E.CAL_BAD).fault 0x07 3 b
  else s

/-- A slice fails: OK becomes SUSPECT, SUSPECT becomes BAD (R140). -/
def failSlice (s : State) (b sl : Nat) : State :=
  let h := (s.bank b).healthOf sl
  if h = 0 then s.setHealth b sl 1 else if h = 1 then s.setHealth b sl 2 else s

/-- A SUSPECT slice that passes returns to OK (R140). -/
def passSlice (s : State) (b sl : Nat) : State :=
  if (s.bank b).healthOf sl = 1 then s.setHealth b sl 0 else s

/-- A CAL_NOW request is refused (R146, R147, R150). -/
def refuseNow (s : State) : State := (s.count R.CAL_NOW_REFUSED_CNT).raise E.CAL_NOW_REFUSED

/-- The spare enters a state at this catch. -/
def enterSpare (s : State) (b st : Nat) : State :=
  s.setBank b { s.bank b with spare := st, phaseSt := s.time.catches, ovl := none, cmp := ⟨0, 0, 0, 0⟩ }

/-- A self-test of the spare starts (R149). -/
def startSelftest (s : State) (b : Nat) : State :=
  let s := s.enterSpare b spSelftest
  s.setBank b { s.bank b with stReq := false, step := 2, stepSt := s.time.catches }

/-- A slot starts at this catch for channel index `i` (R142, R143). -/
def startSlot (s : State) (b i : Nat) (now : Bool) : State :=
  let s := s.enterSpare b spOverlapOn
  let far := (List.range 59).any (fun t => decide (127 < (s.trimTarget b 32 t - s.trim b 32 t).natAbs))
  let k := s.bank b
  let s := s.setBank b { k with index := i, now := now, backBad := false, reach := !far, extended := k.extended || now }
  let s := if far then s.failSlice b 32 else s
  if now then s.set R.CAL_NOW_STATUS_LAST (32 * b + i) else s

/-- The requests at the head of the CAL_NOW queue whose channels are powered down or DEAD are removed and refused, at most `n` of
them (R147). -/
def dropNow (s : State) (b : Nat) : Nat → State
  | 0 => s
  | n + 1 =>
    match (s.bank b).queue with
    | [] => s
    | i :: q => if (s.bank b).runnable i then s else (s.setBank b { s.bank b with queue := q }).refuseNow.dropNow b n

/-- The rotation of the bank should run (R142). -/
def rotWanted (s : State) (b : Nat) : Bool :=
  s.enabled 0x07 && (BitVec.ofNat 24 (s.get R.CAL_ROT_EN)).getLsbD b && (s.bank b).puDone && !(s.bank b).anyBad

/-- ROTATING follows, once the slot in progress has finished (R141, R153). -/
def rotUpdate (s : State) (b : Nat) : State :=
  let k := s.bank b
  let want := s.rotWanted b
  if k.rotating && !want && !k.slotOpen then (s.setBank b { k with rotating := false }).raise E.CAL_ROT_STOPPED
  else if !k.rotating && want then s.setBank b { k with rotating := true }
  else s

/-- The slices are assigned at a catch (R141, R152): the spare goes to a powered channel with a BAD primary before any slot, the
lowest first, but stays with one that it serves already because its primary is BAD; a channel left without a slice is DEAD. Neither this
takeover, nor the return to the primary that goes with it, nor the end of a slot by R457 counts in HANDOVER_CNT (DESIGN CHOICE, log
entry 25: R145 speaks of the hand-over and hand-back of a slot). -/
def assign (s : State) (b : Nat) : State :=
  let k := s.bank b
  let s :=
    if k.healthOf 32 = 2 then
      (if k.spare = spLost then s
       else
        let s := s.enterSpare b spLost
        s.setBank b { s.bank b with stReq := false, stFor := none, rests := [] })
    else
      match k.badPowered with
      | [] => if k.spare = spPermanent then s.enterSpare b spIdle else s
      | i :: l =>
        if k.spare == spPermanent && (i :: l).contains k.index then s
        else
          let s := s.enterSpare b spPermanent
          s.setBank b { s.bank b with index := i, now := false, stReq := false, stFor := none, rests := [] }
  let k := s.bank b
  let dead := (List.range 32).foldl (fun m i =>
    if k.healthOf i = 2 ∧ !(k.spare == spPermanent && k.index == i) then m ||| BitVec.ofNat 32 (2 ^ i) else m) (0 : BitVec 32)
  let fresh := dead &&& ~~~ k.dead
  let s := s.setBank b { k with dead := dead }
  if fresh = 0 then s else (s.raise E.CAL_DEAD).fault 0x07 4 b

/-- A slot whose overlap has failed ends because its channel `i` is powered down (R146, R457): its idle rest, the self-test that runs or
waits for it, and one that the spare runs in that idle time. -/
def restPowerDown (s : State) (b i : Nat) : State :=
  let k := s.bank b
  let mine := k.stFor == some i
  let s := if k.spare == spSelftest && (mine || k.stFor.isNone) then s.enterSpare b spIdle else s
  let k' := { s.bank b with rests := k.rests.filter (fun r => r.chan != some i) }
  let k' := if mine then { k' with stReq := false, stFor := none } else k'
  s.setBank b (if k.rests.any (fun r => r.chan == some i && r.adv) then k'.advance else k')

/-- A slot ends because its channel is powered down at this catch (R457). -/
def slotPowerDown (s : State) (b : Nat) : State :=
  let k := s.bank b
  let s :=
    if k.inSlot && !k.pow.getLsbD k.index then
      let s := s.enterSpare b spIdle
      let k' := { s.bank b with now := false }
      s.setBank b (if k.now then k' else k'.advance)
    else s
  forEach ((k.rests.filterMap (·.chan)).filter (fun i => !k.pow.getLsbD i)) s (fun s i => s.restPowerDown b i)

/-- The verdict of a comparison (R144): none with fewer than 128 pairs left. -/
def compareVerdict (s : State) (c : Compare) : Option Bool :=
  if c.n < 128 then none
  else
    let n : Int := c.n
    let mean : Int := s.get R.CAL_CMP_LIM_MEAN
    let rms : Int := s.get R.CAL_CMP_LIM_RMS
    some (decide ((c.sum.natAbs : Int) * 4 ≤ mean * n) && decide (c.sq * 16 ≤ rms * rms * n))

/-- The pairs that the comparator has taken are judged (R144, R146). -/
def judgeOverlap (s : State) (b : Nat) : State :=
  let k := s.bank b
  match s.compareVerdict k.cmp with
  | some true => s.setBank b { k with ovl := some true }
  | none => (s.setBank b { k with ovl := some true }).count R.CAL_INCONCLUSIVE_CNT
  | some false =>
    let s := ((s.setBank b { k with ovl := some false }).raise E.CAL_CMP_FAIL).count R.CAL_CMP_FAIL_CNT
    (s.fault 0x07 2 b).healthFault 0x06 b

/-- The verdict on an overlap at the catch that ends it, judged now if no command has: then by the limits that this catch has applied,
where OVERLAP_COMPARE before it judges by those of the stroke (DESIGN CHOICE, log entry 25: R144 names no moment). -/
def overlapResult (s : State) (b : Nat) : Bool × State :=
  let s := if (s.bank b).ovl.isSome then s else s.judgeOverlap b
  ((s.bank b).ovl.getD true, s)

/-- The rest of a slot is idle (R143, R146). -/
def idleRest (s : State) (b : Nat) : State :=
  let k := s.bank b
  s.setBank b { k with rests := k.rests ++ [⟨some k.index, 2047, !k.now⟩], now := false }

/-- The end of a phase of the slot at a catch (R142 to R146). -/
def slotPhase (s : State) (b : Nat) : State :=
  let k := s.bank b
  let gone := s.time.catches - k.phaseSt
  if k.spare = spOverlapOn then
    if !k.reach then (s.enterSpare b spIdle).idleRest b
    else
      let r := s.overlapResult b
      let s := r.2
      if r.1 then (s.enterSpare b spServing).count R.CAL_HANDOVER_CNT
      else
        let s := (s.enterSpare b spIdle).idleRest b
        s.setBank b { s.bank b with stReq := true, stFor := some k.index }
  else if k.spare = spServing then (if 2046 ≤ gone then s.enterSpare b spOverlapBack else s)
  else if k.spare = spOverlapBack then
    let r := s.overlapResult b
    let s := r.2
    if r.1 then
      let s := (s.enterSpare b spIdle).count R.CAL_HANDOVER_CNT
      let s := s.passSlice b k.index
      let s := if k.backBad then s else s.passSlice b 32
      let k' := { s.bank b with now := false }
      let s := s.setBank b (if k.now then k' else k'.advance)
      if k.now then s.raise E.CAL_NOW_DONE else s
    else
      let s := s.failSlice b k.index
      let s := s.enterSpare b spServing
      s.setBank b { s.bank b with extended := true, backBad := true }
  else s

/-- One stroke of idle time has passed (R146, R147). -/
def idleStroke (s : State) (b : Nat) : State :=
  let k := s.bank b
  match k.rests with
  | [] => s
  | r :: l =>
    if k.inSlot then s
    else if 1 < r.left then s.setBank b { k with rests := { r with left := r.left - 1 } :: l }
    else s.setBank b (if r.adv then { k with rests := l }.advance else { k with rests := l })

/-- An IDLE spare at a catch takes the next slot or self-test that is ready (R146, R147, R149). Neither starts in a bank whose rotation
has stopped or should stop, but for the self-test that belongs to the slot in progress (R146, R153). -/
def spareNext (s : State) (b : Nat) : State :=
  let k := s.bank b
  let hold := s.flag (R.BANK_TDAC_CTL_HOLD (0x10 + b))
  if k.spare != spIdle || !k.rotating then s
  else if k.stReq then (if hold then s else s.startSelftest b)
  else if !s.rotWanted b then s
  else
    match k.queue with
    | i :: q => (s.setBank b { k with queue := q }).startSlot b i true
    | [] =>
      let s := if k.idleLeft = 0 then
          if k.runnable k.rotIdx then s.startSlot b k.rotIdx false
          else s.setBank b { k with rests := [⟨none, 2048, true⟩] }
        else s
      let k := s.bank b
      if k.spare = spIdle ∧ 512 ≤ k.idleLeft ∧ !hold then s.startSelftest b else s

/-- What follows a change of assignment at a catch; a slot that finds its spare BAD (R143) loses it at once. -/
def settleBank (s : State) (b : Nat) : State :=
  let s := ((((s.assign b).rotUpdate b).dropNow b 4).spareNext b).dropNow b 4
  if (s.bank b).healthOf 32 = 2 ∧ (s.bank b).spare ≠ spLost then (s.assign b).rotUpdate b else s

/-- The BANK page's power-up calibration begins (R138). -/
def startPowerup (s : State) (b : Nat) : State :=
  s.setBank b { bankOff with
    spare := spPowerup, attempt := if s.moored then 0 else 1, step := 1,
    stepSt := s.time.catches, phaseSt := s.time.catches }

/-- The channels with POWER = 1. -/
def powered (s : State) (b : Nat) : BitVec 32 :=
  (List.range 32).foldl (fun m i =>
    if s.flag (R.BANK_CHi_POWER (0x10 + b) i) then m ||| BitVec.ofNat 32 (2 ^ i) else m) (0 : BitVec 32)

/-- Bank `b` at a catch, after the staged sets have applied; `s0` is the state before the catch. -/
def calCatch (s0 s : State) (b : Nat) : State :=
  let k := s.bank b
  if !s.enabled (0x10 + b) then (if k.spare = spOff then s else s.setBank b bankOff)
  else if !s0.enabled (0x10 + b) then s.startPowerup b
  else if s.moored then s
  else
    let pow := s.powered b
    let s := s.setBank b { k with pow := pow, up := pow &&& k.pow, stuck := [] }
    if !k.puDone then s
    else ((((s.assign b).idleStroke b).slotPowerDown b).slotPhase b).settleBank b

/-- A bank moors (R427). -/
def calMoor (s : State) (b : Nat) : State :=
  let k := s.bank b
  let k := { k with pow := 0, up := 0, stuck := [], rests := [] }
  s.setBank b (
    if k.spare = spPowerup then { k with attempt := 0 }
    else if k.spare = spSelftest then { k with spare := spIdle, stReq := k.stFor.isSome }
    else if k.inSlot then
      { k with spare := spIdle, ovl := none, now := false,
               queue := if k.now then (k.index :: k.queue).take 4 else k.queue }
    else k)

/-- A bank wakes (R427): an abandoned power-up calibration restarts from step 1. -/
def calWake (s : State) (b : Nat) : State :=
  let k := s.bank b
  if k.spare = spPowerup ∧ k.attempt = 0 then
    s.setBank b { k with attempt := 1, step := 1, stepSt := s.time.catches, failed := [], second := [] }
  else s

/-- A CAL page reset empties the queues (R422). -/
def calPageReset (s : State) : State := { s with banks := s.banks.map (fun k => { k with queue := [] }) }

/-! The commands of chapter 07. -/

/-- The present crossing is that of a catch that has been made. -/
def atCatch (s : State) : Bool := s.alive && !s.time.catchDue && s.time.cr == s.time.lastCatch && decide (0 < s.time.catches)

/-- Power-up calibration ends (R139, R141). -/
def endPowerup (s : State) (b : Nat) : State :=
  let k := s.bank b
  let health := (List.range 33).map (fun sl =>
    if k.stuckPu.contains sl || (k.second.contains sl && k.failed.contains sl) then 2
    else if k.second.contains sl then 1 else 0)
  let s := s.setBank b { k with health := health, puDone := true, spare := spIdle, phaseSt := s.time.catches }
  let s := s.raise E.CAL_PU_DONE
  let s := if health.contains 1 then s.raise E.CAL_SUSPECT else s
  let s := if health.contains 2 then (s.raise E.CAL_BAD).fault 0x07 3 b else s
  s.assign b

/-- A step of a spare's self-test ends (R149): the spare has converged in it, or its budget is spent. -/
def selftestStep (s : State) (b : Nat) (failed : List Nat) : State :=
  let k := s.bank b
  let gone := s.time.catches - k.stepSt
  if s.atCatch && decide (k.step < 6) && decide (0 < gone) then
    if gone ≤ stBudget k.step ∧ !failed.contains 32 then s.setBank b { k with step := k.step + 1, stepSt := s.time.catches }
    else if stBudget k.step ≤ gone then s.setBank b { k with step := 7 }
    else s
  else s

/-- PU_CAL_STEP_END (R138, R139) of a bank's power-up calibration: at a catch at which every slice has converged, or when the step's
time-out has passed for the slices that have not. -/
def powerupStep (s : State) (b : Nat) (failed : List Nat) : State :=
  let k := s.bank b
  let above := decide (k.stepSt + puTimeout k.step ≤ s.time.catches)
  if s.atCatch && k.spare == spPowerup && k.attempt != 0 && decide (k.stepSt < s.time.catches) && (failed.isEmpty || above) then
    let k := { k with failed := k.failed ++ (failed.filter (fun sl => !k.failed.contains sl)) }
    if k.step < 5 then s.setBank b { k with step := k.step + 1, stepSt := s.time.catches }
    else if k.attempt = 1 ∧ !k.failed.isEmpty then
      s.setBank b { k with attempt := 2, step := 1, stepSt := s.time.catches, second := k.failed, failed := [] }
    else (s.setBank b k).endPowerup b
  else s

/-- PU_CAL_STEP_END: a step of power-up calibration ends, or, while the spare is in SELFTEST, a step of its self-test (log entry
25). -/
def doPuStep (s : State) (b : Nat) (failed : List Nat) : State :=
  if (s.bank b).spare = spSelftest then s.selftestStep b failed else s.powerupStep b failed

/-- OVERLAP_COMPARE (R144, R146): the comparator has taken the 512 pairs of crossings 128 to 255 of an overlap, or the overlap's
stroke is over; `pairs` is the number that it has taken. -/
def doCompare (s : State) (b pairs : Nat) : State :=
  let k := s.bank b
  if s.alive && comparing k && k.ovl == none && k.cmp.seen == pairs && (pairs == 512 || s.time.catchDue || s.resyncDue)
  then s.judgeOverlap b
  else s

/-- SPARE_SELFTEST_END (R146, R149): at the catch 512 st after the self-test began. It has passed if every step has been told to have
converged within its budget, failed if one has not; where steps have not been told, the verdict is the row's (log entry 25). -/
def doSpareSelftest (s : State) (b : Nat) (pass : Bool) : State :=
  let k := s.bank b
  if s.atCatch && k.spare == spSelftest && decide (k.phaseSt + 512 ≤ s.time.catches) then
    let s := (s.enterSpare b spIdle).count R.CAL_SELFTEST_CNT
    let s := s.setBank b { s.bank b with stFor := none }
    let s :=
      if k.step == 6 || (pass && k.step != 7) then
        let s := s.passSlice b 32
        match k.stFor with
        | none => s
        | some i =>
          let s := s.failSlice b i
          let rest := (s.bank b).queue.filter (· != i)
          let s := s.setBank b { s.bank b with queue := (i :: rest).take 4 }
          if 4 ≤ rest.length then s.refuseNow else s
      else (s.raise E.CAL_SELFTEST_FAIL).failSlice b 32
    s.settleBank b
  else s

/-- CAL_NOW (R150): a write to CAL.NOW. -/
def calNow (s : State) (d : Word) : State :=
  if !d.getLsbD 15 then s
  else
    let ch := bits d 0 10
    let b := ch / 32
    let i := ch % 32
    if 767 < ch then s.refuseNow
    else
      let k := s.bank b
      if k.queue.contains i then s
      else if decide (4 ≤ k.queue.length) || !s.flag (R.BANK_CHi_POWER (0x10 + b) i) || k.dead.getLsbD i || !k.rotating then
        s.refuseNow
      else s.setBank b { k with queue := k.queue ++ [i] }

/-- The monitor of a slice has fired on 256 equal words in a row (R151), and STUCK_SLICE has not told it: the crossing of the first of
them. A monitor fires once for a run. -/
def monitorFires (k : BankCal) (sl : Nat) : Option Nat := (k.hot.find? (fun e => e.1 == sl)).map (·.2)

/-- STUCK_SLICE (R151, R152): the activity monitor of a powered slice fires. The words of the slice that leave correction
from the next crossing on are VOID: those of the last crossing, phase 3 of the one before, and those to come. -/
def doStuck (s : State) (b sl : Nat) : State :=
  let k := s.bank b
  match monitorFires k sl with
  | none => s
  | some c =>
  if s.alive && (s.activeSlices b).contains sl then
    let first := (s.cnAt c).toNat
    let s := if k.puDone then (if k.healthOf sl = 2 then s else s.setHealth b sl 2)
      else s.setBank b { k with stuckPu := sl :: k.stuckPu.filter (· != sl) }
    let s := s.setBank b { s.bank b with stuck := sl :: k.stuck, hot := k.hot.filter (fun e => e.1 != sl) }
    let s := (s.raise E.CAL_STUCK).count R.CAL_STUCK_CNT
    let s := (s.set R.CAL_FAULT_SLICE_BANK b).set R.CAL_FAULT_SLICE_SLICE sl
    let s := (s.set R.CAL_FAULT_CN_LO first).set R.CAL_FAULT_CN_HI (first / 2 ^ 32)
    let s := (s.fault 0x07 1 b).healthFault 0x05 b
    let hit (e : Nat × BitVec 16) : Bool :=
      let c := e.1 % 1024
      decide (4 * s.time.cr ≤ e.1 / 1024 + 5) && c / 32 == b
        && (if sl = 32 then e.2.getLsbD 15 else c % 32 == sl && !e.2.getLsbD 15)
    { s with words := s.words.filter (fun e => !hit e) }
  else s

end State

end Sys2Proof.Machine
end

