-- ==== Sys2Proof/Machine/Cox.lean ====
section
/-! DEFINITION. Mirror, Cox and the fault guarantee (chapter 20): the two timing and control units, the claims and the
oarlocks, the scrubber's findings, the supply and temperature monitors. -/

namespace Sys2Proof.Machine

/-- PAGE_STATE values of TCUA and TCUB (R406). -/
def tcuActive : Nat := 1
def tcuMirror : Nat := 2
def tcuSelftest : Nat := 3
def tcuReseed : Nat := 4
def tcuUnfit : Nat := 5

namespace State

/-- The Active unit (COX.STATUS.ACTIVE). -/
def activeUnit (s : State) : Unit2 := if s.get R.COX_STATUS_ACTIVE = 0 then .A else .B

/-- A unit's state beyond its page. -/
def tcu (s : State) (u : Unit2) : Tcu := match u with
  | .A => s.tcuA
  | .B => s.tcuB

/-- A unit's state beyond its page, written. -/
def setTcu (s : State) (u : Unit2) (t : Tcu) : State := match u with
  | .A => { s with tcuA := t }
  | .B => { s with tcuB := t }

/-- A unit's state of R406. -/
def unitState (s : State) (u : Unit2) : Nat := s.pstate u.page

/-- The claim register of a unit. -/
def claimFld (u : Unit2) : Fld := match u with
  | .A => R.COX_CLAIM_A
  | .B => R.COX_CLAIM_B

/-- The effective claim of a unit (R408). While the first self-test after a reset has not begun yet (R423), the unit still has its
claim, as the reset value of EFF_B says (log entry 58). -/
def effClaim (s : State) (u : Unit2) : Nat :=
  let st := s.unitState u
  if (st = tcuSelftest ∧ !(s.tcu u).stDue) ∨ st = tcuReseed ∨ st = tcuUnfit then 0 else s.get (claimFld u)

/-- The unit that is not Active is in MIRROR. -/
def mirrorFit (s : State) : Bool := s.unitState s.activeUnit.other == tcuMirror

/-- A unit enters SELFTEST: the full self-test begins (R406). -/
def beginSelftest (s : State) (u : Unit2) : State :=
  (s.setPstate u.page tcuSelftest).setTcu u { s.tcu u with stStart := some s.time.cr, stDue := false }

/-- A unit becomes UNFIT (R406, R407). -/
def becomeUnfit (s : State) (u : Unit2) (cause : Nat) : State :=
  let s := ((s.setPstate u.page tcuUnfit).set (R.TCUx_UNFIT_CAUSE u.page) cause).raise (E.TCUx_UNFIT u.page)
  let s := s.setTcu u { s.tcu u with stStart := none, stDue := false }
  s.fault u.page 1 cause

/-- The oarlocks move to the other unit at catch action 2 (R404, R409). -/
def swapUnits (s : State) : State :=
  let out := s.activeUnit
  let s := s.set R.COX_STATUS_ACTIVE out.other.idx
  let s := (s.setPstate out.other.page tcuActive).beginSelftest out
  (s.raise E.COX_SWAP).count R.COX_SWAP_CNT

/-- A swap with the claims that the Cox gives: 0x80 to the incoming unit, 0x40 to the outgoing one (R408). -/
def coxSwap (s : State) : State :=
  let out := s.activeUnit
  ((s.set (claimFld out.other) 0x80).set (claimFld out) 0x40).swapUnits

/-- The exposure of a faulty Active unit, from the crossing whose digest first differed to the one before the swap
(R405), each by its label. -/
def expose (s : State) (first last : BitVec 64) : State :=
  let last := last.toNat
  let s := (s.set R.HEALTH_EXPOSED_FIRST_LO first.toNat).set R.HEALTH_EXPOSED_FIRST_HI (first.toNat / 2 ^ 32)
  let s := (s.set R.HEALTH_EXPOSED_LAST_LO last).set R.HEALTH_EXPOSED_LAST_HI (last / 2 ^ 32)
  (s.raise E.HEALTH_EXPOSED).fault 0x06 4 s.activeUnit.idx

/-- A unit that has copied the Active unit's state joins lockstep at the catch (R406). -/
def finishReseed (s : State) (u : Unit2) : State :=
  if s.unitState u = tcuReseed then
    let s := (s.setPstate u.page tcuMirror).count R.COX_RESEED_CNT
    let s := s.setTcu u { s.tcu u with lastReseed := some s.time.cr, memFrom := s.time.cr }
    { s with cox := { s.cox with mismatch := false } }
  else s

/-- The first self-test after a reset begins at the first catch after SWEEP_DONE (R423). -/
def startDueSelftest (s : State) (u : Unit2) : State :=
  if (s.tcu u).stDue && s.phase == .running then s.beginSelftest u else s

/-- A decision of the Cox is due at this catch: it was taken in an earlier crossing (R404). -/
def coxDue (s : State) : Bool := decide (s.cox.waitFrom < s.time.cr)

/-- Catch action 2, the Cox's own part: units join lockstep or begin their tests, and what the Cox has decided takes effect (R404,
R406). `last` is the label of the crossing before the catch. -/
def coxDecides (s : State) (last : BitVec 64) : State :=
  let s := (s.finishReseed .A).finishReseed .B
  let s := (s.startDueSelftest .A).startDueSelftest .B
  match s.cox.wait with
    | .none => s
    | .swap first =>
      if s.coxDue then
        let s := { s with cox := { s.cox with wait := .none } }
        if s.mirrorFit then (s.expose first last).coxSwap else s
      else s
    | .reseed =>
      if s.coxDue then
        let u := s.activeUnit.other
        let s := { s with cox := { s.cox with wait := .none } }
        let s := (s.raise E.COX_UNDECIDED).count R.COX_UNDECIDED_CNT
        if s.unitState u = tcuMirror then
          match (s.tcu u).lastReseed with
          | some t => if s.cox.waitFrom ≤ t + 16 * 256 then s.becomeUnfit u 3 else s.setPstate u.page tcuReseed
          | none => s.setPstate u.page tcuReseed
        else s
      else s

/-- Catch action 2, what the host has set: a swap that it asked for, then the claims as they stand (R408, R409, R411). -/
def coxHost (s : State) : State :=
  let s := if s.flag R.COX_STATUS_PENDING then
      let s := s.set R.COX_STATUS_PENDING 0
      let s := if s.cox.hostSwap && s.mirrorFit then
          ((s.coxSwap).set R.COX_LAST_DECISION_KIND 4).set R.COX_LAST_DECISION_CN_LO s.cnN
        else s
      { s with cox := { s.cox with hostSwap := false } }.set R.COX_SWAP 0
    else s
  let act := s.activeUnit
  if s.effClaim act < s.effClaim act.other then
    ((s.swapUnits).set R.COX_LAST_DECISION_KIND 4).set R.COX_LAST_DECISION_CN_LO s.cnN
  else if s.effClaim act = s.effClaim act.other then (s.raise E.COX_CLAIM_TIE).count R.COX_TIE_CNT
  else s

/-- Why a staged COX set is refused (R411), lowest cause first (R456): `swapped` tells that the Cox has swapped at this catch. The
units are judged as their pages stood before the catch (R24), the claims and the Active unit as action 2 has left them in `s`; `cand`
is `s` with the set. -/
def coxRefuse (s0 s cand : State) (swapped : Bool) : Option Nat :=
  let act := s.activeUnit
  let fit := s0.unitState act.other == tcuMirror || s0.unitState act.other == tcuActive
  if !fit && (decide (cand.get (claimFld act) < cand.get (claimFld act.other)) || cand.flag R.COX_SWAP) then some 1
  else if swapped then some 2
  else none

/-- A COX set has applied: the oarlocks act on it at the next catch (R411). -/
def coxApplied (s : State) : State :=
  { s.set R.COX_STATUS_PENDING 1 with cox := { s.cox with hostSwap := s.flag R.COX_SWAP } }

/-- A TCU page's RETEST has applied (R406, R407). -/
def tcuApplied (s : State) (u : Unit2) : State :=
  if s.flag (R.TCUx_RETEST u.page) && s.unitState u == tcuUnfit then (s.set (R.TCUx_RETEST u.page) 0).beginSelftest u
  else s

/-! The commands of chapter 20. -/

/-- The unit that the rules of R403 find at fault; none is undecided. -/
def coxDecide (s : State) (f : MismatchFacts) : Option Unit2 :=
  let errs (u : Unit2) : Nat := ((s.tcu u).errs.filter (fun t => decide (s.time.cr < t + 256))).length
  if f.aWrong && !f.bWrong then some .A
  else if f.bWrong && !f.aWrong then some .B
  else if errs .B < errs .A then some .A
  else if errs .A < errs .B then some .B
  else none

/-- The units' digests of the last crossing differ, the Mirror's by a free value (log entry 3). -/
def digestsDiffer (s : State) : State :=
  let d := s.draw
  let a := s.get (R.TCUx_DIGEST s.activeUnit.page)
  d.2.set (R.TCUx_DIGEST s.activeUnit.other.page) ((a + 1 + Config.free d.1 % (2 ^ 32 - 1)) % 2 ^ 32)

/-- DIGEST_MISMATCH (R402 to R404): only a unit in MIRROR compares, and while a swap or reseed is pending further
mismatches change nothing. -/
def doMismatch (s : State) (f : MismatchFacts) : State :=
  if s.alive && s.mirrorFit && s.cox.wait == .none then
    let s := s.digestsDiffer
    let s := (s.raise E.COX_MISMATCH).count R.COX_MISMATCH_CNT
    let s := { s with cox := { s.cox with mismatch := true, waitFrom := s.time.cr } }
    let s := s.set R.COX_LAST_DECISION_CN_LO s.cnN
    match s.coxDecide f with
    | some u =>
      let s := s.healthFault 0x04 u.idx
      if u = s.activeUnit then
        { s.set R.COX_LAST_DECISION_KIND 1 with cox := { s.cox with wait := .swap (s.cnAt (s.time.cr - 1)) } }
      else (s.set R.COX_LAST_DECISION_KIND 2).beginSelftest u
    | none =>
      let s := s.healthFault 0x04 s.activeUnit.other.idx
      { s.set R.COX_LAST_DECISION_KIND 3 with cox := { s.cox with wait := .reseed } }
  else s

/-- VOTE_CORRECT (R401): counted, and raised at most once per stroke. -/
def doVote (s : State) : State :=
  if s.alive then
    let s := (s.count R.COX_VOTE_CNT).healthFault 0x03 0
    if s.cox.voteIn = some s.time.catches then s
    else { s.raise E.COX_VOTE with cox := { s.cox with voteIn := some s.time.catches } }
  else s

/-- TCU_SELFTEST_END (R406): 64 st after the self-test began, at a catch: in the catch's crossing, after the catch. -/
def doSelftestEnd (s : State) (u : Unit2) (pass : Bool) : State :=
  match (s.tcu u).stStart with
  | none => s
  | some t =>
    if s.alive && s.unitState u == tcuSelftest && decide (t + 64 * 256 ≤ s.time.cr) && !s.time.catchDue
        && s.time.cr == s.time.lastCatch then
      let s := s.setTcu u { s.tcu u with stStart := none }
      if pass then (s.setPstate u.page tcuReseed).raise (E.TCUx_SELFTEST_DONE u.page) else s.becomeUnfit u 2
    else s

/-- MEMTEST_FAIL (R407). -/
def doMemtestFail (s : State) (u : Unit2) : State :=
  if s.alive && s.unitState u == tcuMirror then
    { s.becomeUnfit u 1 with cox := { s.cox with wait := .none } }
  else s

/-- MEMTEST_PASS_DONE (R407): 4,096 st after the pass began; the next one begins. -/
def doMemtestPass (s : State) (u : Unit2) : State :=
  if s.alive && s.unitState u == tcuMirror && decide ((s.tcu u).memFrom + 4096 * 256 ≤ s.time.cr) then
    (s.setTcu u { s.tcu u with memFrom := s.time.cr }).countW (R.TCUx_MEMTEST_PASS_CNT u.page) (E.TCUx_MEMTEST_WRAP u.page)
  else s

/-- A self-check error of a unit (R403). -/
def selfCheck (s : State) (u : Unit2) : State :=
  let s := s.count (R.TCUx_SELFCHECK_CNT u.page)
  let t := s.tcu u
  s.setTcu u { t with errs := s.time.cr :: t.errs.filter (fun e => decide (s.time.cr < e + 256)) }

/-- TEMP_TRIP (R413): a comparator trips, or has fallen back by its hysteresis, and its bit of TEMP_HOT follows. -/
def doTemp (s : State) (n : Nat) (hot : Bool) : State :=
  if !s.alive then s
  else if hot then ((s.set ⟨R.HEALTH_TEMP_HOT.key, n, 1⟩ 1).raise E.HEALTH_TEMP).healthFault 0x0D n
  else s.set ⟨R.HEALTH_TEMP_HOT.key, n, 1⟩ 0

/-- SCRUB_SBE (R412): corrected and counted. -/
def doScrubSbe (s : State) : State :=
  if s.alive then (s.count R.HEALTH_SCRUB_SBE_CNT).healthFault 0x01 0 else s

/-- The units' part of a crossing (R402): each forms its digest, whose value the spec does not fix (log entry 3); in lockstep both
form the same one. -/
def coxTick (s : State) : State :=
  let d := s.draw
  let e := d.2.draw
  let lock := s.mirrorFit && s.cox.wait == .none
  let s := e.2.set (R.TCUx_DIGEST s.activeUnit.page) (Config.free d.1)
  s.set (R.TCUx_DIGEST s.activeUnit.other.page) (Config.free (if lock then d.1 else e.1))

/-- The units' and the scrubber's part of a catch: MEMTEST_POS, whose scale the spec does not state (log entry 3), and the
length of a scrub pass (R407, R412). -/
def coxCatchEnd (s : State) : State :=
  let one (s : State) (u : Unit2) : State :=
    if s.unitState u = tcuMirror then
      let d := s.draw
      d.2.set (R.TCUx_MEMTEST_POS u.page) (Config.free d.1)
    else s
  let s := one (one s .A) .B
  if s.time.catches % 16384 = 0 ∧ s.time.catches ≠ 0 then s.set R.HEALTH_SCRUB_PASS_ST 16384 else s

end State

end Sys2Proof.Machine
end

