-- ==== Sys2Proof/Machine/Lens.lean ====
section
/-! DEFINITION. The Lens codec (chapter 13) as pure functions: elements to bytes, the dictionary coder, packing, and the block
with its raw fall-back. -/

namespace Sys2Proof.Machine

/-- Zig-zag (R268). -/
def zigzag (d : Int) : Nat := if 0 ≤ d then (2 * d).toNat else (-2 * d - 1).toNat

/-- Varint (R268): 7 bits at a time, least significant first, in at most `n + 1` bytes. -/
def varint : Nat → Nat → List Nat
  | 0, z => [z % 128]
  | n + 1, z => if z < 128 then [z] else (128 + z % 128) :: varint n (z / 128)

/-- The bytes of one element after `prev` (R268). -/
def elemBytes (prev e : Int) : List Nat := varint 4 (zigzag (e - prev))

/-- The prepared bytes of a block's elements (R268). -/
def prepared : Int → List Int → List Nat
  | _, [] => []
  | prev, e :: l => elemBytes prev e ++ prepared e l

/-- The longest run of whole elements within `room` prepared bytes (R269), and the rest. -/
def takeElems : Int → Nat → List Int → List Int × List Int
  | _, _, [] => ([], [])
  | prev, room, e :: l =>
    let n := (elemBytes prev e).length
    if room < n then ([], e :: l)
    else
      let r := takeElems e (room - n) l
      (e :: r.1, r.2)

/-- How many elements of a block the byte at position `n` belongs to or follows (R270): the element being consumed counts. -/
def consumed : Int → Nat → List Int → Nat
  | _, _, [] => 0
  | prev, n, e :: l =>
    let k := (elemBytes prev e).length
    if n < k then 1 else 1 + consumed e (n - k) l

/-- The dictionary coder (R271): `d` lists the added entries as (string, byte, entry), `h` is H and `w` the current string.
The data codes, and H at the end. -/
def lzw (d : List (Nat × Nat × Nat)) (h w : Nat) : List Nat → List Nat × Nat
  | [] => ([w], h)
  | c :: l =>
    match d.find? (fun e => e.1 == w && e.2.1 == c) with
    | some e => lzw d h e.2.2 l
    | none =>
      let r := if h < 4095 then lzw ((w, c, h + 1) :: d) (h + 1) c l else lzw d h c l
      (w :: r.1, r.2)

/-- The width of a code with `j` data codes before it (R272). -/
def codeWidth (j : Nat) : Nat :=
  let h := min (257 + j) 4095
  if h < 511 then 9 else if h < 1023 then 10 else if h < 2047 then 11 else 12

/-- The packed data codes from the `j`-th on and then END (R273): their value from bit 0 on, and their width. -/
def packCodes (j : Nat) : List Nat → Nat × Nat
  | [] => (257, codeWidth j)
  | c :: l =>
    let r := packCodes (j + 1) l
    (c + r.1 * 2 ^ codeWidth j, codeWidth j + r.2)

/-- A little-endian number of bytes. -/
def bytesNat : List Nat → Nat
  | [] => 0
  | b :: l => b + 256 * bytesNat l

/-- The first `n` 64-bit words of a number. -/
def toWords (n v : Nat) : List (BitVec 64) := (List.range n).map (fun i => BitVec.ofNat 64 (v / 2 ^ (64 * i)))

/-- A Lens block (R269 to R275). -/
structure LensBlock where
  words  : List (BitVec 64)
  rawLen : Nat
  raw    : Bool
  frozen : Bool
deriving DecidableEq, Repr

/-- The header of a block (R274). -/
def lensHeader (rawLen words : Nat) (raw last flushed : Bool) : Nat :=
  rawLen + words * 2 ^ 16 + (if raw then 2 ^ 28 else 0) + (if last then 2 ^ 29 else 0) + (if flushed then 2 ^ 30 else 0)

/-- The data codes of prepared bytes, and H at the end (R271). -/
def lensCodes (bs : List Nat) : List Nat × Nat := match bs with
  | [] => ([], 257)
  | b :: l => lzw [] 257 b l

/-- The block of some elements: coded, or raw where that is no longer in words, is forced (R275), or a double-bit error has ended
the coding after `cut` bytes (R278). -/
def lensBlock (es : List Int) (last flushed forceRaw : Bool) (cut : Option Nat) : LensBlock :=
  let bs := prepared 0 es
  let cd := lensCodes bs
  let pk := packCodes 0 cd.1
  let b := 9 + pk.2
  let wc := (32 + b + 63) / 64
  let wr := (32 + 8 * bs.length + 63) / 64
  let raw := forceRaw || cut.isSome || decide (wr ≤ wc)
  let n := if raw then wr else wc
  let body := if raw then bytesNat bs else 256 + pk.1 * 2 ^ 9
  { words := toWords n (lensHeader bs.length n raw last flushed + body * 2 ^ 32), rawLen := bs.length, raw := raw,
    frozen := match cut with
      | none => cd.2 == 4095
      | some n => (lensCodes (bs.take n)).2 == 4095 }

end Sys2Proof.Machine
end

