-- ==== Sys2Proof/Machine/Frag.lean ====
section
/-! DEFINITION. The fragment builder (chapter 12) and the Lens engines (R269 to R279): windows, modes, features, satellite and record
blocks, and the coding of bank payloads. -/

namespace Sys2Proof.Machine

/-- A channel's window as the builder reads it: the index of its first output, its words, how many of them were overwritten
(R222), and the ring rows found with a double-bit error (R213). -/
structure Win where
  chan  : Nat
  first : Int
  vals  : List (Option Val)
  above  : Nat
  ecc   : List Nat
deriving DecidableEq, Repr

/-- A feature record (R251 to R255). -/
structure Feat where
  a      : Int
  tau    : Int
  q      : Nat
  void   : Bool
  sub    : Bool
  ovr    : Bool
  notime : Bool
  clamp  : Bool
deriving DecidableEq, Repr

/-- v / 2^k to the nearest integer, ties to even (R249). -/
def requant (v : Int) (k : Nat) : Int :=
  let d : Int := 2 ^ k
  let q := v / d
  let r := v % d
  if 2 * r < d then q else if d < 2 * r then q + 1 else if q % 2 = 0 then q else q + 1

/-- A quotient rounded to the nearest integer, ties away from zero; `b` is positive (R252). -/
def divAway (a b : Int) : Int := if 0 ≤ a then (2 * a + b) / (2 * b) else -((-2 * a + b) / (2 * b))

/-- The quality code of a residual (R253). -/
def qualityOf (r : Nat) : Nat :=
  if r = 0 then 0
  else
    let e := Nat.log2 r
    1 + 64 * e + (r - 2 ^ e) * 64 / 2 ^ e

/-- The mask element of a flag over a window (R248). -/
def maskOf (p : Option Val → Bool) : List (Option Val) → Nat
  | [] => 0
  | v :: l => (if p v then 1 else 0) + 2 * maskOf p l

/-- A word carries VOID. -/
def isVoid (v : Option Val) : Bool := v.isNone

/-- A word carries SUB. -/
def isSub (v : Option Val) : Bool := (v.map (·.sub)).getD false

/-- A word carries OVR. -/
def isOvr (v : Option Val) : Bool := (v.map (·.ovr)).getD false

/-- The elements of modes RAW and REQUANT (R248, R249). -/
def rawElems (k : Nat) (vs : List (Option Val)) : List Int :=
  let ms := [maskOf isVoid vs, maskOf isSub vs, maskOf isOvr vs]
  let f := (if ms[0]? = some 0 then 0 else 1) + (if ms[1]? = some 0 then 0 else 2) + (if ms[2]? = some 0 then 0 else 4)
  ((f : Nat) : Int) :: (ms.filter (· != 0)).map (fun m => ((m : Nat) : Int))
    ++ vs.map (fun v => requant ((v.map (·.v)).getD 0) k)

/-- The elements of a feature record (R255). -/
def featElems (f : Feat) : List Int :=
  [f.a, f.tau, f.q, ((if f.void then 1 else 0) + (if f.sub then 2 else 0) + (if f.ovr then 4 else 0)
    + (if f.notime then 8 else 0) : Nat)]

/-- The two-bit code of a Prism rate (R241). -/
def rateCode (r : Nat) : Nat := if r = 4 then 0 else if r = 2 then 1 else 2

/-- The little-endian bytes of words. -/
def wordBytes (ws : List (BitVec 64)) : List Byte := ws.flatMap (fun w => leBytes 8 w.toNat)

/-- The trailer of a fragment (R260) whose other words are `ws`. -/
def trailer (ws : List (BitVec 64)) (blocks len : Nat) : BitVec 64 :=
  BitVec.ofNat 64 ((crc32c (wordBytes ws)).toNat * 2 ^ 32 + blocks % 65536 * 65536 + len % 65536)

/-- The whole fragment (R238 to R260), SHED_SEEN given. -/
def assemble (f : Frag) (shedSeen : Bool) : List (BitVec 64) :=
  let blk (b : BankPart) : List (BitVec 64) := match b.hdr with
    | [] => []
    | h :: m => (h ||| BitVec.ofNat 64 (b.words.length % 65536 * 2 ^ 32)) :: (m ++ b.words)
  let body := f.banks.flatMap blk ++ f.tail
  let len := 4 + body.length + 1
  let w0 := f.w0 ||| BitVec.ofNat 64 (len % 65536)
  let w2 := if shedSeen then f.w2 ||| BitVec.ofNat 64 (2 ^ 24) else f.w2
  let ws := [w0, f.w1, w2, f.w3] ++ body
  ws ++ [trailer ws f.blocks len]

namespace State

/-! Windows (R213, R218, R222, R226). -/

/-- The part of a channel's stream in force in a crossing. -/
def segAt (s : State) (c : Nat) (n : Int) : Seg :=
  ((s.stream c).find? (fun g => decide ((g.cr : Int) ≤ n))).getD ⟨0, 0, 4, one32⟩

/-- The crossing of output `i`, also before crossing 0. -/
def outCrossI (s : State) (c : Nat) (i : Int) : Int :=
  if i < 0 then i / (s.segAt c (-1)).rate else s.outCross c i.toNat

/-- The instant of output `i` (R180, R226), in 2^-44 cr. -/
def outInstant (s : State) (c : Nat) (i : Int) : Int :=
  let g := if i < 0 then s.segAt c (-1) else s.segOf c i.toNat
  let d : Int := 4 / g.rate
  (4096 * (g.cr : Int) + (d - 1) * 1024) * one32 + (i - g.idx) * g.step * d * 1024

/-- The stream index of the first output of crossing `n` or later, also before crossing 0. -/
def streamIdxI (s : State) (c : Nat) (n : Int) : Int := if n < 0 then (s.segAt c (-1)).rate * n else (s.streamIdx c n.toNat : Int)

/-- The output whose instant lies nearest to T', the later one on a tie (R226); at the lowest rate and the greatest ratio
outputs lie less than 4 crossings apart (R190). -/
def nearestOut (s : State) (c : Nat) (t : Int) : Int :=
  let lo := s.streamIdxI c (t / 4096 - 5)
  let far (i : Int) : Nat := (s.outInstant c i - t * one32).natAbs
  (List.range (s.streamIdxI c (t / 4096 + 6) - lo).toNat).foldl (fun (b : Int) (k : Nat) =>
    if far (lo + (k : Int)) ≤ far b then lo + (k : Int) else b) lo

/-- The index of the first output of an entry's window on a channel (R218). -/
def winStart (s : State) (e : Entry) (c : Nat) : Int :=
  (match e.startT with
    | some t => s.nearestOut c t
    | none => s.streamIdxI c e.anchor) + e.ofs

/-- A row of a ring has been written since the run started: its mark is set when its first word is written, and all marks are
cleared at the catch that starts a run (R213). -/
def rowWritten (s : State) (c i : Nat) : Bool := decide (s.runStart ≤ s.outCross c (i / 4 * 4) + 6)

/-- The read of one Wake word (R213, R222): its value, whether it was overwritten, and whether its row is bad. -/
def wakeRead (s : State) (c : Nat) (i : Int) : Option Val × Bool × Bool :=
  let n := i.toNat
  let head := s.streamIdx c (s.time.cr - 5)
  if i < 0 ∨ head ≤ n then (none, false, false)
  else if n + 8192 < head then (none, true, false)
  else if !s.rowWritten c n then (none, false, false)
  else if s.wakeBad.contains (n / 4 % 2048 * 1024 + c) then (none, false, true)
  else (Assoc.find? s.wake (n * 1024 + c), false, false)

/-- A channel's window. -/
def window (s : State) (e : Entry) (c : Nat) : Win :=
  let i := s.winStart e c
  let rs := (List.range e.len).map (fun (k : Nat) => (i + (k : Int), s.wakeRead c (i + (k : Int))))
  { chan := c, first := i, vals := rs.map (fun r => r.2.1), above := (rs.filter (fun r => r.2.2.1)).length,
    ecc := ((rs.filter (fun r => r.2.2.2)).map (fun r => (r.1 / 4).toNat)).eraseDups }

/-- The banks of a type, and the channels that the banks include, ascending (R238, R245). -/
def typeBanks (s : State) (t : Nat) : List Nat :=
  (List.range 24).filter (fun b => (s.get (R.FRAG_TYPEt_BANKS t) / 2 ^ b) % 2 == 1)

/-- The included channels of a bank. -/
def bankChans (s : State) (b : Nat) : List Nat :=
  ((List.range 32).filter (fun i => (s.rd (R.FRAG_CHMASKb b).key).getLsbD i)).map (32 * b + ·)

/-- The ports of a type. -/
def typePorts (s : State) (t : Nat) : List Nat :=
  (List.range 16).filter (fun p => (s.get (R.FRAG_TYPEt_SAT_PORTS t) / 2 ^ p) % 2 == 1)

/-! Features (R251 to R254). -/

/-- The feature record of a window of type `t`. -/
def feature (s : State) (t : Nat) (vs : List (Option Val)) : Feat :=
  let n := s.get R.FRAG_FEAT_N
  let st := s.get (R.FRAG_TYPEt_CFG_FEAT_START t)
  let sm : List (Nat × Option Val) := (List.range n).map (fun k => (k, (vs[st + k]?).join))
  let sub := sm.any (fun e => isSub e.2)
  let ovr := sm.any (fun e => isOvr e.2)
  if sm.any (fun e => e.2.isNone) then
    { a := 0, tau := 0, q := 0, void := true, sub := sub, ovr := ovr, notime := true, clamp := false }
  else
    let x (e : Nat × Option Val) : Int := (e.2.map (·.v)).getD 0
    let sum (f : Nat → Fld) : Int := sm.foldl (fun z e => z + s.geti (f e.1) * x e) 0
    let raw := (sum R.FRAG_FEAT_Ak + 2 ^ 15) / 2 ^ 16
    let a := clampI (-524288) 524287 raw
    let timed := decide ((s.get R.FRAG_FEAT_AMIN : Int) ≤ a)
    let tau := if timed then clampI (-32768) 32767 (divAway (sum R.FRAG_FEAT_Bk) a) else 0
    let r := sm.foldl (fun z e =>
      let d := x e - (a * s.geti (R.FRAG_FEAT_Gk e.1) + 2 ^ 16) / 2 ^ 17
      z + d * d) (0 : Int)
    { a := a, tau := tau, q := qualityOf r.toNat, void := false, sub := sub, ovr := ovr || a != raw, notime := !timed,
      clamp := a != raw }

/-! Elements of the modes (R247 to R256). -/

/-- The elements of a channel, and whether it counts as suppressed or as X = 1. -/
def chanElems (s : State) (t : Nat) (w : Win) (f : Feat) : List Int × Bool :=
  let mode := s.get (R.FRAG_TYPEt_CFG_MODE t)
  if mode = 1 then (rawElems (s.get (R.FRAG_TYPEt_CFG_K t)) w.vals, false)
  else if mode = 2 then (featElems f, false)
  else if mode = 3 then
    let x := f.ovr || decide (s.get (R.FRAG_TYPEt_CFG_QTHR t) < f.q)
    (featElems f ++ (if x then 1 :: rawElems 0 w.vals else [0]), x)
  else if mode = 4 then
    let p := s.geti (R.FRAG_ZS_PED w.chan)
    let quiet := w.vals.all (fun v => match v with
      | none => false
      | some y => !y.sub && !y.ovr && decide ((y.v - p).natAbs ≤ s.get (R.FRAG_TYPEt_ZS_THR t)))
    (if quiet then [0, p] else 1 :: rawElems 0 w.vals, quiet)
  else (rawElems 0 w.vals, false)

/-! Satellite blocks (R258, R352 to R354). -/

/-- The CN of a crossing, also before crossing 0. -/
def cnAtI (s : State) (n : Int) : BitVec 64 := if n < 0 then BitVec.ofInt 64 n else s.cnAt n.toNat

/-- A crossing carries SAT_GAP for a port, or is no longer held, or the port is not in RUN (R352, R354, R357). -/
def satGap (s : State) (p : Nat) (n : Int) : Bool :=
  decide (n + 8192 < s.time.cr)
    || s.satGaps.any (fun g => g.1 == p && decide (g.2.1 ≤ n) && decide (n ≤ g.2.2))
    || (s.pstate (0x78 + p) != 1 && decide (((Assoc.getD (fun _ => 0) s.satOut p : Nat) : Int)
          - s.get (R.SAT_AGE_MAX (0x78 + p)) ≤ n))

/-- The hits of a crossing, in order of arrival. -/
def hitsAt (s : State) (p : Nat) (n : Int) : List Word :=
  if n < 0 then [] else Assoc.getD (fun _ => []) s.satHits (n.toNat * 16 + p)

/-- The first crossing of an entry's satellite range, `r` being the rate of word 2 or 4 (R258). -/
def satFirst (s : State) (e : Entry) (r : Nat) : Int :=
  let a := match e.startT with
    | none => e.anchor
    | some t =>
      let d : Int := 4 / (r : Nat)
      ((2 * (t - (d - 1) * 1024) + 1024 * d) / (2 * 1024 * d)) / (r : Nat)
  a + s.geti (R.FRAG_TYPEt_SAT_OFS e.type)

/-- Hits packed two to a word. -/
def packHits : List Word → List (BitVec 64)
  | [] => []
  | [a] => [BitVec.ofNat 64 a.toNat]
  | a :: b :: l => BitVec.ofNat 64 (a.toNat + b.toNat * 2 ^ 32) :: packHits l

/-- A port's block carries OFF: in every PAGE_STATE but ENABLED, which a SAT page calls RUN (R37, R355); the reading of "not
ENABLED" in R258 (DEDUCED, log entry 34). -/
def satBlockOff (s : State) (p : Nat) : Bool := s.pstate (0x78 + p) != 1

/-- The block of a port from crossing `first` on, whether it carries GAP, and the hits dropped. -/
def satBlock (s : State) (t p : Nat) (first : Int) : List (BitVec 64) × Bool × Nat :=
  let ns : List Int := (List.range (s.get (R.FRAG_TYPEt_SAT_LENM1 t) + 1)).map (fun (k : Nat) => first + (k : Int))
  let off := s.satBlockOff p
  let gap := ns.any (fun n => s.satGap p n)
  let hs := if off then [] else ns.flatMap (fun n => s.hitsAt p n)
  let sent := hs.take (s.get (R.FRAG_TYPEt_SAT_MAX t))
  let drop := hs.length - sent.length
  let h := 2 * 2 ^ 60 + p * 2 ^ 56 + (if gap then 2 ^ 55 else 0) + (if drop = 0 then 0 else 2 ^ 54)
    + (if off then 2 ^ 53 else 0) + (s.cnAtI first).toNat % 256 * 2 ^ 32 + min drop 65535 * 2 ^ 16 + sent.length
  (BitVec.ofNat 64 h :: packHits sent, gap, drop)

/-- One more hit in the occupancy counter of a cell. -/
def occAdd (s : State) (p cell : Nat) : State :=
  let f := R.SATSTAT_OCC (p * 16384 + cell)
  s.set f (min (s.get f + 1) 65535)

/-- A fragment's ranges enter the threshold servo (R364): ports whose block carries no GAP; hits dropped by TRUNC count. -/
def occEnter (s : State) (t : Nat) (first : Int) : State :=
  if s.enabled 0x89 && (s.get R.SATSTAT_RND_TYPES / 2 ^ t) % 2 == 1 then
    let len := s.get (R.FRAG_TYPEt_SAT_LENM1 t) + 1
    forEach (s.typePorts t) s (fun s p =>
      if (s.get R.SATSTAT_SERVO_PORTS / 2 ^ p) % 2 == 0 || (s.satBlock t p first).2.1 then s
      else
        let s := s.set (R.SATSTAT_N_CR p) (min (s.get (R.SATSTAT_N_CR p) + len) (2 ^ 24 - 1))
        forEach ((List.range len).flatMap (fun (k : Nat) => s.hitsAt p (first + (k : Int)))) s
          (fun s w => s.occAdd p (bits w 0 14)))
  else s

/-! Starting a fragment (R261 to R263). -/

/-- The last crossing of a window of type `t` on a channel. -/
def winEnd (s : State) (e : Entry) (c : Nat) : Int := s.outCrossI c (s.winStart e c + e.len - 1)

/-- The Prism rate of a channel at a window's last output (R246). -/
def winRate (s : State) (e : Entry) (c : Nat) : Nat := (s.segAt c (s.winEnd e c)).rate

/-- The rate code of word 2 (R241): with no channel included the spec fixes none of the three rates (log entry 3). -/
def fragRate (s : State) (e : Entry) (cs : List Nat) : Nat × State :=
  match cs with
  | [] => let d := s.draw; (Config.free d.1 % 3, d.2)
  | c :: l => (if l.all (fun x => s.winRate e x == s.winRate e c) then rateCode (s.winRate e c) else 3, s)

/-- The rate whose anchor crossing places a START trigger's satellite range. -/
def satRate (code : Nat) : Nat := if code = 3 then 4 else rateOf code

/-- An entry can be started (R221, R353): every window is written, and every satellite range closed. -/
def readable (s : State) (e : Entry) : Bool :=
  let cs := (s.typeBanks e.type).flatMap (fun b => s.bankChans b)
  cs.all (fun c => decide (s.winEnd e c + 7 ≤ s.time.cr))
    && (s.typePorts e.type).all (fun p =>
      decide (s.satFirst e (satRate (s.fragRate e cs).1) + s.get (R.FRAG_TYPEt_SAT_LENM1 e.type)
        + s.get (R.SAT_AGE_MAX (0x78 + p)) + 1 ≤ s.time.cr))

/-- The crew of CREW.MAP (R286). -/
def mapCrew (s : State) (i : Nat) : Nat :=
  if i % 2 = 0 then s.get (R.CREW_MAPeven (i / 2)) else s.get (R.CREW_MAPodd (i / 2))

/-- A field of a crew's entry (R289): word, lowest bit, width. -/
def crewGet (s : State) (c w lo n : Nat) : Nat := bits (s.rd (R.CREW_Ew w c).key) lo n

/-- The window of a channel has outputs on both sides of a catch that changed its delay or the ratio (R194). -/
def phaseStep (s : State) (e : Entry) (c : Nat) : Bool :=
  let a := s.outCrossI c (s.winStart e c)
  let b := s.winEnd e c
  s.marks.any (fun m => decide (a < (m.1 : Int)) && decide ((m.1 : Int) ≤ b) && (m.2 == none || m.2 == some c))

/-- The fragment flags that the windows and the blocks decide (R243), as bits [31:25] of word 2. -/
def fragFlags (s : State) (e : Entry) (ws : List (Win × Feat)) (gap : Bool) (bad : Bool) : Nat :=
  let vals := ws.flatMap (fun w => w.1.vals)
  let lo := (ws.map (fun w => s.outCrossI w.1.chan w.1.first)).foldl (fun (m : Option Int) x => match m with
    | none => some x
    | some y => some (min x y)) none
  let hi := (ws.map (fun w => s.winEnd e w.1.chan)).foldl (fun (m : Option Int) x => match m with
    | none => some x
    | some y => some (max x y)) none
  let st (k : Nat) : Bool := match lo, hi with
    | some a, some b => s.stat.any (fun n => decide (a ≤ (n.1 : Int)) && decide ((n.1 : Int) ≤ b) && n.2 / k % 2 == 1)
    | _, _ => false
  let f (b : Bool) (k : Nat) : Nat := if b then 2 ^ k else 0
  f (vals.any isVoid || ws.any (fun w => w.2.void) || bad) 31 + f (vals.any isSub) 30
    + f (vals.any isOvr || ws.any (fun w => w.2.clamp)) 29 + f gap 28 + f (st 2) 27 + f (st 1) 26
    + f (ws.any (fun w => s.phaseStep e w.1.chan)) 25

/-- Words overwritten before the read are delivered VOID (R222). -/
def windowOverrun (s : State) (n : Nat) : State :=
  if n = 0 then s else ((s.countBy R.ACQ_OVERRUN_ROWS n).raise E.ACQ_OVERRUN).fault 0x30 1 0

/-- Rows with a double-bit error are read as VOID (R213). -/
def windowEcc (s : State) (n : Nat) : State :=
  if n = 0 then s else (s.countBy R.ACQ_ECC_VOID_CNT n).raise E.ACQ_ECC_VOID

/-- The oldest phase records leave the log for a class-A fragment (R259). -/
def takeRecords (s : State) (classA : Bool) : List (BitVec 64) × State :=
  let n := if classA then min (s.get R.FRAG_REC_MAX) s.records.length else 0
  (s.records.take n, { s with records := s.records.drop n,
                              recBad := (s.recBad.filter (fun i => decide (n ≤ i))).map (fun i => i - n) })

/-- The fragment of the entry at the head is read and reduced (R238 to R259). -/
def startFragment (s : State) (e : Entry) : State :=
  let t := e.type
  let banks := s.typeBanks t
  let cs := banks.flatMap (fun b => s.bankChans b)
  let ws := cs.map (fun c => let w := s.window e c; (w, s.feature t w.vals))
  let es := ws.map (fun w => (w.1.chan, s.chanElems t w.1 w.2))
  let s := s.windowOverrun ((ws.map (fun w => w.1.above)).foldl (· + ·) 0)
  let s := s.windowEcc ((ws.map (fun w => w.1.ecc.length)).foldl (· + ·) 0)
  let mode := s.get (R.FRAG_TYPEt_CFG_MODE t)
  let hits := (es.filter (fun x => x.2.2)).length
  let s := if mode = 4 then s.countBy R.FRAG_ZS_CNT hits else if mode = 3 then s.countBy R.FRAG_RAWADD_CNT hits else s
  let rt := s.fragRate e cs
  let s := rt.2
  let first := s.satFirst e (satRate rt.1)
  let sats := (s.typePorts t).map (fun p => s.satBlock t p first)
  let drop := (sats.map (fun b => b.2.2)).foldl (· + ·) 0
  let s := if drop = 0 then s else (s.countBy R.FRAG_SAT_TRUNC_CNT drop).raise E.FRAG_SAT_TRUNC
  let s := s.occEnter t first
  let crew := s.mapCrew (t * 16 + e.evNo % 16)
  let classA := s.crewGet crew 1 27 1 == 1
  let tr := s.takeRecords classA
  let recs := tr.1
  let bad := e.dbe || s.recBad.any (fun i => decide (i < recs.length))
  let s := tr.2
  let flags := s.fragFlags e ws (sats.any (fun b => b.2.1) || (s.typePorts t).any s.satBlockOff) bad
  let rho := ws.any (fun w => (s.segAt w.1.chan (s.outCrossI w.1.chan w.1.first)).step != one32
    || (s.segAt w.1.chan (s.winEnd e w.1.chan)).step != one32)
  let part (b : Nat) : BankPart :=
    let k := if mode = 1 then s.get (R.FRAG_TYPEt_CFG_K t) else 0
    let h := 2 ^ 60 + b * 2 ^ 55 + mode * 2 ^ 52 + k * 2 ^ 48 + s.get (R.FRAG_CHMASKb b)
    let map := if rt.1 = 3 then
      [BitVec.ofNat 64 ((s.bankChans b).foldl (fun n c => n + rateCode (s.winRate e c) * 2 ^ (2 * (c % 32))) 0)] else []
    let todo := (es.filter (fun x => x.1 / 32 == b)).map (fun x => x.2.1)
    { hdr := BitVec.ofNat 64 h :: map, todo := todo, words := [], stage := if todo.isEmpty then 2 else 0 }
  let rec3 := if recs.isEmpty then [] else BitVec.ofNat 64 (3 * 2 ^ 60 + recs.length) :: recs
  let w0 := 0xC7D8 * 2 ^ 48 + e.hub % 65536 * 2 ^ 32 + crew * 2 ^ 20 + t * 2 ^ 16
  let w2 := e.evNo * 2 ^ 48 + unsigned 16 e.ofs * 2 ^ 32 + flags + e.fine * 2 ^ 12 + e.src * 2 ^ 9 + rt.1 * 2 ^ 7
    + (e.len - 1) * 4 + (if rho then 2 else 0) + (if recs.isEmpty then 0 else 1)
  let f : Frag := {
    id := s.fragId, type := t, evNo := e.evNo, crew := crew, classA := classA, prio := s.crewGet crew 1 28 3,
    w0 := BitVec.ofNat 64 w0, w1 := e.word1, w2 := BitVec.ofNat 64 w2, w3 := e.word3,
    banks := banks.map part, tail := sats.flatMap (fun b => b.1) ++ rec3,
    blocks := banks.length + sats.length + (if recs.isEmpty then 0 else 1), recs := recs,
    raw := s.flag (R.LENS_TYPEt_RAW t) || !s.enabled 0x39, chanFlush := s.flag (R.LENS_TYPEt_CHAN_FLUSH t),
    pulses := ws.map (fun w => Pulse.mk w.1.chan (s.outCrossI w.1.chan w.1.first)
      (w.1.vals.all (fun v => !isVoid v && !isOvr v)) w.2.a w.2.tau), read := false }
  { s with frags := s.frags ++ [f], fragId := s.fragId + 1 }

/-- The builder is reading the head entry's windows. -/
def building (s : State) : Bool := s.frags.any (fun f => !f.read)

/-- FRAGMENT_START (R261, R263): while DISABLED the head entry is freed without a fragment. Nothing downstream holds a start back
(R281); the staging memory has no stated size (log entry 41). -/
def doFragmentStart (s : State) : State :=
  match s.accQ with
  | [] => s
  | e :: l =>
    if !s.alive || s.building then s
    else if !s.enabled 0x38 then
      ({ s with accQ := l }.count R.FRAG_DISCARD_CNT).raise E.FRAG_DISCARD
    else if s.flag (R.PAGE_CTL_PAUSE 0x38) || !s.readable e then s
    else s.startFragment e

/-- A core clock of the present crossing that the command does not tell (log entry 2). -/
def someClock (s : State) : Nat × State :=
  let d := s.draw
  (16 * s.time.cr + Config.free d.1 % 16, d.2)

/-- A core clock of the present crossing for the next event in Lens: no earlier than the event before it (R277; log entry 2). -/
def lensClock (s : State) : Nat × State :=
  let t := s.someClock
  (max t.1 s.lensClk, { t.2 with lensClk := max t.1 s.lensClk })

/-- The payload that waits first (R277): fragments in the order of starting, banks ascending. -/
def waitingPayload (s : State) : Option (Frag × Nat) :=
  ((s.frags.filter (·.read)).filterMap (fun f =>
    (f.banks.findIdx? (fun b => b.stage == 0)).map (fun k => (f, k)))).head?

/-- STALL is raised once a stroke (R277). -/
def lensStallTold (s : State) : State :=
  if s.lensStall = some s.time.catches then s
  else { s.raise E.LENS_STALL with lensStall := some s.time.catches }

/-- From core clock `t` on a payload waits, if one is left with all 64 engines busy (R277). -/
def lensWaits (s : State) (t : Nat) : State :=
  if s.lensWait.isNone && s.waitingPayload.isSome && s.engines.length == 64 then
    { s.lensStallTold with lensWait := some t }
  else s

/-- An engine is free from core clock `t` on: the wait ends (R277). What it has lasted of the present stroke raises STALL, if that
stroke has not told of one yet. -/
def lensFreed (s : State) (t : Nat) : State :=
  let s := { s with lensClk := max t s.lensClk }
  match s.lensWait with
  | none => s
  | some w =>
    let s := if w < t then s.lensStallTold else s
    { s.countBy R.LENS_STALL_CC (t - w) with lensWait := none }

/-- The pulses of a fragment enter the trim servo's histograms (R192). -/
def servoEnter (s : State) (f : Frag) : State :=
  if s.enabled 0x2A && (s.get R.RSMP_SERVO_TYPES / 2 ^ f.type) % 2 == 1 then
    forEach f.pulses s (fun s p =>
      if s.flag (R.RSMP_CH_SERVO_EN p.chan) && p.clean && decide ((s.histClear p.chan : Int) ≤ p.first)
          && decide ((s.get R.RSMP_SERVO_THR : Int) ≤ p.a) then s.histAdd p.chan p.tau
      else s)
  else s

/-- FRAGMENT_READ_END (R261): the entry is freed, and the fragment counts as built. -/
def doFragmentReadEnd (s : State) : State :=
  match s.frags.find? (fun f => !f.read) with
  | none => s
  | some f =>
    if !s.alive then s
    else
      let s := s.servoEnter f
      let s := { s with accQ := s.accQ.drop 1,
                        frags := s.frags.map (fun (g : Frag) => if g.id = f.id then { g with read := true } else g) }
      let s := s.countW R.FRAG_FRAG_CNT E.FRAG_FRAG_WRAP
      let t := s.lensClock
      let s := t.2.lensWaits t.1
      if f.w2.getLsbD 31 then (s.count R.FRAG_VOID_FRAG_CNT).raise E.FRAG_VOID_SENT else s

/-! The FRAG page. -/

/-- The cause for which a staged FRAG set is refused (R265). -/
def fragRefuse (cand : State) : Option Nat :=
  let ts := List.range 16
  let n := cand.get R.FRAG_FEAT_N
  if ts.any (fun t => decide (4 < cand.get (R.FRAG_TYPEt_CFG_MODE t))) then some 1
  else if ts.any (fun t => decide (8 < cand.get (R.FRAG_TYPEt_CFG_K t))) then some 2
  else if n = 0 ∨ 8 < n ∨ cand.get R.FRAG_FEAT_AMIN = 0 then some 3
  else if 64 < cand.get R.FRAG_REC_MAX ∨ ts.any (fun t => decide (1023 < cand.get (R.FRAG_TYPEt_SAT_MAX t))) then some 4
  else none

/-- A FRAG refusal as it is recorded. -/
def fragRefused (s : State) (cause : Nat) : State :=
  ((s.set R.FRAG_LAST_REFUSE_CAUSE cause).raise E.FRAG_REFUSED).fault 0x38 1 cause

/-! The Lens engines (R269 to R279). -/

/-- A bank block of a fragment in staging, changed. -/
def updBank (s : State) (id k : Nat) (f : BankPart → BankPart) : State :=
  { s with frags := s.frags.map (fun (g : Frag) =>
      if g.id = id then { g with banks := g.banks.mapIdx (fun i b => if i = k then f b else b) } else g) }

/-- The fragment in staging with a number. -/
def fragOf (s : State) (id : Nat) : Option Frag := s.frags.find? (fun f => f.id == id)

/-- The next block of a payload (R269, R270): its elements, what is left of the payload, and FLUSHED for an end that
CHAN_FLUSH makes. -/
def nextBlock (chan : Bool) (todo : List (List Int)) : List Int × List (List Int) × Bool :=
  match todo with
  | [] => ([], [], false)
  | g :: l =>
    if chan then (g, l, !l.isEmpty)
    else
      let r := takeElems 0 16384 (todo.flatMap id)
      (r.1, if r.2.isEmpty then [] else [r.2], false)

/-- An engine takes the next block of a payload, its first byte entering at core clock `start`. -/
def beginBlock (s : State) (n : Nat) (f : Frag) (k start : Nat) : State :=
  match f.banks[k]? with
  | none => s
  | some b =>
    let r := nextBlock f.chanFlush b.todo
    let s := s.updBank f.id k (fun b => { b with todo := r.2.1, stage := 1 })
    { s with engines := Assoc.put s.engines n (Engine.mk f.id k r.1 r.2.1.isEmpty r.2.2 start 0 none) }


/-- LENS_ENGINE_START (R277): the payload goes to the lowest free engine, not before that engine is free, or waits. -/
def doEngineStart (s : State) : State :=
  match s.waitingPayload with
  | none => s
  | some (f, k) =>
    if !s.alive then s
    else
      match (List.range 64).find? (fun n => (Assoc.find? s.engines n).isNone) with
      | none => let t := s.lensClock; t.2.lensWaits t.1
      | some n =>
        let t := s.lensClock
        let s := t.2.beginBlock n f k t.1
        (s.set R.LENS_ENGINES_HIGH (max (s.get R.LENS_ENGINES_HIGH) s.engines.length)).lensWaits t.1

/-- The prepared bytes that an engine has consumed by a core clock; while it prepares its block again it has consumed none
(R278). -/
def eaten (g : Engine) (t : Nat) : Nat := t - (g.start + g.extra)

/-- A flush that arrives at core clock `now` reaches every engine that is coding then (R270): its block ends after the element it is
consuming; an engine whose block starts later is not affected. On the payload's last element it changes nothing (R269). -/
def lensFlush (s : State) (now : Nat) : State :=
  forEach s.engines s (fun s e =>
    let g := e.2
    let n := consumed 0 (eaten g now) g.elems
    if now < g.start then s
    else if g.elems.length ≤ n then
      if g.last || (prepared 0 g.elems).length ≤ eaten g now then s
      else { s with engines := Assoc.put s.engines e.1 { g with flushed := true } }
    else
      let s := s.updBank g.frag g.bank (fun b => { b with todo := g.elems.drop n :: b.todo })
      { s with engines := Assoc.put s.engines e.1 { g with elems := g.elems.take n, last := false, flushed := true } })

/-- A write to LENS.FLUSH, at a core clock of the present crossing. -/
def doLensFlush (s : State) (d : Word) : State :=
  if d.getLsbD 0 then let t := s.lensClock; t.2.lensFlush t.1 else s

/-- The core clock at which an engine writes its block's last word. -/
def engineDone (g : Engine) : Nat := g.start + (prepared 0 g.elems).length + 6 + g.extra

/-- LENS_BLOCK_DONE (R275, R277): the block joins its payload, and the engine takes the payload's next block or is free. -/
def doBlockDone (s : State) (n : Nat) : State :=
  match Assoc.find? s.engines n with
  | none => s
  | some g =>
    if !s.alive || 16 * s.time.cr + 15 < engineDone g then s
    else
      match s.fragOf g.frag with
      | none => { s with engines := Assoc.del s.engines n }
      | some f =>
        let b := lensBlock g.elems g.last g.flushed f.raw g.cut
        let s := s.updBank g.frag g.bank (fun p => { p with words := p.words ++ b.words, stage := if g.last then 2 else 1 })
        let s := s.countW R.LENS_BLOCK_CNT E.LENS_BLOCK_WRAP
        let s := (s.countW R.LENS_IN_BYTES E.LENS_IN_WRAP b.rawLen).countW R.LENS_OUT_WORDS E.LENS_OUT_WRAP b.words.length
        let s := if b.raw then s.count R.LENS_RAW_BLOCK_CNT else s
        let s := if g.flushed then s.count R.LENS_FLUSHED_CNT else s
        let s := if b.frozen then s.count R.LENS_FROZEN_CNT else s
        if g.last then { s.lensFreed (engineDone g) with engines := Assoc.del s.engines n }
        else
          match s.fragOf g.frag with
          | none => s
          | some f => s.beginBlock n f g.bank (engineDone g)

/-- A double-bit error in an engine's dictionary or input buffer while it codes (R278). -/
def lensEcc (s : State) (n : Nat) (dict : Bool) : State :=
  match Assoc.find? s.engines n with
  | none => s
  | some g =>
    let t := s.someClock
    let s := t.2
    let g := if dict then { g with cut := g.cut.getD (eaten g t.1) }
      else { g with extra := g.extra + (prepared 0 g.elems).length }
    let s := { s with engines := Assoc.put s.engines n g }
    ((s.count R.LENS_ECC_CNT).raise E.LENS_ECC_FAIL).fault 0x39 1 n

/-- Lens's part of a crossing that ends: its core clocks in which a payload has waited for an engine; a wait that runs on into a new
stroke raises STALL in that stroke too (R277). -/
def lensTick (s : State) : State :=
  let n := 16 * (s.time.cr + 1)
  match s.lensWait with
  | none => s
  | some w => { (s.countBy R.LENS_STALL_CC (n - w)).lensStallTold with lensWait := some n }

end State

end Sys2Proof.Machine
end

