-- ==== Sys2Proof/Machine/HkCurve.lean ====
section
/-! DEFINITION. The curves of the housekeeping evaluator (R379), over exact fractions: what the formula gives, rounded down, and
whether the formula's value is that integer. How far the evaluator's result lies from it within its stated accuracy (R378) is
left free where the result is written. -/

namespace Sys2Proof.Machine

/-- What a curve gives: the clamped end of its domain, or the floor of the formula's value, whether the value is that integer,
and the evaluator's tolerance in units of VAL. -/
inductive CurveOut where
  | clamped (v : Int)
  | value (floor : Int) (exact_ : Bool) (tol : Nat)
deriving DecidableEq, Repr

/-- The greatest `t` from `lo` to below `hi` for which `p` holds, for a `p` that holds up to some point and not beyond it, and
holds at `lo`. -/
def bisect (p : Int → Bool) : Nat → Int → Int → Int
  | 0, lo, _ => lo
  | k + 1, lo, hi =>
    if hi ≤ lo + 1 then lo
    else
      let m := (lo + hi) / 2
      if p m then bisect p k m hi else bisect p k lo m

/-- The inverse of a function that rises with `t`, over the domain `lo` to `hi`: `le t` says that its value at `t` does not exceed the
input, and `ge t` that it is no less. An input below the value at `lo`, or above the one at `hi`, lies outside the domain. -/
def inverse (le ge : Int → Bool) (lo hi : Int) (tol : Nat) : CurveOut :=
  if !le lo then .clamped lo
  else if le hi then (if ge hi then .value hi true tol else .clamped hi)
  else
    let t := bisect le 40 lo hi
    .value t (ge t) tol

/-- A fraction's value, clamped to a domain. -/
def fraction (num den lo hi : Int) : CurveOut :=
  let v := num / den
  if num < lo * den then .clamped lo
  else if hi * den < num then .clamped hi
  else .value v (num % den == 0) 1

/-! Platinum sensors (curves 1 and 2). -/

/-- R/R0 of IEC 60751 at `t` m°C, times 10^27. -/
def platinum (t : Int) : Int :=
  10 ^ 27 + 39083 * t * 10 ^ 17 - 5775 * t * t * 10 ^ 11 - (if t < 0 then 4183 * (t - 100000) * t * t * t else 0)

/-- Curves 1 and 2: `r0` in mΩ, R_ref in mΩ, x = c / m. -/
def curvePt (r0 rref c m : Int) : CurveOut :=
  inverse (fun t => decide (platinum t * r0 * (m - c) ≤ rref * c * 10 ^ 27))
    (fun t => decide (rref * c * 10 ^ 27 ≤ platinum t * r0 * (m - c))) (-200000) 850000
    (if rref * c < r0 * (m - c) then 2 else 1)

/-! The thermistor (curve 3). -/

/-- ln 2, times 2^64. -/
def ln2 : Int := 12786308645202655659

/-- ln of a fraction in [1, 2), times 2^64, by the series of the inverse hyperbolic tangent. -/
def lnMant (n d : Int) : Int :=
  let z := (n - d) * 2 ^ 64 / (n + d)
  let zz := z * z / 2 ^ 64
  let r := (List.range 24).foldl (fun (r : Int × Int) (i : Nat) => (r.1 * zz / 2 ^ 64, r.2 + 2 * r.1 / (2 * (i : Int) + 1))) (z, 0)
  r.2

/-- ln of a positive fraction, times 2^64. -/
def lnFrac (n d : Nat) : Int :=
  let k : Int := (Nat.log2 n : Int) - Nat.log2 d
  let k := if k < 0 then (if n * 2 ^ (-k).toNat < d then k - 1 else k) else (if n < d * 2 ^ k.toNat then k - 1 else k)
  k * ln2 + (if k < 0 then lnMant (n * 2 ^ (-k).toNat) d else lnMant n (d * 2 ^ k.toNat))

/-- Curve 3: R_ref and R25 in mΩ, β in 1/16 K. A resistance that is not positive lies beyond the cold or the hot end. -/
def curveNtc (rref r25 beta c m : Int) : CurveOut :=
  if c ≤ 0 then .clamped 200000
  else
    let l := lnFrac (rref * c).toNat (r25 * (m - c)).toNat
    let le (t : Int) : Bool := decide (l * ((t + 273150) * 29815) ≤ beta * 2 ^ 60 * 100 * (25000 - t))
    let ge (t : Int) : Bool := decide (beta * 2 ^ 60 * 100 * (25000 - t) ≤ l * ((t + 273150) * 29815))
    inverse le ge (-55000) 200000 1

/-! Thermocouples (curves 4 and 5): the reference functions of IEC 60584-1, in mV. -/

/-- A coefficient: a whole number over a power of ten. -/
abbrev Coef := Int × Nat

/-- A polynomial at `t` m°C, times 10^84. -/
def poly84 (cs : List Coef) (t : Int) : Int :=
  (cs.mapIdx (fun i c => c.1 * t ^ i * (10 : Int) ^ (84 - c.2 - 3 * i))).foldl (· + ·) 0

/-- Type K below 0 °C. -/
def kNeg : List Coef := [
  (0, 0), (394501280250, 13), (236223735980, 16), (-328589067840, 18), (-499048287770, 20), (-675090591730, 22),
  (-574103274280, 24), (-310888728940, 26), (-104516093650, 28), (-198892668780, 31), (-163226974860, 34)]

/-- Type K from 0 °C on, but for the exponential term. -/
def kPos : List Coef := [
  (-176004136860, 13), (389212049750, 13), (185587700320, 16), (-994575928740, 19), (318409457190, 21),
  (-560728448890, 24), (560750590590, 27), (-320207200030, 30), (971511471520, 34), (-121047212750, 37)]

/-- Type T below 0 °C. -/
def tNeg : List Coef := [
  (0, 0), (387481063640, 13), (441944343470, 16), (118443231050, 18), (200329735540, 19), (901380195590, 21),
  (226511565930, 22), (360711542050, 24), (384939398830, 26), (282135219250, 28), (142515947790, 30),
  (487686622860, 33), (107955392700, 35), (139450270620, 38), (797951539270, 42)]

/-- Type T from 0 °C on. -/
def tPos : List Coef := [
  (0, 0), (387481063640, 13), (332922278800, 16), (206182434040, 18), (-218822568460, 20), (109968809280, 22),
  (-308157587720, 25), (454791352900, 28), (-275129016730, 31)]

/-- exp(−u) times 2^64, `u` in 2^-64 and not negative. -/
def expNeg (u : Int) : Int :=
  let k := (u / ln2).toNat
  let r := u % ln2
  let s := (List.range 30).foldl (fun (x : Int × Int) (i : Nat) => (-(x.1 * r) / 2 ^ 64 / ((i : Int) + 1), x.2 + x.1)) (2 ^ 64, 0)
  s.2 / 2 ^ k

/-- E of type K at `t` m°C, times 10^84. -/
def emfK (t : Int) : Int :=
  if t < 0 then poly84 kNeg t
  else
    let d := t * 10 - 1269686
    let u := 118343200000 * d * d * 2 ^ 64 / 10 ^ 23
    poly84 kPos t + 118597600000 * 10 ^ 72 * expNeg u / 2 ^ 64

/-- E of type T at `t` m°C, times 10^84. -/
def emfT (t : Int) : Int := if t < 0 then poly84 tNeg t else poly84 tPos t

/-- Curves 4 and 5: the inverse of E at V + E(T_cj). -/
def curveTc (emf : Int → Int) (hi cj c m : Int) : CurveOut :=
  inverse (fun t => decide ((emf t - emf cj) * m ≤ 2500 * c * 10 ^ 84))
    (fun t => decide (2500 * c * 10 ^ 84 ≤ (emf t - emf cj) * m)) (-200000) hi 2

/-! Every curve. -/

/-- The curve takes the reference of the entry (R378). -/
def curveTakes (curve : Nat) (ref : Bool) : Bool :=
  if curve = 0 ∨ curve = 7 then true
  else if curve = 4 ∨ curve = 5 ∨ curve = 8 then !ref else ref

/-- A curve's value (R379): parameters, the cold junction's die temperature in m°C, and x = c / m. -/
def curveValue (curve : Nat) (ps : List Word) (cj c m : Int) : CurveOut :=
  let u (i : Nat) : Int := ((ps[i]?).getD 0).toNat
  let sg (i : Nat) : Int := ((ps[i]?).getD 0).toInt
  match curve with
  | 1 => curvePt 100000 (u 0) c m
  | 2 => curvePt 1000000 (u 0) c m
  | 3 => curveNtc (u 0) (u 1) (u 2) c m
  | 4 => curveTc emfK 1372000 (cj + sg 0) c m
  | 5 => curveTc emfT 400000 (cj + sg 0) c m
  | 6 => fraction (4000000 * 256 * 65536 * (c * 2 ^ 24 - sg 2 * m)) (m * 2 ^ 24 * u 1 * u 0) (-2145280000) 2145280000
  | 7 => fraction (sg 0 * c + sg 1 * m) m (-2147483648) 2147483647
  | 8 => fraction (2500000 * c * u 0 + sg 1 * m * 65536) (m * 65536) (-2147483648) 2147483647
  | _ => .value (c * 2 ^ 24 / m) (c * 2 ^ 24 % m == 0) 1

end Sys2Proof.Machine
end

