-- ==== Sys2Proof/Machine/Hk.lean ====
section
/-! DEFINITION. Housekeeping (chapter 18): excitation, the two sequences, the pulse timers, the self-test, the results and their
limits. What happens on the converter clock comes in as commands; their order is the environment's (log entry 48). -/

namespace Sys2Proof.Machine

/-- The mean of codes, rounded to the nearest integer with ties away from zero (R367). -/
def meanCode (l : List Int) : Int :=
  let n := l.length
  let t := l.foldl (· + ·) 0
  let q : Int := ((2 * t.natAbs + n) / (2 * n) : Nat)
  if n = 0 then 0 else if t < 0 then -q else q

/-- The offset of an entry's block on HKSEQ. -/
def entBlock (inj : Bool) (i : Nat) : Nat := (if inj then 0x500 else 0x100) + 16 * i

namespace State

/-! Excitation (R369). -/

/-- An excitation output is on. -/
def excOn (s : State) (k : Nat) : Bool :=
  s.enabled 0x90 && s.flag (R.HK_EXCk_EN k) && !s.flag (R.HK_EXCk_OFF k)

/-- An excitation output would spoil a ratiometric result now (R370). -/
def excBad (s : State) (k : Nat) : Bool := !s.excOn k || s.flag (R.HK_EXCk_OPEN k) || s.flag (R.HK_EXCk_SHORT k)

/-- The flags that hold at any moment of the entry in progress are noted (R370, R376); die temperatures use no reference (R378). -/
def hkWatch (s : State) : State :=
  match s.hk.cur with
  | none => s
  | some e =>
    let inp := bits e.cfg 0 7
    let exc := e.exc || (bits e.cfg 20 1 == 1 && !decide (64 ≤ inp ∧ inp ≤ 67) && s.excBad (bits e.cfg 21 2))
    let bus := inp == 74
    let nc := e.noConn || (bus && s.tapBank.isNone)
    let td := e.tdac || (bus && (match s.tapBank with
      | some b => s.dacHeld b
      | none => false))
    { s with hk := { s.hk with cur := some { e with exc := exc, noConn := nc, tdac := td } } }

/-- One sample of an output's current, in µA. An output that is off is not judged. -/
def excOne (s : State) (k i : Nat) : State :=
  let s := s.set (R.HK_EXCk_I k) (min i 65535)
  let m := (s.hk.exc[k]?).getD excReset
  if !s.excOn k then { s with hk := { s.hk with exc := s.hk.exc.set k excReset } }
  else
    let m : ExcMon := {
      low := if i < 10 then min (m.low + 1) 10 else 0, high := if i < 10 then 0 else min (m.high + 1) 10,
      above := if 25000 < i then min (m.above + 1) 2 else 0 }
    let s := { s with hk := { s.hk with exc := s.hk.exc.set k m } }
    let s := if m.low = 10 ∧ !s.flag (R.HK_EXCk_OPEN k) then (s.set (R.HK_EXCk_OPEN k) 1).raise E.HK_EXC_OPEN
      else if m.high = 10 then s.set (R.HK_EXCk_OPEN k) 0 else s
    if m.above = 2 then
      (((s.set (R.HK_EXCk_SHORT k) 1).set (R.HK_EXCk_OFF k) 1).raise E.HK_EXC_SHORT).fault 0x90 1 k
    else s

/-- EXC_SAMPLE. -/
def doExcSample (s : State) (i0 i1 i2 i3 : Nat) : State :=
  if s.alive then ((((s.excOne 0 i0).excOne 1 i1).excOne 2 i2).excOne 3 i3).hkWatch else s

/-- An output restarts at a catch that applies a write of EN = 1; SHORT clears with OFF (log entry 49). -/
def excRestart (s : State) (es : List Staged) : State :=
  forEach (List.range 4) s (fun s k =>
    if es.any (fun e => e.key == (R.HK_EXCk_EN k).key && e.mask.getLsbD 16 && e.data.getLsbD 16)
        && s.flag (R.HK_EXCk_OFF k) then
      { (s.set (R.HK_EXCk_OFF k) 0).set (R.HK_EXCk_SHORT k) 0 with hk := { s.hk with exc := s.hk.exc.set k excReset } }
    else s)

/-! Sequences (R371 to R373). -/

/-- An entry starts or restarts with its configuration as it stands. -/
def entryStart (s : State) (inj : Bool) (i : Nat) : State :=
  let b := entBlock inj i
  let cfg := s.rd (R.HKSEQ_ENT_INP b).key
  let slot := bits cfg 28 4
  let on := s.enabled 0x92
  let e : HkEntry := {
    inj := inj, idx := i, cfg := cfg, limHi := s.geti (R.HKSEQ_ENT_LIM_HI b), limLo := s.geti (R.HKSEQ_ENT_LIM_LO b),
    curve := if on then s.get (R.HKCURVE_SLOTs_CURVE slot) else 0,
    params := if on then (List.range 3).map (fun p => s.rd (R.HKCURVE_SLOTs_Pp slot p).key) else [],
    seqNo := if inj then s.hk.injPass else s.get R.HKSEQ_REG_PASS, exc := false, noConn := false, tdac := false }
  { s with hk := { s.hk with cur := some e, regIdx := if inj then s.hk.regIdx else i } }.hkWatch

/-- A sequence starts: its length governs the whole pass. -/
def seqStart (s : State) (inj : Bool) : State :=
  if inj then { s with hk := { s.hk with inj := .running, injLen := s.get R.HKSEQ_INJ_LEN } }.entryStart true 0
  else { s with hk := { s.hk with reg := .running, regLen := s.get R.HKSEQ_REG_LEN } }.entryStart false 0

/-- The converter runs a self-test. -/
def hkTesting (s : State) : Bool := s.flag R.HK_STATUS_ST_BUSY

/-- Housekeeping sequences may run (R381). -/
def hkOn (s : State) : Bool := s.enabled 0x90 && s.enabled 0x91

/-- A start of a sequence arrives (R372). -/
def hkTrigger (s : State) (inj : Bool) : State :=
  if !s.hkOn then s
  else
    let st := if inj then s.hk.inj else s.hk.reg
    if st = .idle then
      { s with hk := if inj then { s.hk with inj := .delay } else { s.hk with reg := .delay } }
    else (s.count (if inj then R.HK_INJ_LOST_CNT else R.HK_REG_LOST_CNT)).raise E.HK_TRIG_LOST

/-- A start source fires: SRC code and index. -/
def hkSource (s : State) (src n : Nat) : State :=
  let hit (f g : Fld) : Bool := s.get f == src && (src == 3 || s.get g == n)
  let reg := hit R.HK_REG_TRIG_SRC R.HK_REG_TRIG_SEL
  let inj := hit R.HK_INJ_TRIG_SRC R.HK_INJ_TRIG_SEL
  let s := if reg && (src != 3 || n == 2) then s.hkTrigger false else s
  if inj && (src != 3 || n == 3) then s.hkTrigger true else s

/-- A write to HK.REG_GO. -/
def doRegGo (s : State) : State := s.hkTrigger false

/-- A write to HK.INJ_GO. -/
def doInjGo (s : State) : State := s.hkTrigger true

/-- A write to HK.SELFTEST_GO (R375). -/
def doSelftestGo (s : State) : State := if s.enabled 0x90 then s.set R.HK_STATUS_ST_PENDING 1 else s

/-- Work is aborted by an injected sequence. -/
def hkAbort (s : State) : State := (s.count R.HK_ABORT_CNT).raise E.HK_ABORT

/-- The injected sequence falls due: it aborts what runs (R373, R375). -/
def injectedDue (s : State) : State :=
  if s.hk.inj != .delay then s
  else
    let s := if s.hkTesting then
        ({ s with hk := { s.hk with stAgain := true } }.set R.HK_STATUS_ST_BUSY 0).hkAbort
      else if s.hk.cur.isSome then s.hkAbort else s
    s.seqStart true

/-- The regular sequence falls due: it waits for an injected sequence or a self-test that runs (R373, R375). -/
def regularDue (s : State) : State :=
  if s.hk.reg != .delay then s
  else if s.hkTesting || s.hk.inj == .running then { s with hk := { s.hk with reg := .waiting } }
  else s.seqStart false

/-- HK_DELAY_END (R372, R373, R375): the delay of one sequence ends, or of both in the same converter clock, and then the injected
one runs first. -/
def doHkDelayEnd (s : State) (q : HkSeq) : State :=
  if !s.alive then s
  else match q with
    | .injected => s.injectedDue
    | .regular => s.regularDue
    | .both => s.injectedDue.regularDue

/-- The self-test starts, or starts again from step 1. -/
def testStart (s : State) : State :=
  { (s.set R.HK_STATUS_ST_PENDING 0).set R.HK_STATUS_ST_BUSY 1 with hk := { s.hk with stAgain := false, cur := none } }

/-- What follows an injected sequence: an aborted self-test, the aborted regular entry, or a regular start that waits. -/
def afterInjected (s : State) : State :=
  if s.hk.stAgain then
    let pend := s.get R.HK_STATUS_ST_PENDING
    s.testStart.set R.HK_STATUS_ST_PENDING pend
  else if s.hk.reg = .running then s.entryStart false s.hk.regIdx
  else if s.hk.reg = .waiting then s.seqStart false
  else s

/-- A sequence ends (R371, R375). With CONT = 1 a pending self-test runs before the next pass, unless the injected sequence counts its
delay: the gap is then not idle, the next pass runs and the self-test stays pending (DEDUCED, log entry 64). -/
def seqEnd (s : State) (inj : Bool) : State :=
  let s := { s with hk := { s.hk with cur := none } }
  if inj then
    let s := { s with hk := { s.hk with inj := .idle, injPass := (s.hk.injPass + 1) % 256 } }
    ((s.raise E.HKSEQ_INJ_DONE).fireFree 0x1A).afterInjected
  else
    let s := (s.set R.HKSEQ_REG_PASS ((s.get R.HKSEQ_REG_PASS + 1) % 256)).raise E.HKSEQ_REG_DONE
    let s := s.fireFree 0x19
    if s.flag R.HK_REG_CTL_CONT then
      if s.flag R.HK_STATUS_ST_PENDING && s.hk.inj == .idle then { s with hk := { s.hk with reg := .waiting } }.testStart
      else s.seqStart false
    else { s with hk := { s.hk with reg := .idle } }

/-! Results (R376 to R380). -/

/-- The evaluator's result for a formula's value, an integer at most `tol` from it (R378): a free value in that range (log entry 50). -/
def evaluated (s : State) (floor : Int) (exact_ : Bool) (tol : Nat) : Int × State :=
  let d := s.draw
  if exact_ then (floor - tol + (Config.free d.1 % (2 * tol + 1) : Nat), d.2)
  else (floor - tol + 1 + (Config.free d.1 % (2 * tol) : Nat), d.2)

/-- A value held to the end of a curve's domain keeps within 32 bits. -/
def hold32 (v : Int) : Int := clampI (-2147483648) 2147483647 v

/-- What an entry's conversions give: VAL, its STAT bits OVR, RANGE and CFG, and the state. -/
def hkValue (s : State) (e : HkEntry) (codes : List Int) (cj : Int) : Int × Nat × State :=
  let inp := bits e.cfg 0 7
  if 64 ≤ inp ∧ inp ≤ 67 then (hold32 (meanCode codes), 0, s)
  else
    let cs := codes.map (clampI (-131072) 131071)
    let ovr := if codes.any (fun c => c < -131072 || 131071 < c) then 2 else 0
    let c := meanCode cs
    let m : Int := 131072 * 2 ^ bits e.cfg 16 3
    if !curveTakes e.curve (bits e.cfg 20 1 == 1) then (0, ovr + 16, s.raise E.HKCURVE_CFG)
    else
      match curveValue e.curve e.params cj c m with
      | .clamped v => (v, ovr + 4, (s.count R.HKCURVE_RANGE_CNT).raise E.HKCURVE_RANGE)
      | .value f x tol =>
        let r := s.evaluated f x tol
        (hold32 r.1, ovr, r.2)

/-- The bit of a result in HKSEQ.LIMIT_MAP. -/
def limitFld (r : Nat) : Fld := ⟨0x91048 + 4 * (r / 32), r % 32, 1⟩

/-- The evaluator writes a result (R377, R380). -/
def writeResult (s : State) (e : HkEntry) (v : Int) (flags : Nat) : State :=
  let r := if e.inj then 64 + e.idx else e.idx
  let above := decide (e.limHi < v)
  let below := decide (v < e.limLo)
  let b (x : Bool) (k : Nat) : Nat := if x then 2 ^ k else 0
  let stat := 1 + flags + b e.exc 3 + b above 5 + b below 6 + b e.noConn 7 + b e.tdac 8 + e.seqNo % 256 * 2 ^ 24
  let was := s.flag (limitFld r)
  let s := ((s.set (R.HKSEQ_RESr_STAT r) stat).seti (R.HKSEQ_RESr_VAL r) v).setb (limitFld r) (above || below)
  if (above || below) && !was then (s.raise E.HKSEQ_LIMIT).fireFree 0x1B else s

/-- HK_ENTRY_DONE (R368): the conversions of the entry in progress, 2^OVS of them. -/
def doHkEntryDone (s : State) (codes : List Int) (cj : Int) : State :=
  let s := s.hkWatch
  match s.hk.cur with
  | none => s
  | some e =>
    if !s.alive || codes.length ≠ 2 ^ bits e.cfg 24 3 then s
    else
      let s := s.countW R.HK_CONV_CNT E.HK_CONV_WRAP codes.length
      let r := s.hkValue e codes cj
      let s := r.2.2.writeResult e r.1 r.2.1
      let len := if e.inj then s.hk.injLen else s.hk.regLen
      if e.idx + 1 < len then s.entryStart e.inj (e.idx + 1) else s.seqEnd e.inj

/-- A read of HKSEQ.RESr.STAT clears FRESH (R377). -/
def clearFresh (s : State) (r : Nat) : State := s.set ⟨(R.HKSEQ_RESr_STAT r).key, 0, 1⟩ 0

/-! The self-test (R375). -/

/-- HK_SELFTEST_START: in an idle gap. -/
def doHkTestStart (s : State) : State :=
  if s.alive && s.enabled 0x90 && s.flag R.HK_STATUS_ST_PENDING && !s.hkTesting && s.hk.reg == .idle && s.hk.inj == .idle then
    s.testStart
  else s

/-- HK_SELFTEST_DONE: the offsets of steps 1 and 2 in LSB, the gain errors of steps 3 and 4 in 0.01 %. -/
def doHkTestDone (s : State) (ofs1 ofs128 gain1 gain2 : Int) : State :=
  if !s.alive || !s.hkTesting then s
  else
    let pass := decide (ofs1.natAbs ≤ 32) && decide (ofs128.natAbs ≤ 32) && decide (gain1.natAbs ≤ 50)
      && decide (gain2.natAbs ≤ 50)
    let s := ((s.set R.HK_STATUS_ST_BUSY 0).setb R.HK_STATUS_ST_PASS pass).countW R.HK_CONV_CNT E.HK_CONV_WRAP 16
    let s := (s.seti R.HK_ST_RES_OFS (clampI (-32768) 32767 ofs128)).seti R.HK_ST_RES_GAIN
      (clampI (-32768) 32767 (if gain1.natAbs < gain2.natAbs then gain2 else gain1))
    let s := s.raise E.HK_SELFTEST_DONE
    let s := if pass then s else (s.raise E.HK_SELFTEST_FAIL).fault 0x90 2 0
    if s.hk.reg = .waiting then s.seqStart false else s

/-! Pulse timers (R374). -/

/-- A period of pulse timer `n` begins with its values as they stand: a rising edge, but where HIGH = 0 keeps the pin low. -/
def ptStart (s : State) (n : Nat) : State :=
  let p := s.get (R.HK_PTn_PERIOD n)
  let h := s.get (R.HK_PTn_HIGH n)
  let s := { s with hk := { s.hk with pt := Assoc.put s.hk.pt n (p, h) } }.emit (.pwm n p h)
  if h = 0 then s else s.fireFree (0x1C + n)

/-- PT_PERIOD. -/
def doPtPeriod (s : State) (n : Nat) : State :=
  if s.alive && (Assoc.find? s.hk.pt n).isSome then s.ptStart n else s

/-! The pages at a catch (R371, R374, R375, R381). -/

/-- The cause for which a staged HK set is refused. -/
def hkRefuse (cand : State) : Option Nat :=
  if (List.range 4).any (fun k => decide (cand.get (R.HK_EXCk_VSET k) < 500) || decide (1500 < cand.get (R.HK_EXCk_VSET k)))
  then some 1
  else if (List.range 4).any (fun n => decide (cand.get (R.HK_PTn_PERIOD n) < 2)) then some 2
  else none

/-- An HK refusal as it is recorded. -/
def hkRefused (s : State) (cause : Nat) : State :=
  ((s.set R.HK_LAST_REFUSE_CAUSE cause).raise E.HK_REFUSED).fault 0x90 3 cause

/-- The blocks of all entries. -/
def entBlocks : List Nat := (List.range 64).map (entBlock false) ++ (List.range 8).map (entBlock true)

/-- A staged HKSEQ set is refused. -/
def hkseqRefuse (cand : State) : Bool :=
  let r := cand.get R.HKSEQ_REG_LEN
  let i := cand.get R.HKSEQ_INJ_LEN
  decide (r = 0 ∨ 64 < r ∨ i = 0 ∨ 8 < i)
    || entBlocks.any (fun b =>
      let inn := cand.get (R.HKSEQ_ENT_INN b)
      decide (79 < cand.get (R.HKSEQ_ENT_INP b)) || decide (64 ≤ inn ∧ inn ≤ 126) || decide (4 < cand.get (R.HKSEQ_ENT_OVS b)))

/-- An HKSEQ refusal as it is recorded; the spec gives DETAIL no meaning here (log entry 3). -/
def hkseqRefused (s : State) : State :=
  let d := s.draw
  (d.2.raise E.HKSEQ_REFUSED).fault 0x91 1 (Config.free d.1)

/-- The lowest slot for which a staged HKCURVE set is refused. -/
def hkcurveRefuse (cand : State) : Option Nat :=
  (List.range 16).find? (fun x =>
    let c := cand.get (R.HKCURVE_SLOTs_CURVE x)
    let p (i : Nat) : Nat := cand.get (R.HKCURVE_SLOTs_Pp x i)
    decide (9 ≤ c) || (decide (1 ≤ c ∧ c ≤ 3) && p 0 == 0) || (c == 3 && (p 1 == 0 || p 2 == 0))
      || (c == 6 && (p 0 == 0 || !(p 1 == 1 || p 1 == 2 || p 1 == 4))) || ((c == 4 || c == 5) && !decide (64 ≤ p 1 ∧ p 1 ≤ 67)))

/-- An HKCURVE refusal as it is recorded. -/
def hkcurveRefused (s : State) (slot : Nat) : State := (s.raise E.HKCURVE_REFUSED).fault 0x92 1 slot

/-- Pulse timer `n` stops: its pin is low (R374, R381). -/
def ptStop (s : State) (n : Nat) : State :=
  match Assoc.find? s.hk.pt n with
  | none => s
  | some r => { s with hk := { s.hk with pt := Assoc.del s.hk.pt n } }.emit (.pwm n r.1 0)

/-- Housekeeping at a catch, after the staged sets; `s0` is the state before it. -/
def hkCatch (s0 s : State) : State :=
  let s := if s.hkOn then s
    else { s with hk := { s.hk with reg := .idle, inj := .idle, cur := none, stAgain := false } }
  let s := if s.enabled 0x90 then
      (if s0.enabled 0x90 then
        (if s0.hk.stAgain && !s.hk.stAgain && !s.hkTesting then s.set R.HK_STATUS_ST_PENDING 1 else s)
      else s.set R.HK_STATUS_ST_PENDING 1)
    else (s.set R.HK_STATUS_ST_PENDING 0).set R.HK_STATUS_ST_BUSY 0
  let s := forEach (List.range 4) s (fun s n =>
    let on := s.enabled 0x90 && s.flag (R.HK_PTn_CTL_EN n)
    if on then (if (Assoc.find? s.hk.pt n).isNone then s.ptStart n else s) else s.ptStop n)
  s.hkWatch

end State

end Sys2Proof.Machine
end

