-- ==== Sys2Proof/Machine/Lane.lean ====
section
/-! DEFINITION. The serial lanes (chapter 15): receivers, Feather, loops, signatures, test patterns, the eye scan and the lane
states. A transceiver is named by the base address of its block (R320). -/

namespace Sys2Proof.Machine

/-- The two bytes of a signature's word for one symbol (R314). -/
def sigBytes (y : LineSym) : List Byte := [y.extractLsb' 0 8, (y.extractLsb' 8 2).zeroExtend 8]

namespace State

/-! Receivers (R302, R303). -/

/-- The transceiver's page is ENABLED and its lane neither off nor asleep. -/
def rxOn (s : State) (x : Xcvr) : Bool :=
  hasRx x && s.alive && (match xcvrLane x with
    | some n => s.pstate (0x50 + n) != 0 && s.pstate (0x50 + n) != 4
    | none => s.enabled (xcvrPage x))

/-- LANE_SIGNAL_DETECT (R303): DOWN to SIGNAL. -/
def doSignalDetect (s : State) (x : Xcvr) : State :=
  let xb := xcvrBase x
  if s.rxOn x && s.rxState xb == 0 then s.set (R.LANE_STATUS_RX_STATE xb) 1 else s

/-- LANE_RX_ALIGNED (R303): SIGNAL to ALIGNED after 8 commas at one bit alignment with no code error between them; Pace and Rigger
transceivers raise no event of their own (R320). The running disparity that a receiver assumes then is not stated: a free value
(log entry 2), which the groups that follow correct (R302). -/
def doRxAligned (s : State) (x : Xcvr) (commas : Nat) : State :=
  let xb := xcvrBase x
  if s.rxOn x && s.rxState xb == 1 && decide (8 ≤ commas) then
    let d := s.draw
    let s := (d.2.setRxDisp xb (Config.free d.1 % 2 == 1)).set (R.LANE_STATUS_RX_STATE xb) 2
    if (xcvrLane x).isSome then s.raise (E.LANE_RX_ALIGNED (xcvrPage x)) else s
  else s

/-- An ALIGNED receiver loses its alignment and enters `st` (R303). -/
def rxLose (s : State) (x : Xcvr) (st : Nat) : State :=
  let xb := xcvrBase x
  let s := ((s.esAbort xb).set (R.LANE_STATUS_RX_STATE xb) st).count (R.LANE_ALIGN_LOSS_CNT xb)
  match xcvrLane x with
  | some n => (s.raise (E.LANE_RX_LOST (0x50 + n))).fault (0x50 + n) 1 n
  | none => s

/-- LANE_RX_LOST (R303): to DOWN on loss of signal, to SIGNAL on 16 code errors within 256 crossings; missing commas are a rule of the
Pace and Rigger links only, and take their receiver to SIGNAL (log entry 36). -/
def doRxLost (s : State) (x : Xcvr) (cause : DownCause) : State :=
  if s.rxOn x && s.rxState (xcvrBase x) == 2 then
    match cause with
    | .lossOfSignal => s.rxLose x 0
    | .codeErrors => if s.sixteenErrors (xcvrBase x) then s.rxLose x 1 else s
    | .commas => if (xcvrLane x).isSome then s else s.rxLose x 1
  else s

/-- LANE_SIGNAL_LOST (R303): a receiver in SIGNAL returns to DOWN. -/
def doSignalLost (s : State) (x : Xcvr) : State :=
  if s.rxOn x && s.rxState (xcvrBase x) == 1 then s.set (R.LANE_STATUS_RX_STATE (xcvrBase x)) 0 else s

/-- Code errors are counted (R302); the crossings of those that still matter to a rule are kept (R303, R340, R342). On a readout or a
Pace lane each is a lane bit error of R414 (DEDUCED, log entry 24); a Rigger port tells its own (R350, R357). -/
def codeErrors (s : State) (x : Xcvr) (k : Nat) : State :=
  let xb := xcvrBase x
  let old := (Assoc.getD (fun _ => []) s.rxErr xb).filter (fun c => decide (s.time.cr < c + 256))
  let s := { s with rxErr := Assoc.put s.rxErr xb ((List.replicate k s.time.cr ++ old).take 4096) }.countBy
    (R.LANE_CODE_ERR_CNT xb) k
  match x with
  | .pace l => (s.countBy (R.PACEx_CODE_ERR_CNT l.page) k).healthFaults 7 k l.idx
  | .lane n => s.healthFaults 7 k n.val
  | .sat _ => s

/-- CODE_ERROR (R302); a receiver that is off declares none. The crossing's tick decodes the groups of the crossing, looks for commas
out of place, and counts what it finds beyond the errors told by then. -/
def laneCodeError (s : State) (x : Xcvr) : State :=
  let xb := xcvrBase x
  if s.rxOn x then
    { s.codeErrors x 1 with codeTold := Assoc.put s.codeTold xb (Assoc.getD (fun _ => 0) s.codeTold xb + 1) }
  else s

/-! Feather (R307 to R309). -/

/-- The station and the position of a readout lane (R294, R321). -/
def memberOf (s : State) (n : Nat) : Bool := (s.get (R.SLIP_STNn_STATUS_TXG (n / 3)) / 2 ^ (n % 3)) % 2 == 1

/-- The crossings just ended in which a readout lane sent only idle symbols and markers. -/
def idleCount (s : State) (n : Nat) : Nat :=
  let busy := ((Assoc.find? s.laneBusy n).map (· + 1)).getD 0
  s.time.cr - max busy (Assoc.getD (fun _ => 0) s.laneFrom n)

/-- FEATHER_ENTER (R307): at the start of a crossing, before the lane's link has anything to send in it. -/
def doFeather (s : State) (n : Nat) : State :=
  let xb := (0x50 + n) * 4096
  let p := s.pos
  if s.alive && s.pstate (0x50 + n) == 1 && s.flag (R.LANE_FEATHER_EN xb)
      && decide (max 1 (s.get (R.LANE_FEATHER_IDLE_CR xb)) ≤ s.idleCount n) && p != 255 && p != 0
      && s.pstate 0x08 == 1 then
    (s.setPstate (0x50 + n) 2).countW (R.LANE_FEATHER_CNT xb) (E.LANE_FEATHER_WRAP (0x50 + n))
  else s

/-- A burst is due on a feathered lane (R308, R309): a demand of its station in an earlier crossing, position 255, COAST raised in the
crossing before, or FEATHER.EN cleared by a catch of an earlier crossing. -/
def burstDue (s : State) (n : Nat) : Bool :=
  (s.memberOf n && (match Assoc.find? s.slipWant (n / 3) with
    | some c => decide (c < s.time.cr)
    | none => false))
  || s.pos == 255 || s.clk.coastAt.any (fun c => c + 1 == s.time.cr)
  || (!s.flag (R.LANE_FEATHER_EN ((0x50 + n) * 4096)) && decide (s.time.lastCatch < s.time.cr))

/-- SQUARE_UP_BURST (R301, R308): the burst fills this crossing, coded from negative disparity; link data resumes, and idle crossings
count, from the next crossing on, and the monitor compares 64 symbols after the burst (R312). -/
def doBurst (s : State) (n : Nat) : State :=
  if s.alive && s.pstate (0x50 + n) == 2 && s.burstDue n then
    { (s.setPstate (0x50 + n) 1).codeStart ((0x50 + n) * 4096) with
      laneFrom := Assoc.put s.laneFrom n (s.time.cr + 1),
      loopFrom := Assoc.put s.loopFrom ((0x50 + n) * 4096) (s.time.cr + 2) }
  else s

/-- A readout lane carries link data in this crossing: ENABLED, and not in its burst. -/
def laneAwake (s : State) (n : Nat) : Bool :=
  s.pstate (0x50 + n) == 1 && decide (Assoc.getD (fun _ => 0) s.laneFrom n ≤ s.time.cr)

/-! Faults and loops (R306, R312, R313). -/

/-- TX_PHASE_ERR (R306): the slot is restored at the next catch. -/
def doTxPhase (s : State) (x : Xcvr) : State :=
  let xb := xcvrBase x
  if s.alive then
    let s := { s with txOff := if s.txOff.contains xb then s.txOff else xb :: s.txOff }
    match xcvrLane x with
    | some n => (s.raise (E.LANE_TX_PHASE_ERR (0x50 + n))).fault (0x50 + n) 3 n
    | none => s
  else s

/-- A transceiver is in TEST. -/
def testing (s : State) (x : Xcvr) : Bool := match xcvrLane x with
  | some n => s.pstate (0x50 + n) == 3
  | none => s.inTest (xcvrBase x)

/-- A transmitter sends coded symbols: it is on, awake, and not in TEST. -/
def codes (s : State) (x : Xcvr) : Bool := match xcvrLane x with
  | some n => s.pstate (0x50 + n) == 1
  | none => s.enabled (xcvrPage x) && !s.testing x

/-- LOOP_MISMATCH (R313): while a monitor compares (R312). -/
def doLoopMismatch (s : State) (x : Xcvr) : State :=
  let xb := xcvrBase x
  let m := s.get (R.LANE_LOOP_MODE xb)
  if s.alive && (m == 1 || m == 2) && s.codes x && decide (Assoc.getD (fun _ => 0) s.loopFrom xb ≤ s.time.cr) then
    let s := s.count (R.LANE_LOOP_ERR_CNT xb)
    match xcvrLane x with
    | some n =>
      let s := s.fault (0x50 + n) 2 n
      if Assoc.find? s.loopTold n = some s.time.catches then s
      else { s.raise (E.LANE_LOOP_ERR (0x50 + n)) with loopTold := Assoc.put s.loopTold n s.time.catches }
    | none => s
  else s

/-! Test patterns (R315 to R317). -/

/-- A lane is out of service (R315). -/
def outOfService (s : State) : Xcvr → Bool
  | .lane n => if n.val < 24 then !s.memberOf n.val else !s.enabled 0x2C
  | .pace l => s.get R.PACEA_DATA_LANE != l.idx && !(s.enabled 0x08 && s.get R.CLK_STATUS_ACTIVE_SRC == l.idx)
  | .sat p => !s.enabled (0x78 + p.val)

/-- CHK_LOCK (R317): 64 consecutive bits have matched; the checker has counted since (checkTick), and STATUS and the event tell it. -/
def doChkLock (s : State) (x : Xcvr) : State :=
  let xb := xcvrBase x
  let c := s.checker xb
  if s.alive && s.testing x && !s.flag (R.LANE_STATUS_CHK_LOCK xb) && decide (1 ≤ c.turns) then
    let s := (s.set (R.LANE_STATUS_CHK_LOCK xb) 1).setChecker xb { c with turns := c.turns - 1 }
    if (xcvrLane x).isSome then s.raise (E.LANE_CHK_LOCK (xcvrPage x)) else s
  else s

/-- CHK_LOST (R317): 64 mismatches within 1,024 bits, after which the checker seeds itself again; an eye scan is aborted (R318). -/
def doChkLost (s : State) (x : Xcvr) : State :=
  let xb := xcvrBase x
  let c := s.checker xb
  if s.alive && s.testing x && s.flag (R.LANE_STATUS_CHK_LOCK xb) && decide (1 ≤ c.turns) then
    let s := ((s.set (R.LANE_STATUS_CHK_LOCK xb) 0).setChecker xb { c with turns := c.turns - 1 }).esAbort xb
    if (xcvrLane x).isSome then s.raise (E.LANE_CHK_LOST (xcvrPage x)) else s
  else s

/-- The raw bits of a crossing reach a transceiver's checker (R317): from the bit after the one that locks it to the one that ends the
lock, every compared bit and every mismatch counts. A bit that should have been inverted is, before it is compared. -/
def checkTick (s : State) (x : Xcvr) (gs : List (BitVec 10)) : State :=
  let xb := xcvrBase x
  let pat := s.get (R.LANE_TEST_CHK_PAT xb)
  let inv := s.flag (R.LANE_TEST_CHK_INV xb)
  let step (a : (Bool × Checker) × Nat × Nat) (b : Bool) : (Bool × Checker) × Nat × Nat :=
    let r := checkBit pat a.1.1 a.1.2 (b != inv)
    if a.1.1 then (r, a.2.1 + 1, a.2.2 + if prbsBit pat a.1.2.reg != (b != inv) then 1 else 0) else (r, a.2)
  let r := (bitsOf gs).foldl step ((s.locked xb, s.checker xb), 0, 0)
  let s := s.setChecker xb r.1.2
  let n := s.get (R.LANE_PRBS_BITS_LO xb) + s.get (R.LANE_PRBS_BITS_HI xb) * 2 ^ 32 + r.2.1
  ((s.set (R.LANE_PRBS_BITS_LO xb) n).set (R.LANE_PRBS_BITS_HI xb) (n / 2 ^ 32)).countBy (R.LANE_PRBS_ERR_CNT xb) r.2.2

/-- A transceiver in TEST sends its pattern in place of coded symbols (R316); the groups that it sends. -/
def patternTick (s : State) (x : Xcvr) : List (BitVec 10) × State :=
  let xb := xcvrBase x
  let r := prbsBits (s.get (R.LANE_TEST_TX_PAT xb)) (10 * symsPerCr x) (Assoc.getD (fun _ => 1) s.prbs xb)
  let inv := s.flag (R.LANE_TEST_TX_INV xb)
  let gs := groupBits (symsPerCr x) (r.1.map (· != inv))
  (gs, { s with prbs := Assoc.put s.prbs xb r.2 }.emit
    (.line xb (if s.flag (R.LANE_TX_CFG_INV xb) then gs.map (~~~ ·) else gs)))

/-! The eye scan (R318). -/

/-- A write to ES_GO: it starts or restarts a measurement; a lane without a receiver ignores it. -/
def esGo (s : State) (x : Xcvr) (d : Word) : State :=
  let xb := xcvrBase x
  if hasRx x && d.getLsbD 0 then
    let s := ((s.set (R.LANE_STATUS_ES_DONE xb) 0).set (R.LANE_STATUS_ES_ABORT xb) 0).set (R.LANE_ES_ERR xb) 0
    { s with es := Assoc.put s.es xb s.time.cr }
  else s

/-- ES_DONE (R318): the bits of the measurement have passed; ES_ERR saturates. -/
def doEsDone (s : State) (x : Xcvr) (err : Nat) : State :=
  let xb := xcvrBase x
  match Assoc.find? s.es xb with
  | none => s
  | some c =>
    if s.alive && decide (2 ^ (20 + s.get (R.LANE_ES_CTL_N xb)) ≤ (s.time.cr + 1 - c) * (10 * symsPerCr x)) then
      let s := { s with es := Assoc.del s.es xb }.set (R.LANE_ES_ERR xb) (min err (2 ^ 32 - 1))
      let s := s.set (R.LANE_STATUS_ES_DONE xb) 1
      if (xcvrLane x).isSome then s.raise (E.LANE_ES_DONE (xcvrPage x)) else s
    else s

/-! Signatures (R314). -/

/-- A running signature. -/
def sigOf (s : State) (k : Nat) : BitVec 32 := Assoc.getD (fun _ => 0xFFFFFFFF) s.sig k

/-- Symbols join a running signature. -/
def sigAdd (s : State) (k : Nat) (ys : List LineSym) : State :=
  { s with sig := Assoc.setD (fun _ => 0xFFFFFFFF) s.sig k (crc32cFrom (s.sigOf k) (ys.flatMap sigBytes)) }

/-- The receive signature of a Pace lane turns with the stroke of the label of the frames that arrive (R314): where the present frame's
stroke is another, the one before is whole. A lane that delivers nothing has the signature of no symbol. -/
def sigTurn (s : State) (l : PaceLane) : State :=
  let xb := xcvrBase (.pace l)
  let k := (s.laneLabel l).toNat / 256 % 2 ^ 20
  match Assoc.find? s.sigRun xb with
  | none => { s with sigRun := Assoc.put s.sigRun xb k }
  | some j =>
    if j = k then s
    else { s with sigDone := Assoc.put s.sigDone xb (s.sigOf (2 * xb + 1) ^^^ 0xFFFFFFFF, j),
                  sig := Assoc.del s.sig (2 * xb + 1), sigRun := Assoc.put s.sigRun xb k }

/-- A crossing of a Pace lane whose boundary comma the symbols do not show counts (R114). -/
def commaTick (s : State) (l : PaceLane) (ys : List LineSym) : State :=
  let st := s.pstate l.page
  if (st == 1 || st == 4) && !ys.isEmpty && ys.head? != some (symK 0xBC) && ys.head? != some (symK 0x3C) then
    { s.count (R.PACEx_COMMA_ERR_CNT l.page) with
      pace := { s.pace with noComma := ((l, s.time.cr) :: s.pace.noComma).take 8 } }
  else s

/-- The bits that a receiver takes from its pins, their polarity as RX_CFG.INV sets it (R310). -/
def rxBits (s : State) (xb : Nat) (gs : List (BitVec 10)) : List (BitVec 10) :=
  if s.flag (R.LANE_RX_CFG_INV xb) then gs.map (~~~ ·) else gs

/-- The symbols of received groups, an error symbol for each group in which a comma out of place ends. -/
def astray (places : List Nat) (ys : List LineSym) : List LineSym :=
  ys.mapIdx (fun i y => if places.contains i then errorSym else y)

/-- A receiver's part of a crossing, and the symbols that it delivers: an ALIGNED one decodes its groups (R302). A comma at another bit
position counts as a code error (R303): the group in which it ends is delivered as an error symbol (DEDUCED, log entry 36). -/
def receive (s : State) (x : Xcvr) (gs : List (BitVec 10)) : List LineSym × State :=
  let xb := xcvrBase x
  if s.rxOn x && s.rxState xb == 2 && !s.testing x then
    let gs := (s.rxBits xb gs).take (symsPerCr x)
    let tail := Assoc.getD (fun _ => []) s.rxTail xb
    let r := decodeAll (s.rxRd.contains xb) gs
    let ys := astray (commasAstray tail gs) r.1
    let bs := tail ++ bitsOf gs
    let s := { s.setRxDisp xb r.2 with rxTail := Assoc.put s.rxTail xb (bs.drop (bs.length - 6)) }
    let bad := (ys.filter (· == errorSym)).length - Assoc.getD (fun _ => 0) s.codeTold xb
    let s := if bad = 0 then s else s.codeErrors x bad
    let s := s.sigAdd (2 * xb + 1) ys
    match x with
    | .pace l => (ys, s.commaTick l ys)
    | _ => (ys, s)
  else ([], { s with rxTail := Assoc.del s.rxTail xb })

/-- Coded symbols leave a transmitter in a crossing, and join its signature (R301, R314). -/
def transmit (s : State) (x : Xcvr) (ys : List LineSym) : State :=
  if s.codes x then (s.sendSyms (xcvrBase x) ys).sigAdd (2 * xcvrBase x) ys else s

/-- A transceiver in TEST in a crossing: its pattern leaves, and its checker takes the bits of its source (R316, R317). -/
def testTick (s : State) (x : Xcvr) (ts : List LaneTraffic) : State :=
  let xb := xcvrBase x
  let r := s.patternTick x
  let own := !hasRx x || s.flag (R.LANE_TEST_CHK_SRC xb)
  r.2.checkTick x (if own then r.1 else s.rxBits xb (((ts.find? (fun t => t.x == x)).map (·.rx)).getD []))

/-- The transceivers in TEST in a crossing. -/
def testsTick (s : State) (ts : List LaneTraffic) : State :=
  forEach allXcvrs s (fun s x => if s.testing x then s.testTick x ts else s)

/-- The signatures of the stroke just ended are latched (R314); `last` is its last CN. Of a Pace lane it is the last stroke of whose
frames all have arrived. -/
def sigCatch (s : State) (last : BitVec 64) : State :=
  let st := last.toNat / 256 % 2 ^ 20
  let s := forEach [PaceLane.A, PaceLane.B] s sigTurn
  forEach allXcvrs s (fun s x =>
    let xb := xcvrBase x
    let s := (s.set (R.LANE_SIG_TX xb) (s.sigOf (2 * xb) ^^^ 0xFFFFFFFF).toNat).set (R.LANE_SIG_TX_STROKE xb) st
    let s := { s with sig := Assoc.del s.sig (2 * xb) }
    match x with
    | .pace _ =>
      match Assoc.find? s.sigDone xb with
      | none => s
      | some d => (s.set (R.LANE_SIG_RX xb) d.1.toNat).set (R.LANE_SIG_RX_STROKE xb) d.2
    | _ =>
      if hasRx x then
        let s := (s.set (R.LANE_SIG_RX xb) (s.sigOf (2 * xb + 1) ^^^ 0xFFFFFFFF).toNat).set (R.LANE_SIG_RX_STROKE xb) st
        { s with sig := Assoc.del s.sig (2 * xb + 1) }
      else s)

/-! Lane states at a catch (R315, R319). -/

/-- A LANE page enters ENABLED: coding starts at negative disparity (R301), and its idle crossings count from here. -/
def laneOn (s : State) (n : Nat) : State :=
  { (s.setPstate (0x50 + n) 1).codeStart ((0x50 + n) * 4096) with laneFrom := Assoc.put s.laneFrom n s.time.cr }

/-- TEST ends or is left: the checker is idle. -/
def testOff (s : State) (xb : Nat) : State :=
  { s.set (R.LANE_STATUS_CHK_LOCK xb) 0 with prbs := Assoc.del s.prbs xb, checks := Assoc.del s.checks xb }

/-- TEST begins: pattern generator and checker start. -/
def testOn (s : State) (xb : Nat) : State := ((s.set (R.LANE_STATUS_TEST_HELD xb) 0).setChecker xb checkIdle).prbsStart xb

/-- A TEST request that waits (R315). -/
def testHold (s : State) (x : Xcvr) : State :=
  let xb := xcvrBase x
  if s.flag (R.LANE_STATUS_TEST_HELD xb) then s
  else
    let s := s.set (R.LANE_STATUS_TEST_HELD xb) 1
    if (xcvrLane x).isSome then s.raise (E.LANE_TEST_HELD (xcvrPage x)) else s

/-- A Pace lane in TEST counts as DISABLED (R315): it delivers no frames until it is in service again. -/
def paceTested (s : State) (x : Xcvr) (on : Bool) : State := match x with
  | .pace l =>
    if s.pstate l.page = 1 then s.updGap l (fun g => if on then g.begin s.time.cr else g.end_ s.time.cr) else s
  | _ => s

/-- The test request of a transceiver at a catch. -/
def testCatch (s : State) (x : Xcvr) : State :=
  let xb := xcvrBase x
  let want := s.flag (R.LANE_TEST_EN xb)
  if s.testing x then
    if want then s
    else
      let s := s.testOff xb
      match xcvrLane x with
      | some n => s.laneOn n
      | none => ({ s with tests := s.tests.filter (· != xb) }.codeStart xb).paceTested x false
  else if !want then s.set (R.LANE_STATUS_TEST_HELD xb) 0
  else
    let able := match xcvrLane x with
      | some n => s.pstate (0x50 + n) == 1 || s.pstate (0x50 + n) == 2
      | none => true
    if !able then s
    else if s.outOfService x then
      let s := s.testOn xb
      match x with
      | .lane n => s.setPstate (0x50 + n.val) 3
      | .pace l => ({ s.unready l.idx with tests := xb :: s.tests }).paceTested x true
      | .sat _ => { s with tests := xb :: s.tests }
    else s.testHold x

/-- A lane is disabled (R319). -/
def laneOff (s : State) (n : Nat) : State :=
  let xb := (0x50 + n) * 4096
  (((s.rxOff xb).testOff xb).set (R.LANE_STATUS_TEST_HELD xb) 0).setPstate (0x50 + n) 0

/-- Displaced slots are restored, and the lanes take the ENABLE that this catch has applied (R306, R319). -/
def laneSwitch (s : State) : State :=
  forEach (List.range 32) { s with txOff := [] } (fun s n =>
    let on := s.enabled (0x50 + n)
    if on && s.pstate (0x50 + n) == 0 then s.laneOn n
    else if !on && s.pstate (0x50 + n) != 0 then s.laneOff n
    else s)

/-- The lanes at a catch, after the links have formed their groups: loops and TEST. A Pace lane that TEST gives back may end an outage
(R113). -/
def laneCatch (s0 s : State) : State :=
  let s := forEach allXcvrs s (fun s x =>
    let xb := xcvrBase x
    if s0.get (R.LANE_LOOP_MODE xb) = s.get (R.LANE_LOOP_MODE xb) then s
    else { s with loopFrom := Assoc.put s.loopFrom xb (s.time.cr + 64 / symsPerCr x) })
  let s := forEach allXcvrs s (fun s x =>
    let xb := xcvrBase x
    if s.testing x && s0.get (R.LANE_TEST_TX_PAT xb) != s.get (R.LANE_TEST_TX_PAT xb) then s.prbsStart xb else s)
  (forEach allXcvrs s testCatch).endOutage

/-- The readout lanes sleep when the hub moors, but for those in TEST (R315, R319). -/
def laneMoor (s : State) : State :=
  forEach (List.range 24) s (fun s n =>
    if s.pstate (0x50 + n) == 1 || s.pstate (0x50 + n) == 2 then (s.rxOff ((0x50 + n) * 4096)).setPstate (0x50 + n) 4
    else s)

/-- The readout lanes wake (R319). -/
def laneWake (s : State) : State :=
  forEach (List.range 24) s (fun s n => if s.pstate (0x50 + n) == 4 then s.laneOn n else s)

end State

end Sys2Proof.Machine
end

