-- ==== Sys2Proof/Machine/Sat.lean ====
section
/-! DEFINITION. Rigger ports and satellites (chapter 17): framing, hits in crossings, port states, the shadow image with its
scrub passes, and the threshold servo. -/

namespace Sys2Proof.Machine

/-- PAGE_STATE.STATE codes of a SAT page (R355). -/
def satOff : Nat := 0
def satRun : Nat := 1
def satDown : Nat := 2
def satSignal : Nat := 3
def satAlign : Nat := 4
def satCaps : Nat := 5
def satResync : Nat := 6

/-- The symbols of a configuration frame (R350): K27.7, the bytes, the CRC-16 high byte first. -/
def configSyms (bytes : List Byte) : List LineSym :=
  let c := crc16 bytes
  [symK 0xFB] ++ bytes.map symD ++ [symD (c.extractLsb' 8 8), symD (c.extractLsb' 0 8)]

/-- The bytes of an upstream frame (R350): TYPE, its body, and its CRC, high byte first. -/
def satFrame (type : Byte) (body : List Byte) (crc : BitVec 16) : List Byte :=
  type :: body ++ [crc.extractLsb' 8 8, crc.extractLsb' 0 8]

/-- An upstream frame of a TYPE has its CRC right (R350): the CRC stands high byte first. -/
def frameOk (type : Byte) (bytes : List Byte) : Bool :=
  let n := bytes.length - 2
  let c := crc16 (bytes.take n)
  bytes.head? == some type && bytes.drop n == [c.extractLsb' 8 8, c.extractLsb' 0 8]

/-- A little-endian field of `n` bytes at byte `i`. -/
def field (bytes : List Byte) (i n : Nat) : Nat := ofLeBytes ((bytes.drop i).take n)

/-- The bytes of an upstream frame from TYPE to CRC, as far as its first bytes tell (R350); none for an unknown TYPE. -/
def frameLen (bytes : List Byte) : Option Nat :=
  match bytes with
  | [] => some 1
  | t :: l =>
    if t = 0x83 then some 8
    else if t = 0x82 then
      match l with
      | _ :: _ :: c :: _ => some (6 + 2 * c.toNat)
      | _ => some 6
    else none

/-- The fast command byte (R347) of CODE and TYPE. -/
def fastByte (code type : Nat) : Byte :=
  let b := BitVec.ofNat 8 (code % 4 * 64 + type % 16 * 4)
  if ones b % 2 = 1 then b else b ||| 1

/-- An address joins an ascending list. -/
def insertNat : Nat → List Nat → List Nat
  | a, [] => [a]
  | a, b :: l => if a < b then a :: b :: l else if a = b then b :: l else b :: insertNat a l

namespace State

/-- A Rigger port. -/
def sat (s : State) (p : Nat) : SatPort := (s.sats[p]?).getD satPortReset

/-- A change to a Rigger port. -/
def updSat (s : State) (p : Nat) (f : SatPort → SatPort) : State := { s with sats := s.sats.set p (f (s.sat p)) }

/-- A port's state. -/
def satState (s : State) (p : Nat) : Nat := s.pstate (0x78 + p)

/-- A frame joins a port's configuration channel; the crossing in which its last symbol leaves. -/
def configSend (s : State) (p : Nat) (bytes : List Byte) : Nat × State :=
  let s := s.updSat p (fun k => { k with tx := k.tx ++ configSyms bytes })
  (s.time.cr + ((s.sat p).tx.length - 1) / 6, s)

/-- CAP_REQ is sent. A READ_BLOCK that has no answer yet is read again at its next turn: one request is outstanding at most (R350). -/
def capRequest (s : State) (p : Nat) : State :=
  let t := s.configSend p [0x03]
  t.2.updSat p (fun k => { k with
    asked := some (.cap, t.1), retry := match k.asked with
      | some (.block b, _) => some b
      | _ => k.retry })

/-! Gaps (R354, R357). -/

/-- SAT_GAP is marked from crossing `a` to crossing `b`. -/
def markGap (s : State) (p : Nat) (a b : Int) : State := { s with satGaps := (p, a, b) :: s.satGaps }

/-- The gap is counted and recorded (R357). -/
def countGap (s : State) (p : Nat) (a b : Int) : State :=
  let pg := 0x78 + p
  let x := (s.cnAtI a).toNat
  let y := (s.cnAtI b).toNat
  let s := s.countBy (R.SAT_GAP_CR pg) (b + 1 - a).toNat
  (((s.set (R.SAT_GAP_FIRST_LO pg) x).set (R.SAT_GAP_FIRST_HI pg) (x / 2 ^ 32)).set (R.SAT_GAP_LAST_LO pg) y).set
    (R.SAT_GAP_LAST_HI pg) (y / 2 ^ 32)

/-- A partial item is discarded. -/
def satPartial (s : State) (p : Nat) : State :=
  (s.count (R.SAT_PARTIAL_CNT (0x78 + p))).raise (E.SAT_PARTIAL (0x78 + p))

/-- An upstream frame is discarded (R350). -/
def frameError (s : State) (p : Nat) : State :=
  (s.count (R.SAT_FRAME_ERR_CNT (0x78 + p))).raise (E.SAT_FRAME_ERR (0x78 + p))

/-- The upstream item in progress is given up; the stream resumes at the next special code group (R348, R357). -/
def dropItem (s : State) (p : Nat) : State := s.updSat p (fun k => { k with item := ⟨[], false, true⟩ })

/-- A port that is in RUN leaves it in this crossing (R357): a partial item, known from the symbols received or told by `partialItem`, is
discarded and counted. A request that has no answer yet stays outstanding (R350). -/
def leaveRun (s : State) (p : Nat) (partialItem : Bool) : State :=
  let s := if partialItem || !(s.sat p).item.bytes.isEmpty || (s.sat p).item.frame then (s.satPartial p).dropItem p else s
  if s.satState p = satRun then { s with satOut := Assoc.put s.satOut p s.time.cr } else s

/-- A port enters RESYNC; the four strokes of R355 run from here or from its next SYNC. -/
def enterResync (s : State) (p : Nat) : State :=
  let s := (s.setPstate (0x78 + p) satResync).count (R.SAT_RESYNC_CNT (0x78 + p))
  s.updSat p (fun k => { k with rt := none, agree := 0, learnt := 0, match_ := 0, syncDue := false, syncSt := some s.time.catches })

/-- SYNC goes out in this crossing (R347). -/
def sendSync (s : State) (p : Nat) : State :=
  let v := Assoc.getD (fun _ => 0) s.satFast p
  let s := { s with satFast := Assoc.put s.satFast p (if v / 16 % 2 = 1 then v else v + 16) }
  s.updSat p (fun k => { k with syncDue := false, syncSt := some s.time.catches, rt := none, agree := 0, learnt := 0, match_ := 0 })

/-- A port enters RUN at a catch (R355, R357): the crossings without it are marked; those before its first RUN are not
counted. -/
def enterRun (s : State) (p : Nat) : State :=
  let b : Int := (s.time.cr : Int) - 1
  let s := match Assoc.find? s.satOut p with
    | none => s.markGap p (-256) b
    | some c =>
      let a : Int := (c : Int) - s.get (R.SAT_AGE_MAX (0x78 + p))
      (s.markGap p a b).countGap p a b
  let s := s.updSat p (fun k => { k with syncDue := false })
  ({ s with satOut := Assoc.del s.satOut p }.setPstate (0x78 + p) satRun).raise (E.SAT_RUN (0x78 + p))

/-! Port states (R355, R356). -/

/-- A signal is present on a Rigger port: DOWN to SIGNAL. -/
def satSignalSeen (s : State) (p : Nat) : State :=
  if s.alive && s.satState p == satDown then s.setPstate (0x78 + p) satSignal else s

/-- SAT_ALIGNED: ALIGNED, then CAPS with a CAP_REQ. -/
def doSatAligned (s : State) (p : Nat) : State :=
  if s.alive && s.satState p == satSignal then
    ((s.raise (E.SAT_LINK_UP (0x78 + p))).setPstate (0x78 + p) satCaps).capRequest p
  else s

/-- The states in which a port takes upstream items. -/
def satListens (s : State) (p : Nat) : Bool :=
  s.alive && (s.satState p == satRun || s.satState p == satCaps || s.satState p == satResync)

/-- A damaged upstream frame. -/
def badFrame (s : State) (p : Nat) : State := (s.frameError p).healthFault 7 p

/-- SAT_CAP (R350, R355): the bytes of an upstream frame from TYPE to CRC; one with a CRC error or another TYPE or length is damaged. -/
def doSatCap (s : State) (p : Nat) (bytes : List Byte) : State :=
  if !s.satListens p then s
  else if !frameOk 0x83 bytes || bytes.length != 8 then s.badFrame p
  else
    match (s.sat p).asked with
    | some (.cap, _) =>
      let pg := 0x78 + p
      let version := field bytes 1 1
      let model := field bytes 2 2
      let cells := field bytes 4 2
      let s := ((s.set (R.SAT_CAP_VERSION pg) version).set (R.SAT_CAP_MODEL pg) model).set (R.SAT_CAP_CELLS pg) cells
      let s := s.updSat p (fun k => { k with asked := none })
      (if s.satState p = satCaps then s.enterResync p else s).updSat p (fun k => { k with syncDue := true })
    | _ => s.frameError p

/-- An answer is missing 64 cr after its request (R350): the request is issued again, a block at its next turn (R361). -/
def satTimeout (s : State) (p : Nat) (capOnly : Bool) : State :=
  match (s.sat p).asked with
  | none => s
  | some (k, c) =>
    if !s.alive || s.time.cr < c + 64 || (capOnly && k != .cap) then s
    else
      let s := (s.count (R.SAT_RESP_TMO_CNT (0x78 + p))).raise (E.SAT_RESP_TMO (0x78 + p))
      match k with
      | .cap => if s.satState p = satCaps then s.capRequest p else s.updSat p (fun k => { k with asked := none })
      | .block b => s.updSat p (fun k => { k with asked := none, retry := some b })

/-- SAT_CAP_REQ_RETRY (R355): a CAP_REQ is a request of R350, so the missing answer is counted. -/
def doSatCapRetry (s : State) (p : Nat) : State := s.satTimeout p true

/-- SAT_RESP_TIMEOUT (R350). -/
def doSatRespTimeout (s : State) (p : Nat) : State := s.satTimeout p false

/-- SAT_K285_ARRIVAL (R356). Before RESYNC the hub records RT and checks nothing; two arrivals that agree, both while RT_REF is 0x100,
set RT_REF. -/
def doSatK285 (s : State) (p : Nat) : State :=
  let st := s.satState p
  let pg := 0x78 + p
  if s.alive && (st == satAlign || st == satCaps) then s.set (R.SAT_STATUS_RT pg) s.pos
  else if !s.alive || (st != satRun && st != satResync) then s
  else
    let rt := s.pos
    let s := s.set (R.SAT_STATUS_RT pg) rt
    let k := s.sat p
    let agree := if k.rt = some rt then k.agree + 1 else 1
    let ref := s.get (R.SAT_RT_REF pg)
    let learnt := if ref != 0x100 then 0 else if k.rt = some rt then k.learnt + 1 else 1
    let learn := decide (2 ≤ learnt)
    let s := if learn then s.set (R.SAT_RT_REF pg) rt else s
    let hit := if learn then 2 else if ref = rt then k.match_ + 1 else 0
    if st = satRun && hit = 0 && ref != 0x100 then
      let s := (s.leaveRun p false).enterResync p
      let s := s.updSat p (fun k => { k with rt := some rt, agree := agree, learnt := learnt })
      if 2 ≤ agree then (s.raise (E.SAT_RT_CHANGE pg)).fault pg 2 p else s
    else
      let s := s.updSat p (fun k => { k with rt := some rt, agree := agree, learnt := learnt, match_ := hit })
      if ref != 0x100 && hit == 0 && decide (2 ≤ agree) then (s.raise (E.SAT_RT_CHANGE pg)).fault pg 2 p else s

/-- SAT_RESYNC_RETRY (R355). -/
def doSatResyncRetry (s : State) (p : Nat) : State :=
  match (s.sat p).syncSt with
  | none => s
  | some c =>
    if s.alive && s.satState p == satResync && (s.sat p).match_ < 2 && decide (c + 4 ≤ s.time.catches) then
      s.updSat p (fun k => { k with syncDue := true })
    else s

/-- SAT_LINK_DOWN (R355, R357): by code errors only where 16 fall within 256 crossings. `partialItem` tells of an item that began in the
crossing of the loss. -/
def doSatLinkDown (s : State) (p : Nat) (cause : DownCause) (partialItem : Bool) : State :=
  let st := s.satState p
  if !s.alive || st == satOff || st == satDown
      || (cause == .codeErrors && !s.sixteenErrors ((0x78 + p) * 4096 + 0x1C0)) then s
  else
    let s := s.leaveRun p partialItem
    ((s.raise (E.SAT_LINK_DOWN (0x78 + p))).fault (0x78 + p) 1 p).setPstate (0x78 + p) satDown

/-- What a code error means for the item it lies in (R350, R357). -/
def satItemError (s : State) (p : Nat) (item : SatItem) : State :=
  if !s.satListens p then s
  else
    match item with
    | .idle => s
    | .frame => s.badFrame p
    | .hit =>
      let s := (s.satPartial p).healthFault 7 p
      if s.satState p = satRun then
        let b : Int := s.time.cr
        let a : Int := b - s.get (R.SAT_AGE_MAX (0x78 + p))
        (s.markGap p a b).countGap p a b
      else s

/-- CODE_ERROR on a Rigger port: what the crossing's symbols will show of it has been told. -/
def doItemError (s : State) (p : Nat) (item : SatItem) : State :=
  (s.satItemError p item).updSat p (fun k => { k with itemTold := k.itemTold + 1 })

/-- One symbol of the upstream stream reaches the receiver of a port (R348, R350, R357): the first data byte after a special code group
is the first of a hit, K27.7 begins a frame, and an error symbol ends the item that it lies in. Hits and frames that end whole
are those of SAT_HIT, SAT_CAP and SAT_READ_RESP. -/
def satSymbol (s : State) (p : Nat) (y : LineSym) : State :=
  let k := s.sat p
  let it := k.item
  let put (i : SatItemRx) : State := s.updSat p (fun k => { k with item := i })
  if y = errorSym then
    let kind : SatItem := if it.frame then .frame else if it.bytes.isEmpty then .idle else .hit
    let s := if k.itemTold = 0 then s.satItemError p kind else s.updSat p (fun k => { k with itemTold := k.itemTold - 1 })
    s.dropItem p
  else if y.getLsbD 8 then put ⟨[], y == symK 0xFB, false⟩
  else if it.skip then s
  else
    let bytes := it.bytes ++ [y.extractLsb' 0 8]
    if it.frame then
      match frameLen bytes with
      | none => put ⟨[], false, true⟩
      | some n => if n ≤ bytes.length then put ⟨[], false, false⟩ else put ⟨bytes, true, false⟩
    else if bytes.length = 4 then put ⟨[], false, false⟩ else put ⟨bytes, false, false⟩

/-- A port's receiver in the crossing that ends: symbol 0 is the comma, and the others continue the stream (R348). No item spans a
K28.5 there: symbol 1 begins one, and the stream resumes. -/
def satStream (s : State) (p : Nat) (ys : List LineSym) : State :=
  let s := if ys.head? == some (symK 0xBC) then s.updSat p (fun k => { k with item := ⟨[], false, false⟩ }) else s
  let s := if s.satListens p then forEach (ys.drop 1) s (fun s y => s.satSymbol p y) else s.dropItem p
  s.updSat p (fun k => { k with itemTold := 0 })

/-- A hit word from its four data bytes in the order in which they arrived, least significant first (R348). -/
def hitWord (b0 b1 b2 b3 : Byte) : Word := b3 ++ b2 ++ b1 ++ b0

/-- SAT_HIT (R351): the last of a hit's four bytes arrives in this crossing. -/
def doSatHit (s : State) (p : Nat) (b0 b1 b2 b3 : Byte) : State :=
  let w := hitWord b0 b1 b2 b3
  let pg := 0x78 + p
  let st := s.satState p
  if !s.alive || st == satOff || st == satDown then s
  else if st != satRun then s.count (R.SAT_DISCARD_CNT pg)
  else
    let age := (s.pos + 512 - bits w 14 8 - s.get (R.SAT_CR_OFS pg)) % 256
    if s.get (R.SAT_AGE_MAX pg) < age then
      let s := s.count (R.SAT_LATE_CNT pg)
      if (s.sat p).lateTold = some s.time.catches then s
      else (s.raise (E.SAT_LATE pg)).updSat p (fun k => { k with lateTold := some s.time.catches })
    else
      let s := s.countW (R.SAT_HIT_CNT pg) (E.SAT_HIT_WRAP pg)
      if s.time.cr < age then s
      else
        let k := (s.time.cr - age) * 16 + p
        { s with satHits := Assoc.put s.satHits k (Assoc.getD (fun _ => []) s.satHits k ++ [w]) }

/-! The shadow image (R359 to R363). -/

/-- The window index of a shadow word. -/
def shKey (p a : Nat) : Nat := p * 16384 + a

/-- A shadow word is marked. -/
def shMark (s : State) (p a : Nat) : Bool := s.flag (R.SHADOW_DATA_MARK (shKey p a))

/-- A shadow word has a double-bit error. -/
def shEcc (s : State) (p a : Nat) : Bool := s.flag (R.SHADOW_DATA_ECC (shKey p a))

/-- A shadow word's value. -/
def shGet (s : State) (p a : Nat) : Nat := s.get (R.SHADOW_DATA (shKey p a))

/-- A cell's dirty bit sets. -/
def makeDirty (s : State) (p a : Nat) : State :=
  s.updSat p (fun k => { k with dirty := insertNat a k.dirty, settling := Assoc.put k.settling a false })

/-- A write to SHADOW.DATA (R359, R360). -/
def doShadowWrite (s : State) (d : Word) : State :=
  let p := s.get R.SHADOW_PORT_SEL
  let a := s.get R.SHADOW_ADDR
  let k := s.sat p
  if !k.queue.contains a && k.queue.length == 64 then (s.count R.SHADOW_WQ_FULL_CNT).raise E.SHADOW_WQ_FULL
  else
    let s := ((s.set (R.SHADOW_DATA (shKey p a)) (bits d 0 16)).set (R.SHADOW_DATA_MARK (shKey p a)) 1).set
      (R.SHADOW_DATA_ECC (shKey p a)) 0
    let s := s.updSat p (fun k => { k with
      queue := if k.queue.contains a then k.queue else k.queue ++ [a], settling := Assoc.put k.settling a false,
      suspect := k.suspect.filter (· != a) })
    s.set R.SHADOW_ADDR ((a + 1) % 16384)

/-- A write to SHADOW.FORGET (R359). -/
def doShadowForget (s : State) (d : Word) : State :=
  if d.getLsbD 0 then s.set (R.SHADOW_DATA_MARK (shKey (s.get R.SHADOW_PORT_SEL) (s.get R.SHADOW_ADDR))) 0 else s

/-- A WRITE frame with the shadow value of now (R350, R360). -/
def sendWord (s : State) (p a : Nat) : State :=
  let t := s.configSend p ([0x01] ++ leBytes 2 a ++ leBytes 2 (s.shGet p a))
  t.2.updSat p (fun k => { k with settling := Assoc.put k.settling a true })

/-- SAT_CONFIG_SEND (R360): the channel is free where what it still holds leaves in this crossing. -/
def doSatConfigSend (s : State) (p : Nat) : State :=
  let k := s.sat p
  if !s.alive || s.satState p != satRun || 6 ≤ k.tx.length then s
  else
    match k.queue with
    | a :: l => (s.updSat p (fun k => { k with queue := l })).sendWord p a
    | [] =>
      match k.dirty.find? (fun a => !s.shEcc p a) with
      | some a => (s.updSat p (fun k => { k with dirty := k.dirty.filter (· != a) })).sendWord p a
      | none =>
        match k.due, k.asked with
        | some b, none =>
          let t := s.configSend p ([0x02] ++ leBytes 2 (32 * b) ++ [32])
          t.2.updSat p (fun k => { k with
            due := none, asked := some (.block b, t.1),
            settling := k.settling.filter (fun e => !(e.2 && e.1 / 32 == b)) })
        | _, _ => s

/-- The first block from `b` on that holds a marked cell. -/
def markedBlock (s : State) (p b : Nat) : Option Nat :=
  (List.range 512).find? (fun k => decide (b ≤ k) && (List.range 32).any (fun i => s.shMark p (32 * k + i)))

/-- A scrub pass of a port has ended (R361). -/
def passDone (s : State) (p st : Nat) : State :=
  let s := (s.countW R.SHADOW_PASS_CNT E.SHADOW_PASS_WRAP).set (R.SHADOW_PASS_ST p) (min (s.time.catches - st) 65535)
  if s.passTold = some s.time.catches then s else { s.raise E.SHADOW_PASS_DONE with passTold := some s.time.catches }

/-- A block becomes due. -/
def blockDue (s : State) (p b next : Nat) : State :=
  s.updSat p (fun k => { k with
    due := some b, dueCr := some s.time.cr, retry := none, next := next, passSt := some (k.passSt.getD s.time.catches) })

/-- SCRUB_BLOCK_DUE (R361): a block whose answer timed out first, then the next marked block; past the last one, and with no answer
outstanding that could still time out in this pass, the pass has ended and the next begins. -/
def doScrubDue (s : State) (p : Nat) : State :=
  let k := s.sat p
  let wait := match k.dueCr with
    | none => false
    | some c => decide (s.time.cr < c + max 16 (s.get R.SHADOW_SCRUB_PERIOD))
  if !s.alive || !s.enabled 0x88 || !s.flag R.SHADOW_SCRUB_EN || s.satState p != satRun || k.due.isSome || wait then s
  else
    match k.retry with
    | some b => s.blockDue p b k.next
    | none =>
      match s.markedBlock p k.next with
      | some b => s.blockDue p b (b + 1)
      | none =>
        if k.asked.isSome then s
        else
        let s := match k.passSt with
          | some st => s.passDone p st
          | none => s
        let s := s.updSat p (fun k => { k with next := 0, passSt := none })
        match s.markedBlock p 0 with
        | some b => s.blockDue p b (b + 1)
        | none => s

/-- One cell of a READ_RESP (R362). -/
def compareCell (s : State) (p a : Nat) (v : BitVec 16) : State :=
  let k := s.sat p
  if !s.shMark p a || s.shEcc p a || (Assoc.find? k.settling a).isSome then s
  else if s.shGet p a = v.toNat then s.updSat p (fun k => { k with suspect := k.suspect.filter (· != a) })
  else
    let again := k.suspect.contains a
    let s := ((s.count R.SHADOW_UPSET_CNT).set R.SHADOW_LAST_UPSET_ADDR a).set R.SHADOW_LAST_UPSET_PORT p
    let s := (s.raise E.SHADOW_UPSET).healthFault 0x0B p
    let s := if again then ((s.count R.SHADOW_STUCK_CNT).raise E.SHADOW_STUCK).fault 0x88 1 p else s
    (s.makeDirty p a).updSat p (fun k => { k with suspect := insertNat a k.suspect })

/-- SAT_READ_RESP (R350, R362): the bytes of an upstream frame from TYPE to CRC. -/
def doSatReadResp (s : State) (p : Nat) (bytes : List Byte) : State :=
  if !s.satListens p then s
  else if !frameOk 0x82 bytes || frameLen bytes != some bytes.length then s.badFrame p
  else
    let a := field bytes 1 2
    let data : List (BitVec 16) := (List.range (field bytes 3 1)).map (fun i => BitVec.ofNat 16 (field bytes (4 + 2 * i) 2))
    match (s.sat p).asked with
    | some (.block b, _) =>
      if a = 32 * b ∧ data.length = 32 then
        let s := s.updSat p (fun k => { k with asked := none })
        forEach (data.mapIdx (fun i v => (i, v))) s (fun s x => s.compareCell p (32 * b + x.1) x.2)
      else s.frameError p
    | _ => s.frameError p

/-- A double-bit error in a shadow word (R363); what the bits read as then is a free value (log entry 2). -/
def shadowEcc (s : State) (p a : Nat) : State :=
  let d := s.draw
  let s := (d.2.set (R.SHADOW_DATA (shKey p a)) (Config.free d.1 % 65536)).set (R.SHADOW_DATA_ECC (shKey p a)) 1
  ((s.count R.SHADOW_ECC_FAIL_CNT).raise E.SHADOW_ECC_FAIL).fault 0x88 2 p

/-! The threshold servo (R364, R365). -/

/-- The cause for which a staged SATSTAT set is refused. -/
def satstatRefuse (cand : State) : Option Nat :=
  let w := cand.get R.SATSTAT_TRIM_WIDTH
  if w = 0 ∨ 8 < w ∨ 16 < cand.get R.SATSTAT_TRIM_LSB + w then some 1
  else if cand.get R.SATSTAT_SERVO_LAST < cand.get R.SATSTAT_SERVO_FIRST then some 2
  else none

/-- A SATSTAT refusal as it is recorded. -/
def satstatRefused (s : State) (cause : Nat) : State := (s.raise E.SATSTAT_REFUSED).fault 0x89 1 cause

/-- The direction in which a cell's field is to step: 1, −1, or 0. -/
def cellStep (s : State) (p c : Nat) : Int :=
  let occ : Int := (s.get (R.SATSTAT_OCC (shKey p c)) * 65536 : Nat)
  let t : Int := s.get R.SATSTAT_TARGET
  let d : Int := s.get R.SATSTAT_DEADBAND
  let n : Int := s.get (R.SATSTAT_N_CR p)
  let up : Int := if s.flag R.SATSTAT_TRIM_POL then -1 else 1
  if (t + d) * n < occ then up else if occ < (t - d) * n then -up else 0

/-- The servo looks at one cell; `n` steps have been taken for the port. -/
def servoCell (s : State) (p c n : Nat) : Nat × State :=
  let dir := s.cellStep p c
  let a := (c + s.get R.SATSTAT_TRIM_BASE) % 16384
  if dir = 0 || !s.shMark p a || (s.sat p).queue.contains a || s.shEcc p a then (n, s)
  else
    let lo := s.get R.SATSTAT_TRIM_LSB
    let w := s.get R.SATSTAT_TRIM_WIDTH
    let v : Int := (s.shGet p a / 2 ^ lo % 2 ^ w : Nat)
    let new := v + dir
    if new < 0 || (2 ^ w : Int) - 1 < new then (n, (s.count R.SATSTAT_LIMIT_CNT).raise E.SATSTAT_LIMIT)
    else if s.get R.SATSTAT_SERVO_MAX ≤ n then (n, (s.count R.SATSTAT_HELD_CNT).raise E.SATSTAT_HELD)
    else
      let k := shKey p a
      let s := s.wr (R.SHADOW_DATA k).key (setBits (s.rd (R.SHADOW_DATA k).key) lo w new.toNat)
      let s := (s.makeDirty p a).updSat p (fun k => { k with stepped := some c })
      (n + 1, (s.countW R.SATSTAT_STEP_CNT E.SATSTAT_STEP_WRAP).raise E.SATSTAT_STEP)

/-- The servo's decision for one port. -/
def servoPort (s : State) (p : Nat) : State :=
  let first := s.get R.SATSTAT_SERVO_FIRST
  let last := s.get R.SATSTAT_SERVO_LAST
  let cells := (List.range (last + 1)).drop first
  let from_ := match (s.sat p).stepped with
    | some c => c + 1
    | none => first
  let order := cells.filter (fun c => decide (from_ ≤ c)) ++ cells.filter (fun c => decide (c < from_))
  let s := (order.foldl (fun (r : Nat × State) c => r.2.servoCell p c r.1) (0, s)).2
  { s with regs := s.regs.filter (fun e =>
      !(e.1 % 2 ^ 20 == (R.SATSTAT_OCC 0).key && e.1 / 2 ^ 20 / 16384 == p)) }.set (R.SATSTAT_N_CR p) 0

/-- Catch action 7 (R365). -/
def satServo (s : State) : State :=
  if s.enabled 0x89 then
    forEach (List.range 16) s (fun s p =>
      if s.satState p = satRun ∧ s.get R.SATSTAT_SERVO_N ≤ s.get (R.SATSTAT_N_CR p)
      then s.servoPort p else s)
  else s

/-! The ports at a catch and in a crossing. -/

/-- A port is switched off (R355, R422): shadow and hit memory are kept. -/
def satDisable (s : State) (p : Nat) : State :=
  let s := (((s.leaveRun p false).dropItem p).setPstate (0x78 + p) satOff).rxOff ((0x78 + p) * 4096 + 0x1C0)
  s.updSat p (fun k => { k with
    tx := [], asked := none, retry := match k.asked with
      | some (.block b, _) => some b
      | _ => k.retry,
    syncDue := false, syncSt := none, rt := none, agree := 0, learnt := 0, match_ := 0 })

/-- The ports at a catch, after the staged sets. -/
def satCatch (s : State) : State :=
  forEach (List.range 16) s (fun s p =>
    let on := s.enabled (0x78 + p)
    let st := s.satState p
    if !on then if st = satOff then s else s.satDisable p
    else if st = satOff then (s.setPstate (0x78 + p) satDown).codeStart ((0x78 + p) * 4096 + 0x1C0)
    else if st = satResync then
      if 2 ≤ (s.sat p).match_ then s.enterRun p else if (s.sat p).syncDue then s.sendSync p else s
    else s)

/-- A full resynchronisation on the ports (R358). -/
def satResyncAll (s : State) : State :=
  forEach (List.range 16) s (fun s p =>
    if s.satState p = satRun then ((s.leaveRun p false).enterResync p).sendSync p else s)

/-- The frame that leaves on SDNpp in the crossing that ends (R346). -/
def satFrameOut (s : State) (p : Fin 16) : State :=
  if s.satState p.val = satOff || !s.codes (.sat p) then s
  else
    let k := s.sat p.val
    let v := Assoc.getD (fun _ => 0) s.satFast p.val
    let ctl := k.tx.take 6 ++ List.replicate (6 - k.tx.length) k280
    let comma : Byte := if s.pos = 0 then 0xBC else 0x3C
    let fast := fastByte (v / 16) (v % 16)
    let s := (s.emit (.satFrame p.val comma fast ctl)).updSat p.val (fun k => { k with tx := k.tx.drop 6 })
    s.transmit (.sat p) ([symK comma, symD fast] ++ ctl)

/-- The ports' part of a crossing: frames out, and hits and marks no longer held (R352). -/
def satTick (s : State) : State :=
  let s := forEach (List.finRange 16) s satFrameOut
  { s with satFast := [], satHits := s.satHits.filter (fun e => decide (s.time.cr < e.1 / 16 + 8192)),
           satGaps := s.satGaps.filter (fun g => decide ((s.time.cr : Int) < g.2.2 + 8193)) }

end State

end Sys2Proof.Machine
end

