-- ==== Sys2Proof/Machine/Link.lean ====
section
/-! DEFINITION. The transmitting side of a Slipway link (chapter 16): packets, sequence numbers, the replay buffer, acknowledgements
and the limits under which a packet may start. -/

namespace Sys2Proof.Machine

/-- STATE codes of SLIP.STNn.STATUS (R344). -/
def slipOff : Nat := 0
def slipTrain : Nat := 1
def slipCaps : Nat := 2
def slipUp : Nat := 3
def slipDown : Nat := 4

/-- A packet with its CRC (R325), from TYPE to CRC. -/
def packet (bytes : List Byte) : List Byte := bytes ++ leBytes 4 (crc32c bytes).toNat

/-- K28.5, which the stream carries between packets (R324). -/
def k285 : LineSym := symK 0xBC

/-- The symbols of a packet (R325). -/
def packetSyms (bytes : List Byte) : List LineSym := [symK 0xFB] ++ bytes.map symD ++ [symK 0xFD]

/-- Every `g`-th symbol of a list, from the first on (R321). -/
def everyNth (g : Nat) : Nat → List LineSym → List LineSym
  | 0, _ => []
  | n + 1, l => l.head?.getD k285 :: everyNth g n (l.drop g)

/-- The number of set positions of a group. -/
def groupSize3 (g : Nat) : Nat := g % 2 + g / 2 % 2 + g / 4 % 2

/-- The bytes that a replay buffer holds. -/
def replayBytes (l : List Pkt) : Nat := (l.map (fun p => p.bytes.length)).foldl (· + ·) 0

namespace State

/-- The link of a station. -/
def link (s : State) (n : Nat) : Link := (s.links[n]?).getD linkReset

/-- The link of a station, written. -/
def setLink (s : State) (n : Nat) (k : Link) : State := { s with links := s.links.set n k }

/-- A change to the link of a station. -/
def updLink (s : State) (n : Nat) (f : Link → Link) : State := s.setLink n (f (s.link n))

/-- A link's state. -/
def linkState (s : State) (n : Nat) : Nat := s.get (R.SLIP_STNn_STATUS_STATE n)

/-- The hub's transmit group. -/
def txg (s : State) (n : Nat) : Nat := s.get (R.SLIP_STNn_STATUS_TXG n)

/-- Every member lane of a station carries data in this crossing (R324). -/
def linkAwake (s : State) (n : Nat) : Bool :=
  (List.range 3).all (fun p => (s.txg n / 2 ^ p) % 2 == 0 || s.laneAwake (3 * n + p))

/-- The catch marker occupies slots 0 and 1 of a station's lanes in this crossing (R322): its MAP byte. -/
def markerNow (s : State) (n : Nat) : Option Byte := match (s.link n).marker with
  | some (c, m) => if c = s.time.cr then some m else none
  | none => none

/-- The free slots of a lane in this crossing. -/
def freeSlots (s : State) (n : Nat) : Nat := if (s.markerNow n).isSome then 38 else 40

/-- The symbols that a station's stream carries in a crossing (R321). -/
def linkCap (s : State) (n : Nat) : Nat := s.freeSlots n * groupSize3 (s.txg n)

/-- The lanes of a station's group carry a part of a packet in this crossing (R307). -/
def groupSent (s : State) (n : Nat) : State :=
  let members := (List.range 3).filter (fun p => s.txg n / 2 ^ p % 2 == 1)
  { s with laneBusy := members.foldl (fun l p => Assoc.put l (3 * n + p) s.time.cr) s.laneBusy }

/-- The stream carries a packet now; a packet that starts in this crossing ends the idle of R307. -/
def linkSend (s : State) (n : Nat) (bytes : List Byte) : State :=
  let s := s.emit (.slip n bytes)
  let s := { s.groupSent n with slipWant := Assoc.del s.slipWant n }
  s.updLink n (fun k => { k with txq := k.txq ++ packetSyms bytes })

/-- A station has data to send while its lanes feather (R308). -/
def linkWant (s : State) (n : Nat) : State :=
  match Assoc.find? s.slipWant n with
  | some _ => s
  | none => { s with slipWant := Assoc.put s.slipWant n s.time.cr }

/-- An unsequenced packet: placed between others at once, or when the lanes are awake (R324, R333). -/
def sendCtl (s : State) (n : Nat) (bytes : List Byte) : State :=
  let p := packet bytes
  if s.linkAwake n then s.linkSend n p
  else (s.linkWant n).updLink n (fun k => { k with ctlq := k.ctlq ++ [p] })

/-- Unsequenced packets that waited go out. -/
def flushCtl (s : State) (n : Nat) : State :=
  let q := (s.link n).ctlq
  if q.isEmpty || !s.linkAwake n then s
  else forEach q (s.updLink n (fun k => { k with ctlq := [] })) (fun s p => s.linkSend n p)

/-- The link takes sequenced packets, but for the room in its replay buffer (R338, R341). -/
def linkTakes (s : State) (n : Nat) : Bool :=
  let k := s.link n
  s.alive && s.linkState n == slipUp && !s.flag (R.SLIP_STNn_STATUS_HOLD n) && !k.reform && !k.repWait && k.repQ.isEmpty

/-- The link lets a posted write start in this crossing: it takes packets, and its stream has room (R324). -/
def linkOpen (s : State) (n : Nat) : Bool := s.linkTakes n && decide ((s.link n).txq.length < s.linkCap n)

/-- The replay buffer has room for packets of so many bytes (R337). -/
def replayRoom (s : State) (n : Nat) (sizes : List Nat) : Bool :=
  let k := s.link n
  decide (k.replay.length + sizes.length ≤ 2048)
    && decide (replayBytes k.replay + sizes.foldl (· + ·) 0 ≤ 262144)

/-- The transmitter stalls for want of room for packets of so many bytes (R337); with none it stalls no longer. -/
def setStall (s : State) (n : Nat) (sizes : List Nat) : State :=
  let f := R.SLIP_STNn_STATUS_REPLAY_FULL n
  let s := s.updLink n (fun k => { k with stall := sizes })
  if sizes.isEmpty then s.set f 0 else if s.flag f then s else (s.set f 1).raise E.SLIP_REPLAY_FULL

/-- The transmitter stalls for packets of so many bytes, and for those for which it stalls already (R337). -/
def joinStall (s : State) (n : Nat) (sizes : List Nat) : State :=
  let l := (s.link n).stall
  if sizes.length ≤ l.length ∧ sizes.foldl (· + ·) 0 ≤ l.foldl (· + ·) 0 then s else s.setStall n sizes

/-- A stall ends where there is room for what it holds, or where the station may not start it any more. -/
def freeStall (s : State) (n : Nat) (wanted : Bool) : State :=
  let l := (s.link n).stall
  if !l.isEmpty && (!wanted || s.replayRoom n l) then s.setStall n [] else s

/-- Sequenced packets of so many bytes may start now where `ok` says that the stream takes them; the state notes a wait for lanes
or for room. Packets that find room end no stall for larger ones. -/
def mayStartIf (s : State) (ok : Bool) (n : Nat) (sizes : List Nat) : Bool × State :=
  if !ok then (false, s)
  else if !s.linkAwake n then (false, s.linkWant n)
  else if s.replayRoom n sizes then (true, s.freeStall n true)
  else (false, s.joinStall n sizes)

/-- Posted writes of so many bytes may start now. -/
def mayStart (s : State) (n : Nat) (sizes : List Nat) : Bool × State := s.mayStartIf (s.linkOpen n) n sizes

/-- A read of so many bytes may be issued now: it follows at once the packets that the stream already carries, so that the writes
of a long fragment do not hold a descriptor fetch back (R292). HOLD and a re-form still stop it until it begins to leave (keepUnsent). -/
def mayRead (s : State) (n : Nat) (size : Nat) : Bool × State := s.mayStartIf (s.linkTakes n) n [size]

/-- The registers that show the replay buffer. -/
def showReplay (s : State) (n : Nat) : State :=
  let k := s.link n
  (s.set (R.SLIP_STNn_REPLAY_PKTS n) k.replay.length).set (R.SLIP_STNn_REPLAY_BYTES n) (replayBytes k.replay)

/-- A sequenced packet is sent (R326, R331, R337): its number, and the state. -/
def sendSeq (s : State) (n : Nat) (ty : Byte) (write : Bool) (fields : List Byte) : Nat × State :=
  let q := s.get (R.SLIP_STNn_SEQ_TX_NEXT n)
  let p := packet (ty :: leBytes 2 q ++ fields)
  let s := s.updLink n (fun k => { k with
    replay := k.replay ++ [⟨q, p, write⟩], timer := if k.replay.isEmpty then s.time.cr else k.timer })
  let s := (s.set (R.SLIP_STNn_SEQ_TX_NEXT n) ((q + 1) % 4096)).countW (R.SLIP_STNn_PKT_TX_CNT n) E.SLIP_PKT_WRAP
  (q, (s.linkSend n p).showReplay n)

/-- The hub's receive-good map (R340). -/
def rxGood (s : State) (n : Nat) : Nat :=
  (List.range 3).foldl (fun m p =>
    if s.rxState ((0x50 + 3 * n + p) * 4096) == 2 && !(s.link n).lost.contains p then m + 2 ^ p else m) 0

/-- E − 1, the last packet performed. -/
def lastPerformed (s : State) (n : Nat) : Nat := (s.get (R.SLIP_STNn_SEQ_RX_E n) + 4095) % 4096

/-- An ACK (R333). -/
def sendAck (s : State) (n : Nat) : State :=
  (s.updLink n (fun k => { k with rxDue := 0, ackFrom := none })).sendCtl n
    (0x31 :: leBytes 2 (s.lastPerformed n) ++ leBytes 1 (s.rxGood n))

/-- A NAK for E − 1, one for each loss (R334). -/
def sendNak (s : State) (n : Nat) : State :=
  if (s.link n).nakSent then s
  else
    let s := (s.updLink n (fun k => { k with nakSent := true, rxDue := 0, ackFrom := none })).count
      (R.SLIP_STNn_NAK_TX_CNT n)
    s.sendCtl n (0x32 :: leBytes 2 (s.lastPerformed n) ++ leBytes 1 (s.rxGood n))

/-- A peer's sequenced packet has been performed (R331, R333). -/
def performed (s : State) (n : Nat) : State :=
  let s := s.set (R.SLIP_STNn_SEQ_RX_E n) ((s.get (R.SLIP_STNn_SEQ_RX_E n) + 1) % 4096)
  let s := s.updLink n (fun k => { k with
    nakSent := false, rxDue := k.rxDue + 1, ackFrom := some (k.ackFrom.getD s.time.cr) })
  if 32 ≤ (s.link n).rxDue then s.sendAck n else s

/-- The packets of a replay go out as the stream takes them; one that has been acknowledged is skipped (R345). The replay lasts until
the last symbol of its last packet has left. -/
def drain (s : State) (n : Nat) : State :=
  let rec go : List Nat → State → State
    | [], s => s.updLink n (fun k => { k with repQ := [] })
    | q :: l, s =>
      match (s.link n).replay.find? (fun p => p.seq == q) with
      | none => go l s
      | some p =>
        let k := s.link n
        if s.flag (R.SLIP_STNn_STATUS_HOLD n) || k.reform || s.linkCap n ≤ k.txq.length then
          s.updLink n (fun k => { k with repQ := q :: l })
        else if !s.linkAwake n then (s.linkWant n).updLink n (fun k => { k with repQ := q :: l })
        else go l ((s.linkSend n p.bytes).updLink n (fun k => { k with repLeft := k.txq.length }))
  go (s.link n).repQ s

/-- Every unacknowledged packet is sent again, in order (R335), those that HOLD or the re-form kept among them. -/
def resend (s : State) (n : Nat) : State :=
  if (s.link n).replay.isEmpty then s.updLink n (fun k => { k with repWait := false })
  else
    let s := s.count (R.SLIP_STNn_REPLAY_CNT n)
    let s := if s.slipTold = some s.time.catches then s
      else { s.raise E.SLIP_REPLAY with slipTold := some s.time.catches }
    let s := s.updLink n (fun k => { k with timer := s.time.cr, repWait := false, heldq := [], repQ := k.replay.map (·.seq) })
    s.drain n

/-- What one lane of a station sends in the crossing that ends: the marker, and a member's share of the stream, symbol i of which goes
to member i mod g (R321, R322); K28.5 in the slots that nothing else takes, and through a burst (R308, R324). -/
def laneShare (s : State) (n p : Nat) (stream : List LineSym) : List LineSym :=
  let g := groupSize3 (s.txg n)
  if !s.laneAwake (3 * n + p) then List.replicate 40 k285
  else
    let head := match s.markerNow n with
      | some m => [symK 0x7C, symD m]
      | none => []
    let i := groupSize3 (s.txg n % 2 ^ p)
    head ++ (if s.txg n / 2 ^ p % 2 = 1 then everyNth g (s.freeSlots n) (stream.drop i) else List.replicate (s.freeSlots n) k285)

/-- The packets of a stream, each from its K27.7 on; first of all the rest of one that has begun to leave. -/
def splitPackets : List LineSym → List LineSym × List (List LineSym)
  | [] => ([], [])
  | y :: l =>
    let r := splitPackets l
    if y == symK 0xFB then ([], (y :: r.1) :: r.2) else (y :: r.1, r.2)

/-- While HOLD is in force, or a re-form is pending, no sequenced packet begins to leave: those in the stream whose K27.7 has not
left wait, and the packet that has begun and the unsequenced ones go on (R338, R341). -/
def keepUnsent (s : State) (n : Nat) : State :=
  let k := s.link n
  if (s.flag (R.SLIP_STNn_STATUS_HOLD n) || k.reform) && s.linkState n == slipUp then
    let r := splitPackets k.txq
    let seqd (p : List LineSym) : Bool := p.tail.head?.any (fun y => decide (y.toNat % 256 < 0x30))
    s.updLink n (fun k => { k with
      txq := r.1 ++ (r.2.filter (fun p => !seqd p)).flatMap id, heldq := k.heldq ++ (r.2.filter seqd).flatMap id })
  else s

/-- Packets that HOLD has kept join the stream again; where a replay waits, it sends them (R338, R345). -/
def releaseKept (s : State) (n : Nat) : State :=
  let k := s.link n
  if k.heldq.isEmpty || s.flag (R.SLIP_STNn_STATUS_HOLD n) || k.reform || k.repWait then s
  else s.updLink n (fun k => { k with txq := k.txq ++ k.heldq, heldq := [] })

/-- A station's lanes in the crossing that ends: their symbols leave, and the stream goes on with the rest. A crossing that carries a
part of a packet is not idle (R307, R324). -/
def streamTick (s : State) (n : Nat) : State :=
  let q := (s.link n).txq
  let cap := if s.linkAwake n then s.linkCap n else 0
  let s := if q.isEmpty then s else s.groupSent n
  let s := (s.updLink n (fun k => { k with txq := q.drop cap, repLeft := k.repLeft - min cap q.length })).keepUnsent n
  forEach (List.finRange 3) s (fun s p =>
    if h : 3 * n + p.val < 32 then s.transmit (.lane ⟨3 * n + p.val, h⟩) (s.laneShare n p.val (q.take cap)) else s)

/-- A protocol error is counted. -/
def protoErr (s : State) (n : Nat) : State := (s.count (R.SLIP_STNn_PROTO_ERR_CNT n)).raise E.SLIP_PROTO_ERR

end State

end Sys2Proof.Machine
end

