-- ==== Sys2Proof/Machine/Derand.lean ====
section
/-! DEFINITION. The derandomiser and the routing of its fragments (chapter 14): lines, admission, shed records, delivery crews
and the crew entries. -/

namespace Sys2Proof.Machine

/-- The lines that so many 64-bit words occupy (R280). -/
def linesOf (words : Nat) : Nat := (words + 7) / 8

/-- The lines of the derandomiser. -/
def derandLines : Nat := 131072

/-- STATE codes of a crew (R289). -/
def crewDisabled : Nat := 0
def crewEnabled : Nat := 1
def crewQuiescing : Nat := 2
def crewQuiesced : Nat := 3

namespace State

/-! Crew entries (R289). -/

/-- A field of a crew's entry, written. -/
def crewSet (s : State) (c w lo n v : Nat) : State :=
  let k := (R.CREW_Ew w c).key
  s.wr k (setBits (s.rd k) lo n v)

/-- RING_BASE. -/
def crewBase (s : State) (c : Nat) : Nat := s.crewGet c 0 0 32 + s.crewGet c 1 0 16 * 2 ^ 32
/-- K. -/
def crewK (s : State) (c : Nat) : Nat := s.crewGet c 1 16 6
/-- STATION. -/
def crewStation (s : State) (c : Nat) : Nat := s.crewGet c 1 24 3
/-- CLASS, true for class A. -/
def crewClass (s : State) (c : Nat) : Bool := s.crewGet c 1 27 1 == 1
/-- NEXT. -/
def crewNext (s : State) (c : Nat) : Nat := s.crewGet c 2 0 32 + s.crewGet c 3 0 16 * 2 ^ 32
/-- NEXT_VALID. -/
def crewValid (s : State) (c : Nat) : Bool := s.crewGet c 3 16 1 == 1
/-- GEN. -/
def crewGen (s : State) (c : Nat) : Nat := s.crewGet c 5 16 8
/-- STATE. -/
def crewState (s : State) (c : Nat) : Nat := s.crewGet c 5 24 4
/-- CREDITS. -/
def crewCredits (s : State) (c : Nat) : Nat := s.crewGet c 7 16 16

/-- NEXT set to an address, valid. -/
def setNext (s : State) (c a : Nat) : State :=
  ((s.crewSet c 2 0 32 a).crewSet c 3 0 16 (a / 2 ^ 32)).crewSet c 3 16 1 1

/-- HEAD, written. -/
def setHead (s : State) (c h : Nat) : State := (s.crewSet c 4 0 32 h).crewSet c 5 0 14 (h / 2 ^ 32)

/-- TAIL, written. -/
def setTail (s : State) (c t : Nat) : State := (s.crewSet c 6 0 32 t).crewSet c 7 0 14 (t / 2 ^ 32)

/-- CREDITS rises and saturates (R290). -/
def addCredits (s : State) (c n : Nat) : State :=
  let v := s.crewCredits c + n
  let s := s.crewSet c 7 16 16 (min v 65535)
  if v ≤ 65535 then s else (s.count R.CREW_CREDIT_OVF_CNT).raise E.CREW_CREDIT_OVF

/-- A write to CREW.CREDIT_ADD (R290). -/
def doCreditAdd (s : State) (d : Word) : State := s.addCredits (bits d 0 12) (bits d 16 16)

/-! Lines (R280 to R282). -/

/-- The occupancy O. -/
def occupancy (s : State) : Nat := (s.held.map (fun h => linesOf h.words.length)).foldl (· + ·) 0

/-- An offer may be admitted now (R281). -/
def roomFor (s : State) (h : Held) : Bool :=
  decide (s.occupancy + linesOf h.words.length + (if h.shed then 0 else 512) ≤ derandLines)

/-- An offer is admitted. A fragment that carries SHED_SEEN clears it for those after it (R243). -/
def letIn (s : State) (h : Held) : State :=
  let s := { s with held := s.held ++ [{ h with id := s.admitId }], admitId := s.admitId + 1 }
  let s := if h.shed then s else { s with shedSeen := false }
  let s := if h.recs = 0 then s else s.countW R.FRAG_REC_CNT E.FRAG_REC_WRAP h.recs
  s.set R.DERAND_LEVEL_HIGH (max (s.get R.DERAND_LEVEL_HIGH) s.occupancy)

/-- An offer is admitted, or waits for room. -/
def place (s : State) (h : Held) : State := if s.roomFor h then s.letIn h else { s with offer := some h }

/-- The shed record in place of a fragment (R264, R285): `ws` are the words the fragment would have had, `n` SHED_CNT after
counting it. -/
def shedRecord (f : Frag) (ws : List (BitVec 64)) (n : Nat) : List (BitVec 64) :=
  let w0 := BitVec.ofNat 64 (0xC7DE * 2 ^ 48 + f.w0.toNat % 2 ^ 48 + 4)
  let flags := ((ws[2]?).getD 0).toNat / 2 ^ 24 % 256
  let w2 := BitVec.ofNat 64 (f.evNo % 65536 * 2 ^ 48 + ws.length % 65536 * 2 ^ 32 + flags * 2 ^ 24 + n % 2 ^ 24)
  let l := [w0, f.w1, w2]
  l ++ [trailer l 0 4]

/-- A class-B fragment is refused: a shed record is offered in its place, and its phase records go back (R264, R285). -/
def shed (s : State) (f : Frag) (h : Held) : State :=
  let s := (s.countW R.FRAG_SHED_CNT E.FRAG_SHED_WRAP).raise E.FRAG_SHED
  let s := { s with records := f.recs ++ s.records, recBad := s.recBad.map (fun i => i + f.recs.length), shedSeen := true }
  s.place { h with words := shedRecord f h.words (s.get R.FRAG_SHED_CNT), shed := true, recs := 0 }

/-- DERAND_OFFER (R281, R285): the oldest fragment in staging, once Lens has coded all its payloads, is offered; SHED_SEEN is
fixed here. -/
def doDerandOffer (s : State) : State :=
  match s.frags with
  | [] => s
  | f :: l =>
    if !s.alive || s.offer.isSome || !f.read || !f.banks.all (fun b => b.stage == 2) then s
    else
      let h : Held := {
        id := 0, words := assemble f s.shedSeen, crew := f.crew, classA := f.classA, prio := f.prio, evNo := f.evNo,
        shed := false, recs := f.recs.length, bad := [], told := false, done := false }
      let s := { s with frags := l }
      if !f.classA && decide (117965 ≤ s.occupancy) then s.shed f h else s.place h

/-- DERAND_ADMIT (R281): a waiting offer is admitted once there is room. -/
def doDerandAdmit (s : State) : State :=
  match s.offer with
  | none => s
  | some h => if s.alive && s.roomFor h then { s with offer := none }.letIn h else s

/-- A descriptor that may still be restarted refers to a fragment (R280, R345). -/
def needed (s : State) (id : Nat) : Bool :=
  s.links.any (fun k => k.jobs.any (fun j => j.held == id) || k.redo.any (fun j => j.held == id))

/-- Lines are released when the last STATUS write is acknowledged (R336). -/
def release (s : State) : State := { s with held := s.held.filter (fun h => !h.done || s.needed h.id) }

/-! Routing (R287, R288). -/

/-- The delivery crew of a fragment for a crew, chosen now (R287). -/
def deliveryCrew (s : State) (c : Nat) : Option Nat :=
  if s.crewState c = crewEnabled then some c
  else
    let a := s.crewGet c 3 18 12
    if s.crewGet c 3 17 1 = 1 ∧ s.crewState a = crewEnabled ∧ s.crewClass a = s.crewClass c then some a else none

/-- A station has begun the fragment. -/
def taken (s : State) (id : Nat) : Bool := s.dmas.any (fun e => e.2.held == id)

/-- Fragments that no station has begun or completed. -/
def waiting (s : State) : List Held := s.held.filter (fun h => !h.done && !s.taken h.id)

/-- The fragments with no delivery crew. -/
def stranded (s : State) : List Held := s.waiting.filter (fun h => (s.deliveryCrew h.crew).isNone)

/-- The fetched descriptors of a crew that no fragment uses yet. -/
def fetchedOf (s : State) (c : Nat) : List Desc := (Assoc.find? s.fetched c).getD []

/-- The fetched descriptors of a crew, set. -/
def setFetched (s : State) (c : Nat) (l : List Desc) : State :=
  { s with fetched := if l.isEmpty then Assoc.del s.fetched c else Assoc.put s.fetched c l }

/-- The crew has a read outstanding. -/
def reading (s : State) (c : Nat) : Bool := s.slots.any (fun e => e.2.crew == c && !e.2.stale)

/-- A descriptor of the crew is to be restarted, or is being restarted (R294, R345). -/
def restarting (s : State) (c : Nat) : Bool := s.links.any (fun k => k.redo.any (fun j => j.crew == c))

/-- A station writes, or is about to write again, for the crew (R296): its descriptor in progress, or the one to restart next. -/
def writing (s : State) (c : Nat) : Bool :=
  s.dmas.any (fun e => e.2.crew == c && e.2.desc.isSome)
    || s.links.any (fun k => k.redo.head?.any (fun j => j.crew == c))

/-- The crew has a descriptor in progress. -/
def inProgress (s : State) (c : Nat) : Bool :=
  s.dmas.any (fun e => e.2.crew == c && e.2.desc.isSome) || s.restarting c

/-- The crew is ENABLED with a descriptor to fetch (R292, R296). -/
def canFetch (s : State) (c : Nat) : Bool :=
  s.crewState c == crewEnabled && s.crewValid c && decide (0 < s.crewCredits c)

/-- A candidate's crew holds a fetched descriptor or can fetch one (R288). -/
def crewEligible (s : State) (c : Nat) : Bool := !(s.fetchedOf c).isEmpty || (s.canFetch c && !s.reading c)

/-- The candidates of station `n`: for each delivery crew its oldest fragment (R288). -/
def candidates (s : State) (n : Nat) : List (Held × Nat) :=
  s.waiting.foldl (fun l h =>
    match s.deliveryCrew h.crew with
    | none => l
    | some c => if s.crewStation c = n ∧ !l.any (fun x => x.2 == c) then l ++ [(h, c)] else l) []

/-- Priority reading (R282). -/
def priorityOn (s : State) : Bool := decide (98304 < s.occupancy)

/-- The rank of a candidate while priority reading is on. -/
def rank (h : Held) : Nat := (if h.classA then 8 else 0) + h.prio

/-- The fragment that station `n` takes (R288). -/
def choice (s : State) (n : Nat) : Option (Held × Nat) :=
  let l := (s.candidates n).filter (fun x => s.crewEligible x.2)
  if s.priorityOn then
    let top := (l.map (fun x => rank x.1)).foldl max 0
    l.find? (fun x => rank x.1 == top)
  else l.head?

end State

end Sys2Proof.Machine
end

