-- ==== Sys2Proof/Machine/Crew.lean ====
section
/-! DEFINITION. Crews, seats and the stations' DMA engines (chapter 14): descriptor fetches and their completions, posted writes,
STATUS and NOTIFY, quiescing, pause, and the staged sets of the CREW and STN pages. -/

namespace Sys2Proof.Machine

/-- The bytes of fragment words (R5). -/
def fragBytes (ws : List (BitVec 64)) (ofs n : Nat) : List Byte :=
  (List.range n).map (fun i => BitVec.ofNat 8 (((ws[(ofs + i) / 8]?).getD 0).toNat / 2 ^ (8 * ((ofs + i) % 8))))

/-- A descriptor's own check (R291, R292): the kind of its error. -/
def descError (data : List Byte) (k status : Nat) : Option Nat :=
  let q (i n : Nat) : Nat := ofLeBytes ((data.drop i).take n)
  let next := q 0 8
  let ofs := q 8 8
  let len := q 16 4
  let fl := q 20 4
  let last := fl / 2 % 2 == 1
  if status ≠ 0 then some 4
  else if len = 0 ∨ 2 ^ k < len then some 1
  else if !last ∧ next % 32 ≠ 0 then some 2
  else if 2 ^ 48 ≤ next ∨ 2 ^ 46 ≤ ofs ∨ 4 ≤ fl then some 3
  else none

namespace State

/-! Rewinding and quiescing (R298). -/

/-- The requested descriptors of a crew under its present GEN. -/
def requested (s : State) (c : Nat) : List Nat :=
  (s.slots.filter (fun e => e.2.crew == c && !e.2.stale && e.2.gen == s.crewGen c)).map (fun e => e.2.addr)

/-- The crew is rewound but for its `keep` oldest fetched descriptors. -/
def rewind (s : State) (c keep : Nat) : State :=
  let l := ((s.fetchedOf c).drop keep).map (·.addr) ++ s.requested c
  let s := s.setFetched c ((s.fetchedOf c).take keep)
  match l with
  | [] => s
  | a :: _ => (s.setNext c a).addCredits c l.length

/-- The words of a held fragment. -/
def heldOf (s : State) (id : Nat) : Option Held := s.held.find? (fun h => h.id == id)

/-- The bytes of a held fragment. -/
def heldLen (s : State) (id : Nat) : Nat := match s.heldOf id with
  | some h => 8 * h.words.length
  | none => 0

/-- The fragment bytes that a descriptor takes from offset `base`. -/
def partLen (s : State) (id base : Nat) (d : Desc) : Nat := min d.len (s.heldLen id - base)

/-- How many fetched descriptors the fragment in progress of a crew still needs. -/
def stillNeeded (s : State) (c : Nat) : Nat :=
  match List.find? (fun e => e.2.crew == c) s.dmas with
  | none => 0
  | some (_, d) =>
    match d.desc with
    | none => 0
    | some x =>
      let rest := s.heldLen d.held - d.base - x.len
      ((s.fetchedOf c).foldl (fun (r : Nat × Nat) y => if r.1 = 0 then r else (r.1 - y.len, r.2 + 1)) (rest, 0)).2

/-- A station gives its fragment up; it stays admitted (R287). -/
def abandon (s : State) (n : Nat) : State :=
  ({ s with dmas := Assoc.del s.dmas n }.count R.CREW_TRUNC_CNT).raise E.CREW_TRUNC

/-- The fragments that the crew's descriptors to restart would have completed: those whose last such descriptor carries neither CONT
nor TRUNC. Any other is still in progress, or was abandoned, and counted, when that descriptor's STATUS told so (R298). -/
def completedBy (s : State) (n c : Nat) : List Nat :=
  let js := (s.link n).redo.filter (fun j => j.crew == c)
  ((js.map (·.held)).eraseDups).filter (fun id => match (js.filter (fun j => j.held == id)).getLast? with
    | none => false
    | some j => j.bits / 2 % 2 == 0 && j.bits / 8 % 2 == 0)

/-- Completed fragments are abandoned after all: they stay admitted, to be delivered again (R287, R298). -/
def giveBack (s : State) (ids : List Nat) : State :=
  let s := { s with held := s.held.map (fun (h : Held) => if ids.contains h.id then { h with done := false } else h) }
  if ids.isEmpty then s else (s.countBy R.CREW_TRUNC_CNT ids.length).raise E.CREW_TRUNC

/-- While the link of a station is down, the descriptors of a QUIESCING crew that were to be restarted are abandoned without STATUS, and
with them their fragments (R298). -/
def abandonRedo (s : State) (n c : Nat) : State :=
  (s.updLink n (fun k => { k with redo := k.redo.filter (fun j => j.crew != c), redoSent := 0 })).giveBack (s.completedBy n c)

/-- RESET of a crew whose descriptors are being restarted on a link that is UP (R298): each ends where it stands, those not begun
again with no byte, and its STATUS carries TRUNC; the fragments are abandoned (DEDUCED, log entry 39). -/
def cutRedo (s : State) (n c : Nat) : State :=
  (s.updLink n (fun k => { k with redo := k.redo.mapIdx (fun i (j : Job) =>
    let sent := if i = 0 then min k.redoSent j.bytes else 0
    if j.crew = c then { j with bytes := sent, bits := j.bits ||| (if sent < j.bytes then 10 else 8) } else j) })).giveBack
    (s.completedBy n c)

/-- What a crew that leaves ENABLED means for its fragment in progress: one that holds no descriptor is abandoned, and one
whose link is down too; RESET ends the descriptor in progress, and those being restarted, where they stand. -/
def quiesceDma (s : State) (c : Nat) (reset : Bool) : State :=
  let s := if s.linkState (s.crewStation c) ≠ slipUp then s.abandonRedo (s.crewStation c) c
    else if reset then s.cutRedo (s.crewStation c) c else s
  match List.find? (fun e => e.2.crew == c) s.dmas with
  | none => s
  | some (n, d) =>
    if d.desc.isNone || s.linkState n != slipUp then s.abandon n
    else if reset then { s with dmas := Assoc.put s.dmas n { d with stop := true } }
    else s

/-- A crew enters QUIESCING (R298). -/
def startQuiesce (s : State) (c : Nat) (reset : Bool) : State :=
  let keep := if reset then 0 else s.stillNeeded c
  let s := s.rewind c keep
  let s := ((s.crewSet c 5 16 8 (s.crewGen c + 1)).crewSet c 5 24 4 crewQuiescing).crewSet c 5 29 1 (if reset then 1 else 0)
  { s with quiesce := Assoc.put s.quiesce c s.time.cr }.quiesceDma c reset

/-- What RESET clears in an entry. -/
def crewClear (s : State) (c : Nat) : State :=
  let s := (s.setHead c 0).setTail c 0
  (((s.crewSet c 7 16 16 0).crewSet c 3 16 1 0).crewSet c 5 28 1 0).crewSet c 5 29 1 0

/-- A CREW.CMD entry takes effect (R298). -/
def crewCommand (s : State) (c op : Nat) : State :=
  let st := s.crewState c
  if op = 1 then
    if st = crewQuiescing then s.crewSet c 5 28 1 1 else s.crewSet c 5 24 4 crewEnabled
  else if op = 2 then
    if st = crewEnabled then s.startQuiesce c false
    else if st = crewQuiescing then s.crewSet c 5 28 1 0 else s
  else if op = 3 then
    if st = crewEnabled then s.startQuiesce c true
    else if st = crewQuiescing then
      ((s.crewSet c 5 16 8 (s.crewGen c + 1)).crewSet c 5 29 1 1).crewSet c 5 28 1 0
    else if st = crewQuiesced then (s.crewClear c).crewSet c 5 24 4 crewDisabled
    else s
  else s

/-- QUIESCE_END (R298): ENABLE_PENDING counts as it stood before RESET's clearing. -/
def doQuiesceEnd (s : State) (c : Nat) : State :=
  let t := (Assoc.find? s.quiesce c).getD 0
  let late := decide (t + 4096 ≤ s.time.cr)
  if !s.alive || s.crewState c != crewQuiescing || s.inProgress c || (s.reading c && !late) then s
  else
    let s := if s.reading c then
        { s with slots := s.slots.map (fun (e : Nat × Slot) =>
            (e.1, if e.2.crew = c then { e.2 with stale := true } else e.2)) }.count
          R.CREW_QUIESCE_TIMEOUT_CNT
      else s
    let pend := s.crewGet c 5 28 1 == 1
    let reset := s.crewGet c 5 29 1 == 1
    let s := if reset then s.crewClear c else s.crewSet c 5 28 1 0
    let s := s.crewSet c 5 24 4 (if pend then crewEnabled else if reset then crewDisabled else crewQuiesced)
    { s with quiesce := Assoc.del s.quiesce c }.raise E.CREW_QUIESCED

/-- A descriptor error stops the crew at once (R292). -/
def descFail (s : State) (c kind : Nat) : State :=
  let s := ((s.set R.CREW_LAST_ERR_CREW c).set R.CREW_LAST_ERR_KIND kind).count R.CREW_DESC_ERR_CNT
  ((s.raise E.CREW_DESC_ERR).fault 0x40 1 kind).startQuiesce c false

/-! Seats (R296). -/

/-- The seat of a crew. -/
def seatOf (s : State) (c : Nat) : Option Nat := (List.find? (fun e => e.2 == c) s.seats).map (·.1)

/-- A seat's crew may not be unseated (R296). -/
def pinned (s : State) (c : Nat) : Bool := s.writing c || s.reading c || s.crewState c == crewQuiescing

/-- A seat is used. -/
def useSeat (s : State) (k : Nat) : State := { s with seatUse := k :: s.seatUse.filter (· != k) }

/-- The crew of a seat is unseated. -/
def spill (s : State) (k c : Nat) : State :=
  let s := (s.rewind c 0).count R.SEATS_SEAT_SPILL_CNT
  let s := { s with seats := Assoc.del s.seats k }
  if s.spillTold = some s.time.catches then s
  else { s.raise E.SEATS_SEAT_SPILL with spillTold := some s.time.catches }

/-- A crew is seated, if a seat can be had. -/
def takeSeat (s : State) (c : Nat) : Option State :=
  match s.seatOf c with
  | some k => some (s.useSeat k)
  | none =>
    match (List.range 64).find? (fun k => (Assoc.find? s.seats k).isNone) with
    | some k => some ({ s with seats := Assoc.put s.seats k c }.useSeat k)
    | none =>
      match s.seatUse.reverse.find? (fun k => match Assoc.find? s.seats k with
        | some x => !s.pinned x
        | none => false) with
      | none => none
      | some k =>
        let s := s.spill k ((Assoc.find? s.seats k).getD 0)
        some ({ s with seats := Assoc.put s.seats k c }.useSeat k)

/-- The state in which a crew is seated, if it is or a seat can be had. -/
def seated (s : State) (c : Nat) : Option State := if (s.seatOf c).isSome then some s else s.takeSeat c

/-- A station waits for a seat. -/
def waitSeat (s : State) : State :=
  if s.seatWait then s else { s with seatWait := true }.raise E.SEATS_SEAT_WAIT

/-- The core clocks with every seat pinned while a station waits. -/
def seatTick (s : State) : State :=
  if s.seatWait then
    if s.seats.length = 64 ∧ s.seats.all (fun e => s.pinned e.2) then s.countBy R.SEATS_SEAT_WAIT_CC 16
    else { s with seatWait := false }
  else s

/-! Posted writes (R295, R327). -/

/-- A station is paused (R297). -/
def paused (s : State) (n : Nat) : Bool := s.flag (R.PAGE_CTL_PAUSE (0x42 + n)) || s.flag (R.PAGE_CTL_PAUSE 0x40)

/-- The beat code in use (R295, R343). -/
def beatCode (s : State) (n : Nat) : Nat :=
  let b := s.get (R.STN_CTL_BEAT (0x42 + n))
  let p := s.get (R.SLIP_STNn_PEER_CAP_BEATS n)
  if b ≠ 0 then b else if 8 ≤ p then 4 else if 4 ≤ p then 3 else if 2 ≤ p then 2 else if 1 ≤ p then 1 else 0

/-- The beat width in bytes. -/
def beat (s : State) (n : Nat) : Nat := 2 * 2 ^ s.beatCode n

/-- The bytes of a packet that writes `len` bytes from address `a`. -/
def writeSize (s : State) (n a len : Nat) : Nat :=
  let b := s.beat n
  (a + len + b - 1) / b * b - a / b * b + 23

/-- A mask of bytes from `lo` up to `hi`. -/
def byteMask (lo hi : Nat) : Nat := 2 ^ hi - 2 ^ lo

/-- A WRITE packet (R327): its number, and the state. -/
def sendWrite (s : State) (n a : Nat) (data : List Byte) : Nat × State :=
  let b := s.beat n
  let lo := a % b
  let stop := a + data.length
  let len := (stop + b - 1) / b * b - (a - lo)
  let hi := if len = b then lo + data.length else (stop - 1) % b + 1
  let f := byteMask lo (if len = b then hi else b)
  let l := byteMask (if len = b then lo else 0) hi
  let pad (k : Nat) : List Byte := List.replicate k 0
  s.sendSeq n 0x10 true
    (leBytes 6 (a - lo) ++ leBytes 2 len ++ leBytes 4 f ++ leBytes 4 l ++ pad lo ++ data ++ pad (len - lo - data.length))

/-- The length of the next posted write of a part: `left` bytes remain, the next at ring offset `o` of ring size 2^`k`, address
`a`. -/
def writeLen (s : State) (n k o a left : Nat) : Nat :=
  let room := 64 * 2 ^ s.get (R.SLIP_STNn_PEER_CAP_MAXPL n) - a % s.beat n
  min (min left room) (min (4096 - a % 4096) (2 ^ k - o))

/-- The words with a double-bit error that a read of fragment bytes meets (R280); a word that the descriptor's write before has
already read counts there. -/
def readBad (s : State) (h : Held) (ofs len : Nat) (first : Bool) : State :=
  let l := h.bad.filter (fun w => decide (ofs < 8 * w + 8) && decide (8 * w < ofs + len) && (first || decide (ofs ≤ 8 * w)))
  if l.isEmpty then s
  else ((s.countBy R.DERAND_ECC_CNT l.length).raise E.DERAND_ECC_FAIL).fault 0x4A 1 0

/-- A part of a fragment writes its next posted write: fragment, crew, descriptor, the part's first fragment byte, its length
and the bytes written so far. The number of bytes it writes, none where it must wait, and the state. -/
def writeNext (s : State) (n id c : Nat) (x : Desc) (base len sent : Nat) : Nat × State :=
  match s.heldOf id with
  | none => (0, s)
  | some h =>
    let k := s.crewK c
    let o := (x.ofs + sent) % 2 ^ k
    let a := (s.crewBase c + o) % 2 ^ 48
    let m := s.writeLen n k o a (len - sent)
    let t := s.mayStart n [s.writeSize n a m]
    if !t.1 then (0, t.2)
    else
      let s := (t.2.sendWrite n a (fragBytes h.words (base + sent) m)).2
      let s := s.countW (R.STN_BYTES_OUT (0x42 + n)) (E.STN_BYTES_WRAP (0x42 + n)) m
      (m, s.readBad h (base + sent) m (sent == 0))

/-- The fragment bytes from `lo` up to `hi` lie in a word with a double-bit error (R280, R293). -/
def partBad (s : State) (id lo hi : Nat) : Bool :=
  decide (lo < hi) &&
    ((s.heldOf id).map (fun h => h.bad.any (fun w => decide (lo < 8 * w + 8) && decide (8 * w < hi)))).getD false

/-- One posted write of station `n`, first of a descriptor to restart, for a crew that is seated or can be (R296), then of the
descriptor in progress: whether it was made, and the state, which notes a wait for a seat, for room or for lanes. The part notes
an error that the read meets. -/
def pumpOnce (s : State) (n : Nat) : Bool × State :=
  if !s.alive || s.paused n then (false, s)
  else
    match (s.link n).redo with
    | j :: l =>
      let sent := (s.link n).redoSent
      if sent < j.bytes then
        match s.seated j.crew with
        | none => (false, s.waitSeat)
        | some s =>
          let r := s.writeNext n j.held j.crew j.desc j.base j.bytes sent
          let bits := if s.partBad j.held (j.base + sent) (j.base + sent + r.1) then j.bits ||| 32 else j.bits
          (r.1 != 0, r.2.updLink n (fun k => { k with redo := { j with bits := bits } :: l, redoSent := sent + r.1 }))
      else (false, s)
    | [] =>
      match Assoc.find? s.dmas n with
      | none => (false, s)
      | some d =>
        match d.desc with
        | none => (false, s)
        | some x =>
          let len := s.partLen d.held d.base x
          if d.stop || len ≤ d.sent then (false, s)
          else
            let r := s.writeNext n d.held d.crew x d.base len d.sent
            let met := d.met || s.partBad d.held (d.base + d.sent) (d.base + d.sent + r.1)
            (r.1 != 0, { r.2 with dmas := Assoc.put r.2.dmas n { d with sent := d.sent + r.1, met := met } })

/-- Station `n` issues the posted writes that its stream can take now. A stall ends with room for what it holds, or with a pause. -/
def pump (s : State) (n : Nat) : State :=
  let rec go : Nat → State → State
    | 0, s => s
    | k + 1, s =>
      let r := s.pumpOnce n
      if r.1 then go k r.2 else r.2
  (go 16 s).freeStall n (s.alive && !s.paused n)

/-! Selecting, fetching, completing (R288, R292, R293). -/

/-- The fragment in progress of a station takes its next fetched descriptor. -/
def takeDesc (s : State) (n : Nat) : State :=
  match Assoc.find? s.dmas n with
  | none => s
  | some d =>
    match d.desc, s.fetchedOf d.crew with
    | none, x :: l => { s.setFetched d.crew l with dmas := Assoc.put s.dmas n { d with desc := some x, sent := 0, met := false } }
    | _, _ => s

/-- STATION_SELECT (R288, R296). -/
def doStationSelect (s : State) (n : Nat) : State :=
  if !s.alive || !s.enabled (0x42 + n) || !s.enabled 0x40 || s.paused n || s.linkState n != slipUp
      || (Assoc.find? s.dmas n).isSome || !(s.link n).redo.isEmpty then s
  else
    match s.choice n with
    | none => s
    | some (h, c) =>
      match s.takeSeat c with
      | none => s.waitSeat
      | some s =>
        let s := if c = h.crew then s else s.count R.CREW_ALT_CNT
        let s := { s with dmas := Assoc.put s.dmas n (Dma.mk h.id c none 0 0 false false) }
        (s.takeDesc n).pump n

/-- DESC_FETCH (R292): a crew whose fragment is in progress is seated again where it has lost its seat. -/
def doDescFetch (s : State) (n c : Nat) : State :=
  let own := s.dmas.any (fun e => e.1 == n && e.2.crew == c)
  let holds := (s.fetchedOf c).length + (if s.inProgress c then 1 else 0)
  let out := (s.slots.filter (fun e => e.1 / 32 == n && !e.2.stale)).length
  if !s.alive || !s.enabled (0x42 + n) || s.paused n || s.crewStation c != n || !s.canFetch c || s.reading c
      || 2 ≤ holds || s.get (R.SLIP_STNn_PEER_CAP_MAX_READS n) ≤ out || !((s.seatOf c).isSome || own) then s
  else
    match (List.range 32).find? (fun i => (Assoc.find? s.slots (32 * n + i)).isNone) with
    | none => s
    | some i =>
      let t := s.mayRead n 19
      if !t.1 then t.2
      else
        match t.2.takeSeat c with
        | none => t.2.waitSeat
        | some s =>
          let a := s.crewNext c
          let g := s.crewGen c
          let s := { s with slots := Assoc.put s.slots (32 * n + i) (Slot.mk c g a s.time.cr false) }
          let s := (s.crewSet c 7 16 16 (s.crewCredits c - 1)).countW R.CREW_FETCH_CNT E.CREW_FETCH_WRAP
          (s.sendSeq n 0x11 false (leBytes 6 a ++ leBytes 2 32 ++ leBytes 4 (i + c * 32 + g * 2 ^ 17))).2

/-- A completion of a read (R292, R298, R328). One that carries an older GEN than the slot's present read is late, and that read stays
outstanding. -/
def readDone (s : State) (n : Nat) (tag : Word) (status : Byte) (data : List Byte) : State :=
  let key := 32 * n + bits tag 0 5
  match Assoc.find? s.slots key with
  | none => s.protoErr n
  | some l =>
    let c := l.crew
    if bits tag 5 12 ≠ c ∨ bits tag 25 7 ≠ 0 then s.protoErr n
    else if bits tag 17 8 ≠ l.gen then
      (if bits tag 17 8 = s.crewGen c then s.protoErr n else s.count R.CREW_LATE_DISCARD_CNT)
    else
      if l.stale || l.gen != s.crewGen c then
        { s with slots := Assoc.del s.slots key }.count R.CREW_LATE_DISCARD_CNT
      else
        match descError data (s.crewK c) status.toNat with
        | some kind =>
          let s := s.descFail c kind
          { s with slots := Assoc.del s.slots key }
        | none =>
          let s := { s with slots := Assoc.del s.slots key }
          let q (i n : Nat) : Nat := ofLeBytes ((data.drop i).take n)
          let fl := q 20 4
          let s := if fl / 2 % 2 = 1 then (s.crewSet c 3 16 1 0).raise E.CREW_LIST_END else s.setNext c (q 0 6)
          let s := s.setFetched c (s.fetchedOf c ++ [Desc.mk l.addr (q 8 6) (q 16 4) (fl % 2 == 1)])
          (s.takeDesc n).pump n

/-- A part's STATUS and NOTIFY packets are sent and the descriptor waits for its acknowledgement (R293). `bits` are STATUS
[61:56]. -/
def sendStatus (s : State) (n id c : Nat) (x : Desc) (base bytes bits : Nat) : State :=
  let h := ((s.heldOf id).map (·.evNo)).getD 0
  let g := s.crewGen c
  let st := bytes + h % 65536 * 2 ^ 32 + g * 2 ^ 48 + bits * 2 ^ 56
  let t := s.sendWrite n (x.addr + 24) (leBytes 8 st)
  let s := t.2.updLink n (fun k => { k with jobs := k.jobs ++ [Job.mk id c x base bytes bits t.1] })
  if x.notify then
    let s := (s.sendSeq n 0x12 false (leBytes 2 c ++ leBytes 1 g ++ leBytes 6 ((x.ofs + bytes) % 2 ^ s.crewK c))).2
    s.count (R.STN_NOTIFY_CNT (0x42 + n))
  else s

/-- The sizes of a part's STATUS and NOTIFY packets. -/
def statusSizes (s : State) (n : Nat) (x : Desc) : List Nat :=
  s.writeSize n (x.addr + 24) 8 :: (if x.notify then [16] else [])

/-- The descriptor in progress completes (R293, R298). -/
def completePart (s : State) (n : Nat) (d : Dma) (x : Desc) : State :=
  let total := s.heldLen d.held
  let next := d.base + d.sent
  let more := decide (next < total)
  let gone := d.stop || (more && s.crewState d.crew != crewEnabled && (s.fetchedOf d.crew).isEmpty)
  let h := s.heldOf d.held
  let shed := (h.map (·.shed)).getD false
  let b (v : Bool) (k : Nat) : Nat := if v then 2 ^ k else 0
  let s := s.sendStatus n d.held d.crew x d.base d.sent
    (1 + b more 1 + b (d.base == 0) 2 + b gone 3 + b shed 4 + b d.met 5)
  let s := s.setHead d.crew ((x.ofs + d.sent) % 2 ^ s.crewK d.crew)
  let s := s.countW (R.STN_DESC_CNT (0x42 + n)) (E.STN_DESC_WRAP (0x42 + n))
  if gone then s.abandon n
  else if more then ({ s with dmas := Assoc.put s.dmas n { d with desc := none, sent := 0, base := next } }.takeDesc n).pump n
  else
    let s := { s with dmas := Assoc.del s.dmas n,
                      held := s.held.map (fun (h : Held) => if h.id = d.held then { h with done := true } else h) }
    s.countW (R.STN_FRAG_CNT (0x42 + n)) (E.STN_FRAG_WRAP (0x42 + n))

/-- DESC_COMPLETE (R293): STATUS and NOTIFY of a descriptor whose part is written; of a descriptor that is restarted first, for a
crew that is seated or can be (R296). -/
def doDescComplete (s : State) (n : Nat) : State :=
  if !s.alive || s.paused n then s
  else
    match (s.link n).redo with
    | j :: l =>
      if (s.link n).redoSent < j.bytes then s
      else
        match s.seated j.crew with
        | none => s.waitSeat
        | some s =>
          let t := s.mayStart n (s.statusSizes n j.desc)
          if !t.1 then t.2
          else ((t.2.updLink n (fun k => { k with redo := l, redoSent := 0 })).sendStatus n j.held j.crew j.desc j.base j.bytes
            j.bits).pump n
    | [] =>
      match Assoc.find? s.dmas n with
      | none => s
      | some d =>
        match d.desc with
        | none => s
        | some x =>
          if !d.stop && decide (d.sent < s.partLen d.held d.base x) then s
          else
            let t := s.mayStart n (s.statusSizes n x)
            if t.1 then t.2.completePart n d x else t.2

/-! Pause (R297). -/

/-- STATION_PAUSED. -/
def doStationPaused (s : State) (n : Nat) : State :=
  if s.alive && s.paused n && s.enabled (0x42 + n) && s.pstate (0x42 + n) != 2
      && !(s.link n).replay.any (fun p => p.write) then
    (s.setPstate (0x42 + n) 2).raise (E.STN_PAUSED (0x42 + n))
  else s

/-- A write to PAUSE takes effect: stations that are no longer paused go on. -/
def pauseChanged (s : State) : State :=
  forEach (List.range 8) s (fun s n =>
    if s.paused n then s
    else (if s.pstate (0x42 + n) = 2 then s.setPstate (0x42 + n) 0 else s).pump n)

/-! Time-outs and link states (R294, R298, R339, R345). -/

/-- READ_TIMEOUT (R339). -/
def doReadTimeout (s : State) (n i : Nat) : State :=
  match Assoc.find? s.slots (32 * n + i) with
  | none => s
  | some l =>
    if !s.alive || l.stale || s.time.cr < l.cr + 256 * max 1 (s.get R.SLIP_READ_TMO) then s
    else
      let s := if l.gen = s.crewGen l.crew then s.rewind l.crew 0 else s
      let s := { s with slots := Assoc.put s.slots (32 * n + i) { l with stale := true } }
      (s.count (R.SLIP_STNn_READ_TMO_CNT n)).raise E.SLIP_READ_TMO

/-- The crews of a station that hold or have requested descriptors. -/
def busyCrews (s : State) (n : Nat) : List Nat :=
  let l := s.fetched.map (fun e => e.1) ++ (s.slots.filter (fun e => e.1 / 32 == n)).map (fun e => e.2.crew)
  (l.filter (fun c => s.crewStation c == n)).eraseDups

/-- What a link that is lost means for its station (R294, R298, R339, R345): reads end as if timed out, descriptors are rewound, those whose STATUS is
not acknowledged and the one in progress will restart, and a QUIESCING crew's is abandoned. -/
def crewLinkDown (s : State) (n : Nat) : State :=
  let s := forEach (s.busyCrews n) s (fun s c => s.rewind c 0)
  let reads := (s.slots.filter (fun e => e.1 / 32 == n && !e.2.stale)).length
  let s := if reads = 0 then s else (s.countBy (R.SLIP_STNn_READ_TMO_CNT n) reads).raise E.SLIP_READ_TMO
  let s := { s with slots := s.slots.filter (fun e => e.1 / 32 != n) }
  let s := s.updLink n (fun k => { k with jobs := [], redo := (k.jobs ++ k.redo).map (fun (j : Job) => { j with bits := j.bits % 32 }), redoSent := 0 })
  let s := forEach (((s.link n).redo.map (·.crew)).eraseDups.filter (fun c => s.crewState c == crewQuiescing)) s
    (fun s c => s.abandonRedo n c)
  match Assoc.find? s.dmas n with
  | none => s
  | some d =>
    if s.crewState d.crew = crewQuiescing then s.abandon n
    else { s with dmas := Assoc.put s.dmas n { d with sent := 0, met := false } }

/-- The link of a station is up again: descriptors restart from their first byte (R294). -/
def crewLinkUp (s : State) (n : Nat) : State :=
  let k := (s.link n).redo.length + (match Assoc.find? s.dmas n with
    | some d => if d.desc.isSome then 1 else 0
    | none => 0)
  let s := if k = 0 then s else (s.countBy (R.STN_RESTART_CNT (0x42 + n)) k).raise (E.STN_RESTART (0x42 + n))
  s.pump n

/-! The staged sets of CREW and STN (R299). -/

/-- The bits of an entry's word that a host write may change (R289). -/
def crewHost : Nat → Word
  | 0 => 0xFFFFFFFF
  | 1 => 0x7F3FFFFF
  | 2 => 0xFFFFFFFF
  | 3 => 0x3FFEFFFF
  | 4 => 0xFFFFFFFF
  | 5 => 0x00003FFF
  | 6 => 0xFFFFFFFF
  | 7 => 0xFFFF3FFF
  | _ => 0

/-- The bits of an entry's word that may not be written while the crew is ENABLED or QUIESCING (R299). A field of a word with
several counts as written where its value changes (log entry 44). -/
def crewBusyBits (w : Nat) (diff : Word) : Bool :=
  w == 0 || w == 4 || w == 5 || (w == 1 && (diff &&& 0x0F3FFFFF) != 0) || (w == 7 && (diff &&& 0xFFFF0000) != 0)

/-- A staged entry of the CREW page takes effect on a state that the entries before it have left; `open_` are the crews whose NEXT this
set has begun to write while NEXT_VALID was 0, so that its second word is no new write of NEXT (log entry 44). The refusals it meets:
cause and crew. -/
def crewEntry (s : State) (open_ : List Nat) (e : Staged) : State × List (Nat × Nat) :=
  let low := e.key % 2 ^ 20
  if low = 0x40064 then
    ((s.wr e.key ((s.rd e.key &&& ~~~ e.mask) ||| (e.data &&& e.mask))).crewCommand (bits e.data 0 12) (bits e.data 12 2), [])
  else if 0x40044 ≤ low ∧ low ≤ 0x40060 then
    let c := e.key / 2 ^ 20
    let w := (low - 0x40044) / 4
    let m := e.mask &&& crewHost w
    let old := s.rd e.key
    let new := (old &&& ~~~ m) ||| (e.data &&& m)
    let diff := old ^^^ new
    let st := s.crewState c
    let next := w == 2 || (w == 3 && (diff &&& 0xFFFF) != 0)
    let busy := crewBusyBits w diff && (st == crewEnabled || st == crewQuiescing)
    let alt := w == 3 && bits new 18 12 == c
    let nx := (w == 2 && bits new 0 5 != 0) || (next && st == crewEnabled && s.crewValid c && !open_.contains c)
    let s := s.wr e.key new
    let s := if next then s.crewSet c 3 16 1 1 else s
    (s, (if busy then [(2, c)] else []) ++ (if alt then [(3, c)] else []) ++ (if nx then [(4, c)] else []))
  else (s.wr e.key ((s.rd e.key &&& ~~~ e.mask) ||| (e.data &&& e.mask)), [])

/-- The crews that a staged set concerns. -/
def crewTouched (l : List Staged) : List Nat :=
  (l.filterMap (fun e =>
    let low := e.key % 2 ^ 20
    if low = 0x40064 then some (bits e.data 0 12)
    else if 0x40044 ≤ low ∧ low ≤ 0x40060 then some (e.key / 2 ^ 20) else none)).eraseDups

/-- A crew left ENABLED or ENABLE_PENDING has a ring that R299 refuses. -/
def crewRange (s : State) (c : Nat) : Bool :=
  let k := s.crewK c
  (s.crewState c == crewEnabled || s.crewGet c 5 28 1 == 1)
    && (decide (k < 12) || decide (46 < k) || s.crewBase c % 2 ^ k != 0)

/-- The crews whose NEXT a staged set has begun to write, after one more entry. -/
def crewOpened (s t : State) (open_ : List Nat) (e : Staged) : List Nat :=
  let c := e.key / 2 ^ 20
  let low := e.key % 2 ^ 20
  if (low = 0x4004C ∨ low = 0x40050) ∧ !s.crewValid c ∧ t.crewValid c then c :: open_ else open_

/-- The whole staged set of the CREW page: the state it leaves, and the refusals it meets. -/
def crewSetApply (s : State) (l : List Staged) : State × List (Nat × Nat) :=
  let r := l.foldl (fun (r : State × List (Nat × Nat) × List Nat) e =>
    let x := r.1.crewEntry r.2.2 e
    (x.1, r.2.1 ++ x.2, crewOpened r.1 x.1 r.2.2 e)) (s, [], [])
  (r.1, r.2.1 ++ ((crewTouched l).filter (fun c => r.1.crewRange c)).map (fun c => (1, c)))

/-- The refusal that is recorded (R456): the lowest cause, and the lowest crew that meets it. -/
def lowestRefusal : List (Nat × Nat) → Option (Nat × Nat)
  | [] => none
  | x :: l => match lowestRefusal l with
    | none => some x
    | some y => if x.1 < y.1 ∨ (x.1 = y.1 ∧ x.2 ≤ y.2) then some x else some y

/-- A CREW refusal as it is recorded. -/
def crewRefused (s : State) (cause crew : Nat) : State :=
  (((s.set R.CREW_LAST_REFUSE_CAUSE cause).set R.CREW_LAST_REFUSE_CREW crew).raise E.CREW_REFUSED).fault 0x40 2 cause

/-- A page reset of CREW gives RESET to every crew that is not DISABLED (R422). -/
def crewPageReset (s : State) : State :=
  let l := (s.regs.filterMap (fun e =>
    if e.1 % 2 ^ 20 = 0x40058 ∧ bits e.2 24 4 ≠ crewDisabled then some (e.1 / 2 ^ 20) else none))
  forEach l s (fun s c => s.crewCommand c 3)

/-- A staged set of a STN page is refused (R299, chapter 14). -/
def stnRefuse (cand : State) (n : Nat) : Bool := decide (4 < cand.get (R.STN_CTL_BEAT (0x42 + n)))

/-- The derandomiser's and the stations' part of a crossing. -/
def crewTick (s : State) : State :=
  let s := if s.offer.isSome then s.countBy R.DERAND_CREDIT_WAIT_CC 16 else s
  let s := if s.priorityOn then s.countBy R.DERAND_PRIORITY_CC 16 else s
  s.seatTick

end State

end Sys2Proof.Machine
end

