-- ==== Sys2Proof/Machine/Slip.lean ====
section
/-! DEFINITION. The Slipway links (chapter 16): the peer's packets, acknowledgement and replay, lane loss, link states and the
links' part of a catch and of a crossing. -/

namespace Sys2Proof.Machine

/-- A MAP byte of a catch marker is valid (R322): an odd number of ones. -/
def mapValid (b : Byte) : Bool := ones b % 2 == 1

/-- The value that the majority of a list carries. -/
def majority (l : List Nat) : Option Nat := l.find? (fun v => decide (l.length < 2 * (l.filter (· == v)).length))

/-- The MAP byte of a marker (R322). -/
def mapByte (txg rx : Nat) : Byte :=
  let b := BitVec.ofNat 8 (txg + 8 * rx)
  if mapValid b then b else b ||| 0x80

namespace State

/-! Link states (R344). -/

/-- What every way out of UP, CAPS or TRAIN discards. -/
def linkClear (s : State) (n : Nat) : State :=
  let s := s.updLink n (fun k =>
    { linkReset with redo := k.redo, jobs := k.jobs, lost := k.lost, good := k.good, mkGood := k.mkGood, marker := k.marker })
  let s := { s with slipWant := Assoc.del s.slipWant n }
  ((((s.set (R.SLIP_STNn_STATUS_TXG n) 0).set (R.SLIP_STNn_STATUS_HOLD n) 0).set (R.SLIP_STNn_STATUS_REPLAY_FULL n) 0)).showReplay n

/-- The link leaves its state for `st`; from UP, the station's reads end and its descriptors will restart (R294, R339). -/
def linkLeave (s : State) (n st : Nat) : State :=
  let was := s.linkState n
  let s := (s.set (R.SLIP_STNn_STATUS_STATE n) st).linkClear n
  if was = slipUp then s.crewLinkDown n else s

/-- The link goes down (R344). -/
def linkDown (s : State) (n : Nat) : State :=
  let s := (s.raise E.SLIP_LINK_DOWN).count (R.SLIP_STNn_LINKDOWN_CNT n)
  (s.fault 0x70 1 n).linkLeave n slipDown

/-- The link is DISABLED (R344): as it goes DOWN, without LINK_DOWN. -/
def linkDisable (s : State) (n : Nat) : State :=
  (if s.linkState n = slipUp then s.fault 0x70 1 n else s).linkLeave n slipOff

/-- The peer's CAP matches (R343). -/
def capMatch (s : State) (n : Nat) : Bool :=
  let b := s.get (R.STN_CTL_BEAT (0x42 + n))
  let p := s.get (R.SLIP_STNn_PEER_CAP_BEATS n)
  p != 0 && s.get (R.SLIP_STNn_PEER_CAP_MAX_READS n) != 0 && (b == 0 || p / 2 ^ (b - 1) % 2 == 1)

/-- A CAP that does not match is told once (R344). -/
def capTell (s : State) (n : Nat) : State :=
  if (s.link n).capTold then s
  else ((s.updLink n (fun k => { k with capTold := true })).raise E.SLIP_CAP_MISMATCH).fault 0x70 2 n

/-- The link enters UP (R344): both directions at SEQ 0, the replay buffer empty. What TX_ACKED shows before the first
acknowledgement is not stated: a free value (log entry 2). -/
def linkUp (s : State) (n : Nat) : State :=
  let d := s.draw
  let s := d.2.updLink n (fun k => { linkReset with
    redo := k.redo, lost := k.lost, good := k.good, mkGood := k.mkGood, mkOk := k.mkOk, marker := k.marker,
    timer := s.time.cr })
  let s := (s.set (R.SLIP_STNn_SEQ_TX_NEXT n) 0).set (R.SLIP_STNn_SEQ_TX_ACKED n) (Config.free d.1 % 4096)
  let s := (s.set (R.SLIP_STNn_SEQ_RX_E n) 0).set (R.SLIP_STNn_STATUS_STATE n) slipUp
  ((s.showReplay n).raise E.SLIP_LINK_UP).crewLinkUp n

/-! Acknowledgement and replay (R331 to R338). -/

/-- A replay from the oldest unacknowledged packet begins; when REPLAY_MAX in a row have begun at one packet the link goes down
(log entry 46). -/
def replayFrom (s : State) (n : Nat) : State :=
  match (s.link n).replay with
  | [] => s
  | p :: _ =>
    if s.flag (R.SLIP_STNn_STATUS_HOLD n) then s.updLink n (fun k => { k with repWait := true })
    else
      let k := s.link n
      let c := if k.rowCnt ≠ 0 ∧ k.rowSeq = p.seq then k.rowCnt + 1 else 1
      let s := (s.updLink n (fun k => { k with rowSeq := p.seq, rowCnt := c })).resend n
      if max 1 (s.get R.SLIP_CTL_REPLAY_MAX) ≤ c then s.linkDown n else s

/-- The receive-good map and HOLD of an ACK or NAK (R332, R338, R341). -/
def peerMap (s : State) (n : Nat) (map : Byte) : State :=
  let good := map.toNat % 8
  let s := (s.set (R.SLIP_STNn_STATUS_PEER_RXGOOD n) good).setb (R.SLIP_STNn_STATUS_HOLD n) (map.getLsbD 3)
  if (List.range 3).any (fun p => s.txg n / 2 ^ p % 2 == 1 && good / 2 ^ p % 2 == 0) then
    s.updLink n (fun k => { k with reform := true })
  else s

/-- The packets that stay unacknowledged after an acknowledgement of `seq`: their number, modulo 4,096. -/
def unacked (s : State) (n seq : Nat) : Nat := (s.get (R.SLIP_STNn_SEQ_TX_NEXT n) + 8191 - seq) % 4096

/-- Every packet up to `seq` is acknowledged: `left` stay in the replay buffer. Lines of fragments whose last STATUS is among
them are released (R336). -/
def acked (s : State) (n seq left : Nat) : State :=
  let k := s.link n
  let rest := k.replay.drop (k.replay.length - left)
  let s := s.setLink n { k with
    replay := rest, jobs := k.jobs.filter (fun j => rest.any (fun p => p.seq == j.seq)), timer := s.time.cr, rowCnt := 0 }
  ((s.set (R.SLIP_STNn_SEQ_TX_ACKED n) seq).showReplay n).release

/-- Everything that waited goes on: a replay that HOLD kept, unsequenced packets, posted writes. -/
def linkGo (s : State) (n : Nat) : State :=
  if s.linkState n != slipUp then s.flushCtl n
  else
    let s := s.releaseKept n
    let k := s.link n
    let s := if k.repWait && !k.reform && !s.flag (R.SLIP_STNn_STATUS_HOLD n) then s.replayFrom n else s
    ((s.drain n).flushCtl n).pump n

/-- An ACK or NAK is received (R332): what it acknowledges anew, none for one that is older or ignored; and the state. The numbers that
lie up to 2,048 ahead of the last packet acknowledged, and have not been sent, name packets not yet sent; the others are older. -/
def ackReceived (s : State) (n seq : Nat) (map : Byte) : Option Nat × State :=
  let left := s.unacked n seq
  let have_ := (s.link n).replay.length
  if have_ + 2048 ≤ left then (none, s.protoErr n)
  else
    let s := s.peerMap n map
    if left < have_ then (some (have_ - left), s.acked n seq left)
    else if left = have_ then (some 0, s) else (none, s)

/-- SLIP_ACK. -/
def doSlipAck (s : State) (n seq : Nat) (map : Byte) : State :=
  if s.alive && s.linkState n == slipUp then ((s.ackReceived n seq map).2).linkGo n else s

/-- SLIP_NAK (R332, R335): during a replay one that acknowledges nothing new is ignored; while a re-form is pending the catch
replays. The packet that the peer did not get is a lane bit error that the replay masks (R414). -/
def doSlipNak (s : State) (n seq : Nat) (map : Byte) : State :=
  if s.alive && s.linkState n == slipUp then
    let r := s.ackReceived n seq map
    let busy := !(s.link n).repQ.isEmpty || decide (0 < (s.link n).repLeft)
    match r.1 with
    | none => r.2.linkGo n
    | some new => if (r.2.link n).reform || (busy && new == 0) then r.2.linkGo n
      else ((r.2.healthFault 7 n).replayFrom n).linkGo n
  else s

/-- A sequenced packet of the peer arrives intact (R331): 0 expected, 1 ahead, 2 a duplicate. -/
def seqClass (s : State) (n seq : Nat) : Nat :=
  let d := (seq + 4096 - s.get (R.SLIP_STNn_SEQ_RX_E n)) % 4096
  if d = 0 then 0 else if d < 2048 then 1 else 2

/-- What a packet's class asks for; `act` performs it. -/
def sequenced (s : State) (n seq : Nat) (act : State → State) : State :=
  if s.alive && s.linkState n == slipUp then
    let c := s.seqClass n seq
    if c = 0 then ((act s).performed n).linkGo n
    else if c = 1 then s.sendNak n
    else s.sendAck n
  else s

/-- SLIP_COMPL (R328, R331). -/
def doSlipCompl (s : State) (n seq : Nat) (tag : Word) (status : Byte) (data : List Byte) : State :=
  s.sequenced n seq (fun s => s.readDone n tag status data)

/-- SLIP_CREDIT (R290, R329, R331). -/
def doSlipCredit (s : State) (n seq crew : Nat) (tailValid : Bool) (count tail : Nat) : State :=
  s.sequenced n seq (fun s =>
    let s := s.addCredits crew count
    if tailValid then s.setTail crew tail else s)

/-- SLIP_PACKET_DAMAGED (R325, R334). -/
def doSlipDamaged (s : State) (n : Nat) (why : SlipDamage) : State :=
  if !s.alive || s.linkState n == slipOff then s
  else
    let s := match why with
      | .crc => (s.count (R.SLIP_STNn_CRC_ERR_CNT n)).healthFault 7 n
      | .proto => s.protoErr n
      | .ahead => s
    if s.linkState n = slipUp then s.sendNak n else s

/-- ACK_TIMER (R333). -/
def doAckTimer (s : State) (n : Nat) : State :=
  match (s.link n).ackFrom with
  | none => s
  | some c =>
    if s.alive && s.linkState n == slipUp && decide (c + max 1 (s.get R.SLIP_CTL_ACK_LAT) ≤ s.time.cr) then s.sendAck n else s

/-- REPLAY_TIMEOUT (R335). -/
def doReplayTimeout (s : State) (n : Nat) : State :=
  let k := s.link n
  if s.alive && s.linkState n == slipUp && !k.replay.isEmpty && !s.flag (R.SLIP_STNn_STATUS_HOLD n) && !k.reform
      && decide (k.timer + max 16 (s.get R.SLIP_CTL_REPLAY_TMO) ≤ s.time.cr) then (s.replayFrom n).linkGo n
  else s

/-! Lanes and markers (R322, R340). -/

/-- The hub's receive-good map has changed (R340): in UP the change is reported at once, and fewer than two good receivers take the
link down. -/
def mapChanged (s : State) (n old : Nat) : State :=
  let now := s.rxGood n
  if now = old ∨ s.linkState n ≠ slipUp then s
  else if groupSize3 now < 2 then s.linkDown n else s.sendAck n

/-- The receiver of a position is not good any more (R340). -/
def loseLane (s : State) (n p : Nat) : State :=
  if (s.link n).lost.contains p then s
  else
    (s.updLink n (fun k => { k with lost := p :: k.lost, good := k.good.set p (s.time.cr + 1) })).healthFault 8 (3 * n + p)

/-- The crossings of the last 16 in which a readout lane had code errors. -/
def errCrossings (s : State) (ln : Nat) : Nat :=
  let l := Assoc.getD (fun _ => []) s.rxErr ((0x50 + ln) * 4096)
  ((List.range 16).filter (fun k => l.any (fun c => c + k == s.time.cr))).length

/-- SLIP_LANE_LOST (R340): the receiver has left ALIGNED, or has had code errors in 8 of the last 16 crossings; the change is reported
at once. -/
def doSlipLaneLost (s : State) (n p : Nat) : State :=
  if !s.alive || s.linkState n == slipOff
      || (s.rxState ((0x50 + 3 * n + p) * 4096) == 2 && decide (s.errCrossings (3 * n + p) < 8)) then s
  else (s.loseLane n p).mapChanged n (s.rxGood n)

/-- LANE_RX_LOST on a readout lane is a loss for its station's link too (R340). -/
def doLaneRxLost (s : State) (x : Xcvr) (cause : DownCause) : State :=
  let t := s.doRxLost x cause
  match xcvrLane x with
  | some ln =>
    if ln < 24 && s.rxState (xcvrBase x) == 2 && t.rxState (xcvrBase x) != 2 && t.linkState (ln / 3) != slipOff then
      (t.loseLane (ln / 3) (ln % 3)).mapChanged (ln / 3) (s.rxGood (ln / 3))
    else t
  | none => t

/-- The positions whose markers lie further than 16 symbols from the others (R323): from both others, or, where the three lie in a
chain, the end that is further from the middle, the higher position of two alike (DESIGN CHOICE, log entry 63). -/
def outOfWindow (ms : List (Option MarkerIn)) : List Nat :=
  let at_ (p : Nat) : Option Int := ((ms[p]?).getD none).map (·.pos)
  let far (p q : Nat) : Bool := match at_ p, at_ q with
    | some a, some b => decide (16 < (a - b).natAbs)
    | _, _ => false
  let there := (List.range 3).filter (fun p => (at_ p).isSome)
  let alone := there.filter (fun p => (there.filter (· != p)).all (fun q => far p q) && decide (1 < there.length))
  if !alone.isEmpty then alone
  else
    match at_ 0, at_ 1, at_ 2 with
    | some a, some b, some c =>
      let dist (v w x : Int) : Nat := min (v - w).natAbs (v - x).natAbs
      if far 0 1 || far 0 2 || far 1 2 then
        let d := [dist a b c, dist b a c, dist c a b]
        let m := d.foldl max 0
        (((List.range 3).filter (fun p => (d[p]?).getD 0 == m)).reverse.take 1)
      else []
    | _, _, _ => []

/-- A position whose marker has arrived within the deskew window is good again once its receiver is ALIGNED, without code errors in 8
of the last 16 crossings (R340). -/
def regain (s : State) (n : Nat) (ms : List (Option MarkerIn)) (out_ : List Nat) : State :=
  let ok (p : Nat) : Bool :=
    (((ms[p]?).getD none).any (fun m => mapValid m.map)) && s.rxState ((0x50 + 3 * n + p) * 4096) == 2
      && decide (s.errCrossings (3 * n + p) < 8) && !out_.contains p
  s.updLink n (fun k => { k with lost := k.lost.filter (fun p => !ok p) })

/-- What the markers say of the hub's own receivers (R323, R340). -/
def markerLanes (s : State) (n : Nat) (ms : List (Option MarkerIn)) : State :=
  let out_ := outOfWindow ms
  let t := (forEach out_ s (fun s p => s.loseLane n p)).regain n ms out_
  t.mapChanged n (s.rxGood n)

/-- CATCH_MARKER (R322, R323, R344): the peer's marker on the three lanes. -/
def doCatchMarker (s : State) (n : Nat) (ms : List (Option MarkerIn)) : State :=
  if !s.alive || s.linkState n == slipOff then s
  else
    let s := s.markerLanes n ms
    let good := ((ms.filterMap id).map (·.map)).filter mapValid
    if good.isEmpty then
      let s := (s.protoErr n).updLink n (fun k => { k with mkOk := 0, mkBad := k.mkBad + 1 })
      if s.linkState n = slipUp ∧ 2 ≤ (s.link n).mkBad then s.linkDown n else s
    else
      let s : State := match majority (good.map (fun b => b.toNat % 8)) with
        | some g => s.set (R.SLIP_STNn_STATUS_RXG n) g
        | none => s
      let s : State := match majority (good.map (fun b => b.toNat / 8 % 8)) with
        | some g =>
          let hold := s.flag (R.SLIP_STNn_STATUS_HOLD n)
          let m := BitVec.ofNat 8 (g + if hold then 8 else 0)
          let s := s.updLink n (fun k => { k with mkGood := (g :: k.mkGood).take 2 })
          if s.linkState n = slipUp then s.peerMap n m else s.set (R.SLIP_STNn_STATUS_PEER_RXGOOD n) g
        | none => s
      let s := s.updLink n (fun k => { k with mkOk := k.mkOk + 1, mkBad := 0 })
      if s.linkState n = slipTrain ∧ 2 ≤ (s.link n).mkOk ∧ 2 ≤ groupSize3 (s.rxGood n) then
        let s := (s.set (R.SLIP_STNn_STATUS_STATE n) slipCaps).set (R.SLIP_STNn_STATUS_TXG n) (s.rxGood n)
        s.updLink n (fun k => { k with capSeen := false, capTold := false, capSt := s.time.catches, capCr := none })
      else s

/-! Capabilities (R343, R344). -/

/-- SLIP_CAP: in UP it takes the link down. -/
def doSlipCap (s : State) (n version beats maxpl maxReads id station : Nat) : State :=
  if !s.alive || s.linkState n == slipOff then s
  else
    let s := ((s.set (R.SLIP_STNn_PEER_CAP_VERSION n) version).set (R.SLIP_STNn_PEER_CAP_BEATS n) beats).set
      (R.SLIP_STNn_PEER_CAP_MAXPL n) maxpl
    let s := ((s.set (R.SLIP_STNn_PEER_CAP_MAX_READS n) maxReads).set (R.SLIP_STNn_PEER_ID n) id).set
      (R.SLIP_STNn_PEER_CAP_STATION n) station
    if s.linkState n = slipUp then s.linkDown n
    else if s.linkState n = slipCaps then
      let s := s.updLink n (fun k => { k with capSeen := true })
      if s.capMatch n then s else s.capTell n
    else s

/-- CAPS_TIMEOUT. -/
def doCapsTimeout (s : State) (n : Nat) : State :=
  let k := s.link n
  if s.alive && s.linkState n == slipCaps && !k.capSeen && decide (k.capSt + 16 ≤ s.time.catches) then s.linkLeave n slipTrain
  else s

/-- SLIP_CAP_SEND: the hub's CAP every 16 cr. -/
def doSlipCapSend (s : State) (n : Nat) : State :=
  let due := match (s.link n).capCr with
    | none => true
    | some c => decide (c + 16 ≤ s.time.cr)
  if s.alive && s.linkState n == slipCaps && due then
    let s := s.updLink n (fun k => { k with capCr := some s.time.cr })
    s.sendCtl n ([0x30, 0x01, 0x0F, 3, 32] ++ leBytes 2 (s.get R.ID_HUB_NUMBER) ++ leBytes 1 n)
  else s

/-! The links at a catch (R341, R342, R344). -/

/-- A position may rejoin (R342). -/
def rejoins (s : State) (n p : Nat) : Bool :=
  let k := s.link n
  let ln := 3 * n + p
  let clean := (Assoc.getD (fun _ => []) s.rxErr ((0x50 + ln) * 4096)).all (fun c => decide (c + 256 ≤ s.time.cr))
  clean && decide ((k.good[p]?).getD 0 + 256 ≤ s.time.cr) && decide (k.mkGood.length = 2)
    && k.mkGood.all (fun g => g / 2 ^ p % 2 == 1) && (s.pstate (0x50 + ln) == 1 || s.pstate (0x50 + ln) == 2)

/-- The transmit group that a catch forms. -/
def newGroup (s : State) (n : Nat) : Nat :=
  let peer := s.get (R.SLIP_STNn_STATUS_PEER_RXGOOD n)
  (List.range 3).foldl (fun g p =>
    if s.rxGood n / 2 ^ p % 2 == 1 && peer / 2 ^ p % 2 == 1 && (s.txg n / 2 ^ p % 2 == 1 || s.rejoins n p) then g + 2 ^ p
    else g) 0

/-- LANE_GROUP_REFORM (R341), in CAPS and in UP. A group of fewer than 2 takes an UP link down; in CAPS, where the state table has no
such row, the group stays as it is (DEDUCED, log entry 63). -/
def regroup (s : State) (n : Nat) : State :=
  let old := s.txg n
  let new := s.newGroup n
  if groupSize3 new < 2 then (if s.linkState n = slipUp then s.linkDown n else s)
  else
    let gone := (List.range 3).any (fun p => old / 2 ^ p % 2 == 1 && new / 2 ^ p % 2 == 0)
    let back := (List.range 3).any (fun p => old / 2 ^ p % 2 == 0 && new / 2 ^ p % 2 == 1)
    let s := if gone then ((s.count (R.SLIP_STNn_DEGRADE_CNT n)).raise E.SLIP_DEGRADE).fault 0x70 3 n else s
    let s := if back then s.raise E.SLIP_RESTORE else s
    let s := s.set (R.SLIP_STNn_STATUS_TXG n) new
    if (s.link n).reform then
      let s := s.updLink n (fun k => { k with reform := false })
      if s.flag (R.SLIP_STNn_STATUS_HOLD n) then s.updLink n (fun k => { k with repWait := true }) else s.resend n
    else s

/-- A link enters UP, and leaves it at once where fewer than two lanes are usable (R344). -/
def linkUpIfTwo (s : State) (n : Nat) : State :=
  let two := decide (2 ≤ groupSize3 (s.newGroup n))
  let s := s.linkUp n
  if two then s else s.linkDown n

/-- One link at a catch, after the staged sets. -/
def slipCatchOne (s : State) (n : Nat) : State :=
  let st := s.linkState n
  let s :=
    if !s.enabled 0x70 then if st = slipOff then s else s.linkDisable n
    else if st = slipOff ∨ st = slipDown then s.set (R.SLIP_STNn_STATUS_STATE n) slipTrain
    else if st = slipCaps then
      let s := s.regroup n
      if (s.link n).capSeen then if s.capMatch n then s.linkUpIfTwo n else s.capTell n
      else s
    else if st = slipUp then s.regroup n
    else s
  if s.linkState n = slipOff ∨ s.moored then s
  else
    let m := mapByte (s.txg n) (s.rxGood n)
    ((s.emit (.marker n m)).updLink n (fun k => { k with marker := some (s.time.cr, m) })).linkGo n

/-- The links at a catch; `s0` is the state before it. A receiver that the staged sets have switched off is told with an ACK (R340). -/
def slipCatch (s0 s : State) : State :=
  forEach (List.range 8) s (fun s n =>
    let s := s.slipCatchOne n
    if s0.linkState n = slipUp ∧ s.linkState n = slipUp ∧ s.rxGood n ≠ s0.rxGood n then s.sendAck n else s)

/-- The links when the hub moors (R344). -/
def slipMoor (s : State) : State :=
  forEach (List.range 8) s (fun s n => if s.linkState n = slipOff then s else s.linkLeave n slipTrain)

/-- A page reset of a STN page or of SLIP (R422): the link is DISABLED. -/
def slipPageReset (s : State) (n : Nat) : State := s.linkDisable n

/-- The links' part of a crossing: what the streams have carried, the receivers that are not ALIGNED, which a marker must make good
again (R340), the counters of waiting, and what goes on. -/
def slipTick (s : State) : State :=
  forEach (List.range 8) s (fun s n =>
    let s := s.streamTick n
    let hold := s.flag (R.SLIP_STNn_STATUS_HOLD n) && s.linkState n == slipUp
    let s := s.updLink n (fun k => { k with
      timer := if hold then k.timer + 1 else k.timer,
      lost := k.lost ++ (List.range 3).filter (fun p =>
        s.rxState ((0x50 + 3 * n + p) * 4096) != 2 && !k.lost.contains p),
      good := k.good.mapIdx (fun p c => if s.rxGood n / 2 ^ p % 2 == 1 then c else s.time.cr + 1) })
    let s := if hold then s.countBy (R.SLIP_STNn_HOLD_CC n) 16 else s
    if s.flag (R.SLIP_STNn_STATUS_REPLAY_FULL n) then s.countBy (R.SLIP_STNn_REPLAY_FULL_CC n) 16 else s)

/-- The stations go on in a new crossing. -/
def slipGo (s : State) : State := forEach (List.range 8) s linkGo

end State

end Sys2Proof.Machine
end

