-- ==== Sys2Proof/Machine/Tprim.lean ====
section
/-! DEFINITION. Trigger primitives (chapter 10): filtered values, group sums, peak flags and the frames of the trigger lanes. -/

namespace Sys2Proof.Machine

/-- Group size of CTL.GROUP (R199). -/
def groupSize (g : Nat) : Nat := if g = 0 then 2 else if g = 1 then 4 else if g = 2 then 8 else 16

/-- Word width of CTL.WIDTH (R201). -/
def wordWidth (wide : Bool) : Nat := if wide then 10 else 16

namespace State

/-- The value u of sample `q` of channel `c` with its OVR and SUB flags (R197); none where it is VOID. -/
def tapU (s : State) (c : Nat) (q : Int) : Option Val :=
  if q < 0 then none
  else (Assoc.find? s.words (q.toNat * 1024 + c)).map (fun w =>
    ⟨((w.toNat % 16384 : Nat) : Int) - 8192, w.getLsbD 14, w.getLsbD 15⟩)

/-- Coefficient `k` of filter set `f` in the stroke of crossing `n`. -/
def fset (s : State) (n f k : Nat) : Int :=
  if k % 2 = 0 then s.getiAt n (R.TPRIM_FSETf_Ceven f (k / 2)) else s.getiAt n (R.TPRIM_FSETf_Codd f (k / 2))

/-- The filtered value whose newest input is sample `q` (R197), with the flags of its support; a VOID support leaves none. -/
def filtered (s : State) (n c : Nat) (q : Int) : Option Val :=
  let f := s.getAt n (R.TPRIM_CH_CFG_FSET c)
  let a := (List.range 8).foldl (fun acc (k : Nat) =>
    match acc, s.tapU c (q - k) with
    | some a, some x => some (⟨a.v + s.fset n f k * x.v, a.ovr || x.ovr, a.sub || x.sub⟩ : Val)
    | _, _ => none) (some ⟨0, false, false⟩)
  a.map (fun a => { a with v := ((if s.flagAt n (R.TPRIM_CH_CFG_INV c) then -a.v else a.v) + 512) / 1024 })

/-- The flags OVR and SUB of the samples in a channel value's support, whatever VOID there is (R198). -/
def supportFlags (s : State) (c : Nat) (lo : Int) (len : Nat) : Bool × Bool :=
  (List.range len).foldl (fun acc (k : Nat) => match s.tapU c (lo + k) with
    | some x => (acc.1 || x.ovr, acc.2 || x.sub)
    | none => acc) (false, false)

/-- The channel value of crossing `n` (R197, R198): its value, and its VOID, SUB and OVR flags. -/
def chanValue (s : State) (n c : Nat) : Int × Bool × Bool × Bool :=
  let one := !s.flagAt n R.TPRIM_CTL_PICK_MODE
  let p0 := if one then s.getAt n R.TPRIM_CTL_PICK_PHASE else 0
  let q0 : Int := (4 * n + p0 : Nat)
  let ws := (List.range (if one then 1 else 4)).map (fun (k : Nat) => s.filtered n c (q0 + k))
  let fl := s.supportFlags c (q0 - 7) (if one then 8 else 11)
  let x := ws.foldl (fun m w => match m, w with
    | some a, some b => some (if a < b.v then b.v else a)
    | _, _ => none) ((ws.head?.join).map (·.v))
  let x := if ws.all (·.isSome) then x else none
  let en := s.flagAt n (R.TPRIM_CH_CFG_EN c)
  match x with
  | none => (0, en, fl.2, fl.1)
  | some x => (if en then clampI 0 131071 (x - s.getiAt n (R.TPRIM_CH_PED c)) else 0, false, fl.2, fl.1)

/-- What the primitive path makes of lane `k` in crossing `n` (R199, R204): the sums, the status bits VOID, SUB and OVR, and
how many words saturated. -/
def laneSums (s : State) (n k g : Nat) (wide : Bool) : List Nat × BitVec 8 × Nat :=
  let cap := 2 ^ (wordWidth wide - 1) - 1
  (List.range (96 / g)).foldl (fun acc j =>
    let vs := (List.range g).map (fun i => s.chanValue n (96 * k + j * g + i))
    let tot := (vs.foldl (fun t v => t + v.1) (0 : Int)).toNat / 2 ^ s.getAt n R.TPRIM_CTL_SHIFT
    let sat := decide (cap < tot)
    let st : BitVec 8 := (if vs.any (fun v => v.2.1) then 0x10 else 0) ||| (if vs.any (fun v => v.2.2.1) then 0x20 else 0)
      ||| (if sat || vs.any (fun v => v.2.2.2) then 0x08 else 0)
    (acc.1 ++ [min tot cap], acc.2.1 ||| st, acc.2.2 + (if sat then 1 else 0))) ([], 0, 0)

/-- Crossings `lo` to `hi` carry COAST. -/
def coastIn (s : State) (lo hi : Nat) : Bool :=
  s.stat.any (fun e => decide (lo ≤ e.1) && decide (e.1 ≤ hi) && e.2 % 2 == 1)

/-- The record of crossing `n` and the counts it makes (R199, R204, R209). -/
def tpRecord (s : State) (n : Nat) : State :=
  let on := s.flagAt n (R.PAGE_CTL_ENABLE 0x2C)
  let group := s.getAt n R.TPRIM_CTL_GROUP
  let wide := s.flagAt n R.TPRIM_CTL_WIDTH
  let mark := s.tpMarks.find? (fun e => e.1 == n)
  let p0 := if s.flagAt n R.TPRIM_CTL_PICK_MODE then 0 else s.getAt n R.TPRIM_CTL_PICK_PHASE
  let common : BitVec 8 := (if s.coastIn ((4 * n + p0 - 7) / 4) n then 0x80 else 0)
    ||| (if Assoc.getD (fun _ => 0) s.stat n / 2 % 2 = 1 then 0x40 else 0)
    ||| (if mark.isSome then 0x02 else 0)
  let lanes : List (List Nat × BitVec 8 × Nat) := if on then (List.range 8).map (fun k => s.laneSums n k (groupSize group) wide)
    else List.replicate 8 ([], 0x01, 0)
  let r : TpCr := {
    cr := n, cn := (s.cnAt n).truncate 16, hub := BitVec.ofNat 16 (s.hubAt n), catch_ := (s.cnAt n).toNat % 256 == 0,
    on := on, step := mark.isSome, brk := (mark.map (·.2)).getD false, group := group, wide := wide,
    thr := s.getAt n R.TPRIM_PEAK_THR, align := s.getAt n R.TPRIM_ALIGN,
    sums := lanes.map (·.1), st := lanes.map (fun l => l.2.1 ||| common) }
  let s := { s with tp := (r :: s.tp).take 72 }
  let sat : Nat := lanes.foldl (fun t l => t + l.2.2) 0
  let s := if sat = 0 then s else (s.countBy R.TPRIM_SAT_CNT sat).raise E.TPRIM_SAT
  if lanes.any (fun l => l.2.1.getLsbD 4) then s.count R.TPRIM_VOID_CR else s

/-- The words of lane `k` of a crossing (R200, R207): PEAK compares with the neighbouring crossings, where these take part. -/
def peakWords (r : TpCr) (prev next : Option TpCr) (k : Nat) : List Nat :=
  let w := wordWidth r.wide
  let sums := (r.sums[k]?).getD []
  let side (o : Option TpCr) (j : Nat) : Nat := match o with
    | some x => if x.on then ((x.sums[k]?).getD [])[j]?.getD 0 else 0
    | none => 0
  let prev := if r.brk then none else prev
  let next := match next with
    | some x => if x.brk then none else some x
    | none => none
  (List.range sums.length).map (fun j =>
    let v := sums[j]?.getD 0
    if r.thr ≤ v ∧ side prev j < v ∧ side next j ≤ v then v + 2 ^ (w - 1) else v)

/-- The bytes of a lane frame (R202, R203): header, payload and CRC. -/
def laneBytes (hub cn : BitVec 16) (status info : BitVec 8) (payload : Nat) : List Byte :=
  let b := leBytes 2 hub.toNat ++ leBytes 2 cn.toNat ++ [status, info] ++ leBytes 31 payload
  let c := crc16 b
  b ++ [c.extractLsb' 8 8, c.extractLsb' 0 8]

/-- INFO of lane `k`. -/
def infoByte (k group : Nat) (wide : Bool) : BitVec 8 := BitVec.ofNat 8 (k * 32 + group * 8 + (if wide then 4 else 0))

/-- A trigger lane sends frames: its LANE page is ENABLED, and it is not in TEST (R209, R315, R319). -/
def trigLaneOn (s : State) (k : Nat) : Bool := s.pstate (0x68 + k) == 1

/-- A frame leaves on trigger lane `k` (R202): symbol 0 is the comma, symbol s carries byte s − 1. -/
def trigSend (s : State) (k : Fin 8) (comma : Byte) (bytes : List Byte) : State :=
  if s.trigLaneOn k.val then
    (s.emit (.laneFrame k.val comma bytes)).transmit (.lane ⟨24 + k.val, by omega⟩) (symK comma :: bytes.map symD)
  else s

/-- The frames that leave in crossing `t`, the one that ends (R205, R208, R210): those of the latest crossing whose slot it is, or
fill frames. Those made for a lane in TEST are discarded (R315). -/
def tpLeave (s : State) (t : Nat) : State :=
  let out (s : State) (comma : Byte) (f : Nat → List Byte) : State :=
    let s := forEach (List.finRange 8) s (fun s k => s.trigSend k comma (f k.val))
    if s.trigLaneOn 0 then s.countW R.TPRIM_FRAME_CNT E.TPRIM_FRAME_WRAP else s
  match s.tp.find? (fun r => r.cr + 5 + r.align == t) with
  | some r =>
    let prev := s.tp.find? (fun x => x.cr + 1 == r.cr)
    let next := s.tp.find? (fun x => x.cr == r.cr + 1)
    let w := wordWidth r.wide
    let f (k : Nat) : List Byte :=
      let pay := (peakWords r prev next k).reverse.foldl (fun a v => a * 2 ^ w + v) 0
      laneBytes r.hub r.cn ((r.st[k]?).getD 0) (infoByte k r.group r.wide) pay
    let s := out s (if r.catch_ then 0xBC else 0x3C) f
    { s with tpLast := some (r.hub, r.cn, r.group, r.wide) }
  | none =>
    match s.tpLast with
    | none => s
    | some (hub, cn, group, wide) => out s 0xFC (fun k => laneBytes hub cn 0x04 (infoByte k group wide) 0)

/-- The primitive path's part of the crossing that ends, crossing `t`. -/
def tprimTick (s : State) (t : Nat) : State :=
  (if 3 ≤ t then s.tpRecord (t - 3) else s).tpLeave t

/-! The TPRIM page at a catch. -/

/-- The refusal of a staged TPRIM set (R201). -/
def tprimRefuse (cand : State) : Option Nat :=
  let g := cand.get R.TPRIM_CTL_GROUP
  if g = 0 then some 1 else if g = 1 ∧ cand.get R.TPRIM_CTL_WIDTH = 0 then some 2 else none

/-- A TPRIM refusal as it is recorded. -/
def tprimRefused (s : State) (cause : Nat) : State :=
  ((s.set R.TPRIM_LAST_REFUSE_CAUSE cause).raise E.TPRIM_REFUSED).fault 0x2C 1 cause

/-- The TPRIM page at a catch (R204, R207, R208): STEP, the break of the peak finder, fill slots and dropped frames. -/
def tprimCatch (s0 s : State) (applied : Bool) : State :=
  let on := s.enabled 0x2C
  let state := on != s0.enabled 0x2C
  let brk := on && (state || s.get R.TPRIM_CTL_GROUP != s0.get R.TPRIM_CTL_GROUP
    || s.get R.TPRIM_CTL_WIDTH != s0.get R.TPRIM_CTL_WIDTH || s.get R.TPRIM_CTL_SHIFT != s0.get R.TPRIM_CTL_SHIFT)
  let old := s0.get R.TPRIM_ALIGN
  let new := s.get R.TPRIM_ALIGN
  let s := if applied || state || old != new then
      { s with tpMarks := ((s.time.cr, brk) :: s.tpMarks).take 8 } else s
  if old < new then (s.raise E.TPRIM_ALIGN_FILL).countBy R.TPRIM_FILL_CNT (new - old)
  else if new < old then (s.raise E.TPRIM_ALIGN_DROP).countBy R.TPRIM_DROP_CNT (old - new)
  else s

end State

end Sys2Proof.Machine
end

