-- ==== Sys2Proof/Machine/Views.lean ====
section
/-! DEFINITION. What a register word shows: the selectors of the windowed registers, and the read-only fields that are
images of the engines' state, page by page. -/

namespace Sys2Proof.Machine

namespace State

/-! Windowed registers. -/

/-- A channel selector names a channel (R179). -/
def chanSel (n : Nat) : Option Nat := if n ≤ 767 then some n else none

/-- The index that the selectors give the register at address `a`: 0 for a register without a window, none where a selector
names no channel, slice, trim or bin. A mirror word has the selector of its register. -/
def selOf (s : State) (a : Nat) : Option Nat :=
  let pg := a / 4096
  let off := a % 2048
  if 0x10 ≤ pg ∧ pg < 0x28 then
    if off = 0x154 ∨ off = 0x158 ∨ off = 0x15C then
      let sl := s.get (R.BANK_TRIM_ADDR_SLICE pg)
      let i := s.get (R.BANK_TRIM_ADDR_INDEX pg)
      if sl ≤ 32 ∧ i ≤ 57 then some (sl * 64 + i) else none
    else some 0
  else if pg = 0x28 then
    if off = 0x044 ∨ off = 0x048 ∨ off = 0x04C then chanSel (s.get R.PRISM_CH_SEL) else some 0
  else if pg = 0x29 then
    if off = 0x048 then some (s.get R.PCOEF_PSEL * 256 + s.get R.PCOEF_TAP)
    else if off = 0x050 ∨ off = 0x054 then some (s.get R.PCOEF_PSEL) else some 0
  else if pg = 0x2A then
    if off = 0x044 ∨ off = 0x048 ∨ off = 0x04C then chanSel (s.get R.RSMP_CH_SEL)
    else if off = 0x094 then
      let b := s.get R.RSMP_HIST_SEL
      if b ≤ 257 then (chanSel (s.get R.RSMP_CH_SEL)).map (fun c => c * 512 + b) else none
    else some 0
  else if pg = 0x2C then
    if off = 0x054 ∨ off = 0x058 then chanSel (s.get R.TPRIM_CH_SEL) else some 0
  else if pg = 0x32 then
    if off = 0x04C ∨ off = 0x050 then chanSel (s.get R.SELF_CH_SEL) else some 0
  else if pg = 0x38 then
    if off = 0x044 then chanSel (s.get R.FRAG_CH_SEL) else some 0
  else if pg = 0x40 then
    if 0x044 ≤ off ∧ off ≤ 0x060 then some (s.get R.CREW_SEL) else some 0
  else if pg = 0x41 then
    if off = 0x050 then some (s.get R.SEATS_SEAT_SEL) else some 0
  else if pg = 0x88 then
    if off = 0x048 then some (s.get R.SHADOW_PORT_SEL * 16384 + s.get R.SHADOW_ADDR)
    else if off = 0x058 ∨ off = 0x070 then some (s.get R.SHADOW_PORT_SEL) else some 0
  else if pg = 0x89 then
    if off = 0x068 then some (s.get R.SATSTAT_PORT_SEL * 16384 + s.get R.SATSTAT_CELL_SEL)
    else if off = 0x06C then some (s.get R.SATSTAT_PORT_SEL) else some 0
  else some 0

/-! The header. -/

/-- A neighbour port is enabled (R236). -/
def neighOn (s : State) : Bool := (List.range 4).any (fun j => s.nbState j != 0)

/-- PAGE_STATE.STATE as a page shows it. -/
def shownState (s : State) (pg : Nat) : Nat :=
  let on := if s.enabled pg then 1 else 0
  match pageType pg with
  | some 0x04 => 1
  | some 0x06 => 1
  | some 0x02 => s.pstate pg
  | some 0x08 => s.pstate pg
  | some 0x0E => s.pstate pg
  | some 0x50 => s.pstate pg
  | some 0x78 => s.pstate pg
  | some 0x33 => if s.neighOn then 1 else 0
  | some 0x42 => if on = 1 ∧ s.pstate pg = 2 then 2 else on
  | _ => on

/-- A station has posted writes that are not acknowledged. -/
def writesOut (s : State) (n : Nat) : Bool := (s.link n).replay.any (fun p => p.write)

/-- PAGE_STATE.QUIESCING (R263, R297). -/
def quiescing (s : State) (pg : Nat) : Bool :=
  if pg = 0x38 then s.flag (R.PAGE_CTL_PAUSE 0x38) && s.building
  else if pg = 0x40 then s.flag (R.PAGE_CTL_PAUSE 0x40) && (List.range 8).any s.writesOut
  else if 0x42 ≤ pg ∧ pg < 0x4A then s.paused (pg - 0x42) && s.writesOut (pg - 0x42)
  else false

/-- A page reset is requested. -/
def resetAsked (s : State) (pg : Nat) : Bool := s.flag (R.PAGE_CTL_PAGE_RESET pg)

/-- A word of the common header (R37). -/
def headerWord (s : State) (pg off : Nat) : Word :=
  if off = 0x000 then pageIdWord pg
  else if off = 0x004 then pageCapWord pg
  else if off = 0x00C then
    let pend := !(s.entries pg).isEmpty || s.resetAsked pg
    BitVec.ofNat 32 (s.shownState pg + (if pend then 256 else 0) + (if s.quiescing pg then 512 else 0))
  else if off = 0x020 then BitVec.ofNat 32 (s.entries pg).length
  else s.rd (pg * 4096 + off)

/-- The attention summary of a page (R38); DERAND and RING give theirs only while ENABLED. -/
def attention (s : State) (pg : Nat) : Bool :=
  let w := s.rd (pg * 4096 + 0x010) &&& s.rd (pg * 4096 + 0x018)
  bits w 0 16 != 0 && ((pg != 0x4A && pg != 0x98) || s.enabled pg)

/-- The attention summary of the hub: ATTN on the Pace return and the ATTN_N pin, low where true (R38). -/
def attn (s : State) : Bool := allPages.any s.attention

/-- The level of the pin ATTN_N, open drain: true where released (R38, R439). -/
def attnN (s : State) : Bool := !s.attn

/-- The level of the pin EASY_N, open drain: driven low while the hub's EASY is 1, true where released (R283, R439). -/
def easyN (s : State) : Bool := !s.flag R.DERAND_STATUS_EASY

/-! The bodies. -/

/-- Bits of a word for a list of 32 decisions. -/
def bitMap (p : Nat → Bool) : Word :=
  BitVec.ofNat 32 ((List.range 32).foldl (fun n i => if p i then n + 2 ^ i else n) 0)

/-- TIME: CN, Hub Time and NS32 (R81, R84). -/
def timeView (s : State) (off : Nat) (w : Word) : Word :=
  if off = 0x040 then s.time.cn.extractLsb' 0 32
  else if off = 0x044 then s.time.cn.extractLsb' 32 32
  else if off = 0x048 then s.time.sec.extractLsb' 0 32
  else if off = 0x04C then BitVec.ofNat 32 (s.time.sec.toNat / 2 ^ 32)
  else if off = 0x050 then BitVec.ofNat 32 (s.time.sub / 2 ^ 32)
  else if off = 0x054 then BitVec.ofNat 32 (s.time.sub / 2 ^ 16 % 65536)
  else if off = 0x058 then s.time.ns32.extractLsb' 32 32
  else w

/-- BANK: slices and trims (R129, R131). AT_TARGET shows what R129 says from reset on, when every trim stands at its target, and not
the 0 of the register table (DESIGN CHOICE, log entry 6). -/
def bankView (s : State) (b off sel : Nat) (w : Word) : Word :=
  if 0x0C0 ≤ off ∧ off ≤ 0x140 then
    let i := (off - 0x0C0) / 4
    let on := (List.range 32).any (fun j => s.serving b j == some i)
    let w := setBits w 8 6 (s.trim b i 58).toNat
    setBits (setBits w 17 1 (if s.atTarget b i then 1 else 0)) 18 1 (if on then 1 else 0)
  else if off = 0x158 then
    setBits (setBits w 0 10 (unsigned 10 (s.trim b (sel / 64) (sel % 64)))) 16 10
      (unsigned 10 (s.hostTarget b (sel / 64) (sel % 64)))
  else if off = 0x15C then
    setBits w 0 10 (unsigned 10 (Assoc.getD trimReset s.trimCal ((33 * b + sel / 64) * 64 + sel % 64)))
  else w

/-- BANK.TDAC_STATUS (R133, R135). -/
def tdacView (s : State) (b : Nat) : Word × State :=
  let t := s.dacCode b
  let put (w : Word) (lo : Nat) (x : Bool) : Word := setBits w lo 1 (if x then 1 else 0)
  (put (put (put (BitVec.ofNat 32 t.1) 16 (s.enabled (0x10 + b) && s.dacHeld b)) 17 (s.tapBank == some b)) 18
    (s.tapBlocked b), t.2)

/-- CAL: the sequencers (chapter 07). -/
def calView (s : State) (off : Nat) (w : Word) : Word :=
  let two (k : BankCal) (from_ : Nat) : Word :=
    BitVec.ofNat 32 ((List.range 16).foldl (fun n i => n + k.healthOf (from_ + i) * 4 ^ i) 0)
  let b := off % 0x80 / 4
  let k := s.bank b
  if off = 0x04C then setBits w 16 1 (if s.banks.any (fun k => !k.queue.isEmpty) then 1 else 0)
  else if off < 0x100 ∨ 24 ≤ b then w
  else if off < 0x180 then
    let flag (x : Bool) (i : Nat) : Nat := if x then 2 ^ i else 0
    BitVec.ofNat 32 (k.spare + k.index % 32 * 16 + flag k.rotating 16 + flag k.puDone 17 + flag k.extended 18
      + k.queue.length * 2 ^ 19)
  else if off < 0x200 then two k 0
  else if off < 0x280 then two k 16
  else if off < 0x300 then BitVec.ofNat 32 (k.healthOf 32)
  else if off < 0x380 then k.dead
  else w

/-- PRISM: a channel's fades and the ledgers (R171). -/
def prismView (s : State) (off sel : Nat) (w : Word) : Word :=
  if off = 0x04C then
    let run := s.fades.find? (fun f => f.chan == sel)
    let wait := s.fadeQ.find? (fun f => f.chan == sel)
    let tgt := match run, wait with
      | some f, _ => f.new
      | none, some f => f.prof
      | none, none => 0
    let more := match run with
      | some f => s.fadeCost sel f.new
      | none => 0
    BitVec.ofNat 32 ((if run.isSome then 1 else 0) + (if wait.isSome then 2 else 0) + tgt * 4
      + (s.cost sel + more) * 256)
  else if 0x100 ≤ off ∧ off < 0x160 then
    let b := (off - 0x100) / 4
    BitVec.ofNat 32 (s.charge b + (s.fadeQ.filter (fun f => f.chan / 32 == b)).length * 2 ^ 16
      + (s.fades.filter (fun f => f.chan / 32 == b)).length * 2 ^ 20)
  else w

/-- PCOEF: the profiles (R164 to R167). -/
def pcoefView (s : State) (off sel : Nat) (w : Word) : Word :=
  if off = 0x050 then
    BitVec.ofNat 32 (s.profState sel + s.profLen sel * 256 + (if s.inUse sel then 2 ^ 24 else 0))
  else if off = 0x054 then BitVec.ofNat 32 (s.norm sel (if s.profState sel = 0 then 256 else s.profLen sel))
  else if off = 0x058 then bitMap (fun p => s.profState p == 1)
  else if off = 0x05C then bitMap (fun p => s.profState (32 + p) == 1)
  else if off = 0x060 then bitMap s.inUse
  else if off = 0x064 then bitMap (fun p => s.inUse (32 + p))
  else w

/-- RSMP: histograms and the log (R192, R194). -/
def rsmpView (s : State) (off sel : Nat) (w : Word) : Word :=
  if off = 0x04C then setBits w 16 16 (min (s.histN sel) 65535)
  else if off = 0x070 then BitVec.ofNat 32 s.records.length
  else if off = 0x094 then BitVec.ofNat 32 (min (s.histBin (sel / 512) (sel % 512)) 65535)
  else w

/-- The derandomiser's levels (R280, R281, R287). -/
def derandView (s : State) (off : Nat) (w : Word) : Word :=
  if off = 0x040 then BitVec.ofNat 32 s.occupancy
  else if off = 0x048 then BitVec.ofNat 32 s.held.length
  else if off = 0x04C then setBits w 4 1 (if s.offer.isSome then 1 else 0)
  else if off = 0x050 then BitVec.ofNat 32 s.stranded.length
  else w

/-- The seats (R296). -/
def seatsView (s : State) (off sel : Nat) (w : Word) : Word :=
  if off = 0x040 then BitVec.ofNat 32 s.seats.length
  else if off = 0x050 then
    match Assoc.find? s.seats sel with
    | none => 0
    | some c => BitVec.ofNat 32 (c + 2 ^ 16 + (if s.pinned c then 2 ^ 17 else 0) + s.seatUse.idxOf sel % 64 * 2 ^ 24)
  else w

/-- A station and its descriptor in progress, first of all the one that is being restarted (R294, R297, R298). -/
def stnView (s : State) (n off : Nat) (w : Word) : Word :=
  let link := s.link n
  let d : Option Dma := match link.redo with
    | j :: _ => some ⟨j.held, j.crew, some j.desc, link.redoSent, j.base, false, false⟩
    | [] => Assoc.find? s.dmas n
  let x := d.bind (·.desc)
  let ofD (f : Dma → Nat) : Nat := if x.isSome then (d.map f).getD 0 else 0
  let addr := (x.map (·.addr)).getD 0
  if off = 0x044 then
    BitVec.ofNat 32 (s.beatCode n + (if s.linkState n = slipUp then 256 else 0) + (if x.isSome then 512 else 0))
  else if off = 0x048 then BitVec.ofNat 32 (ofD (·.crew))
  else if off = 0x04C then BitVec.ofNat 32 addr
  else if off = 0x050 then BitVec.ofNat 32 (addr / 2 ^ 32)
  else if off = 0x054 then BitVec.ofNat 32 (ofD (·.sent))
  else if off = 0x058 then BitVec.ofNat 32 (ofD (fun d => d.base + d.sent))
  else if off = 0x05C then
    let l := s.slots.filter (fun e => e.1 / 32 == n)
    BitVec.ofNat 32 (l.length + (l.filter (fun e => e.2.stale)).length * 256)
  else w

/-- A millisecond in the units of Ring.now. -/
def ringMs : Nat := 1000000 * 2 ^ 32

/-- RING.STATUS.TAINTED (R398): a change of the bypass, a framing error or an ABORT within the last 10 ms. -/
def tainted (s : State) : Bool := match s.ring.taint with
  | some t => decide (s.ring.now - t < 10 * ringMs)
  | none => false

/-- RING.BUF_LEVEL: the characters that the elastic buffer holds, and the highest level since the page was last reset (R386). -/
def levelView (s : State) (w : Word) : Word :=
  let n := s.ring.buf.length
  setBits (setBits w 0 6 n) 16 6 (max n (bits w 16 6))

/-- A body word as it reads, before the selectors' free reads: the stored word with the images of engine state in it. -/
def bodyWord (s : State) (pg off sel : Nat) (w : Word) : Word :=
  let flag (x : Bool) : Nat := if x then 1 else 0
  match pageType pg with
  | some 0x01 =>
    if off = 0x044 then BitVec.ofNat 32 (flag s.unlockC + 2 * flag s.unlockG) else w
  | some 0x04 =>
    if off = 0x04C then setBits (setBits w 8 8 (s.effClaim .A)) 16 8 (s.effClaim .B) else w
  | some 0x06 =>
    if 0x0C0 ≤ off ∧ off < 0x0E0 then bitMap (fun i => s.attention (off % 32 / 4 * 32 + i)) else w
  | some 0x07 => s.calView off w
  | some 0x0C => s.timeView off w
  | some 0x0E =>
    if off = 0x044 then
      let l : PaceLane := if pg = 0x0E then .A else .B
      setBits (setBits w 0 1 (flag (s.dataLane == l))) 1 1 (flag (s.usable l.other))
    else w
  | some 0x10 => s.bankView (pg - 0x10) off sel w
  | some 0x28 => s.prismView off sel w
  | some 0x29 => s.pcoefView off sel w
  | some 0x2A => s.rsmpView off sel w
  | some 0x30 => if off = 0x054 then setBits w 0 9 s.accQ.length else w
  | some 0x39 => if off = 0x044 then setBits w 0 7 s.engines.length else w
  | some 0x41 => s.seatsView off sel w
  | some 0x42 => s.stnView (pg - 0x42) off w
  | some 0x4A => s.derandView off w
  | some 0x50 => if off = 0x054 then setBits w 3 1 (flag (s.pstate pg == 2)) else w
  | some 0x88 =>
    if off = 0x048 then
      setBits w 17 1 (flag (Assoc.find? (s.sat (sel / 16384)).settling (sel % 16384)).isSome)
    else if off = 0x058 then BitVec.ofNat 32 (s.sat sel).queue.length
    else w
  | some 0x98 =>
    if off = 0x040 then setBits w 26 1 (flag s.tainted) else if off = 0x048 then s.levelView w else w
  | some 0x90 =>
    if off = 0x070 then setBits (setBits w 0 1 (flag (s.hk.reg != .idle))) 1 1 (flag (s.hk.inj != .idle)) else w
  | _ => w

/-- HK.STATUS.AWAKE: the converter sleeps where nothing is in progress; otherwise the spec fixes no moment (log entry 2). -/
def awakeView (s : State) (w : Word) : Word × State :=
  if s.hk.cur.isNone && !s.hkTesting then (setBits w 5 1 0, s)
  else let d := s.draw; (setBits w 5 1 (Config.free d.1), d.2)

/-- The word that a read of the register at address `a` (below the mirror) returns now. -/
def liveWord (s : State) (a : Nat) : Word × State :=
  let pg := a / 4096
  let off := a % 4096
  if off < 0x040 then (s.headerWord pg off, s)
  else
    match s.selOf a with
    | none => (Config.unselected a &&& accMask a (fun c => c != .wo && c != .sc), s)
    | some sel =>
      let w := s.bodyWord pg off sel (s.rd (a + 1048576 * sel)) &&& accMask a (fun c => c != .wo && c != .sc)
      if off = 0x168 ∧ pageType pg = some 0x10 then s.tdacView (pg - 0x10)
      else if pg = 0x90 ∧ off = 0x070 then s.awakeView w
      else (w, s)

end State

end Sys2Proof.Machine
end

