-- ==== Sys2Proof/Machine/Mgmt.lean ====
section
/-! DEFINITION. The register arbiter (chapter 02): reads with mirrors and groups, writes by access code, staged queues, keyed
writes, clearing by sequence, the accesses that stall in the memory sweep, and the answers of the two ports. -/

namespace Sys2Proof.Machine

/-- The groups of R53 at which the register at address `a` stands: the addresses from the group's first register on. -/
def groupOf (a : Nat) : Option (List Nat) :=
  let base := a / 4096 * 4096
  let off := a % 4096
  let pick (gs : List (List Nat)) : Option (List Nat) :=
    (gs.find? (fun g => g.contains off)).map (fun g => g.map (base + ·))
  let every (lo stride n : Nat) (g : List Nat) : List (List Nat) :=
    (List.range n).map (fun (i : Nat) => g.map (fun (o : Nat) => lo + stride * i + o))
  let lane (o : Nat) : List (List Nat) :=
    [[o + 0x070, o + 0x074], [o + 0x080, o + 0x084], [o + 0x088, o + 0x08C]]
  match pageType (a / 4096) with
  | some 0x06 => pick [[0x050, 0x054], [0x058, 0x05C]]
  | some 0x07 => pick [[0x054, 0x058]]
  | some 0x0C =>
    pick ([[0x040, 0x044], [0x048, 0x04C, 0x050, 0x054], [0x05C, 0x060], [0x068, 0x06C]]
      ++ every 0x184 32 8 [0x00, 0x04, 0x08, 0x0C, 0x10, 0x14])
  | some 0x0D => pick [[0x080, 0x084, 0x088]]
  | some 0x0E => pick ([[0x08C, 0x090], [0x094, 0x098]] ++ lane 0x1C0)
  | some 0x2A => pick [[0x054, 0x058]]
  | some 0x40 => pick [[0x044, 0x048, 0x04C, 0x050, 0x054, 0x058, 0x05C, 0x060]]
  | some 0x42 => pick [[0x048, 0x04C, 0x050, 0x054, 0x058]]
  | some 0x4A => pick [[0x040, 0x044]]
  | some 0x50 => pick (lane 0)
  | some 0x70 => pick (every 0x104 64 8 [0, 8] ++ every 0x108 64 8 [0, 4])
  | some 0x78 => pick ([[0x054, 0x058], [0x080, 0x084], [0x088, 0x08C]] ++ lane 0x1C0)
  | some 0x91 => pick (every 0x580 8 72 [0, 4])
  | _ => none

/-- The transceiver whose block starts at register base `xb` (R320). -/
def xcvrAt (xb : Nat) : Option Xcvr := allXcvrs.find? (fun x => xcvrBase x == xb)

/-- The memory that a register reaches, of those which the sweep clears one after another (R57): PCOEF.COEF, PCOEF.NORM,
CREW.E0 to E7, CREW.MAP, SHADOW.DATA, RSMP.HIST_VAL, SATSTAT.OCC, SEATS.INFO. -/
def memoryOf (a : Nat) : Option Nat :=
  if a = 0x29048 then some 0
  else if a = 0x29054 then some 1
  else if 0x40044 ≤ a ∧ a ≤ 0x40060 then some 2
  else if 0x40400 ≤ a ∧ a < 0x40600 then some 3
  else if a = 0x88048 then some 4
  else if a = 0x2A094 then some 5
  else if a = 0x89068 then some 6
  else if a = 0x41050 then some 7
  else none

/-- The registers that reach a memory which the sweep clears (R57). -/
def reachesMemory (a : Nat) : Bool := (memoryOf a).isSome

/-- The frame is addressed to a hub with this number, or at this position if it has one (R390). -/
def frameNames (f : RingFrame) (number : Nat) (pos : Option Nat) : Bool :=
  if f.pos then f.dest.toNat / 256 == 0 && pos == some (f.dest.toNat % 256) else f.dest.toNat == number

/-- Characters 1 to 12 of a frame (R389). -/
def ringBytes (f : RingFrame) : List Byte :=
  let cmd := f.op.toNat + (if f.pos then 16 else 0) + (if f.resp then 32 else 0) + 64 * f.status.toNat
  leBytes 2 f.dest.toNat ++ leBytes 2 f.src.toNat ++ leBytes 1 cmd ++ leBytes 3 f.addr.toNat ++ leBytes 4 f.data.toNat

/-- The class of a received character, from its control bit and its data byte (R382). -/
def ringChar (control : Bool) (b : Byte) : RingChar :=
  if !control then .data b
  else if b = 0x00 then .idle
  else if b = 0x01 then .sof
  else if b = 0x02 then .eof
  else if b = 0x03 then .abort
  else .error

/-- The 16 characters of a frame in order (R389): SOF, characters 1 to 12, the CRC with its high byte first, EOF. -/
def ringChars (f : RingFrame) : List RingChar :=
  .sof :: ((ringBytes f ++ [f.crc.extractLsb' 8 8, f.crc.extractLsb' 0 8]).map RingChar.data ++ [.eof])

/-- A number from its bytes, least significant first (R5). -/
def leNat (l : List Byte) : Nat := l.foldr (fun b n => b.toNat + 256 * n) 0

/-- The frame that 14 data characters between SOF and EOF make (R389); another number of them makes none. -/
def ringFrameOf (l : List Byte) : Option RingFrame :=
  if l.length ≠ 14 then none
  else
    let field (i n : Nat) : Nat := leNat ((l.drop i).take n)
    let cmd := field 4 1
    some { dest := BitVec.ofNat 16 (field 0 2), src := BitVec.ofNat 16 (field 2 2), op := BitVec.ofNat 4 cmd,
           pos := cmd.testBit 4, resp := cmd.testBit 5, status := BitVec.ofNat 2 (cmd / 64), addr := BitVec.ofNat 24 (field 5 3),
           data := BitVec.ofNat 32 (field 8 4), crc := BitVec.ofNat 16 (256 * field 12 1 + field 13 1) }

/-- The CRC of a frame is good (R389). -/
def ringOk (f : RingFrame) : Bool := f.crc == crc16 (ringBytes f)

/-- A frame with a new CRC: the right one, or its complement where the frame that came in was bad (R397). -/
def resealed (ok : Bool) (f : RingFrame) : RingFrame :=
  let c := crc16 (ringBytes f)
  { f with crc := if ok then c else ~~~c }

/-- A broadcast (R390). -/
def frameBroadcast (f : RingFrame) : Bool := f.pos && f.dest == 0xFFFF

namespace State

/-! Reads. -/

/-- The holding copies of a port (R53). -/
def holding (s : State) (p : Port) : Assoc Word := match p with
  | .C => s.holdC
  | .G => s.holdG

/-- A port's holding copy of a register, written in the bits of `m`. -/
def hold (s : State) (p : Port) (a : Nat) (m w : Word) : State :=
  let put (l : Assoc Word) : Assoc Word :=
    Assoc.setD (fun _ => 0) l a ((Assoc.getD (fun _ => 0) l a &&& ~~~m) ||| (w &&& m))
  match p with
  | .C => { s with holdC := put s.holdC }
  | .G => { s with holdG := put s.holdG }

/-- The bits of register `a` that belong to the group whose first register is `first`: SLIP.STNn.SEQ.RX_E and PEER_ID share a word, and
the one is of the SEQ group, the other of the PEER_CAP group. -/
def groupBits (first a : Nat) : Word :=
  if pageType (first / 4096) = some 0x70 ∧ a % 64 = 0x0C then (if first % 64 = 4 then 0xFFFF0000 else 0x0000FFFF)
  else 0xFFFFFFFF

/-- A group is copied for a port (R53). -/
def holdGroup (s : State) (p : Port) (first : Nat) (g : List Nat) : State :=
  forEach g s (fun s a => let t := s.liveWord a; t.2.hold p a (groupBits first a) t.1)

/-- A word with a staged entry laid over it. -/
def overlay (w : Word) (e : Staged) : Word := (w &&& ~~~e.mask) ||| (e.data &&& e.mask)

/-- What a key of a page will hold once its staged entries apply. -/
def stagedWord (s : State) (pg key : Nat) : Word :=
  ((s.entries pg).filter (fun e => e.key == key)).foldl overlay (s.rd key)

/-- A mirror word (R34, R52, R454): the staged value of a buffered register, the snapshot of a counter, else zero. -/
def mirrorWord (s : State) (a : Nat) : Word :=
  let r := a - 2048
  if hasAcc r .ctS || hasAcc r .ctW then Assoc.getD (fun _ => 0) s.snap r
  else
    let m := accMask r accBuffered
    if m = 0 then 0
    else
      match s.selOf r with
      | none => Config.unselected a &&& m
      | some sel => s.stagedWord (a / 4096) (r + 1048576 * sel) &&& m

/-- A read performed for a port: the value, and the state, in which a group may have been copied and FRESH cleared. -/
def performRead (s : State) (p : Port) (a : Nat) : Word × State :=
  if a % 4 ≠ 0 ∨ (pageType (a / 4096)).isNone then (0, s)
  else if 2048 ≤ a % 4096 then (s.mirrorWord a, s)
  else
    match groupOf a with
    | some (first :: rest) =>
      let s := if a = first then s.holdGroup p first (first :: rest) else s
      let w := Assoc.getD (fun _ => 0) (s.holding p) a
      (w, if a = first ∧ a / 4096 = 0x91 then s.clearFresh ((a % 4096 - 0x580) / 8) else s)
    | _ => s.liveWord a

/-! Keys (R44 to R46). -/

/-- A port holds an unlock. -/
def unlocked (s : State) (p : Port) : Bool := match p with
  | .C => s.unlockC
  | .G => s.unlockG

/-- A port's unlock, set. -/
def setUnlock (s : State) (p : Port) (b : Bool) : State := match p with
  | .C => { s with unlockC := b }
  | .G => { s with unlockG := b }

/-- A write to KEY.UNLOCK. -/
def writeUnlock (s : State) (p : Port) (d : Word) : State :=
  if d = 0x0000C0C5 then s.setUnlock p true
  else ((s.setUnlock p false).count R.KEY_KEY_FAULT_CNT).raise E.KEY_KEY_FAULT

/-- A keyed write without an unlock is refused (R46). -/
def lockedWrite (s : State) : State := (s.count R.KEY_LOCKED_WRITE_CNT).raise E.KEY_LOCKED_WRITE

/-! Staging (R41 to R43). -/

/-- A write enters the queue of its page, or finds it full. The STATUS of R108, and the state. -/
def stage (s : State) (pg key : Nat) (mask d : Word) : Nat × State :=
  if s.ovf.contains pg || decide (64 ≤ (s.entries pg).length) then
    (1, { s with ovf := if s.ovf.contains pg then s.ovf else pg :: s.ovf }.raise (E.WRITE_OVF pg))
  else (0, { s with staged := s.staged ++ [⟨pg, key, mask, d &&& mask⟩] })

/-- A buffered write, keyed or not (R44 to R46). -/
def stageBuffered (s : State) (p : Port) (pg key : Nat) (mask d : Word) (keyed : Bool) : Nat × State :=
  if keyed && !s.unlocked p then (2, s.lockedWrite)
  else (if keyed then s.setUnlock p false else s).stage pg key mask d

/-- The event of a write that a selector refuses (R131, R179, R196, R211, R237, R266); a BANK page records the slice of a refused
trim address as a fault. -/
def selErr (s : State) (pg : Nat) : State :=
  if pg = 0x28 then s.raise E.PRISM_SEL_ERR
  else if pg = 0x2A then s.raise E.RSMP_SEL_ERR
  else if pg = 0x2C then s.raise E.TPRIM_SEL_ERR
  else if pg = 0x32 then s.raise E.SELF_SEL_ERR
  else if pg = 0x38 then s.raise E.FRAG_SEL_ERR
  else (s.raise (E.BANK_TRIM_ADDR_ERR pg)).fault pg 1 (s.get (R.BANK_TRIM_ADDR_SLICE pg))

/-! Immediate writes. -/

/-- A write to PAGE_CTL (R37, R39, R454): on a keyed page a write of 1 to PAGE_RESET is a keyed write as a whole. Where
PAGE_CAP.PAUSE = 0 the bit does nothing; what it then reads is not said, and the model reads back what was written (DESIGN CHOICE,
log entry 67). -/
def writePageCtl (s : State) (p : Port) (pg : Nat) (d : Word) : Nat × State :=
  let reset := d.getLsbD 1
  let go (s : State) : Nat × State :=
    let s := if reset then s.set (R.PAGE_CTL_PAGE_RESET pg) 1 else s
    let s := s.setb (R.PAGE_CTL_PAUSE pg) (d.getLsbD 2)
    let s := if pg = 0x40 ∨ (0x42 ≤ pg ∧ pg < 0x4A) then s.pauseChanged else s
    s.stage pg (pg * 4096 + 0x008) 1 d
  if reset && pageKeyed pg then
    if s.unlocked p then go (s.setUnlock p false) else (2, s.lockedWrite)
  else go s

/-- A write to EVT_CLEAR (R48). -/
def writeEvtClear (s : State) (pg : Nat) (d : Word) : Nat × State :=
  let k := pg * 4096 + 0x010
  let w := s.rd k
  if bits w 16 16 = bits d 16 16 then (0, s.wr k (w &&& ~~~(BitVec.ofNat 32 (bits d 0 16))))
  else (3, s.count R.ID_CLEAR_STALE)

/-- A write to HK.REG_GO, INJ_GO and SELFTEST_GO, one word (R372, R375). -/
def writeHkGo (s : State) (d : Word) : State :=
  let s := if d.getLsbD 0 then s.doRegGo else s
  let s := if d.getLsbD 1 then s.doInjGo else s
  if d.getLsbD 2 then s.doSelftestGo else s

/-- A write to PCOEF.COEF with the STATUS of R108. -/
def writeCoef (s : State) (d : Word) : Nat × State :=
  (if s.profState (s.get R.PCOEF_PSEL) = 0 ∧ s.enabled 0x29 then 0 else 1, s.coefWrite d)

/-- A write to SHADOW.DATA with the STATUS of R108. -/
def writeShadow (s : State) (d : Word) : Nat × State :=
  let k := s.sat (s.get R.SHADOW_PORT_SEL)
  (if !k.queue.contains (s.get R.SHADOW_ADDR) && k.queue.length == 64 then 1 else 0, s.doShadowWrite d)

/-- The registers whose write acts at once by a rule of its own; none for every other register. -/
def writeSpecial (s : State) (p : Port) (a : Nat) (d : Word) : Option (Nat × State) :=
  if a = 0x0004C then some (0, if d.getLsbD 0 then { s with snapReq := true } else s)
  else if a = 0x01040 then some (0, s.writeUnlock p d)
  else if a = 0x07048 then some (0, s.calNow d)
  else if 0x0C100 ≤ a ∧ a < 0x0C180 ∧ a % 16 = 0 then some (0, s.cmpArm ((a - 0x0C100) / 16) d)
  else if a = 0x29048 then some (s.writeCoef d)
  else if a = 0x39040 then some (0, s.doLensFlush d)
  else if a = 0x40068 then some (0, s.doCreditAdd d)
  else if a = 0x88048 then some (s.writeShadow d)
  else if a = 0x8804C then some (0, s.doShadowForget d)
  else if a = 0x90068 then some (0, s.writeHkGo d)
  else if a % 4096 = 0x05C ∨ a % 4096 = 0x21C then
    match xcvrAt (a - 0x05C) with
    | some x => some (0, s.esGo x d)
    | none => none
  else none

/-- A write to PRBS_ERR_CNT at address `a` clears PRBS_BITS with it (R317). -/
def bitsCleared (s : State) (a : Nat) : State :=
  if a % 4096 = 0x06C ∨ a % 4096 = 0x22C then
    match xcvrAt (a - 0x06C) with
    | some x => (s.set (R.LANE_PRBS_BITS_LO (xcvrBase x)) 0).set (R.LANE_PRBS_BITS_HI (xcvrBase x)) 0
    | none => s
  else s

/-- A write to any other register, field by field (R40, R50, R454). The fields of a crew's entry that only the hub changes ignore
writes (R289, R299). -/
def writeFields (s : State) (p : Port) (a : Nat) (d : Word) : Nat × State :=
  let pg := a / 4096
  let imm := accMask a (fun c => c == .rwI)
  let cnt := accMask a (fun c => c == .ctS)
  let buf := accMask a accBuffered &&& (if 0x40044 ≤ a ∧ a ≤ 0x40060 then crewHost ((a - 0x40044) / 4) else 0xFFFFFFFF)
  let s := if imm = 0 then s else s.wr a ((s.rd a &&& ~~~imm) ||| (d &&& imm))
  let s := if cnt = 0 then s else s.wr a (s.rd a &&& ~~~cnt)
  let s := if 0x0C180 ≤ a ∧ a < 0x0C280 ∧ a % 32 = 0 then s.capRearm ((a - 0x0C180) / 32) d else s
  let s := if cnt = 0 then s else s.bitsCleared a
  if buf = 0 then (0, s)
  else
    match s.selOf a with
    | none => (1, s.selErr pg)
    | some sel => s.stageBuffered p pg (a + 1048576 * sel) buf d (hasAcc a .rwK)

/-- A write performed for a port: its STATUS (R108), and the state. Mirror words, reserved offsets and pages ignore it. -/
def performWrite (s : State) (p : Port) (a : Nat) (d : Word) : Nat × State :=
  if a % 4 ≠ 0 ∨ (pageType (a / 4096)).isNone ∨ 2048 ≤ a % 4096 then (0, s)
  else if a % 4096 = 0x008 then s.writePageCtl p (a / 4096) d
  else if a % 4096 = 0x014 then s.writeEvtClear (a / 4096) d
  else
    match s.writeSpecial p a d with
    | some r => r
    | none => s.writeFields p a d

/-! The arbiter (R55, R57, R109, R390, R392). -/

/-- The ring position, where valid. -/
def ringPos (s : State) : Option Nat :=
  if s.flag R.RING_STATUS_POS_VALID then some (s.get R.RING_STATUS_POS) else none

/-- A frame is addressed to this hub (R390). -/
def ringMine (s : State) (f : RingFrame) : Bool := frameNames f (s.get R.ID_HUB_NUMBER) s.ringPos

/-- A frame of the hub's own waits for the next gap of the ring, where its 16 characters leave (R386, R391). -/
def ringOwn (s : State) (f : RingFrame) : State :=
  let s := s.emit (.ring f)
  { s with ring := { s.ring with own := s.ring.own + 1 } }

/-- The answer to a Regatta request (R391). -/
def ringAnswer (s : State) (f : RingFrame) (status : Nat) (d : Word) : State :=
  s.ringOwn (resealed true { f with
    dest := f.src, src := BitVec.ofNat 16 (s.get R.ID_HUB_NUMBER), resp := true,
    status := BitVec.ofNat 2 status, data := d })

/-- A control frame answers a request of the Pace link and is kept for a retry (R109). -/
def paceAnswer (s : State) (seq : Byte) (bytes : List Byte) : State :=
  { s with pace := { s.pace with lastReq := some (seq, bytes) } }.sendControl bytes

/-- An access is answered as its origin asks. -/
def answer (s : State) (r : ArbReq) (status : Nat) (d : Word) : State :=
  match r.origin with
  | .host => s.emit (.answer r.port r.addr d status)
  | .pace seq =>
    if r.data.isSome then s.paceAnswer seq [0x82, seq, BitVec.ofNat 8 status]
    else s.paceAnswer seq ([0x81, seq, BitVec.ofNat 8 status] ++ leBytes 4 d.toNat)
  | .ring f =>
    let s := s.countW R.RING_PERFORMED_CNT E.RING_PERF_WRAP
    if frameBroadcast f then s else s.ringAnswer f status d

/-- A request of the Pace link with the SEQ of the one performed last gets the stored answer (R109). -/
def storedAnswer (s : State) (r : ArbReq) : Option (List Byte) :=
  match r.origin, s.pace.lastReq with
  | .pace seq, some (last, bytes) => if last = seq then some bytes else none
  | _, _ => none

/-- The arbiter performs an access and answers it. -/
def serve (s : State) (r : ArbReq) : State :=
  match s.storedAnswer r with
  | some bytes => s.sendControl bytes
  | none =>
    let s := { s with served := r.port }
    match r.data with
    | none => let t := s.performRead r.port r.addr.toNat; t.2.answer r 0 t.1
    | some d =>
      let s := if r.keyed then s.writeUnlock r.port 0x0000C0C5 else s
      let t := s.performWrite r.port r.addr.toNat d
      t.2.answer r t.1 d

/-- The register at address `a` reaches a memory that the sweep has not passed yet (R57). -/
def sweepHolds (s : State) (a : Nat) : Bool :=
  s.phase == .sweeping && match memoryOf a with
    | some m => !s.swept.contains m
    | none => false

/-- An access cannot be performed yet: the sweep has not passed its memory (R57), or it is a KEYED_WRITE whose pair would
straddle a catch (R392). -/
def stalls (s : State) (r : ArbReq) : Bool :=
  s.sweepHolds r.addr.toNat
    || (r.keyed && (s.time.catchDue || s.resyncDue || s.catchNext))

/-- The accesses of a port that wait. -/
def waitingAt (s : State) (p : Port) : List ArbReq := match p with
  | .C => s.arbC
  | .G => s.arbG

/-- The accesses of a port that wait, written. -/
def setWaiting (s : State) (p : Port) (l : List ArbReq) : State := match p with
  | .C => { s with arbC := l }
  | .G => { s with arbG := l }

/-- An access arrives at the arbiter: performed, or it waits behind an access of its port that stalls. A request of the Pace
link that would be the 17th to wait is dropped (R109). While the management clock stands there is no arbiter (R455). -/
def access (s : State) (r : ArbReq) : State :=
  if !s.alive then s
  else
    let l := s.waitingAt r.port
    let pace := match r.origin with
      | .pace _ => true
      | _ => false
    if l.isEmpty && !s.stalls r then s.serve r
    else if pace && decide (17 ≤ l.length) then s.count R.PACEA_CTRL_DROP
    else s.setWaiting r.port (l ++ [r])

/-- The port that is served next: the one not served last, where the access at its head can be performed (R55). -/
def nextPort (s : State) : Option Port :=
  let can (p : Port) : Bool := match s.waitingAt p with
    | r :: _ => !s.stalls r
    | [] => false
  let first : Port := if s.served = .C then .G else .C
  if can first then some first else if can s.served then some s.served else none

/-! The accesses of the host and of the Pace link. -/

/-- A port carries accesses: port C while the Pace link's control channel is received (R115, R424), port G while the ring's bypass is
open (R394). -/
def portOpen (s : State) (p : Port) : Bool := match p with
  | .C => s.controlArrives
  | .G => s.alive && s.flag R.RING_STATUS_BYPASS_OPEN

/-- A write by a host at a port. -/
def hostWrite (s : State) (p : Port) (a : Nat) (d : Word) : State :=
  if s.portOpen p then s.access ⟨p, BitVec.ofNat 20 a, some d, false, .host⟩ else s

/-- A read by a host at a port. -/
def hostRead (s : State) (p : Port) (a : Nat) : State :=
  if s.portOpen p then s.access ⟨p, BitVec.ofNat 20 a, none, false, .host⟩ else s

/-- A write that sets the bits `d` of a word and leaves the word's other bits as they stand. -/
def hostSet (s : State) (p : Port) (a : Nat) (d : Word) : State := s.hostWrite p a (s.rd a ||| d)

/-- PAGE_RESET_REQUEST (R37). -/
def doPageReset (s : State) (p : Port) (pg : Nat) : State := s.hostSet p (pg * 4096 + 0x008) 2

/-- A request frame of the Pace link reaches the arbiter while a lane delivers frames (R109, R115). -/
def paceRequest (s : State) (seq : Byte) (a : RegAddr) (d : Option Word) : State :=
  if s.controlArrives then s.access ⟨.C, a, d, false, .pace seq⟩ else s

end State

end Sys2Proof.Machine
end

