-- ==== Sys2Proof/Machine/Ring.lean ====
section
/-! DEFINITION. The Regatta ring (chapter 19): requests and their answers, frames that pass, walks, HELLOs, framing errors and
the bypass. The elastic buffer of R386 works on single characters, which RING_FRAME_PASS brings (log entry 51). -/

namespace Sys2Proof.Machine

/-- COUNT of a walk (R397). -/
def frameCount (f : RingFrame) : Nat := f.data.toNat % 512

/-- HOPS of a HELLO (R391). -/
def frameHops (f : RingFrame) : Nat := f.addr.toNat % 512

namespace State

/-- The hub takes frames from the ring while its bypass is open (R394). -/
def ringOpen (s : State) : Bool := s.alive && s.flag R.RING_STATUS_BYPASS_OPEN

/-- Every frame with a bad CRC counts (R391). -/
def ringCrc (s : State) (f : RingFrame) : State :=
  if ringOk f then s else (s.count R.RING_CRC_ERR_CNT).raise E.RING_CRC_ERR

/-- A frame goes on unchanged. -/
def ringForward (s : State) (f : RingFrame) : State := s.emit (.ring f)

/-- A frame of operation `op` that is this row's: the bypass is open, the OP is the row's, and the frame is a request. -/
def ringTakes (s : State) (f : RingFrame) (op : Nat) : Bool := s.ringOpen && f.op.toNat == op && !f.resp

/-- A request that the arbiter performs: addressed, it is taken from the ring and answered; broadcast, it goes on and is performed
where `cast`; otherwise it goes on (R391). -/
def ringRequest (s : State) (f : RingFrame) (r : ArbReq) (cast : Bool) : State :=
  let s := s.ringCrc f
  if s.ringMine f then (if ringOk f then s.access r else s)
  else
    let s := s.ringForward f
    if frameBroadcast f && cast && ringOk f then s.access r else s

/-- A Regatta frame's request of the arbiter. -/
def ringReq (f : RingFrame) (write keyed : Bool) : ArbReq :=
  ⟨.G, f.addr.setWidth 20, if write then some f.data else none, keyed, .ring f⟩

/-- RING_READ (R390). -/
def doRingRead (s : State) (f : RingFrame) : State :=
  if s.ringTakes f 1 then s.ringRequest f (ringReq f false false) false else s

/-- RING_WRITE (R390). -/
def doRingWrite (s : State) (f : RingFrame) : State :=
  if s.ringTakes f 2 then s.ringRequest f (ringReq f true false) true else s

/-- KEYED_WRITE (R392). -/
def doKeyedWrite (s : State) (f : RingFrame) : State :=
  if s.ringTakes f 3 then s.ringRequest f (ringReq f true true) true else s

/-- The walk as it goes on (R397): COUNT one more, saturating, TAINT with this hub's own, and its CRC. -/
def walkOn (s : State) (f : RingFrame) : RingFrame :=
  let d := setBits f.data 0 9 (min 511 (frameCount f + 1))
  resealed (ringOk f) { f with data := if s.tainted then setBits d 24 1 1 else d }

/-- What a hub keeps of a walk with a good CRC (R397, R399). -/
def walkKeep (s : State) (f : RingFrame) : State :=
  let n := frameCount f
  let s := if n ≤ 255 then (s.set R.RING_STATUS_POS n).set R.RING_STATUS_POS_VALID 1 else s.set R.RING_STATUS_POS_VALID 0
  let s := (s.set R.RING_STATUS_RING (bits f.data 16 8)).set R.RING_LAST_WALK_COUNT n
  let s := (s.set R.RING_LAST_WALK_TAINT (bits f.data 24 1)).setb R.RING_LAST_WALK_ASSIGN (f.addr.getLsbD 0)
  let s := (s.raise E.RING_WALK).countW R.RING_WALK_CNT E.RING_WALK_WRAP
  if f.addr.getLsbD 0 && !s.flag R.RING_STATUS_NUMBERED then
    { s with ring := { s.ring with number := some (bits f.data 16 8 * 256 + s.get R.RING_STATUS_POS) } }
  else s

/-- ROLL_CALL (R397): a broadcast; an addressed one goes on unperformed. -/
def doRollCall (s : State) (f : RingFrame) : State :=
  if s.ringTakes f 4 then
    let s := s.ringCrc f
    if frameBroadcast f then
      let s := s.ringForward (s.walkOn f)
      if ringOk f then s.walkKeep f else s
    else s.ringForward f
  else s

/-- An unknown operation (R390). -/
def unknownOp (f : RingFrame) : Bool := f.op.toNat == 0 || decide (6 < f.op.toNat)

/-- RING_PROTO_ERR counts. -/
def ringProto (s : State) : State := s.count R.RING_PROTO_ERR_CNT

/-- HELLO forwarded (R391): HOPS one more, or the HELLO is removed. -/
def doHelloForward (s : State) (f : RingFrame) : State :=
  if s.ringOpen && f.op == 5 && f.resp then
    let s := s.ringCrc f
    let h := frameHops f
    if 256 ≤ h then s.ringProto
    else s.ringForward (resealed (ringOk f) { f with addr := BitVec.ofNat 24 (f.addr.toNat - h + (h + 1)) })
  else s

/-- A frame of an unknown operation (R390). -/
def doRingBadOp (s : State) (f : RingFrame) : State :=
  if s.ringOpen && unknownOp f then ((s.ringCrc f).ringProto).ringForward f else s

/-! The elastic buffer (R386). -/

/-- A frame ended by ABORT, sent or received (R386). -/
def ringAborted (s : State) : State := (s.count R.RING_ABORT_CNT).raise E.RING_ABORT

/-- The characters held without those of the frame being received: that frame's are all from the last SOF on, or all that are held
where its SOF has left. -/
def withoutLast (b : List RingChar) : List RingChar :=
  ((b.reverse.dropWhile (fun c => c != .sof)).drop 1).reverse

/-- A buffer that would overflow with character `c` discards the frame being received, of which nothing is sent; where `c` is that
frame's SOF, nothing of it is held yet. An IDLE between frames that finds no room is lost (R386). -/
def ringOverflow (s : State) (c : RingChar) : State :=
  if s.ring.rxIn then
    let b := if c == .sof then s.ring.buf else withoutLast s.ring.buf
    let s := { s with ring := { s.ring with buf := b, rxDrop := true, rxBytes := none } }
    ((s.count R.RING_OVF_CNT).raise E.RING_OVF).fault 0x98 0x01 0
  else s

/-- A received character enters the buffer, and BUF_LEVEL.HIGH follows the level. -/
def ringPush (s : State) (c : RingChar) : State :=
  if s.ring.rxDrop || !s.ringOpen then s
  else if 32 ≤ s.ring.buf.length then s.ringOverflow c
  else
    let b := s.ring.buf ++ [c]
    let s := { s with ring := { s.ring with buf := b } }
    s.set R.RING_BUF_LEVEL_HIGH (max (s.get R.RING_BUF_LEVEL_HIGH) b.length)

/-- What a character at RING_IN counts for: an ABORT taints (R398) and ends the frame being received, and an error symbol inside a
frame is a protocol error. -/
def ringHeard (s : State) (c : RingChar) : State :=
  match c with
  | .abort =>
    let s := { s with ring := { s.ring with taint := some s.ring.now } }
    if s.ring.rxIn then s.ringAborted else s
  | .error => if s.ring.rxIn then s.ringProto else s
  | _ => s

/-- The characters in a row that RING_READY and the opening of the bypass ask for (R394): valid ones count only while every rail lies
in its monitor window. -/
def ringValid (s : State) (c : RingChar) : State :=
  { s with ring := { s.ring with
    valid := if c == .error || !s.pads.railsOut.isEmpty then 0 else min 16 (s.ring.valid + 1),
    rxIdles := if c == .idle then min 3 (s.ring.rxIdles + 1) else 0 } }

/-- The receiver's place in a frame as a character comes: SOF begins one, ends a discarding, and begins the collecting of data
characters, which any character but data and EOF ends. -/
def ringPlace (s : State) (c : RingChar) : State :=
  match c with
  | .sof => { s with ring := { s.ring with rxIn := true, rxDrop := false, rxBytes := some [] } }
  | .data b => { s with ring := { s.ring with rxBytes := s.ring.rxBytes.map (· ++ [b]) } }
  | .eof => s
  | _ => { s with ring := { s.ring with rxBytes := none } }

/-- The end of a received frame: EOF, ABORT or IDLE, and with it of a discarding. -/
def ringFrameEnd (s : State) (c : RingChar) : State :=
  match c with
  | .eof | .abort | .idle => { s with ring := { s.ring with rxIn := false, rxDrop := false, rxBytes := none } }
  | _ => s

/-- A frame that only passes (R391, rules 1 and 4): an answer, or a request that is neither addressed to this hub nor a
broadcast; a HELLO without RESP is none the hub acts on. -/
def doRingPass (s : State) (f : RingFrame) : State :=
  let mine := (s.ringMine f && f.op != 4) || frameBroadcast f
  if s.ringOpen && !unknownOp f && (if f.resp then f.op != 5 else f.op == 5 || !mine) then
    (s.ringCrc f).ringForward f
  else s

/-- An EOF completes the frame whose 14 data characters came since the SOF (R389): one that only passes is handled; every other is
told by the row of its own (log entry 51). -/
def ringComplete (s : State) (c : RingChar) : State :=
  match c, s.ring.rxBytes.bind ringFrameOf with
  | .eof, some f => s.doRingPass f
  | _, _ => s

/-- A character is received at RING_IN. -/
def ringRx (s : State) (c : RingChar) : State :=
  ((((((s.ringValid c).ringPlace c).ringHeard c).ringPush c).ringComplete c).ringFrameEnd c)

/-- The hub sends the oldest character held. -/
def ringPop (s : State) (c : RingChar) (rest : List RingChar) : State :=
  let inFrame := match c with
    | .sof => true
    | .data _ | .error => s.ring.txIn
    | _ => false
  { s with ring := { s.ring with
    buf := rest, txIn := inFrame, idles := if c == .idle then min 2 (s.ring.idles + 1) else 0 } }

/-- The hub sends an IDLE of its own. -/
def ringIdle (s : State) : State := { s with ring := { s.ring with idles := min 2 (s.ring.idles + 1) } }

/-- A character between frames: an inserted IDLE where nothing is held; a received frame begins only with its SOF and both DEST
characters held and two IDLEs sent before it (R386). -/
def ringGap (s : State) : State :=
  match s.ring.buf with
  | [] => (s.ringIdle).countW R.RING_INSERT_CNT E.RING_INSERT_WRAP
  | .sof :: rest => if 2 ≤ rest.length && s.ring.idles == 2 then s.ringPop .sof rest else s.ringIdle
  | c :: rest => s.ringPop c rest

/-- The oldest IDLE is discarded where more than it is held and the last two characters sent were IDLE (R386). -/
def ringDelete (s : State) : State :=
  match s.ring.buf with
  | .idle :: c :: rest =>
    if s.ring.idles == 2 then
      ({ s with ring := { s.ring with buf := c :: rest } }).countW R.RING_DELETE_CNT E.RING_DELETE_WRAP
    else s
  | _ => s

/-- A character falls due at RING_OUT (R386): the rest of a frame of the hub's own; the next of a received frame, or ABORT where the
buffer has run empty inside it, the rest being discarded; between frames, a frame of the hub's own after two IDLEs, or else what the
buffer gives. -/
def ringTx (s : State) : State :=
  if !s.ringOpen then s
  else if 0 < s.ring.ownLeft then { s with ring := { s.ring with ownLeft := s.ring.ownLeft - 1, idles := 0 } }
  else if s.ring.txIn then
    match s.ring.buf with
    | [] =>
      let s := { s with ring := { s.ring with txIn := false, idles := 0, rxDrop := s.ring.rxIn } }
      (s.ringAborted).emit .ringAbort
    | c :: rest => s.ringPop c rest
  else if 0 < s.ring.own && s.ring.idles == 2 then
    { s with ring := { s.ring with own := s.ring.own - 1, ownLeft := 15, idles := 0 } }
  else (s.ringDelete).ringGap

/-- The characters of both lines, in order of time. -/
def ringSlots (s : State) (l : List RingSlot) : State :=
  l.foldl (fun s e => match e with
    | .rx control b => s.ringRx (ringChar control b)
    | .tx => s.ringTx) s

/-- RING_FRAME_PASS (R386, R391): the characters that came and went since the last such command, and a frame that only passes. -/
def doRingFramePass (s : State) (l : List RingSlot) (f : Option RingFrame) : State :=
  let s := if s.alive then s.ringSlots l else s
  match f with
  | some f => s.doRingPass f
  | none => s

/-- What a RING_RESET frame does before the reset itself (R393): the answer or the forwarding, and whether the hub resets. -/
def ringResetFrame (s : State) (f : RingFrame) : Bool × State :=
  if s.ringTakes f 6 then
    let s := s.ringCrc f
    let ok := f.data == 0x0000C0C5
    if s.ringMine f then
      if !ringOk f then (false, s)
      else if ok then (true, (s.countW R.RING_PERFORMED_CNT E.RING_PERF_WRAP).ringAnswer f 0 f.data)
      else (false, s.ringAnswer f 2 f.data)
    else
      let s := s.ringForward f
      (frameBroadcast f && ringOk f && ok, s)
  else (false, s)

/-- RING_FRAMING_ERROR (R384, R398): the receiver delivers an error symbol, which enters the elastic buffer; the event at most once
per millisecond. -/
def doRingFraming (s : State) (inFrame : Bool) : State :=
  if s.alive then
    let s := s.count R.RING_FRAMING_ERR_CNT
    let s := (if inFrame || s.ring.rxIn then s.ringProto else s).ringPush .error
    let s := s.ringValid .error
    let s := { s with ring := { s.ring with taint := some s.ring.now, rxBytes := none } }
    let quiet := match s.ring.told with
      | some t => decide (s.ring.now - t < ringMs)
      | none => false
    if quiet then s else { s.raise E.RING_FRAMING_ERR with ring := { s.ring with told := some s.ring.now } }
  else s

/-- The ring's time goes on by a crossing of 10^6 / f_BC ns, f_BC in kHz with 21 fractional bits: nothing on the ring depends on f_BC. -/
def ringClock (s : State) : State :=
  { s with ring := { s.ring with now := s.ring.now + 1000000 * 2 ^ 53 / s.clk.fbc } }

/-- The hub's HELLO is due (R400): the first after the bypass has opened, and while the hub is not NUMBERED the next 1 s after the
last. -/
def helloDue (s : State) : Bool :=
  s.ring.hello
    || (!s.flag R.RING_STATUS_NUMBERED && decide (1000 * ringMs ≤ s.ring.now - s.ring.helloAt))

/-- HELLO_SEND (R400). -/
def doHelloSend (s : State) : State :=
  if s.ringOpen && s.helloDue then
    { s with ring := { s.ring with hello := false, helloAt := s.ring.now } }.ringOwn (resealed true {
      dest := 0xFFFF, src := BitVec.ofNat 16 (s.get R.ID_HUB_NUMBER), op := 5, pos := true, resp := true, status := 0,
      addr := 0, data := BitVec.ofNat 32 (s.get R.ID_DEVICE + s.get R.RING_STATUS_NUMBERED * 65536), crc := 0 })
  else s

/-- The bypass changes (R394, R398); the characters held in the elastic buffer are lost when it closes (R396). -/
def bypassChange (s : State) (open_ : Bool) : State :=
  let s := ((s.setb R.RING_STATUS_BYPASS_OPEN open_).count R.RING_BYPASS_CNT).raise E.RING_BYPASS
  { s with ring := { s.ring with
    hello := open_, taint := some s.ring.now, buf := [], rxDrop := s.ring.rxIn, rxBytes := none, txIn := false, own := 0, ownLeft := 0, idles := 0,
    valid := if open_ then s.ring.valid else 0 } }

/-- RING_READY (R394): in service, with every rail in its monitor window, the XO stable, and 16 valid characters received in a row. -/
def ringReady (s : State) : Bool :=
  s.phase == .running && s.pads.railsOut.isEmpty && s.clk.xoStable && !s.clk.xoFailed && s.ring.valid == 16

/-- BYPASS_OPEN (R394): RING_READY holds, and the last characters received are three IDLEs. -/
def doBypassOpen (s : State) : State :=
  if s.ringReady && !s.flag R.RING_STATUS_BYPASS_OPEN && s.ring.rxIdles == 3 then s.bypassChange true else s

/-- BYPASS_CLOSE (R394). -/
def doBypassClose (s : State) : State := if s.ringOpen then s.bypassChange false else s

/-- NUMBERED sets at a catch (R399). -/
def becomeNumbered (s : State) : State :=
  if s.flag R.RING_STATUS_NUMBERED then s else (s.set R.RING_STATUS_NUMBERED 1).raise E.RING_NUMBERED

/-- The hub number at a catch, after the staged sets (R399): a keyed write to HUB_NUMBER, or else the pending default. -/
def ringCatch (s : State) (written : Bool) : State :=
  let d := s.ring.number
  let s := { s with ring := { s.ring with number := none } }
  if written then s.becomeNumbered
  else
    match d with
    | none => s
    | some n => if s.flag R.RING_STATUS_NUMBERED then s else (s.set R.ID_HUB_NUMBER n).becomeNumbered

end State

end Sys2Proof.Machine
end

