-- ==== Sys2Proof/Machine/Apply.lean ====
section
/-! DEFINITION. Catch action 3 (R21, R23, R24, R39, R41, R42, R456): page by page, the staged set is applied, refused or discarded,
or the page is reset (R422). -/

namespace Sys2Proof.Machine

/-- The registers of a page that reach a memory, which a page reset keeps (R422). -/
def memoryKey (a : Nat) : Bool :=
  a == 0x29048 || a == 0x88048 || a == 0x89068 || (decide (0x40044 ≤ a) && decide (a ≤ 0x40060))

/-- The read-only bits that show the live state of a function, and so survive a page reset (R422, log entry 54). -/
def liveMask (a : Nat) : Word :=
  let pg := a / 4096
  let off := a % 4096
  let all : Word := 0xFFFFFFFF
  if off = 0x00C then 0xF
  else
    match pageType pg with
    | some 0x00 => if off = 0x048 ∨ off = 0x058 then all else 0
    | some 0x02 => if off = 0x040 ∨ off = 0x04C ∨ off = 0x054 then all else 0
    | some 0x04 => if off = 0x04C then all else 0
    | some 0x06 => if off = 0x040 then all else if off = 0x048 then 0xF else 0
    | some 0x08 => if off = 0x054 ∨ (0x060 ≤ off ∧ off < 0x070) then all else 0
    | some 0x0C => if off = 0x05C ∨ off = 0x060 ∨ off = 0x070 ∨ off = 0x080 then all else 0
    | some 0x0D => if off = 0x088 then all else 0
    | some 0x0E => if pg = 0x0E ∧ (off = 0x080 ∨ off = 0x0B4) then all else if off = 0x214 then 0x47 else 0
    | some 0x30 => if off = 0x058 then all else 0
    | some 0x33 => if 0x048 ≤ off ∧ off < 0x080 ∧ off % 16 = 8 then all else 0
    | some 0x4A => if off = 0x04C then all else 0
    | some 0x50 => if off = 0x054 then 0x47 else 0
    | some 0x78 => if off = 0x214 then 0x47 else 0
    | some 0x90 => if 0x050 ≤ off ∧ off < 0x060 then all else if off = 0x070 then 0xC else 0
    | some 0x98 => if off = 0x040 then all else 0
    | _ => 0

namespace State

/-! Applying. -/

/-- A staged entry takes effect on its register. -/
def applyEntry (s : State) (e : Staged) : State :=
  if pageType e.page = some 0x10 ∧ e.key % 4096 = 0x154 then s.applyTrimTgt e.page e.key e.data
  else s.wr e.key (overlay (s.rd e.key) e)

/-- Staged entries take effect in their order. -/
def applyEntries (s : State) (es : List Staged) : State := forEach es s applyEntry

/-! Refusals. -/

/-- A CLK set is refused for a target that is not READY (R69), or by R72, or for both. A set that disables the page asks for no
switch that could be refused, but R72 judges its band and ratio like any other (DESIGN CHOICE, log entry 66). -/
def clkRefused (s0 cand s : State) (es : List Staged) : Option State :=
  let late := match s0.clkSwitchAsked cand es with
    | some src => !s0.ready src
    | none => false
  let band := s0.clkBandBad cand
  if late || band then
    let s := if late then (s.raise E.CLK_SWITCH_REFUSED).count R.CLK_SWITCH_REFUSED_CNT else s
    some (if band then s.raise E.CLK_BAND_REFUSED else s)
  else none

/-- A TIME set is refused if any of its entries writes ORBIT_LEN = 0 (R83), whether or not a later one writes it over; DETAIL is not
stated (log entry 3). -/
def timeRefused (es : List Staged) (s : State) : Option State :=
  if es.any (fun e => e.key == R.TIME_ORBIT_LEN.key && bits e.data R.TIME_ORBIT_LEN.lo R.TIME_ORBIT_LEN.w == 0) then
    let d := s.draw
    some ((d.2.raise E.TIME_REFUSED).fault 0x0C 1 (Config.free d.1))
  else none

/-- A COX refusal as it is recorded (R411). -/
def coxRefused (s : State) (cause : Nat) : State :=
  ((s.set R.COX_LAST_REFUSE_CAUSE cause).raise E.COX_REFUSED).fault 0x04 1 cause

/-- The refusal of a page's staged set as it is recorded, if a condition of the page is met. `s0` is the state before the catch,
`swapped` whether the Cox has swapped at action 2. -/
def refuse (s0 s : State) (swapped : Bool) (pg : Nat) (es : List Staged) : Option State :=
  let cand := s0.applyEntries es
  match pageType pg with
  | some 0x04 => (s0.coxRefuse s (s.applyEntries es) swapped).map s.coxRefused
  | some 0x08 => clkRefused s0 cand s es
  | some 0x0C => timeRefused es s
  | some 0x10 => if bankRefuse es then some (s.raise (E.BANK_RANGE_REFUSED pg)) else none
  | some 0x28 =>
    let now := { s with profiles := s0.profiles }
    (s0.prismRefuse now (now.applyEntries es) es).map (fun r => s.prismRefused r.1 r.2)
  | some 0x29 => (s0.pcoefRefuse s es).map (fun r => s.pcoefRefused r.1 r.2)
  | some 0x2A => (s0.rsmpRefuse cand es).map s.rsmpRefused
  | some 0x2C => cand.tprimRefuse.map s.tprimRefused
  | some 0x30 => cand.acqRefuse.map (fun r => s.acqRefused r.1 r.2)
  | some 0x31 => if cand.reachFails.isSome then some (s.localRefused 0x31 E.START_REFUSED) else none
  | some 0x32 => if cand.reachFails.isSome then some (s.localRefused 0x32 E.SELF_REFUSED) else none
  | some 0x38 => cand.fragRefuse.map s.fragRefused
  | some 0x40 => (lowestRefusal (s.crewSetApply es).2).map (fun r => s.crewRefused r.1 r.2)
  | some 0x42 => if cand.stnRefuse (pg - 0x42) then some (s.raise (E.STN_REFUSED pg)) else none
  | some 0x89 => cand.satstatRefuse.map s.satstatRefused
  | some 0x90 => cand.hkRefuse.map s.hkRefused
  | some 0x91 => if cand.hkseqRefuse then some s.hkseqRefused else none
  | some 0x92 => cand.hkcurveRefuse.map s.hkcurveRefused
  | _ => none

/-! Page resets (R39, R422). -/

/-- The words of a page after its reset: memories and live bits kept, all else at its reset value. -/
def resetWords (s : State) (pg : Nat) : Assoc Word :=
  s.regs.filterMap (fun e =>
    let a := e.1 % 1048576
    if a / 4096 ≠ pg ∨ memoryKey a then some e
    else
      let m := liveMask a
      let w := (e.2 &&& m) ||| (resetWord e.1 &&& ~~~m)
      if w = resetWord e.1 then none else some (e.1, w))

/-- What a page reset does to the function behind the page, beyond its ENABLE returning to 0. -/
def resetEffect (s : State) (pg : Nat) : State :=
  match pageType pg with
  | some 0x00 =>
    { s.set R.RING_STATUS_NUMBERED 0 with ring := { s.ring with number := none } }
  | some 0x01 => { s with unlockC := false, unlockG := false }
  | some 0x07 => s.calPageReset
  | some 0x0C => { s.set R.TIME_STATUS_TIME_VALID 0 with time := { s.time with ns32 := 0 } }
  | some 0x28 => s.prismReset
  | some 0x30 =>
    let s := { s with accQ := if s.building then s.accQ.take 1 else [] }
    s.set R.ACQ_QUEUE_LEVEL_HIGH s.accQ.length
  | some 0x39 => s.set R.LENS_ENGINES_HIGH s.engines.length
  | some 0x40 => s.crewPageReset.pauseChanged
  | some 0x42 => (s.slipPageReset (pg - 0x42)).pauseChanged
  | some 0x4A => s.set R.DERAND_LEVEL_HIGH s.occupancy
  | some 0x98 => s.set R.RING_BUF_LEVEL_HIGH s.ring.buf.length
  | some 0x70 => forEach (List.range 8) s slipPageReset
  | _ => s

/-- A page reset at action 3: the event bits are cleared, and DISCARDED is the first event after it (R39); events of this catch
are raised after it, at action 9 (R21). A snapshot that this catch has taken (`fresh`) holds the values from before the
reset (R26); an older one is cleared with the page (R52). The holding copies of the ports are no registers of the page, and stay (DESIGN
CHOICE, log entry 67: R53 has them read zero from reset, and R39 names none). -/
def pageReset (s : State) (fresh : Bool) (pg : Nat) : State :=
  let had := !(s.entries pg).isEmpty
  let late := s.evtSeen.filter (fun e => e.page == pg)
  let s := { s with
    regs := s.resetWords pg, snap := if fresh then s.snap else s.snap.filter (fun e => e.1 / 4096 != pg),
    staged := s.staged.filter (fun e => e.page != pg), ovf := s.ovf.filter (· != pg),
    evtSeen := s.evtSeen.filter (fun e => e.page != pg) }
  let s := if had then s.raise (E.DISCARDED pg) else s
  forEach late (s.resetEffect pg) raise

/-! Action 3. -/

/-- What a page's applied set does at once beyond its register words. -/
def appliedEffect (s : State) (pg : Nat) (es : List Staged) : State :=
  match pageType pg with
  | some 0x02 => s.tcuApplied (if pg = 0x02 then .A else .B)
  | some 0x04 => s.coxApplied
  | some 0x28 => s.prismApplied es
  | some 0x29 => s.pcoefApplied es
  | some 0x90 => s.excRestart es
  | _ => s

/-- A page's set has applied: PEND_COUNT is cleared, APPLIED_CN_LO updated, APPLIED raised (R41). -/
def markApplied (s : State) (pg : Nat) : State := (s.set (R.APPLIED_CN_LO pg) s.cnN).raise (E.APPLIED pg)

/-- A page at action 3; the state, and the entries that have applied. -/
def pageCatch (s0 s : State) (swapped : Bool) (pg : Nat) : State × List Staged :=
  if s0.resetAsked pg then (s.pageReset s0.snapReq pg, [])
  else
    let es := s.entries pg
    let drop (s : State) : State := { s with
      staged := s.staged.filter (fun e => e.page != pg), ovf := s.ovf.filter (· != pg) }
    if s.ovf.contains pg then ((drop s).raise (E.DISCARDED pg), [])
    else if es.isEmpty then (s, [])
    else
      match refuse s0 s swapped pg es with
      | some s => (drop s, [])
      | none =>
        let s := drop s
        let s := if pageType pg = some 0x40 then (s.crewSetApply es).1 else s.applyEntries es
        ((s.appliedEffect pg es).markApplied pg, es)

/-- Action 3 over all pages; the state, and all entries that have applied. -/
def pagesCatch (s0 s : State) (swapped : Bool) : State × List Staged :=
  allPages.foldl (fun (r : State × List Staged) pg =>
    let t := pageCatch s0 r.1 swapped pg
    (t.1, r.2 ++ t.2)) (s, [])

end State

end Sys2Proof.Machine
end

