-- ==== Sys2Proof/Machine/Catch.lean ====
section
/-! DEFINITION. The catch (R17, R21, R26, R104, R426, R427) and the full resynchronisation (R18, R90). -/

namespace Sys2Proof.Machine

/-- The bits of the word at an address that belong to counters. -/
def counterMask (a : Nat) : Word := accMask a (fun c => c == .ctS || c == .ctW)

namespace State

/-- Action 1 (R52): every counter is copied into its mirror word with its value at the end of the previous stroke. -/
def snapshotCatch (s : State) : State :=
  if s.snapReq then
    { s with
      snap := s.strokeEnd.filterMap (fun (e : Nat × Word) =>
        let w := if e.1 < 1048576 then e.2 &&& counterMask e.1 else 0
        if w = 0 then none else some (e.1, w)),
      snapReq := false }.set R.ID_SNAP_CN_LO s.cnN
  else s

/-! Run state, MOOR and WAKE (R104, R426 to R429). -/

/-- The hub leaves Moored: banks power up, lanes and links come back, the clock relocks, the time is to be checked. -/
def wakeUp (s : State) : State :=
  let s := (s.set R.TIME_STATUS_MOORED 0).clkWake.laneWake
  let s := forEach (List.range 24) s calWake
  { s with time := { s.time with wake := if s.enabled 0x08 then some ⟨none, none⟩ else none } }

/-- The hub moors. -/
def moorNow (s : State) : State :=
  let s := (s.set R.TIME_STATUS_MOORED 1).clkMoor.slipMoor.laneMoor
  forEach (List.range 24) s calMoor

/-- A run starts at this catch (R104, R213, R242, R415). -/
def startRun (s : State) : State :=
  { s.set R.PACEA_RUN_ACTIVE 1 with runStart := s.time.cr, evNo := 0, easyBroken := false }

/-- A remaining WAKE, or a lane that returned with WAKE_ON_LINK, acts first. -/
def wakeCatch (s : State) : State :=
  if s.moored && (s.pace.moorCmd == some false || s.pace.linkWake) then s.wakeUp else s

/-- Then the run state is settled; a run that would be active while the hub stays Moored is refused. -/
def runCatch (s : State) : State :=
  match s.pace.runCmd with
  | none => s
  | some true => if s.moored then s.refuseCommand else s.startRun
  | some false => s.set R.PACEA_RUN_ACTIVE 0

/-- Then a remaining MOOR; refused while a run is active. -/
def moorCatch (s : State) : State :=
  if s.pace.moorCmd == some true then (if s.running then s.refuseCommand else s.moorNow) else s

/-- The commands of the stroke act at the catch; a MOOR that was received while the hub was Moored changes nothing (R426). -/
def commandsCatch (s : State) : State :=
  let was := s.moored
  let s := s.wakeCatch.runCatch
  let s := if was then s else s.moorCatch
  { s with pace := { s.pace with runCmd := none, moorCmd := none, linkWake := false, trigErr := s.pace.trigErr - 1 } }

/-! The stroke. -/

/-- A new stroke begins with this crossing (R22, R42, R45, R90): what the settings were is kept for the samples in the pipeline,
overflowed queues accept again, both unlocks lapse, and a stroke that a named resynchronisation will cut short or lengthen
is marked. -/
def strokeStart (s0 s : State) : State :=
  { s with
    prevRegs := s0.regs, prevFades := s0.fades, prevRateCr := s0.rateCr,
    time := { s.time with catchDue := false, lastCatch := s.time.cr, catches := s.time.catches + 1 } }.markIrregular

/-- The staged sets and what follows from them block by block: action 3 and its consequences (R21). A clock source that this catch
loses by disabling its PACE page enters COAST after the catch's relock choice, so its relock waits for the next catch (DESIGN
CHOICE, log entry 66). -/
def settingsCatch (s0 s : State) (swapped : Bool) (phase : Int) : State × List Staged :=
  let r := pagesCatch s0 s swapped
  let es (pg : Nat) : List Staged := r.2.filter (fun e => e.page == pg)
  let s := r.1
  let s := if (es 0x08).isEmpty && !s0.resetAsked 0x08 then s else clkApplied s0 s (es 0x08) phase
  let s := clkRelock s0 s
  let s := s.ringCatch (r.2.any (fun e => e.key == R.ID_HUB_NUMBER.key))
  let s := if s.get R.ID_HUB_NUMBER = s0.get R.ID_HUB_NUMBER then s
    else { s with hubSegs := (s.time.cr, s.get R.ID_HUB_NUMBER) :: s.hubSegs }
  (((s.alignHold).paceEnables s0).paceRevert, r.2)

/-- Actions 4 to 9 (R21). -/
def actionsCatch (s0 s : State) (applied : List Staged) (resync : Bool) : State :=
  let rsmp := applied.filter (fun e => e.page == 0x2A)
  let s := forEach (List.range 24) s (fun s b => calCatch s0 s b)
  let s := (tapCatch s0 s).fadesCatch
  let s := rsmpApplied s0 (rsmpToggled s0 s) rsmp
  let s := (streamsCatch s0 s resync).servoCatch (delayChans rsmp)
  let s := s.satCatch
  let s := (if resync then s.satResyncAll else s).satServo
  let s := laneCatch s0 (slipCatch s0 s.laneSwitch)
  let s := if s0.time.catches = 0 then s else s.sigCatch (s0.time.cn - 1)
  let s := s.neighCatch
  let s := tprimCatch s0 s (applied.any (fun e => e.page == 0x2C))
  let s := hkCatch s0 s.acqCatch
  (s.wakePrune.coxCatchEnd).fire 0x17

/-- The catch of this crossing (R21): `s0` is the state before it, `s` that state with CN set where a full resynchronisation
makes the catch; `phase` is the target's phase that the clock has measured over the stroke (R71). The release checks come before the
staged sets of the same catch (DESIGN CHOICE, log entry 27: R167 and R21 place neither before the other). -/
def catchNow (s0 s : State) (phase : Int) (resync : Bool) : State :=
  let s := (strokeStart s0 s).snapshotCatch
  let t := s.coxDecides (s0.time.cn - 1)
  let swapped := t.activeUnit != s.activeUnit
  let s := (releasesEnd s0 t.coxHost.fadesEnd).clkCatchStart
  let r := settingsCatch s0 s swapped phase
  let s := r.1.timeCatch.commandsCatch
  let s := actionsCatch s0 s r.2 resync
  { s.neighSend with ovf := [], unlockC := false, unlockG := false }

/-- CATCH (R17, R21): due in the crossing whose CN mod 256 is 0. -/
def doCatch (s : State) (phase : BitVec 16) : State :=
  if s.alive && s.time.catchDue then catchNow s s phase.toInt false else s

/-- A full resynchronisation sets CN (R88, R90, R94, R116, R236): the jump is recorded, a new alignment comes in, HOLD ends on a
Pace clock. -/
def setCn (s : State) (c : BitVec 64) : State :=
  let jump := clampI (-2147483648) 2147483647 (c - s.time.cn).toInt
  let s := ((s.seti R.TIME_LAST_JUMP jump).raise E.TIME_RESYNC).set R.TIME_STATUS_RESYNC_PENDING 0
  let s := { s with
    cnSegs := (s.time.cr, c) :: s.cnSegs,
    time := { s.time with cn := c, resync := .idle } }
  let s := match s.time.newAlign with
    | none => s
    | some (k, ph) =>
      { s.set R.SYNC_ALIGN_K k with time := { s.time with newAlign := none, alignTgt := (ph : Int) } }
  let s := if s.lockedToPace then s.endHold else s
  s.neighResync.cmpLate 0 0

/-- FULL_RESYNC (R90): at the named catch the hub sets CN and makes a catch. The phase that the clock has measured of a target over
the stroke (R71) is a free value here, within ±1/2 cr: the row carries none (log entry 2). -/
def doFullResync (s : State) : State :=
  match s.time.resync with
  | .named _ c =>
    if s.alive && s.resyncDue then
      let d := s.draw
      let s := d.2
      let t := catchNow s (s.setCn c) ((Config.free d.1 % 4096 : Nat) - 2048) true
      if t.get R.SYNC_ALIGN_K = s.get R.SYNC_ALIGN_K then t else t.reachResync
    else s
  | _ => s

end State

end Sys2Proof.Machine
end

