-- ==== Sys2Proof/Machine/Tick.lean ====
section
/-! DEFINITION. The passing of a crossing (R17, R20, R83, R105): the datapath's work of the crossing that ends, CN and Hub Time,
and what begins with the next crossing. -/

namespace Sys2Proof.Machine

namespace State

/-- The status entry of the crossing that ends (R74, R90, R215): those of the last 8,192 crossings are kept, with their marks. -/
def statTick (s : State) : State :=
  let v := (if s.coast then 1 else 0) + (if s.time.irregular then 2 else 0)
  let l := s.stat.filter (fun (e : Nat × Nat) => decide (s.time.cr < e.1 + 8192))
  { s with stat := if v = 0 then l else Assoc.put l s.time.cr v,
           marks := s.marks.filter (fun m => decide (s.time.cr < m.1 + 8192)) }

/-- A stage of the datapath that handles crossing t − k in crossing t. -/
def late (s : State) (k : Nat) (f : State → Nat → State) : State := if k ≤ s.time.cr then f s (s.time.cr - k) else s

/-- The Pace lanes whose transmitters send return frames (R114, R117, R315). -/
def returnLanes (s : State) : List PaceLane :=
  [PaceLane.A, PaceLane.B].filter (fun l =>
    s.enabled l.page && !s.inTest (l.page * 4096 + 0x1C0)
      && !(s.moored && s.flag (R.PACEx_CTL_MOOR_TX_OFF l.page)))

/-- Feathered lanes whose burst is due in the crossing send it, if it has not been told (R308, R309). -/
def burstsTick (s : State) : State := forEach (List.range 24) s doBurst

/-- The symbols that a receiver delivered go on to its link: the upstream items of a Rigger port (R348). -/
def deliver (s : State) (x : Xcvr) (ys : List LineSym) : State := match x with
  | .sat p => s.satStream p.val ys
  | _ => s

/-- What the receivers took from their pins in the crossing that ends (R302, R314). -/
def receiversTick (s : State) (ts : List LaneTraffic) : State :=
  let s := forEach [PaceLane.A, PaceLane.B] s sigTurn
  let s := forEach ts s (fun s t => let r := s.receive t.x t.rx; r.2.deliver t.x r.1)
  { s with codeTold := [] }

/-- The return frame of the crossing leaves coded on the lanes that send it (R105, R301). -/
def returnTick (s : State) : State :=
  if s.pace.sent.isEmpty then s
  else
    let s := forEach s.returnLanes s (fun s l => s.transmit (.pace l) s.pace.sent)
    { s with pace := { s.pace with sent := [] } }

/-- The serial lanes in the crossing that ends (chapter 15). -/
def linesTick (s : State) (ts : List LaneTraffic) : State := ((s.burstsTick.returnTick).testsTick ts).receiversTick ts

/-- The work of the crossing that ends: START triggers that nothing has entered yet (R217), the words of this crossing, Prism three crossings later, the hub hit and the resampler five
crossings later, the primitive frames, and the crossing's part of every other block (R20, R122, R160, R161, R182, R205, R230). -/
def endCrossing (s : State) (i : TickIn) : State :=
  let s := (s.startDue.statTick.bankTick i s.time.cr)
  let s := ((s.late 3 prismTick).late 5 rsmpTick).late 5 selfTick
  let s := (s.linesTick i.traffic).tprimTick s.time.cr
  s.lensTick.satTick.slipTick.crewTick.hkWatch.coxTick.clkTick.blindTick.ringClock

/-- The status byte of the return frame (R105). -/
def statusByte (s : State) : Byte :=
  let b (x : Bool) (n : Nat) : Nat := if x then 2 ^ n else 0
  let v := b (s.flag R.DERAND_STATUS_EASY) 7 + b s.attn 6 + b s.coast 5
    + b (s.pace.trigErr != 0 && decide (s.pace.trigErrCr < s.time.cr)) 4 + b (s.flag R.HEALTH_STATUS_NO_MIRROR) 3
    + b (s.flag R.HEALTH_STATUS_DEGRADED) 2 + b (s.flag R.TIME_STATUS_SETTLED) 1
  BitVec.ofNat 8 (v + if ones (BitVec.ofNat 8 v) % 2 = 1 then 0 else 1)

/-- The return frame of the crossing that begins (R105, R106, R107, R110). -/
def returnFrame (s : State) : State :=
  let r := s.controlPart
  let comma : Byte := if s.time.lastCatch = s.time.cr ∧ 0 < s.time.catches then 0xBC else 0x3C
  let nE := if s.flag R.DERAND_STATUS_EASY then some (s.pace.nE.getD s.time.cn) else none
  let ls := s.returnLanes
  let s := { s with pace := { s.pace with frameDue := false, sent := [] } }
  if ls.isEmpty then s
  else
    let s := { s with pace := { s.pace with
      txCur := r.2.1, txq := r.2.2, nE := nE, sent := [symK comma, symD s.statusByte] ++ r.1 } }
    s.emit (.paceReturn ls comma s.statusByte r.1)

/-- What begins with a crossing: the words on the neighbour ports, which in a catch's crossing follow the catch, packets on the
Slipway links; the Pace return frame is due. -/
def beginCrossing (s : State) : State :=
  let s := s.hitsPrune
  let s := (if s.time.catchDue || s.resyncDue then s else s.neighSend).slipGo
  { s with pace := { s.pace with frameDue := true } }

/-- The sweep has passed some of the memories, one after another (R57); which, in this crossing, is a free value (log entry 65). -/
def sweepTick (s : State) : State :=
  if s.phase == .sweeping then
    let d := s.draw
    { d.2 with swept := (List.range 8).filter (fun m => s.swept.contains m || (Config.free d.1).testBit m) }
  else s

/-- The new crossing is a catch's: the register words that the old one has left are the values at the end of the stroke (R52). -/
def strokeOver (s0 s : State) : State :=
  if s.time.catchDue || s.resyncDue then { s with strokeEnd := s0.regs } else s

/-- CROSSING_TICK (R83): the crossing ends and the next begins. A catch that is due in the crossing comes first. -/
def doCrossingTick (s : State) (i : TickIn) : State :=
  if s.alive && !s.time.catchDue && !s.resyncDue then
    let s := s.endCrossing i
    (strokeOver s s.timeTick).beginCrossing.sweepTick
  else s

end State

end Sys2Proof.Machine
end

