-- ==== Sys2Proof/Machine/Flags.lean ====
section
/-! DEFINITION. The flags that the hub evaluates at every core clock and that every command therefore leaves true: the event
matrix's deliveries (R59), the derandomiser's and the queue's throttle (R224, R282, R283, R287), the conditions of R415 and
R416, and SETTLED (R91); and the frame in which every command is performed. -/

namespace Sys2Proof.Machine

namespace State

/-! The event matrix (R59, R372). -/

/-- A firing in core clock `cc` of this crossing may reach the task inputs, 2 cc later, under what a catch's TASK_SEL has made of them
(R22, R59, R60). -/
def crossesCatch (s : State) (cc : Nat) : Bool :=
  s.time.catchDue || s.resyncDue || (decide (14 ≤ cc) && s.catchNext)

/-- Source `src` fired in core clock `cc` of this crossing; it joins the others of that clock. A source that no task selects, nor
could select when it reaches the task inputs, goes nowhere. -/
def noteFiring (s : State) (src cc : Nat) : State :=
  if (List.range 64).any (fun n => s.taskSelects n src) || s.crossesCatch cc then
    let here (f : Firing) : Bool := f.cr == s.time.cr && f.cc == cc
    { s with evmq :=
        if s.evmq.any here then s.evmq.map (fun f => if here f then { f with srcs := f.srcs ++ [src] } else f)
        else s.evmq ++ [⟨s.time.cr, cc, [src]⟩] }
  else s

/-- The sources that this command has fired are on their way to the task inputs. -/
def noteFirings (s : State) : State := forEach s.fired s (fun s f => s.noteFiring f.1 f.2)

/-- The compare units and pulse timers that fired start the housekeeping sequences that select them (R372). -/
def hkStarts (s : State) : State :=
  forEach (s.fired.map (·.1)) s (fun s n =>
    if n < 8 then s.hkSource 1 n else if 0x1C ≤ n ∧ n < 0x20 then s.hkSource 2 (n - 0x1C) else s)

/-! The throttle (R224, R282, R283, R285, R287). -/

/-- A fragment has become stranded (R287). -/
def strandedFlag (s : State) : State :=
  let ids := s.stranded.map (·.id)
  let new := s.held.any (fun h => ids.contains h.id && !h.told)
  let s := { s with held := s.held.map (fun (h : Held) => { h with told := ids.contains h.id }) }
  if new then s.raise E.DERAND_STRANDED else s

/-- EASY_REQ of the derandomiser: set at 85 %, cleared at 50 % (R282). -/
def derandAsks (s : State) : Bool :=
  if 111412 ≤ s.occupancy then true else if s.occupancy ≤ 65536 then false else s.flag R.DERAND_STATUS_EASY_REQ

/-- EASY_REQ of the accept queue: set at QUEUE_EASY entries, cleared at half of it (R224). -/
def queueAsks (s : State) : Bool :=
  let q := s.get R.ACQ_QUEUE_EASY
  if q ≤ s.accQ.length then true else if 2 * s.accQ.length ≤ q then false else s.flag R.ACQ_STATUS_EASY_REQ

/-- Offered class-B fragments are shed (R285). -/
def shedOn (s : State) : Bool := decide (117965 ≤ s.occupancy)

/-- DERAND.STATUS as R282 and R283 give it. -/
def throttleWord (s : State) : Nat :=
  (if s.priorityOn then 1 else 0) + (if s.derandAsks then 2 else 0) + (if s.shedOn then 4 else 0)
    + (if s.derandAsks || s.queueAsks then 8 else 0)

/-- An event where a flag rises. -/
def rise (s : State) (was now : Bool) (e : Ev) : State := if !was && now then s.raise e else s

/-- The throttle's flags and their events; EASY rising is counted and begins a new episode of the contract (R106). -/
def throttleFlags (s : State) : State :=
  let asks := s.derandAsks
  let queue := s.queueAsks
  let word := s.throttleWord
  let easy := asks || queue
  let was := s.flag R.DERAND_STATUS_EASY
  let s := s.rise (s.flag R.DERAND_STATUS_PRIORITY) s.priorityOn E.DERAND_PRIORITY
  let s := s.rise (s.flag R.DERAND_STATUS_SHED) s.shedOn E.DERAND_SHED_ON
  let s := s.rise (s.flag R.DERAND_STATUS_EASY_REQ) asks E.DERAND_EASY_ON
  let s := s.rise (!s.flag R.DERAND_STATUS_EASY_REQ) (!asks) E.DERAND_EASY_OFF
  let s :=
    if !was && easy then
      let s := (s.count R.DERAND_EASY_CNT).set R.PACEA_EASY_ACCEPTS 0
      { s with pace := { s.pace with breach := false } }
    else s
  let s := if easy then s else { s with pace := { s.pace with nE := none } }
  (s.set ⟨R.DERAND_STATUS_PRIORITY.key, 0, 4⟩ word).setb R.ACQ_STATUS_EASY_REQ queue

/-! Health (R415, R416). -/

/-- No enabled bank has its spare in PERMANENT or LOST, and no channel is DEAD. -/
def sparesOk (s : State) : Bool :=
  (List.range 24).all (fun b =>
    let k := s.bank b
    !s.enabled (0x10 + b) || (k.spare != spPermanent && k.spare != spLost && k.dead == 0))

/-- Bit [2] of the Pace return status (R105). -/
def degraded (s : State) : Bool :=
  (List.range 24).any (fun b =>
      let k := s.bank b
      s.enabled (0x10 + b) && (k.spare == spPermanent || k.dead != 0))
    || (List.range 8).any (fun n => s.linkState n == slipUp
      && (groupSize3 (s.txg n) == 2 || groupSize3 (s.get (R.SLIP_STNn_STATUS_RXG n)) == 2))
    || (List.range 16).any (fun p => s.enabled (0x78 + p) && s.satState p != satRun)

/-- The five conditions of R415, from SUPPLY_OK up. -/
def conditions (s : State) : List Bool :=
  [s.get ⟨R.HEALTH_SUPPLY_LOW.key, 0, 6⟩ == 0 && s.get ⟨R.HEALTH_SUPPLY_LOW.key, 8, 6⟩ == 0, s.get R.HEALTH_TEMP_HOT == 0,
    s.mirrorFit, s.sparesOk, !s.easyBroken]

/-- HEALTH.STATUS as R415 and R416 give it. -/
def healthWord (s : State) : Nat :=
  let b (x : Bool) (n : Nat) : Nat := if x then 2 ^ n else 0
  let c := s.conditions
  b (s.cox.mismatch || !s.mirrorFit) 0 + b s.degraded 1 + b (c.all id) 2
    + (c.mapIdx (fun i x => b x (8 + i))).foldl (· + ·) 0

/-- HEALTH.STATUS, and COND_LOST where a condition has fallen. -/
def healthFlags (s : State) : State :=
  let w := s.healthWord
  let old := s.get ⟨R.HEALTH_STATUS_SUPPLY_OK.key, 8, 5⟩
  let fell := (List.range 5).any (fun i => old / 2 ^ i % 2 == 1 && w / 2 ^ (8 + i) % 2 == 0)
  (if fell then s.raise E.HEALTH_COND_LOST else s).set ⟨R.HEALTH_STATUS_NO_MIRROR.key, 0, 13⟩ w

/-! SETTLED (R91, R97). -/

/-- The conditions of R91; while a hub locked to Pace still checks its time after waking, it is not settled (R97, R429). -/
def settled (s : State) : Bool :=
  s.flag R.TIME_STATUS_TIME_VALID && s.flag R.CLK_STATUS_LOCKED
    && decide ((s.time.alignTgt - s.time.alignCur).natAbs ≤ s.get R.SYNC_ALIGN_DEADBAND)
    && decide (s.time.wakePh.natAbs ≤ s.get R.SYNC_ALIGN_DEADBAND)
    && s.time.resync == .idle
    && (List.range 4).all (fun j => s.nbState j == 0 || s.flag (R.NEIGH_PORTj_STATUS_RECAL_DONE j))
    && !(s.time.wake.isSome && s.lockedToPace)

/-- TIME.STATUS.SETTLED, and its event where it rises. -/
def settledFlag (s : State) : State :=
  let v := s.settled
  (s.rise (s.flag R.TIME_STATUS_SETTLED) v E.TIME_SETTLED).setb R.TIME_STATUS_SETTLED v

/-! The frame of a command. -/

/-- The flags that hold at every core clock. -/
def watch (s : State) : State := s.strandedFlag.throttleFlags.healthFlags.settledFlag

/-- The return frame goes out once the crossing has begun and its catch, if one is due, has been made (R105): the status byte
shows the flags as they stand at cc phase 0, after the catch. -/
def sendFrame (s : State) : State :=
  if s.alive && s.pace.frameDue && !s.time.catchDue && !s.resyncDue then s.watch.returnFrame else s

/-- A command begins in a clock of its own (R47): nothing has been put out and no event has occurred in it yet. -/
def begin_ (s : State) : State := { s with out := [], evtSeen := [], fired := [] }

/-- What follows every command while the hub runs. -/
def finish (s : State) : State := if s.alive then s.noteFirings.hkStarts.watch else s

/-- The access at the head of a port's queue is performed, in a management clock of its own (R47, R55). -/
def serveHead (s : State) (p : Port) : State := match s.waitingAt p with
  | [] => s
  | r :: l => (({ s with evtSeen := [], fired := [] }.setWaiting p l).serve r).finish

/-- The waiting accesses that can be performed now are performed, the ports alternating (R55). -/
def drainArb (s : State) : State :=
  let rec go : Nat → State → State
    | 0, s => s
    | n + 1, s =>
      match s.nextPort with
      | none => s
      | some p => go n (s.serveHead p)
  go (s.arbC.length + s.arbG.length) s

end State

/-- A command's outcome: its body in the frame that every command shares; the queue is none of its business. -/
def perform (body : State → State) (s : State) : Host.Outcome State Fault Refusal :=
  .next { (body s.begin_).finish with pending := s.pending }

/-- The outcome of a command after which accesses that have waited at the arbiter may go ahead (R55, R57, R392). -/
def performArb (body : State → State) (s : State) : Host.Outcome State Fault Refusal :=
  .next { (body s.begin_).finish.drainArb with pending := s.pending }

end Sys2Proof.Machine
end

