-- ==== Sys2Proof/Machine/ExecAccess.lean ====
section
/-! DEFINITION. The meanings of the commands of the accesses of a host at the management ports, as far as the table names them: one definition a command, each over the shared operations of its
block. -/

namespace Sys2Proof.Machine

/-- regWrite (R40): a write at a port reaches the arbiter. -/
def execRegWrite (p : Port) (a : RegAddr) (d : Word) (s : State) : Host.Outcome State Fault Refusal :=
  perform (fun s => s.hostWrite p a.toNat d) s

/-- keyUnlock (R44): a write to KEY.UNLOCK. -/
def execKeyUnlock (p : Port) (d : Word) (s : State) : Host.Outcome State Fault Refusal :=
  perform (fun s => s.hostWrite p 0x01040 d) s

/-- evtClear (R48): a write to a page's EVT_CLEAR. -/
def execEvtClear (p : Port) (pg : BitVec 8) (d : Word) (s : State) : Host.Outcome State Fault Refusal :=
  perform (fun s => s.hostWrite p (pg.toNat * 4096 + 0x014) d) s

/-- counterClear (R50): a write to a counter, which clears it. -/
def execCounterClear (p : Port) (a : RegAddr) (d : Word) (s : State) : Host.Outcome State Fault Refusal :=
  perform (fun s => s.hostWrite p a.toNat d) s

/-- pageResetRequest (R37): a write of 1 to PAGE_CTL.PAGE_RESET. -/
def execPageResetRequest (p : Port) (pg : BitVec 8) (s : State) : Host.Outcome State Fault Refusal :=
  perform (fun s => s.doPageReset p pg.toNat) s

/-- snapshotRequest (R52): a write of 1 to ID.SNAPSHOT.REQ. -/
def execSnapshotRequest (p : Port) (s : State) : Host.Outcome State Fault Refusal :=
  perform (fun s => s.hostWrite p 0x0004C 1) s

/-- coherentGroupRead (R53): a read of the first register of a group, or of any register. -/
def execCoherentGroupRead (p : Port) (a : RegAddr) (s : State) : Host.Outcome State Fault Refusal :=
  perform (fun s => s.hostRead p a.toNat) s

/-- hkResultRead (R377): a read of HKSEQ.RESr.STAT, the first of its group. -/
def execHkResultRead (p : Port) (r : Fin 72) (s : State) : Host.Outcome State Fault Refusal :=
  perform (fun s => s.hostRead p (0x91580 + 8 * r.val)) s

/-- calNow (R150): a write to CAL.NOW. -/
def execCalNow (p : Port) (d : Word) (s : State) : Host.Outcome State Fault Refusal :=
  perform (fun s => s.hostWrite p 0x07048 d) s

/-- coefWrite (R164): a write to PCOEF.COEF. -/
def execCoefWrite (p : Port) (d : Word) (s : State) : Host.Outcome State Fault Refusal :=
  perform (fun s => s.hostWrite p 0x29048 d) s

/-- creditAdd (R290): a write to CREW.CREDIT_ADD. -/
def execCreditAdd (p : Port) (d : Word) (s : State) : Host.Outcome State Fault Refusal :=
  perform (fun s => s.hostWrite p 0x40068 d) s

/-- lensFlush (R270): a write of 1 to LENS.FLUSH. -/
def execLensFlush (p : Port) (s : State) : Host.Outcome State Fault Refusal :=
  perform (fun s => s.hostWrite p 0x39040 1) s

/-- esGo (R318): a write of 1 to a transceiver's ES_GO. -/
def execEsGo (p : Port) (x : Xcvr) (s : State) : Host.Outcome State Fault Refusal :=
  perform (fun s => s.hostWrite p (xcvrBase x + 0x05C) 1) s

/-- shadowDataWrite (R359): a write to SHADOW.DATA. -/
def execShadowDataWrite (p : Port) (d : Word) (s : State) : Host.Outcome State Fault Refusal :=
  perform (fun s => s.hostWrite p 0x88048 d) s

/-- shadowForget (R359): a write of 1 to SHADOW.FORGET. -/
def execShadowForget (p : Port) (s : State) : Host.Outcome State Fault Refusal :=
  perform (fun s => s.hostWrite p 0x8804C 1) s

/-- capRearm (R95): a write of 1 to TIME.CAPn.CTL.REARM, the word's other bits as they stand. -/
def execCapRearm (p : Port) (n : Fin 8) (s : State) : Host.Outcome State Fault Refusal :=
  perform (fun s => s.hostSet p (0x0C180 + 32 * n.val) 0x100) s

/-- cmpArm (R93): a write to TIME.CMPn.CTL. -/
def execCmpArm (p : Port) (n : Fin 8) (d : Word) (s : State) : Host.Outcome State Fault Refusal :=
  perform (fun s => s.hostWrite p (0x0C100 + 16 * n.val) d) s

/-- hkRegGo (R372): a write of 1 to HK.GO.REG. -/
def execHkRegGo (p : Port) (s : State) : Host.Outcome State Fault Refusal :=
  perform (fun s => s.hostWrite p 0x90068 1) s

/-- hkInjGo (R372): a write of 1 to HK.GO.INJ. -/
def execHkInjGo (p : Port) (s : State) : Host.Outcome State Fault Refusal :=
  perform (fun s => s.hostWrite p 0x90068 2) s

/-- hkSelftestGo (R375): a write of 1 to HK.GO.SELFTEST. -/
def execHkSelftestGo (p : Port) (s : State) : Host.Outcome State Fault Refusal :=
  perform (fun s => s.hostWrite p 0x90068 4) s

end Sys2Proof.Machine
end

