-- ==== Sys2Proof/Machine/ExecCal.lean ====
section
/-! DEFINITION. The meanings of the commands of calibration and the coefficient memory: one definition a command, each over the shared operations of its
block. -/

namespace Sys2Proof.Machine

/-- puCalStepEnd (R138): a step of power-up calibration ends. -/
def execPuCalStepEnd (bank : Fin 24) (failed : List (Fin 33)) (s : State) : Host.Outcome State Fault Refusal :=
  perform (fun s => s.doPuStep bank.val (failed.map (·.val))) s

/-- overlapCompare (R144): the comparison of an overlap. -/
def execOverlapCompare (bank : Fin 24) (pairs : Nat) (s : State) : Host.Outcome State Fault Refusal :=
  perform (fun s => s.doCompare bank.val pairs) s

/-- spareSelftestEnd (R149): a spare's self-test ends. -/
def execSpareSelftestEnd (bank : Fin 24) (pass : Bool) (s : State) : Host.Outcome State Fault Refusal :=
  perform (fun s => s.doSpareSelftest bank.val pass) s

/-- stuckSlice (R151): a slice is found stuck. -/
def execStuckSlice (bank : Fin 24) (slice : Fin 33) (s : State) : Host.Outcome State Fault Refusal :=
  perform (fun s => s.doStuck bank.val slice.val) s

/-- pcoefEccFail (R170): a double-bit error in a coefficient. -/
def execPcoefEccFail (profile : Fin 64) (tap : Fin 256) (s : State) : Host.Outcome State Fault Refusal :=
  perform (fun s => s.doCoefEcc profile.val tap.val) s

end Sys2Proof.Machine
end

