-- ==== Sys2Proof/Machine/ExecCrew.lean ====
section
/-! DEFINITION. The meanings of the commands of stations, crews and descriptors: one definition a command, each over the shared operations of its
block. -/

namespace Sys2Proof.Machine

/-- stationSelect (R288): a station takes a fragment. -/
def execStationSelect (n : Fin 8) (s : State) : Host.Outcome State Fault Refusal :=
  perform (fun s => s.doStationSelect n.val) s

/-- descFetch (R292): Descriptors are fetched. -/
def execDescFetch (n : Fin 8) (crew : BitVec 12) (s : State) : Host.Outcome State Fault Refusal :=
  perform (fun s => s.doDescFetch n.val crew.toNat) s

/-- descComplete (R293): a descriptor's last WRITE has been acknowledged. -/
def execDescComplete (n : Fin 8) (s : State) : Host.Outcome State Fault Refusal :=
  perform (fun s => s.doDescComplete n.val) s

/-- quiesceEnd (R298): a crew has become quiet. -/
def execQuiesceEnd (crew : BitVec 12) (s : State) : Host.Outcome State Fault Refusal :=
  perform (fun s => s.doQuiesceEnd crew.toNat) s

/-- stationPaused (R297): a paused station has become quiet. -/
def execStationPaused (n : Fin 8) (s : State) : Host.Outcome State Fault Refusal :=
  perform (fun s => s.doStationPaused n.val) s

end Sys2Proof.Machine
end

