-- ==== Sys2Proof/Machine/ExecFrag.lean ====
section
/-! DEFINITION. The meanings of the commands of fragments, Lens and the derandomiser: one definition a command, each over the shared operations of its
block. -/

namespace Sys2Proof.Machine

/-- fragmentStart (R261): the builder starts a fragment. -/
def execFragmentStart (s : State) : Host.Outcome State Fault Refusal :=
  perform (fun s => s.doFragmentStart) s

/-- fragmentReadEnd (R261): the windows of a fragment have been read. -/
def execFragmentReadEnd (s : State) : Host.Outcome State Fault Refusal :=
  perform (fun s => s.doFragmentReadEnd) s

/-- lensEngineStart (R277): a Lens engine takes a payload. -/
def execLensEngineStart (s : State) : Host.Outcome State Fault Refusal :=
  perform (fun s => s.doEngineStart) s

/-- lensBlockDone (R277): a Lens engine has coded a block. -/
def execLensBlockDone (engine : Fin 64) (s : State) : Host.Outcome State Fault Refusal :=
  perform (fun s => s.doBlockDone engine.val) s

/-- derandOffer (R281): a complete fragment is offered to the derandomiser. -/
def execDerandOffer (s : State) : Host.Outcome State Fault Refusal :=
  perform (fun s => s.doDerandOffer) s

/-- derandAdmit (R281): the waiting offer is admitted. -/
def execDerandAdmit (s : State) : Host.Outcome State Fault Refusal :=
  perform (fun s => s.doDerandAdmit) s

end Sys2Proof.Machine
end

