-- ==== Sys2Proof/Machine/ExecHk.lean ====
section
/-! DEFINITION. The meanings of the commands of housekeeping: one definition a command, each over the shared operations of its
block. -/

namespace Sys2Proof.Machine

/-- hkDelayEnd (R372): a sequence's start delay ends. -/
def execHkDelayEnd (q : HkSeq) (s : State) : Host.Outcome State Fault Refusal :=
  perform (fun s => s.doHkDelayEnd q) s

/-- hkEntryDone (R368, R379): an entry's conversions are done. -/
def execHkEntryDone (codes : HkCodes) (cj : Int) (s : State) : Host.Outcome State Fault Refusal :=
  perform (fun s => s.doHkEntryDone codes cj) s

/-- hkSelftestStart (R375): the converter's self-test starts. -/
def execHkSelftestStart (s : State) : Host.Outcome State Fault Refusal :=
  perform (fun s => s.doHkTestStart) s

/-- hkSelftestDone (R375): the converter's self-test ends. -/
def execHkSelftestDone (ofs1 ofs128 gain1 gain2 : Int) (s : State) : Host.Outcome State Fault Refusal :=
  perform (fun s => s.doHkTestDone ofs1 ofs128 gain1 gain2) s

/-- excSample (R369): the excitation currents are sampled. -/
def execExcSample (i0 i1 i2 i3 : Nat) (s : State) : Host.Outcome State Fault Refusal :=
  perform (fun s => s.doExcSample i0 i1 i2 i3) s

/-- ptPeriod (R374): a pulse timer's period ends. -/
def execPtPeriod (n : Fin 4) (s : State) : Host.Outcome State Fault Refusal :=
  perform (fun s => s.doPtPeriod n.val) s

end Sys2Proof.Machine
end

