-- ==== Sys2Proof/Machine/ExecLane.lean ====
section
/-! DEFINITION. The meanings of the commands of the serial lanes: one definition a command, each over the shared operations of its
block. -/

namespace Sys2Proof.Machine

/-- laneSignalDetect (R303): a receiver sees a signal; a Rigger port leaves DOWN (R355). -/
def execLaneSignalDetect (x : Xcvr) (s : State) : Host.Outcome State Fault Refusal :=
  perform (fun s => (match x with
    | .sat p => (s.doSignalDetect x).satSignalSeen p.val
    | _ => s.doSignalDetect x)) s

/-- laneRxAligned (R303): a receiver is aligned. -/
def execLaneRxAligned (r : CommaRun) (s : State) : Host.Outcome State Fault Refusal :=
  perform (fun s => s.doRxAligned r.x r.commas) s

/-- laneRxLost (R303, R340): a receiver loses alignment. -/
def execLaneRxLost (x : Xcvr) (cause : DownCause) (s : State) : Host.Outcome State Fault Refusal :=
  perform (fun s => s.doLaneRxLost x cause) s

/-- codeError (R302, R357): a code error. -/
def execCodeError (x : Xcvr) (item : SatItem) (s : State) : Host.Outcome State Fault Refusal :=
  perform (fun s => (match x with
    | .sat p => (s.laneCodeError x).doItemError p.val item
    | _ => s.laneCodeError x)) s

/-- featherEnter (R307): a readout lane enters electrical idle. -/
def execFeatherEnter (n : Fin 24) (s : State) : Host.Outcome State Fault Refusal :=
  perform (fun s => s.doFeather n.val) s

/-- squareUpBurst (R308): a readout lane leaves electrical idle with a square-up burst. -/
def execSquareUpBurst (n : Fin 24) (s : State) : Host.Outcome State Fault Refusal :=
  perform (fun s => s.doBurst n.val) s

/-- txPhaseErr (R306): Symbol 0 leaves outside its slot. -/
def execTxPhaseErr (x : Xcvr) (s : State) : Host.Outcome State Fault Refusal :=
  perform (fun s => s.doTxPhase x) s

/-- loopMismatch (R313): a loop monitor finds a mismatch. -/
def execLoopMismatch (x : Xcvr) (s : State) : Host.Outcome State Fault Refusal :=
  perform (fun s => s.doLoopMismatch x) s

/-- chkLock (R317): the pattern checker locks. -/
def execChkLock (x : Xcvr) (s : State) : Host.Outcome State Fault Refusal :=
  perform (fun s => s.doChkLock x) s

/-- chkLost (R317): the pattern checker loses its lock. -/
def execChkLost (x : Xcvr) (s : State) : Host.Outcome State Fault Refusal :=
  perform (fun s => s.doChkLost x) s

/-- esDone (R318): an eye scan ends. -/
def execEsDone (x : Xcvr) (err : Nat) (s : State) : Host.Outcome State Fault Refusal :=
  perform (fun s => s.doEsDone x err) s

/-- laneSignalLost (R303): a receiver that is not aligned loses its signal. -/
def execLaneSignalLost (x : Xcvr) (s : State) : Host.Outcome State Fault Refusal :=
  perform (fun s => s.doSignalLost x) s

end Sys2Proof.Machine
end

