-- ==== Sys2Proof/Machine/ExecPace.lean ====
section
/-! DEFINITION. The meanings of the commands of the Pace link: one definition a command, each over the shared operations of its
block. -/

namespace Sys2Proof.Machine

/-- accept (R101): the trigger byte of a crossing is delivered. -/
def execAccept (a b : Option Byte) (s : State) : Host.Outcome State Fault Refusal :=
  perform (fun s => s.doAccept a b) s

/-- resync (R103): RESYNC: a full resynchronisation starts. -/
def execResync (a b : LaneCopy) (s : State) : Host.Outcome State Fault Refusal :=
  perform (fun s => s.fastCommand 1 0 a b (fun s => s.startResync)) s

/-- snapshot (R103): SNAPSHOT: a snapshot is requested. -/
def execSnapshot (a b : LaneCopy) (s : State) : Host.Outcome State Fault Refusal :=
  perform (fun s => s.fastCommand 2 0 a b (fun s => { s with snapReq := true })) s

/-- orbitReset (R103): ORBIT_RESET: the orbit counters are zeroed at the next orbit-start comma. -/
def execOrbitReset (a b : LaneCopy) (s : State) : Host.Outcome State Fault Refusal :=
  perform (fun s => s.fastCommand 3 0 a b (fun s => { s with time := { s.time with orbitReset := true } })) s

/-- runStart (R103): RUN_START: a run starts at the next catch. -/
def execRunStart (a b : LaneCopy) (s : State) : Host.Outcome State Fault Refusal :=
  perform (fun s => s.fastCommand 4 0 a b (fun s => { s with pace := { s.pace with runCmd := some true } })) s

/-- runStop (R103): RUN_STOP: the run ends at the next catch. -/
def execRunStop (a b : LaneCopy) (s : State) : Host.Outcome State Fault Refusal :=
  perform (fun s => s.fastCommand 5 0 a b (fun s => { s with pace := { s.pace with runCmd := some false } })) s

/-- calPulse (R103): CAL_PULSE: its event source fires. -/
def execCalPulse (arg : BitVec 4) (a b : LaneCopy) (s : State) : Host.Outcome State Fault Refusal :=
  perform (fun s => s.fastCommand 6 arg.toNat a b id) s

/-- moor (R103): MOOR: the hub moors at the next catch. -/
def execMoor (a b : LaneCopy) (s : State) : Host.Outcome State Fault Refusal :=
  perform (fun s => s.fastCommand 7 0 a b (fun s => { s with pace := { s.pace with moorCmd := some true } })) s

/-- wake (R103): WAKE: the wake-up sequence begins at the next catch. -/
def execWake (a b : LaneCopy) (s : State) : Host.Outcome State Fault Refusal :=
  perform (fun s => s.fastCommand 8 0 a b (fun s => { s with pace := { s.pace with moorCmd := some false } })) s

/-- paceRegRead (R109): a READ frame of the Pace control channel. -/
def execPaceRegRead (seq : Byte) (a : RegAddr) (rep : Bool) (s : State) : Host.Outcome State Fault Refusal :=
  perform (fun s => s.frameFrom rep (fun s => s.paceRequest seq a none)) s

/-- paceRegWrite (R109): a WRITE frame of the Pace control channel. -/
def execPaceRegWrite (seq : Byte) (a : RegAddr) (d : Word) (rep : Bool) (s : State) : Host.Outcome State Fault Refusal :=
  perform (fun s => s.frameFrom rep (fun s => s.paceRequest seq a (some d))) s

/-- syncMessage (R85): SYNC arrives on the data lane. -/
def execSyncMessage (t1 : TimeStamp) (phase : Fin 4096) (rep : Bool) (s : State) : Host.Outcome State Fault Refusal :=
  perform (fun s => s.frameFrom rep (fun s => s.doSync t1 phase.val)) s

/-- delayResp (R86): DELAY_RESP arrives. -/
def execDelayResp (lane : PaceLane) (seq : Byte) (t4 : TimeStamp) (s : State) : Host.Outcome State Fault Refusal :=
  perform (fun s => s.doDelayResp lane seq t4) s

/-- cnAnnounce (R89): CN_ANNOUNCE arrives. -/
def execCnAnnounce (c : BitVec 64) (inSlot : Bool) (rep : Bool) (s : State) : Host.Outcome State Fault Refusal :=
  perform (fun s => s.frameFrom rep (fun s => s.doAnnounce c inSlot)) s

/-- linkInfo (R114): LINK_INFO arrives. -/
def execLinkInfo (lane : PaceLane) (version : Byte) (s : State) : Host.Outcome State Fault Refusal :=
  perform (fun s => s.doLinkInfo lane version) s

/-- delayReqSend (R110): DELAY_REQ is sent. -/
def execDelayReqSend (s : State) : Host.Outcome State Fault Refusal :=
  perform (fun s => s.doDelayReq) s

/-- exchangeTimeout (R85): no DELAY_RESP has come in time. -/
def execExchangeTimeout (s : State) : Host.Outcome State Fault Refusal :=
  perform (fun s => s.doExchangeTimeout) s

/-- orbitStartComma (R83, R111): an orbit-start comma arrives. -/
def execOrbitStartComma (lane : PaceLane) (skew : Option Int) (s : State) : Host.Outcome State Fault Refusal :=
  perform (fun s => s.doOrbitStart lane skew) s

/-- paceSignalPresent (R114): a signal is present and its clock recovered. -/
def execPaceSignalPresent (lane : PaceLane) (s : State) : Host.Outcome State Fault Refusal :=
  perform (fun s => s.doPaceSignal lane) s

/-- paceAligned (R114): Eight boundary commas at the spacing of 8 symbols. -/
def execPaceAligned (lane : PaceLane) (s : State) : Host.Outcome State Fault Refusal :=
  perform (fun s => s.doPaceAligned lane) s

/-- paceLinkUp (R114): 64 crossings with valid commas. -/
def execPaceLinkUp (lane : PaceLane) (s : State) : Host.Outcome State Fault Refusal :=
  perform (fun s => s.doPaceUp lane) s

/-- paceLinkDown (R114): a Pace lane is lost. -/
def execPaceLinkDown (lane : PaceLane) (cause : DownCause) (s : State) : Host.Outcome State Fault Refusal :=
  perform (fun s => s.doPaceDown lane cause) s

/-- controlFrameDiscard (R108): a control frame is discarded. -/
def execControlFrameDiscard (lane : PaceLane) (s : State) : Host.Outcome State Fault Refusal :=
  perform (fun s => s.doFrameDiscard lane) s

/-- fastCommandDiscard (R102): a fast command is discarded. -/
def execFastCommandDiscard (a b : Option (Byte × Byte)) (s : State) : Host.Outcome State Fault Refusal :=
  perform (fun s => s.doCommandDiscard a b) s

end Sys2Proof.Machine
end

