-- ==== Sys2Proof/Machine/Power.lean ====
section
/-! DEFINITION. Power-up and the resets (R417 to R424, R455), the scrubber's double-bit errors (R412) and the test access port
(R448). -/

namespace Sys2Proof.Machine

namespace State

/-! The resets. -/

/-- A register store with the cause of the reset in ID.RESET_CAUSE (R421): bit `n`. -/
def withCause (s : State) (n : Nat) : State := s.wr 0x00058 (BitVec.ofNat 32 (2 ^ n))

/-- What no reset touches: the commands that wait, what this command has put out, the draws, the test access port, the supplies and
the boundary cells. -/
def keepOver (s t : State) : State :=
  { t with pending := s.pending, out := s.out, free := s.free, tap := s.tap, pads := s.pads }

/-- The sweep begins (R423, R455): crossing 0 starts on the XO's free-run frequency, and its catch is due. -/
def beginSweep (s : State) : State :=
  let s := { s with
    phase := .sweeping, swept := [], time := { s.time with catchDue := true }, clk := { s.clk with xoStable := true } }
  (s.set R.CLK_STATUS_LOCKED 1).refreshReadyXo

/-- The units after a reset that keeps UNFIT (R407, R408, R419): A is Active unless it is UNFIT, then B. -/
def keepUnfit (s t : State) : State :=
  let unfit (u : Unit2) : Bool := s.unitState u == tcuUnfit
  let cause (t : State) (u : Unit2) : State :=
    if unfit u then t.set (R.TCUx_UNFIT_CAUSE u.page) (s.get (R.TCUx_UNFIT_CAUSE u.page)) else t
  let t := cause (cause t .A) .B
  if unfit .A then
    { ((t.set R.COX_STATUS_ACTIVE 1).setPstate 0x02 tcuUnfit).setPstate 0x03 tcuActive with tcuB := tcuReset false }
  else if unfit .B then { t.setPstate 0x03 tcuUnfit with tcuB := tcuReset false }
  else t

/-- RESET_N or RING_RESET (R419): everything but the XO and the units' UNFIT; while the XO is still counted, the count goes on. An open
bypass closes, which taints the hub from then on (R398). -/
def warmReset (s : State) (cause : Nat) : State :=
  let t := s.keepUnfit ((s.keepOver State.reset).withCause cause)
  let t := { t with
    clk := { t.clk with xoFailed := s.clk.xoFailed },
    ring := { t.ring with taint := if s.flag R.RING_STATUS_BYPASS_OPEN then some 0 else none } }
  if s.alive then t.beginSweep else t

/-- POWER_ON_RESET (R418): a rail leaves its window; the cause that will be shown is SUPPLY (R421). -/
def doPowerOnReset (s : State) : State := { (s.keepOver State.reset).withCause 1 with phase := .held, tap := .idcode }

/-- POR_RELEASE (R418): the XO count starts (R423). -/
def doPorRelease (s : State) : State := if s.phase == .held then { s with phase := .xoCount } else s

/-- XO_STABLE (R66): the count has ended, and the sweep begins; in service it ends a failure of the XO (R68). -/
def doXoStable (s : State) : State :=
  if s.phase == .xoCount then s.beginSweep
  else if s.alive && s.clk.xoFailed then { s with clk := { s.clk with xoFailed := false } }.refreshReadyXo
  else s

/-- The rising edge of RESET_N ends the EXTEST instructions, which act as BYPASS from then on (R448). -/
def tapRelease (s : State) : State :=
  if s.tap == .extest || s.tap == .extestPulse || s.tap == .extestTrain then { s with tap := .bypass } else s

/-- RESET_N (R420), at its rising edge: 1.0 µs or more resets, less than 100 ns never, and between them `taken` decides. The cause is
SUPPLY where a rail left its reset window while the pin was low (R431). -/
def doResetN (s : State) (lowNs : Nat) (p : ResetPulse) : State :=
  let s := s.tapRelease
  if s.phase == .held || lowNs < 100 || (lowNs < 1000 && !p.taken) then s else s.warmReset (if p.supply then 1 else 2)

/-- The rails outside their monitor windows after a comparator has told a move. -/
def railMoves (s : State) (rail : Nat) (m : RailMove) : State :=
  let l := s.pads.railsOut.filter (· != rail)
  { s with pads := { s.pads with railsOut := if m = .back then l else rail :: l } }

/-- A rail out of its monitor window closes the bypass; its receiver counts its valid characters anew (R394, R431). -/
def supplyCloses (s : State) : State :=
  if s.ringOpen then s.bypassChange false else { s with ring := { s.ring with valid := 0 } }

/-- SUPPLY_EXCURSION (R413, R431). -/
def doSupply (s : State) (rail : Nat) (m : RailMove) : State :=
  let s := s.railMoves rail m
  if s.alive && m != .back then
    let s := s.supplyCloses.set ⟨R.HEALTH_SUPPLY_LOW.key, rail + (if m = .high then 8 else 0), 1⟩ 1
    (s.raise E.HEALTH_SUPPLY).healthFault 0x0C rail
  else s

/-- RING_RESET (R393): answered or forwarded first. -/
def doRingReset (s : State) (f : RingFrame) : State :=
  let t := s.ringResetFrame f
  if t.1 then t.2.warmReset 3 else t.2

/-- SWEEP_DONE (R57): the sweep has passed every memory. -/
def doSweepDone (s : State) : State :=
  if s.phase == .sweeping then { s with phase := .running }.set R.ID_INIT_STATUS_SWEEP_DONE 1 else s

/-! The scrubber. -/

/-- A fragment of the staging memory carries VOID (R412); one that is read already, and carried none, counts and is told here
(R266's VOID_FRAG_CNT and VOID_SENT). -/
def stagingVoid (s : State) (i : Nat) : State :=
  let s := match s.frags[i]? with
    | none => s
    | some f => if f.read && !f.w2.getLsbD 31 then (s.count R.FRAG_VOID_FRAG_CNT).raise E.FRAG_VOID_SENT else s
  { s with frags := s.frags.zipIdx.map (fun (x : Frag × Nat) =>
      if x.2 = i then { x.1 with w2 := x.1.w2 ||| BitVec.ofNat 64 (2 ^ 31) } else x.1) }

/-- A double-bit error in word `w` of the derandomiser's fragment `i` (R280): two bits of the word, which the spec does not name, read
inverted from now on (log entry 2). -/
def heldUpset (s : State) (i w : Nat) : State :=
  let d := s.draw
  let a := Config.free d.1 % 64
  let b := (a + 1 + Config.free d.1 / 64 % 63) % 64
  { d.2 with held := d.2.held.zipIdx.map (fun (x : Held × Nat) =>
      if x.2 = i then
        { x.1 with words := x.1.words.modify w (fun v => v ^^^ BitVec.ofNat 64 (2 ^ a + 2 ^ b)),
                   bad := w :: x.1.bad.filter (· != w) }
      else x.1) }

/-- What a double-bit error means to the owner of the memory (R412); `w` is the place in it (log entry 52). -/
def dbeOwner (s : State) (mem w : Nat) : State :=
  if mem = 0x01 then { s with wakeBad := if s.wakeBad.contains w then s.wakeBad else w :: s.wakeBad }
  else if mem = 0x02 then s.heldUpset (w / 65536) (w % 65536)
  else if mem = 0x03 then
    let k := w % 16384
    { s with badTaps := if s.badTaps.contains k then s.badTaps else k :: s.badTaps }
  else if mem = 0x04 then s.shadowEcc (w / 16384 % 16) (w % 16384)
  else if mem = 0x05 then s.markGap (w % 16) ((w / 16 : Nat) : Int) ((w / 16 : Nat) : Int)
  else if mem = 0x06 then s.lensEcc (w / 2) (w % 2 == 0)
  else if mem = 0x07 then (if (s.link (w % 8)).replay.isEmpty then s else s.linkDown (w % 8))
  else if mem = 0x08 then
    let c := w % 4096
    if s.crewState c = crewEnabled then let d := s.draw; d.2.descFail c (Config.free d.1 % 16) else s
  else if mem = 0x09 then s.selfCheck .A
  else if mem = 0x0A then s.selfCheck .B
  else if mem = 0x0B then
    if w % 4 = 0 then
      (if s.records.length ≤ w / 4 || s.recBad.contains (w / 4) then s else { s with recBad := w / 4 :: s.recBad })
    else if w % 4 = 1 then
      { s with accQ := s.accQ.zipIdx.map (fun (x : Entry × Nat) =>
          if x.2 = w / 4 then { x.1 with dbe := true } else x.1) }
    else if w % 4 = 2 then s.stagingVoid (w / 4)
    else s
  else s

/-- SCRUB_DBE (R412). -/
def doScrubDbe (s : State) (h : ScrubHit) : State :=
  if s.alive then
    let m := h.mem.toNat
    let s := ((s.count R.HEALTH_SCRUB_DBE_CNT).set R.HEALTH_LAST_DBE_MEM m).set R.HEALTH_LAST_DBE_CN_LO s.cnN
    ((s.raise E.HEALTH_SCRUB_DBE).healthFault 0x02 m).dbeOwner m h.where_
  else s

/-! The test access port. -/

/-- The word of IDCODE (R448). -/
def idcodeWord : Word := BitVec.ofNat 32 (Config.revision % 16 * 2 ^ 28 + 0xC768 * 2 ^ 12 + 0x3D9 * 2 + 1)

/-- The instruction that takes effect (R448): the EXTEST instructions act only while RESET_N is held low and as BYPASS at any other
time, and an instruction that the port does not implement acts as BYPASS (log entry 53). -/
def tapEffective (resetLow : Bool) : TapInstr → TapInstr
  | .idcode => .idcode
  | .samplePreload => .samplePreload
  | .bypass => .bypass
  | .extest => if resetLow then .extest else .bypass
  | .extestPulse => if resetLow then .extestPulse else .bypass
  | .extestTrain => if resetLow then .extestTrain else .bypass
  | .other => .bypass

/-- The boundary-scan chain under instruction `i` (R448): its cells capture the pins' levels, and under an EXTEST instruction drive what
they hold; what is then shifted into them stays, and is driven from then on (log entry 53). -/
def boundaryScan (s : State) (i : TapInstr) (drives : Bool) (t : TapLoad) : State :=
  let s := s.emit (.boundary i (if drives then s.pads.cells else []) t.pins)
  if t.scan.isEmpty then s
  else
    let s := { s with pads := { s.pads with cells := t.scan } }
    if drives then s.emit (.boundary i t.scan []) else s

/-- An instruction of the test access port (R448). -/
def doTap (s : State) (t : TapLoad) : State :=
  let i := tapEffective t.resetLow t.instr
  let s := { s with tap := i }
  match i with
  | .idcode => s.emit (.idcode idcodeWord)
  | .samplePreload => s.boundaryScan i false t
  | .extest | .extestPulse | .extestTrain => s.boundaryScan i true t
  | .bypass | .other => s

end State

end Sys2Proof.Machine
end

