-- ==== Sys2Proof/Machine/ExecPower.lean ====
section
/-! DEFINITION. The meanings of the commands of the timing and control units, the scrubber, supplies, resets and the test access port: one definition a command, each over the shared operations of its
block. -/

namespace Sys2Proof.Machine

/-- digestMismatch (R402): the units' digests differ. -/
def execDigestMismatch (f : MismatchFacts) (s : State) : Host.Outcome State Fault Refusal :=
  perform (fun s => s.doMismatch f) s

/-- voteCorrect (R401): a vote corrects a copy, of a unit or of the Cox itself. -/
def execVoteCorrect (_u : Option Unit2) (s : State) : Host.Outcome State Fault Refusal :=
  perform (fun s => s.doVote) s

/-- tcuSelftestEnd (R406): a unit's self-test ends. -/
def execTcuSelftestEnd (u : Unit2) (pass : Bool) (s : State) : Host.Outcome State Fault Refusal :=
  perform (fun s => s.doSelftestEnd u pass) s

/-- memtestFail (R407): a unit's background test fails. -/
def execMemtestFail (u : Unit2) (s : State) : Host.Outcome State Fault Refusal :=
  perform (fun s => s.doMemtestFail u) s

/-- scrubDbe (R412): the scrubber finds a double-bit error. -/
def execScrubDbe (h : ScrubHit) (s : State) : Host.Outcome State Fault Refusal :=
  perform (fun s => s.doScrubDbe h) s

/-- supplyExcursion (R413): a rail leaves its monitor window or is back in it. -/
def execSupplyExcursion (rail : Fin 6) (m : RailMove) (s : State) : Host.Outcome State Fault Refusal :=
  perform (fun s => s.doSupply rail.val m) s

/-- tempTrip (R413): a temperature comparator trips or falls back. -/
def execTempTrip (m : TempMove) (s : State) : Host.Outcome State Fault Refusal :=
  perform (fun s => s.doTemp m.sensor.val m.hot) s

/-- powerOnReset (R418): a rail leaves its reset window. -/
def execPowerOnReset (s : State) : Host.Outcome State Fault Refusal :=
  perform (fun s => s.doPowerOnReset) s

/-- porRelease (R418): Power-on reset is released. -/
def execPorRelease (s : State) : Host.Outcome State Fault Refusal :=
  perform (fun s => s.doPorRelease) s

/-- resetN (R420): RESET_N is driven low. -/
def execResetN (lowNs : Nat) (p : ResetPulse) (s : State) : Host.Outcome State Fault Refusal :=
  perform (fun s => s.doResetN lowNs p) s

/-- sweepDone (R57): the memory sweep is done. -/
def execSweepDone (s : State) : Host.Outcome State Fault Refusal :=
  performArb (fun s => s.doSweepDone) s

/-- selfCheckError (R403): a self-check error of a unit. -/
def execSelfCheckError (u : Unit2) (s : State) : Host.Outcome State Fault Refusal :=
  perform (fun s => (if s.alive then s.selfCheck u else s)) s

/-- scrubSbe (R412): the scrubber corrects a single-bit error. -/
def execScrubSbe (_h : ScrubHit) (s : State) : Host.Outcome State Fault Refusal :=
  perform (fun s => s.doScrubSbe) s

/-- memtestPassDone (R407): a pass of the background test is done. -/
def execMemtestPassDone (u : Unit2) (s : State) : Host.Outcome State Fault Refusal :=
  perform (fun s => s.doMemtestPass u) s

/-- tapInstruction (R448): an instruction is loaded into the test access port. -/
def execTapInstruction (t : TapLoad) (s : State) : Host.Outcome State Fault Refusal :=
  perform (fun s => s.doTap t) s

end Sys2Proof.Machine
end

