-- ==== Sys2Proof/Machine/ExecRing.lean ====
section
/-! DEFINITION. The meanings of the commands of the Regatta ring: one definition a command, each over the shared operations of its
block. -/

namespace Sys2Proof.Machine

/-- ringRead (R390): a READ frame. -/
def execRingRead (f : RingFrame) (s : State) : Host.Outcome State Fault Refusal :=
  perform (fun s => s.doRingRead f) s

/-- ringWrite (R390): a WRITE frame. -/
def execRingWrite (f : RingFrame) (s : State) : Host.Outcome State Fault Refusal :=
  perform (fun s => s.doRingWrite f) s

/-- keyedWrite (R392): a KEYED_WRITE frame. -/
def execKeyedWrite (f : RingFrame) (s : State) : Host.Outcome State Fault Refusal :=
  perform (fun s => s.doKeyedWrite f) s

/-- rollCall (R397): a ROLL_CALL or ASSIGN frame. -/
def execRollCall (f : RingFrame) (s : State) : Host.Outcome State Fault Refusal :=
  perform (fun s => s.doRollCall f) s

/-- helloForward (R391): a HELLO frame. -/
def execHelloForward (f : RingFrame) (s : State) : Host.Outcome State Fault Refusal :=
  perform (fun s => s.doHelloForward f) s

/-- ringReset (R393): a RING_RESET frame. -/
def execRingReset (f : RingFrame) (s : State) : Host.Outcome State Fault Refusal :=
  perform (fun s => s.doRingReset f) s

/-- ringBadOp (R390): a frame with an unknown OP. -/
def execRingBadOp (f : RingFrame) (s : State) : Host.Outcome State Fault Refusal :=
  perform (fun s => s.doRingBadOp f) s

/-- ringFramePass (R386, R391): the characters of both lines, and a frame for another hub, or a damaged one. -/
def execRingFramePass (p : RingPass) (s : State) : Host.Outcome State Fault Refusal :=
  perform (fun s => s.doRingFramePass p.slots p.frame) s

/-- ringFramingError (R384): a framing error. -/
def execRingFramingError (inFrame : Bool) (s : State) : Host.Outcome State Fault Refusal :=
  perform (fun s => s.doRingFraming inFrame) s

/-- helloSend (R400): HELLO is sent. -/
def execHelloSend (s : State) : Host.Outcome State Fault Refusal :=
  perform (fun s => s.doHelloSend) s

/-- bypassOpen (R394): the bypass opens. -/
def execBypassOpen (s : State) : Host.Outcome State Fault Refusal :=
  perform (fun s => s.doBypassOpen) s

/-- bypassClose (R394): the bypass closes. -/
def execBypassClose (s : State) : Host.Outcome State Fault Refusal :=
  perform (fun s => s.doBypassClose) s

end Sys2Proof.Machine
end

