-- ==== Sys2Proof/Machine/ExecSat.lean ====
section
/-! DEFINITION. The meanings of the commands of the Rigger ports: one definition a command, each over the shared operations of its
block. -/

namespace Sys2Proof.Machine

/-- satHit (R348, R351): a hit arrives. -/
def execSatHit (p : Fin 16) (w : HitBytes) (s : State) : Host.Outcome State Fault Refusal :=
  perform (fun s => s.doSatHit p.val w.b0 w.b1 w.b2 w.b3) s

/-- satAligned (R355): a Rigger port is aligned. -/
def execSatAligned (p : Fin 16) (s : State) : Host.Outcome State Fault Refusal :=
  perform (fun s => s.doSatAligned p.val) s

/-- satCap (R355, R350): a satellite's CAP arrives. -/
def execSatCap (p : Fin 16) (type version : Byte) (rest : List Byte) (crc : BitVec 16) (s : State) :
    Host.Outcome State Fault Refusal :=
  perform (fun s => s.doSatCap p.val (satFrame type (version :: rest) crc)) s

/-- satCapReqRetry (R355): no CAP has come in time. -/
def execSatCapReqRetry (p : Fin 16) (s : State) : Host.Outcome State Fault Refusal :=
  perform (fun s => s.doSatCapRetry p.val) s

/-- satK285Arrival (R356): the satellite's K28.5 arrives. -/
def execSatK285Arrival (p : Fin 16) (s : State) : Host.Outcome State Fault Refusal :=
  perform (fun s => s.doSatK285 p.val) s

/-- satResyncRetry (R355): RESYNC has not succeeded in time. -/
def execSatResyncRetry (p : Fin 16) (s : State) : Host.Outcome State Fault Refusal :=
  perform (fun s => s.doSatResyncRetry p.val) s

/-- satLinkDown (R355): a Rigger link is lost. -/
def execSatLinkDown (p : Fin 16) (cause : DownCause) (partialItem : Bool)
    (s : State) : Host.Outcome State Fault Refusal :=
  perform (fun s => s.doSatLinkDown p.val cause partialItem) s

/-- satReadResp (R362): a satellite's READ_RESP arrives. -/
def execSatReadResp (p : Fin 16) (type : Byte) (body : List Byte) (crc : BitVec 16) (s : State) :
    Host.Outcome State Fault Refusal :=
  perform (fun s => s.doSatReadResp p.val (satFrame type body crc)) s

/-- satRespTimeout (R350): no answer has come in time. -/
def execSatRespTimeout (p : Fin 16) (s : State) : Host.Outcome State Fault Refusal :=
  perform (fun s => s.doSatRespTimeout p.val) s

/-- satConfigSend (R360): the next waiting word or scrub read is sent. -/
def execSatConfigSend (p : Fin 16) (s : State) : Host.Outcome State Fault Refusal :=
  perform (fun s => s.doSatConfigSend p.val) s

/-- scrubBlockDue (R361): a block of the scrub is due. -/
def execScrubBlockDue (p : Fin 16) (s : State) : Host.Outcome State Fault Refusal :=
  perform (fun s => s.doScrubDue p.val) s

end Sys2Proof.Machine
end

