-- ==== Sys2Proof/Machine/ExecSlip.lean ====
section
/-! DEFINITION. The meanings of the commands of the Slipway links: one definition a command, each over the shared operations of its
block. -/

namespace Sys2Proof.Machine

/-- catchMarker (R322): the station's catch markers arrive. -/
def execCatchMarker (n : Fin 8) (m0 m1 m2 : Option MarkerIn) (s : State) : Host.Outcome State Fault Refusal :=
  perform (fun s => s.doCatchMarker n.val [m0, m1, m2]) s

/-- slipCompl (R328): a COMPL packet arrives. -/
def execSlipCompl (n : Fin 8) (seq : BitVec 12) (tag : Word) (status : Byte) (data : List Byte)
    (s : State) : Host.Outcome State Fault Refusal :=
  perform (fun s => s.doSlipCompl n.val seq.toNat tag status data) s

/-- slipCredit (R329): a CREDIT packet arrives. -/
def execSlipCredit (n : Fin 8) (seq : BitVec 12) (crew : BitVec 12) (tailValid : Bool) (count : BitVec 16) (tail : BitVec 46)
    (s : State) : Host.Outcome State Fault Refusal :=
  perform (fun s => s.doSlipCredit n.val seq.toNat crew.toNat tailValid count.toNat tail.toNat) s

/-- slipCap (R343): a CAP packet arrives. -/
def execSlipCap (n : Fin 8) (version beats maxpl maxReads : Byte) (id : BitVec 16) (station : Byte)
    (s : State) : Host.Outcome State Fault Refusal :=
  perform (fun s => s.doSlipCap n.val version.toNat beats.toNat maxpl.toNat maxReads.toNat id.toNat station.toNat) s

/-- slipAck (R332): an ACK packet arrives. -/
def execSlipAck (n : Fin 8) (seq : BitVec 12) (map : Byte) (s : State) : Host.Outcome State Fault Refusal :=
  perform (fun s => s.doSlipAck n.val seq.toNat map) s

/-- slipNak (R335): a NAK packet arrives. -/
def execSlipNak (n : Fin 8) (seq : BitVec 12) (map : Byte) (s : State) : Host.Outcome State Fault Refusal :=
  perform (fun s => s.doSlipNak n.val seq.toNat map) s

/-- slipPacketDamaged (R325): a packet arrives that is not performed. -/
def execSlipPacketDamaged (n : Fin 8) (why : SlipDamage) (s : State) : Host.Outcome State Fault Refusal :=
  perform (fun s => s.doSlipDamaged n.val why) s

/-- ackTimer (R333): the acknowledgement is due. -/
def execAckTimer (n : Fin 8) (s : State) : Host.Outcome State Fault Refusal :=
  perform (fun s => s.doAckTimer n.val) s

/-- replayTimeout (R335): the replay timer expires. -/
def execReplayTimeout (n : Fin 8) (s : State) : Host.Outcome State Fault Refusal :=
  perform (fun s => s.doReplayTimeout n.val) s

/-- readTimeout (R339): a read has not completed in time. -/
def execReadTimeout (n : Fin 8) (slot : Fin 32) (s : State) : Host.Outcome State Fault Refusal :=
  perform (fun s => s.doReadTimeout n.val slot.val) s

/-- slipLaneLost (R340): a lane of the group is lost. -/
def execSlipLaneLost (n : Fin 8) (pos : Fin 3) (s : State) : Host.Outcome State Fault Refusal :=
  perform (fun s => s.doSlipLaneLost n.val pos.val) s

/-- capsTimeout (R344): no CAP has come in time. -/
def execCapsTimeout (n : Fin 8) (s : State) : Host.Outcome State Fault Refusal :=
  perform (fun s => s.doCapsTimeout n.val) s

/-- slipCapSend (R344): CAP is sent. -/
def execSlipCapSend (n : Fin 8) (s : State) : Host.Outcome State Fault Refusal :=
  perform (fun s => s.doSlipCapSend n.val) s

end Sys2Proof.Machine
end

