-- ==== Sys2Proof/Machine/Evm.lean ====
section
/-! DEFINITION. The event matrix's task inputs (R59, R60, R453). -/

namespace Sys2Proof.Machine

namespace State

/-- The owner of task `n` takes a firing that arrives at core clock `now` (R270, R453). -/
def taskDo (s : State) (n now : Nat) : State :=
  if n = 0 then { s with snapReq := true }
  else if n = 1 then s.lensFlush now
  else if n = 2 ∨ n = 3 then s.hkSource 3 n
  else s

/-- EVM_TASK_FIRE (R59): the oldest firing reaches the task inputs. A task that selects several of its sources fires once and
counts the others in COINCIDE. No rule says what the event matrix does while its own page is DISABLED; the model delivers its firings
whatever PAGE_CTL.ENABLE of EVM holds (DESIGN CHOICE, log entry 67). -/
def doTaskFire (s : State) : State :=
  match s.evmq with
  | [] => s
  | l :: q =>
    let srcs := l.srcs.eraseDups
    forEach (List.range 64) { s with evmq := q } (fun s n =>
      match (srcs.filter (s.taskSelects n)).length with
      | 0 => s
      | k + 1 => (if k = 0 then s else s.countBy R.EVM_COINCIDE k).taskDo n (16 * l.cr + l.cc + 2))

end State

end Sys2Proof.Machine
end

