-- ==== Sys2Proof/Machine/ExecTime.lean ====
section
/-! DEFINITION. The meanings of the commands of the catch, the crossing, time and the clocks: one definition a command, each over the shared operations of its
block. -/

namespace Sys2Proof.Machine

/-- catch (R21, R71): the catch. -/
def execCatch (phase : BitVec 16) (s : State) : Host.Outcome State Fault Refusal :=
  performArb (fun s => (s.doCatch phase).sendFrame) s

/-- fullResync (R90): a full resynchronisation sets CN and makes its catch. -/
def execFullResync (s : State) : Host.Outcome State Fault Refusal :=
  performArb (fun s => s.doFullResync.sendFrame) s

/-- cmpFire (R93): a compare unit fires. -/
def execCmpFire (n : Fin 8) (s : State) : Host.Outcome State Fault Refusal :=
  perform (fun s => s.doCmpFire n.val) s

/-- evmTaskFire (R59): a firing reaches the task inputs. -/
def execEvmTaskFire (s : State) : Host.Outcome State Fault Refusal :=
  perform (fun s => s.doTaskFire) s

/-- xoStable (R66): the XO has settled. -/
def execXoStable (s : State) : Host.Outcome State Fault Refusal :=
  perform (fun s => s.doXoStable) s

/-- freqGate (R67): a frequency gate ends. -/
def execFreqGate (a b clkin xo : GateCount) (s : State) : Host.Outcome State Fault Refusal :=
  perform (fun s => s.doFreqGate a b clkin xo) s

/-- sourceLost (R73): the clock source in use is lost. -/
def execSourceLost (cause : BitVec 3) (s : State) : Host.Outcome State Fault Refusal :=
  perform (fun s => s.doSourceLost cause.toNat) s

/-- xoFault (R73): the XO's amplitude detector has failed. -/
def execXoFault (s : State) : Host.Outcome State Fault Refusal :=
  perform (fun s => s.doXoFault) s

/-- rampDone (R77): the frequency ramp has reached its target. -/
def execRampDone (s : State) : Host.Outcome State Fault Refusal :=
  perform (fun s => s.doRampDone) s

/-- relocked (R78): the phase has been acquired. -/
def execRelocked (s : State) : Host.Outcome State Fault Refusal :=
  perform (fun s => s.doRelocked) s

/-- crossingTick (R83): a crossing ends and the next begins. -/
def execCrossingTick (i : TickIn) (s : State) : Host.Outcome State Fault Refusal :=
  performArb (fun s => (s.doCrossingTick i).sendFrame) s

end Sys2Proof.Machine
end

