-- ==== Sys2Proof/Machine/ExecTrigger.lean ====
section
/-! DEFINITION. The meanings of the commands of the local triggers and the neighbour ports: one definition a command, each over the shared operations of its
block. -/

namespace Sys2Proof.Machine

/-- startEdge (R226): an edge on a START input. -/
def execStartEdge (n : Fin 4) (fine : BitVec 12) (stampable : Bool) (s : State) : Host.Outcome State Fault Refusal :=
  perform (fun s => s.doStartEdge n.val fine.toNat stampable) s

/-- selfTrigger (R230): the self-trigger decision of a crossing. -/
def execSelfTrigger (s : State) : Host.Outcome State Fault Refusal :=
  perform (fun s => s.doSelfTrigger) s

/-- autoTrigger (R231): Auto mode makes a trigger. -/
def execAutoTrigger (s : State) : Host.Outcome State Fault Refusal :=
  perform (fun s => s.doAutoTrigger) s

/-- neighWord (R233): a neighbour's word is presented. -/
def execNeighWord (j : Fin 4) (w : Byte) (s : State) : Host.Outcome State Fault Refusal :=
  perform (fun s => s.doNeighWord j.val w) s

/-- neighTrained (R236): a neighbour port has trained. -/
def execNeighTrained (j : Fin 4) (s : State) : Host.Outcome State Fault Refusal :=
  perform (fun s => s.doNeighTrained j.val) s

/-- neighTrainTimeout (R236): a neighbour port has not trained in time. -/
def execNeighTrainTimeout (j : Fin 4) (s : State) : Host.Outcome State Fault Refusal :=
  perform (fun s => s.doNeighTimeout j.val) s

/-- neighCatchWord (R235): a neighbour's CATCH word arrives. -/
def execNeighCatchWord (j : Fin 4) (delay : BitVec 20) (s : State) : Host.Outcome State Fault Refusal :=
  perform (fun s => s.doNeighCatch j.val delay.toNat) s

/-- neighLinkDown (R236): a neighbour link is lost. -/
def execNeighLinkDown (j : Fin 4) (s : State) : Host.Outcome State Fault Refusal :=
  perform (fun s => s.doNeighDown j.val) s

end Sys2Proof.Machine
end

