-- ==== Sys2Proof/Machine/Dispatch.lean ====
section
/-! DEFINITION. The dispatch: one arm per command, each one direct call of its meaning. -/

namespace Sys2Proof.Machine

/-- A command's effect on everything but the queue. -/
def exec (i : Instr) (s : State) : Host.Outcome State Fault Refusal :=
  match i with
  | .catch_ phase => Sys2Proof.Machine.execCatch phase s
  | .regWrite p a d => Sys2Proof.Machine.execRegWrite p a d s
  | .keyUnlock p d => Sys2Proof.Machine.execKeyUnlock p d s
  | .evtClear p pg d => Sys2Proof.Machine.execEvtClear p pg d s
  | .counterClear p a d => Sys2Proof.Machine.execCounterClear p a d s
  | .pageResetRequest p pg => Sys2Proof.Machine.execPageResetRequest p pg s
  | .snapshotRequest p => Sys2Proof.Machine.execSnapshotRequest p s
  | .coherentGroupRead p a => Sys2Proof.Machine.execCoherentGroupRead p a s
  | .hkResultRead p r => Sys2Proof.Machine.execHkResultRead p r s
  | .calNow p d => Sys2Proof.Machine.execCalNow p d s
  | .coefWrite p d => Sys2Proof.Machine.execCoefWrite p d s
  | .creditAdd p d => Sys2Proof.Machine.execCreditAdd p d s
  | .lensFlush p => Sys2Proof.Machine.execLensFlush p s
  | .esGo p x => Sys2Proof.Machine.execEsGo p x s
  | .shadowDataWrite p d => Sys2Proof.Machine.execShadowDataWrite p d s
  | .shadowForget p => Sys2Proof.Machine.execShadowForget p s
  | .capRearm p n => Sys2Proof.Machine.execCapRearm p n s
  | .cmpArm p n d => Sys2Proof.Machine.execCmpArm p n d s
  | .hkRegGo p => Sys2Proof.Machine.execHkRegGo p s
  | .hkInjGo p => Sys2Proof.Machine.execHkInjGo p s
  | .hkSelftestGo p => Sys2Proof.Machine.execHkSelftestGo p s
  | .accept a b => Sys2Proof.Machine.execAccept a b s
  | .resync a b => Sys2Proof.Machine.execResync a b s
  | .snapshot a b => Sys2Proof.Machine.execSnapshot a b s
  | .orbitReset a b => Sys2Proof.Machine.execOrbitReset a b s
  | .runStart a b => Sys2Proof.Machine.execRunStart a b s
  | .runStop a b => Sys2Proof.Machine.execRunStop a b s
  | .calPulse arg a b => Sys2Proof.Machine.execCalPulse arg a b s
  | .moor a b => Sys2Proof.Machine.execMoor a b s
  | .wake a b => Sys2Proof.Machine.execWake a b s
  | .paceRegRead seq a rep => Sys2Proof.Machine.execPaceRegRead seq a rep s
  | .paceRegWrite seq a d rep => Sys2Proof.Machine.execPaceRegWrite seq a d rep s
  | .syncMessage t1 phase rep => Sys2Proof.Machine.execSyncMessage t1 phase rep s
  | .delayResp lane seq t4 => Sys2Proof.Machine.execDelayResp lane seq t4 s
  | .cnAnnounce c inSlot rep => Sys2Proof.Machine.execCnAnnounce c inSlot rep s
  | .linkInfo lane version => Sys2Proof.Machine.execLinkInfo lane version s
  | .delayReqSend => Sys2Proof.Machine.execDelayReqSend s
  | .exchangeTimeout => Sys2Proof.Machine.execExchangeTimeout s
  | .fullResync => Sys2Proof.Machine.execFullResync s
  | .orbitStartComma lane skew => Sys2Proof.Machine.execOrbitStartComma lane skew s
  | .cmpFire n => Sys2Proof.Machine.execCmpFire n s
  | .evmTaskFire => Sys2Proof.Machine.execEvmTaskFire s
  | .xoStable => Sys2Proof.Machine.execXoStable s
  | .freqGate a b clkin xo => Sys2Proof.Machine.execFreqGate a b clkin xo s
  | .sourceLost cause => Sys2Proof.Machine.execSourceLost cause s
  | .xoFault => Sys2Proof.Machine.execXoFault s
  | .rampDone => Sys2Proof.Machine.execRampDone s
  | .relocked => Sys2Proof.Machine.execRelocked s
  | .paceSignalPresent lane => Sys2Proof.Machine.execPaceSignalPresent lane s
  | .paceAligned lane => Sys2Proof.Machine.execPaceAligned lane s
  | .paceLinkUp lane => Sys2Proof.Machine.execPaceLinkUp lane s
  | .paceLinkDown lane cause => Sys2Proof.Machine.execPaceLinkDown lane cause s
  | .laneSignalDetect x => Sys2Proof.Machine.execLaneSignalDetect x s
  | .laneRxAligned r => Sys2Proof.Machine.execLaneRxAligned r s
  | .laneRxLost x cause => Sys2Proof.Machine.execLaneRxLost x cause s
  | .codeError x item => Sys2Proof.Machine.execCodeError x item s
  | .featherEnter n => Sys2Proof.Machine.execFeatherEnter n s
  | .squareUpBurst n => Sys2Proof.Machine.execSquareUpBurst n s
  | .txPhaseErr x => Sys2Proof.Machine.execTxPhaseErr x s
  | .loopMismatch x => Sys2Proof.Machine.execLoopMismatch x s
  | .chkLock x => Sys2Proof.Machine.execChkLock x s
  | .chkLost x => Sys2Proof.Machine.execChkLost x s
  | .esDone x err => Sys2Proof.Machine.execEsDone x err s
  | .catchMarker n m0 m1 m2 => Sys2Proof.Machine.execCatchMarker n m0 m1 m2 s
  | .slipCompl n seq tag status data => Sys2Proof.Machine.execSlipCompl n seq tag status data s
  | .slipCredit n seq crew tailValid count tail => Sys2Proof.Machine.execSlipCredit n seq crew tailValid count tail s
  | .slipCap n version beats maxpl maxReads id station => Sys2Proof.Machine.execSlipCap n version beats maxpl maxReads id station s
  | .slipAck n seq map => Sys2Proof.Machine.execSlipAck n seq map s
  | .slipNak n seq map => Sys2Proof.Machine.execSlipNak n seq map s
  | .slipPacketDamaged n why => Sys2Proof.Machine.execSlipPacketDamaged n why s
  | .ackTimer n => Sys2Proof.Machine.execAckTimer n s
  | .replayTimeout n => Sys2Proof.Machine.execReplayTimeout n s
  | .readTimeout n slot => Sys2Proof.Machine.execReadTimeout n slot s
  | .slipLaneLost n pos => Sys2Proof.Machine.execSlipLaneLost n pos s
  | .capsTimeout n => Sys2Proof.Machine.execCapsTimeout n s
  | .slipCapSend n => Sys2Proof.Machine.execSlipCapSend n s
  | .stationSelect n => Sys2Proof.Machine.execStationSelect n s
  | .descFetch n crew => Sys2Proof.Machine.execDescFetch n crew s
  | .descComplete n => Sys2Proof.Machine.execDescComplete n s
  | .quiesceEnd crew => Sys2Proof.Machine.execQuiesceEnd crew s
  | .stationPaused n => Sys2Proof.Machine.execStationPaused n s
  | .startEdge n fine stampable => Sys2Proof.Machine.execStartEdge n fine stampable s
  | .selfTrigger => Sys2Proof.Machine.execSelfTrigger s
  | .autoTrigger => Sys2Proof.Machine.execAutoTrigger s
  | .neighWord j w => Sys2Proof.Machine.execNeighWord j w s
  | .neighTrained j => Sys2Proof.Machine.execNeighTrained j s
  | .neighTrainTimeout j => Sys2Proof.Machine.execNeighTrainTimeout j s
  | .neighCatchWord j delay => Sys2Proof.Machine.execNeighCatchWord j delay s
  | .neighLinkDown j => Sys2Proof.Machine.execNeighLinkDown j s
  | .puCalStepEnd bank failed => Sys2Proof.Machine.execPuCalStepEnd bank failed s
  | .overlapCompare bank pairs => Sys2Proof.Machine.execOverlapCompare bank pairs s
  | .spareSelftestEnd bank pass => Sys2Proof.Machine.execSpareSelftestEnd bank pass s
  | .stuckSlice bank slice => Sys2Proof.Machine.execStuckSlice bank slice s
  | .pcoefEccFail profile tap => Sys2Proof.Machine.execPcoefEccFail profile tap s
  | .fragmentStart => Sys2Proof.Machine.execFragmentStart s
  | .fragmentReadEnd => Sys2Proof.Machine.execFragmentReadEnd s
  | .lensEngineStart => Sys2Proof.Machine.execLensEngineStart s
  | .lensBlockDone engine => Sys2Proof.Machine.execLensBlockDone engine s
  | .derandOffer => Sys2Proof.Machine.execDerandOffer s
  | .derandAdmit => Sys2Proof.Machine.execDerandAdmit s
  | .satHit p w => Sys2Proof.Machine.execSatHit p w s
  | .satAligned p => Sys2Proof.Machine.execSatAligned p s
  | .satCap p type version rest crc => Sys2Proof.Machine.execSatCap p type version rest crc s
  | .satCapReqRetry p => Sys2Proof.Machine.execSatCapReqRetry p s
  | .satK285Arrival p => Sys2Proof.Machine.execSatK285Arrival p s
  | .satResyncRetry p => Sys2Proof.Machine.execSatResyncRetry p s
  | .satLinkDown p cause partialItem => Sys2Proof.Machine.execSatLinkDown p cause partialItem s
  | .satReadResp p type body crc => Sys2Proof.Machine.execSatReadResp p type body crc s
  | .satRespTimeout p => Sys2Proof.Machine.execSatRespTimeout p s
  | .satConfigSend p => Sys2Proof.Machine.execSatConfigSend p s
  | .scrubBlockDue p => Sys2Proof.Machine.execScrubBlockDue p s
  | .hkDelayEnd q => Sys2Proof.Machine.execHkDelayEnd q s
  | .hkEntryDone codes cj => Sys2Proof.Machine.execHkEntryDone codes cj s
  | .hkSelftestStart => Sys2Proof.Machine.execHkSelftestStart s
  | .hkSelftestDone ofs1 ofs128 gain1 gain2 => Sys2Proof.Machine.execHkSelftestDone ofs1 ofs128 gain1 gain2 s
  | .excSample i0 i1 i2 i3 => Sys2Proof.Machine.execExcSample i0 i1 i2 i3 s
  | .ptPeriod n => Sys2Proof.Machine.execPtPeriod n s
  | .ringRead f => Sys2Proof.Machine.execRingRead f s
  | .ringWrite f => Sys2Proof.Machine.execRingWrite f s
  | .keyedWrite f => Sys2Proof.Machine.execKeyedWrite f s
  | .rollCall f => Sys2Proof.Machine.execRollCall f s
  | .helloForward f => Sys2Proof.Machine.execHelloForward f s
  | .ringReset f => Sys2Proof.Machine.execRingReset f s
  | .ringBadOp f => Sys2Proof.Machine.execRingBadOp f s
  | .ringFramePass p => Sys2Proof.Machine.execRingFramePass p s
  | .ringFramingError inFrame => Sys2Proof.Machine.execRingFramingError inFrame s
  | .helloSend => Sys2Proof.Machine.execHelloSend s
  | .bypassOpen => Sys2Proof.Machine.execBypassOpen s
  | .bypassClose => Sys2Proof.Machine.execBypassClose s
  | .digestMismatch f => Sys2Proof.Machine.execDigestMismatch f s
  | .voteCorrect u => Sys2Proof.Machine.execVoteCorrect u s
  | .tcuSelftestEnd u pass => Sys2Proof.Machine.execTcuSelftestEnd u pass s
  | .memtestFail u => Sys2Proof.Machine.execMemtestFail u s
  | .scrubDbe h => Sys2Proof.Machine.execScrubDbe h s
  | .supplyExcursion rail high => Sys2Proof.Machine.execSupplyExcursion rail high s
  | .tempTrip sensor => Sys2Proof.Machine.execTempTrip sensor s
  | .powerOnReset => Sys2Proof.Machine.execPowerOnReset s
  | .porRelease => Sys2Proof.Machine.execPorRelease s
  | .resetN lowNs taken => Sys2Proof.Machine.execResetN lowNs taken s
  | .sweepDone => Sys2Proof.Machine.execSweepDone s
  | .crossingTick tick => Sys2Proof.Machine.execCrossingTick tick s
  | .controlFrameDiscard lane => Sys2Proof.Machine.execControlFrameDiscard lane s
  | .fastCommandDiscard a b => Sys2Proof.Machine.execFastCommandDiscard a b s
  | .laneSignalLost x => Sys2Proof.Machine.execLaneSignalLost x s
  | .selfCheckError u => Sys2Proof.Machine.execSelfCheckError u s
  | .scrubSbe h => Sys2Proof.Machine.execScrubSbe h s
  | .memtestPassDone u => Sys2Proof.Machine.execMemtestPassDone u s
  | .tapInstruction t => Sys2Proof.Machine.execTapInstruction t s

end Sys2Proof.Machine
end

