-- ==== Sys2Proof/Footprint.lean ====
section
/-! DEFINITION. Which components of the state a command may change at all: the footprint of each command of the table. The register
words are one component here; which words a command changes, the statements about the command say. -/

namespace Sys2Proof

open Machine

/-- The components of the state, by the names of its fields. -/
inductive Part where
  | pending | out | evtSeen | fired | evmq | free | phase | swept | regs | prevRegs | strokeEnd | snap | holdC
  | holdG | staged | ovf | unlockC | unlockG | snapReq | arbC | arbG | served | clk | time | pace | tcuA | tcuB
  | cox | banks | trimCur | trimCal | overs | words | vals | pouts | stat | cnSegs | hubSegs | fades | prevFades
  | fadeQ | profiles | badTaps | segs | marks | rateCr | prevRateCr | records | hist | histClr | servoN | wake
  | wakeBad | accQ | evNo | runStart | startQ | startLast | presc | hits | nbHits | selfLast | selfSeen | coincTold
  | autoCnt | autoDue | nbSt | nbMsg | nbErrs | nbMiss | easyBroken | frags | fragId | recBad | engines | lensStall
  | lensWait | lensClk | offer | held | admitId | shedSeen | tests | laneFrom | txRd | rxRd | rxErr | codeTold
  | rxTail | prbs | checks | txOff | loopFrom | loopTold | es | sig | sigRun | sigDone | laneBusy | slipWant
  | links | dmas | slots | fetched | seats | seatUse | quiesce | seatWait | spillTold | slipTold | satHits
  | satGaps | satOut | satFast | sats | passTold | hk | tap | pads | ring | tp | tpMarks | tpLast
deriving DecidableEq, Repr

/-- Two states hold the same in a component. -/
def Part.same (s t : State) : Part → Prop
  | .pending => t.pending = s.pending
  | .out => t.out = s.out
  | .evtSeen => t.evtSeen = s.evtSeen
  | .fired => t.fired = s.fired
  | .evmq => t.evmq = s.evmq
  | .free => t.free = s.free
  | .phase => t.phase = s.phase
  | .swept => t.swept = s.swept
  | .regs => t.regs = s.regs
  | .prevRegs => t.prevRegs = s.prevRegs
  | .strokeEnd => t.strokeEnd = s.strokeEnd
  | .snap => t.snap = s.snap
  | .holdC => t.holdC = s.holdC
  | .holdG => t.holdG = s.holdG
  | .staged => t.staged = s.staged
  | .ovf => t.ovf = s.ovf
  | .unlockC => t.unlockC = s.unlockC
  | .unlockG => t.unlockG = s.unlockG
  | .snapReq => t.snapReq = s.snapReq
  | .arbC => t.arbC = s.arbC
  | .arbG => t.arbG = s.arbG
  | .served => t.served = s.served
  | .clk => t.clk = s.clk
  | .time => t.time = s.time
  | .pace => t.pace = s.pace
  | .tcuA => t.tcuA = s.tcuA
  | .tcuB => t.tcuB = s.tcuB
  | .cox => t.cox = s.cox
  | .banks => t.banks = s.banks
  | .trimCur => t.trimCur = s.trimCur
  | .trimCal => t.trimCal = s.trimCal
  | .overs => t.overs = s.overs
  | .words => t.words = s.words
  | .vals => t.vals = s.vals
  | .pouts => t.pouts = s.pouts
  | .stat => t.stat = s.stat
  | .cnSegs => t.cnSegs = s.cnSegs
  | .hubSegs => t.hubSegs = s.hubSegs
  | .fades => t.fades = s.fades
  | .prevFades => t.prevFades = s.prevFades
  | .fadeQ => t.fadeQ = s.fadeQ
  | .profiles => t.profiles = s.profiles
  | .badTaps => t.badTaps = s.badTaps
  | .segs => t.segs = s.segs
  | .marks => t.marks = s.marks
  | .rateCr => t.rateCr = s.rateCr
  | .prevRateCr => t.prevRateCr = s.prevRateCr
  | .records => t.records = s.records
  | .hist => t.hist = s.hist
  | .histClr => t.histClr = s.histClr
  | .servoN => t.servoN = s.servoN
  | .wake => t.wake = s.wake
  | .wakeBad => t.wakeBad = s.wakeBad
  | .accQ => t.accQ = s.accQ
  | .evNo => t.evNo = s.evNo
  | .runStart => t.runStart = s.runStart
  | .startQ => t.startQ = s.startQ
  | .startLast => t.startLast = s.startLast
  | .presc => t.presc = s.presc
  | .hits => t.hits = s.hits
  | .nbHits => t.nbHits = s.nbHits
  | .selfLast => t.selfLast = s.selfLast
  | .selfSeen => t.selfSeen = s.selfSeen
  | .coincTold => t.coincTold = s.coincTold
  | .autoCnt => t.autoCnt = s.autoCnt
  | .autoDue => t.autoDue = s.autoDue
  | .nbSt => t.nbSt = s.nbSt
  | .nbMsg => t.nbMsg = s.nbMsg
  | .nbErrs => t.nbErrs = s.nbErrs
  | .nbMiss => t.nbMiss = s.nbMiss
  | .easyBroken => t.easyBroken = s.easyBroken
  | .frags => t.frags = s.frags
  | .fragId => t.fragId = s.fragId
  | .recBad => t.recBad = s.recBad
  | .engines => t.engines = s.engines
  | .lensStall => t.lensStall = s.lensStall
  | .lensWait => t.lensWait = s.lensWait
  | .lensClk => t.lensClk = s.lensClk
  | .offer => t.offer = s.offer
  | .held => t.held = s.held
  | .admitId => t.admitId = s.admitId
  | .shedSeen => t.shedSeen = s.shedSeen
  | .tests => t.tests = s.tests
  | .laneFrom => t.laneFrom = s.laneFrom
  | .txRd => t.txRd = s.txRd
  | .rxRd => t.rxRd = s.rxRd
  | .rxErr => t.rxErr = s.rxErr
  | .codeTold => t.codeTold = s.codeTold
  | .rxTail => t.rxTail = s.rxTail
  | .prbs => t.prbs = s.prbs
  | .checks => t.checks = s.checks
  | .txOff => t.txOff = s.txOff
  | .loopFrom => t.loopFrom = s.loopFrom
  | .loopTold => t.loopTold = s.loopTold
  | .es => t.es = s.es
  | .sig => t.sig = s.sig
  | .sigRun => t.sigRun = s.sigRun
  | .sigDone => t.sigDone = s.sigDone
  | .laneBusy => t.laneBusy = s.laneBusy
  | .slipWant => t.slipWant = s.slipWant
  | .links => t.links = s.links
  | .dmas => t.dmas = s.dmas
  | .slots => t.slots = s.slots
  | .fetched => t.fetched = s.fetched
  | .seats => t.seats = s.seats
  | .seatUse => t.seatUse = s.seatUse
  | .quiesce => t.quiesce = s.quiesce
  | .seatWait => t.seatWait = s.seatWait
  | .spillTold => t.spillTold = s.spillTold
  | .slipTold => t.slipTold = s.slipTold
  | .satHits => t.satHits = s.satHits
  | .satGaps => t.satGaps = s.satGaps
  | .satOut => t.satOut = s.satOut
  | .satFast => t.satFast = s.satFast
  | .sats => t.sats = s.sats
  | .passTold => t.passTold = s.passTold
  | .hk => t.hk = s.hk
  | .tap => t.tap = s.tap
  | .pads => t.pads = s.pads
  | .ring => t.ring = s.ring
  | .tp => t.tp = s.tp
  | .tpMarks => t.tpMarks = s.tpMarks
  | .tpLast => t.tpLast = s.tpLast

/-- What every command may change: what it puts out, the events and sources of its clock, register words, and what follows the flags
of every core clock (R59, R106, R287, R372). -/
def Part.base : List Part := [.out, .evtSeen, .fired, .evmq, .regs, .pace, .held, .hk]

/-- What a reset from outside the supplies may change: all but the queue, the draw of free values and the TAP (R418, R448). -/
def Part.resets : List Part := [
  .out, .evtSeen, .fired, .evmq, .phase, .swept, .regs, .prevRegs, .strokeEnd, .snap, .holdC, .holdG, .staged,
  .ovf, .unlockC, .unlockG, .snapReq, .arbC, .arbG, .served, .clk, .time, .pace, .tcuA, .tcuB, .cox, .banks,
  .trimCur, .trimCal, .overs, .words, .vals, .pouts, .stat, .cnSegs, .hubSegs, .fades, .prevFades, .fadeQ,
  .profiles, .badTaps, .segs, .marks, .rateCr, .prevRateCr, .records, .hist, .histClr, .servoN, .wake, .wakeBad,
  .accQ, .evNo, .runStart, .startQ, .startLast, .presc, .hits, .nbHits, .selfLast, .selfSeen, .coincTold, .autoCnt,
  .autoDue, .nbSt, .nbMsg, .nbErrs, .nbMiss, .easyBroken, .frags, .fragId, .recBad, .engines, .lensStall,
  .lensWait, .lensClk, .offer, .held, .admitId, .shedSeen, .tests, .laneFrom, .txRd, .rxRd, .rxErr, .codeTold,
  .rxTail, .prbs, .checks, .txOff, .loopFrom, .loopTold, .es, .sig, .sigRun, .sigDone, .laneBusy, .slipWant,
  .links, .dmas, .slots, .fetched, .seats, .seatUse, .quiesce, .seatWait, .spillTold, .slipTold, .satHits,
  .satGaps, .satOut, .satFast, .sats, .passTold, .hk, .pads, .ring, .tp, .tpMarks, .tpLast]

/-- What a catch may change (R21, R22). -/
def Part.catches : List Part := [
  .out, .evtSeen, .fired, .evmq, .free, .regs, .prevRegs, .snap, .holdC, .holdG, .staged, .ovf, .unlockC, .unlockG,
  .snapReq, .arbC, .arbG, .served, .clk, .time, .pace, .tcuA, .tcuB, .cox, .banks, .hubSegs, .fades, .prevFades,
  .fadeQ, .profiles, .badTaps, .segs, .marks, .rateCr, .prevRateCr, .records, .hist, .histClr, .servoN, .wake,
  .accQ, .evNo, .runStart, .autoCnt, .autoDue, .nbSt, .nbMsg, .nbErrs, .nbMiss, .easyBroken, .frags, .engines,
  .lensClk, .held, .tests, .laneFrom, .txRd, .prbs, .checks, .txOff, .loopFrom, .es, .sig, .sigRun, .sigDone,
  .laneBusy, .slipWant, .links, .dmas, .slots, .fetched, .seats, .seatUse, .quiesce, .seatWait, .spillTold,
  .slipTold, .satGaps, .satOut, .satFast, .sats, .hk, .ring, .tpMarks]

/-- The components that a command may change. -/
def Instr.touches : Instr → List Part
  | .catch_ _ => Part.catches
  | .regWrite _ _ _ => Part.base ++ [
      .free, .holdC, .holdG, .staged, .ovf, .unlockC, .unlockG, .snapReq, .arbC, .arbG, .served, .time, .banks,
      .badTaps, .frags, .engines, .lensClk, .es, .laneBusy, .slipWant, .links, .dmas, .fetched, .seats, .seatUse,
      .seatWait, .spillTold, .sats, .ring]
  | .keyUnlock _ _ => Part.base ++ [
      .free, .holdC, .holdG, .staged, .ovf, .unlockC, .unlockG, .snapReq, .arbC, .arbG, .served, .time, .banks,
      .badTaps, .frags, .engines, .lensClk, .es, .laneBusy, .slipWant, .links, .dmas, .fetched, .seats, .seatUse,
      .seatWait, .spillTold, .sats, .ring]
  | .evtClear _ _ _ => Part.base ++ [
      .free, .holdC, .holdG, .staged, .ovf, .unlockC, .unlockG, .snapReq, .arbC, .arbG, .served, .time, .banks,
      .badTaps, .frags, .engines, .lensClk, .es, .laneBusy, .slipWant, .links, .dmas, .fetched, .seats, .seatUse,
      .seatWait, .spillTold, .sats, .ring]
  | .counterClear _ _ _ => Part.base ++ [
      .free, .holdC, .holdG, .staged, .ovf, .unlockC, .unlockG, .snapReq, .arbC, .arbG, .served, .time, .banks,
      .badTaps, .frags, .engines, .lensClk, .es, .laneBusy, .slipWant, .links, .dmas, .fetched, .seats, .seatUse,
      .seatWait, .spillTold, .sats, .ring]
  | .pageResetRequest _ _ => Part.base ++ [
      .free, .holdC, .holdG, .staged, .ovf, .unlockC, .unlockG, .snapReq, .arbC, .arbG, .served, .time, .banks,
      .badTaps, .frags, .engines, .lensClk, .es, .laneBusy, .slipWant, .links, .dmas, .fetched, .seats, .seatUse,
      .seatWait, .spillTold, .sats, .ring]
  | .snapshotRequest _ => Part.base ++ [
      .free, .holdC, .holdG, .staged, .ovf, .unlockC, .unlockG, .snapReq, .arbC, .arbG, .served, .time, .banks,
      .badTaps, .frags, .engines, .lensClk, .es, .laneBusy, .slipWant, .links, .dmas, .fetched, .seats, .seatUse,
      .seatWait, .spillTold, .sats, .ring]
  | .coherentGroupRead _ _ => Part.base ++ [
      .free, .holdC, .holdG, .staged, .ovf, .unlockC, .unlockG, .snapReq, .arbC, .arbG, .served, .time, .banks,
      .badTaps, .frags, .engines, .lensClk, .es, .laneBusy, .slipWant, .links, .dmas, .fetched, .seats, .seatUse,
      .seatWait, .spillTold, .sats, .ring]
  | .hkResultRead _ _ => Part.base ++ [
      .free, .holdC, .holdG, .staged, .ovf, .unlockC, .unlockG, .snapReq, .arbC, .arbG, .served, .time, .banks,
      .badTaps, .frags, .engines, .lensClk, .es, .laneBusy, .slipWant, .links, .dmas, .fetched, .seats, .seatUse,
      .seatWait, .spillTold, .sats, .ring]
  | .calNow _ _ => Part.base ++ [
      .free, .holdC, .holdG, .staged, .ovf, .unlockC, .unlockG, .snapReq, .arbC, .arbG, .served, .time, .banks,
      .badTaps, .frags, .engines, .lensClk, .es, .laneBusy, .slipWant, .links, .dmas, .fetched, .seats, .seatUse,
      .seatWait, .spillTold, .sats, .ring]
  | .coefWrite _ _ => Part.base ++ [
      .free, .holdC, .holdG, .staged, .ovf, .unlockC, .unlockG, .snapReq, .arbC, .arbG, .served, .time, .banks,
      .badTaps, .frags, .engines, .lensClk, .es, .laneBusy, .slipWant, .links, .dmas, .fetched, .seats, .seatUse,
      .seatWait, .spillTold, .sats, .ring]
  | .creditAdd _ _ => Part.base ++ [
      .free, .holdC, .holdG, .staged, .ovf, .unlockC, .unlockG, .snapReq, .arbC, .arbG, .served, .time, .banks,
      .badTaps, .frags, .engines, .lensClk, .es, .laneBusy, .slipWant, .links, .dmas, .fetched, .seats, .seatUse,
      .seatWait, .spillTold, .sats, .ring]
  | .lensFlush _ => Part.base ++ [
      .free, .holdC, .holdG, .staged, .ovf, .unlockC, .unlockG, .snapReq, .arbC, .arbG, .served, .time, .banks,
      .badTaps, .frags, .engines, .lensClk, .es, .laneBusy, .slipWant, .links, .dmas, .fetched, .seats, .seatUse,
      .seatWait, .spillTold, .sats, .ring]
  | .esGo _ _ => Part.base ++ [
      .free, .holdC, .holdG, .staged, .ovf, .unlockC, .unlockG, .snapReq, .arbC, .arbG, .served, .time, .banks,
      .badTaps, .frags, .engines, .lensClk, .es, .laneBusy, .slipWant, .links, .dmas, .fetched, .seats, .seatUse,
      .seatWait, .spillTold, .sats, .ring]
  | .shadowDataWrite _ _ => Part.base ++ [
      .free, .holdC, .holdG, .staged, .ovf, .unlockC, .unlockG, .snapReq, .arbC, .arbG, .served, .time, .banks,
      .badTaps, .frags, .engines, .lensClk, .es, .laneBusy, .slipWant, .links, .dmas, .fetched, .seats, .seatUse,
      .seatWait, .spillTold, .sats, .ring]
  | .shadowForget _ => Part.base ++ [
      .free, .holdC, .holdG, .staged, .ovf, .unlockC, .unlockG, .snapReq, .arbC, .arbG, .served, .time, .banks,
      .badTaps, .frags, .engines, .lensClk, .es, .laneBusy, .slipWant, .links, .dmas, .fetched, .seats, .seatUse,
      .seatWait, .spillTold, .sats, .ring]
  | .capRearm _ _ => Part.base ++ [
      .free, .holdC, .holdG, .staged, .ovf, .unlockC, .unlockG, .snapReq, .arbC, .arbG, .served, .time, .banks,
      .badTaps, .frags, .engines, .lensClk, .es, .laneBusy, .slipWant, .links, .dmas, .fetched, .seats, .seatUse,
      .seatWait, .spillTold, .sats, .ring]
  | .cmpArm _ _ _ => Part.base ++ [
      .free, .holdC, .holdG, .staged, .ovf, .unlockC, .unlockG, .snapReq, .arbC, .arbG, .served, .time, .banks,
      .badTaps, .frags, .engines, .lensClk, .es, .laneBusy, .slipWant, .links, .dmas, .fetched, .seats, .seatUse,
      .seatWait, .spillTold, .sats, .ring]
  | .hkRegGo _ => Part.base ++ [
      .free, .holdC, .holdG, .staged, .ovf, .unlockC, .unlockG, .snapReq, .arbC, .arbG, .served, .time, .banks,
      .badTaps, .frags, .engines, .lensClk, .es, .laneBusy, .slipWant, .links, .dmas, .fetched, .seats, .seatUse,
      .seatWait, .spillTold, .sats, .ring]
  | .hkInjGo _ => Part.base ++ [
      .free, .holdC, .holdG, .staged, .ovf, .unlockC, .unlockG, .snapReq, .arbC, .arbG, .served, .time, .banks,
      .badTaps, .frags, .engines, .lensClk, .es, .laneBusy, .slipWant, .links, .dmas, .fetched, .seats, .seatUse,
      .seatWait, .spillTold, .sats, .ring]
  | .hkSelftestGo _ => Part.base ++ [
      .free, .holdC, .holdG, .staged, .ovf, .unlockC, .unlockG, .snapReq, .arbC, .arbG, .served, .time, .banks,
      .badTaps, .frags, .engines, .lensClk, .es, .laneBusy, .slipWant, .links, .dmas, .fetched, .seats, .seatUse,
      .seatWait, .spillTold, .sats, .ring]
  | .accept _ _ => Part.base ++ [.time, .accQ, .evNo, .startQ, .presc, .autoCnt, .easyBroken, .satFast]
  | .resync _ _ => Part.base ++ [.time]
  | .snapshot _ _ => Part.base ++ [.snapReq, .time]
  | .orbitReset _ _ => Part.base ++ [.time]
  | .runStart _ _ => Part.base ++ [.time]
  | .runStop _ _ => Part.base ++ [.time]
  | .calPulse _ _ _ => Part.base ++ [.time]
  | .moor _ _ => Part.base ++ [.time]
  | .wake _ _ => Part.base ++ [.time]
  | .paceRegRead _ _ _ => Part.base ++ [
      .free, .holdC, .holdG, .staged, .ovf, .unlockC, .unlockG, .snapReq, .arbC, .arbG, .served, .time, .banks,
      .badTaps, .frags, .engines, .lensClk, .es, .laneBusy, .slipWant, .links, .dmas, .fetched, .seats, .seatUse,
      .seatWait, .spillTold, .sats, .ring]
  | .paceRegWrite _ _ _ _ => Part.base ++ [
      .free, .holdC, .holdG, .staged, .ovf, .unlockC, .unlockG, .snapReq, .arbC, .arbG, .served, .time, .banks,
      .badTaps, .frags, .engines, .lensClk, .es, .laneBusy, .slipWant, .links, .dmas, .fetched, .seats, .seatUse,
      .seatWait, .spillTold, .sats, .ring]
  | .syncMessage _ _ _ => Part.base ++ [.free, .time]
  | .delayResp _ _ _ => Part.base ++ [.free, .clk, .time]
  | .cnAnnounce _ _ _ => Part.base ++ [.free, .time]
  | .linkInfo _ _ => Part.base ++ [.time]
  | .delayReqSend => Part.base ++ [.free, .time]
  | .exchangeTimeout => Part.base ++ [.time]
  | .fullResync => Part.catches ++ [.cnSegs]
  | .orbitStartComma _ _ => Part.base ++ [.time]
  | .cmpFire _ => Part.base ++ [.time]
  | .evmTaskFire => Part.base ++ [.snapReq, .time, .frags, .engines]
  | .xoStable => Part.base ++ [.phase, .swept, .clk, .time]
  | .freqGate _ _ _ _ => Part.base ++ [.clk, .time]
  | .sourceLost _ => Part.base ++ [.clk, .time]
  | .xoFault => Part.base ++ [.clk, .time]
  | .rampDone => Part.base ++ [.clk, .time]
  | .relocked => Part.base ++ [.time]
  | .paceSignalPresent _ => Part.base ++ [.time]
  | .paceAligned _ => Part.base ++ [.time]
  | .paceLinkUp _ => Part.base ++ [.free, .time]
  | .paceLinkDown _ _ => Part.base ++ [.clk, .time]
  | .laneSignalDetect _ => Part.base ++ [.time]
  | .laneRxAligned _ => Part.base ++ [.free, .time, .rxRd]
  | .laneRxLost _ _ => Part.base ++ [.time, .es, .laneBusy, .slipWant, .links, .dmas, .slots, .fetched]
  | .codeError _ _ => Part.base ++ [.time, .rxErr, .codeTold, .satGaps, .sats]
  | .featherEnter _ => Part.base ++ [.time]
  | .squareUpBurst _ => Part.base ++ [.time, .laneFrom, .txRd, .loopFrom]
  | .txPhaseErr _ => Part.base ++ [.time, .txOff]
  | .loopMismatch _ => Part.base ++ [.time, .loopTold]
  | .chkLock _ => Part.base ++ [.time, .checks]
  | .chkLost _ => Part.base ++ [.time, .checks, .es]
  | .esDone _ _ => Part.base ++ [.time, .es]
  | .catchMarker _ _ _ _ => Part.base ++ [.time, .laneBusy, .slipWant, .links, .dmas, .slots, .fetched]
  | .slipCompl _ _ _ _ _ => Part.base ++ [
      .time, .laneBusy, .slipWant, .links, .dmas, .slots, .fetched, .seats, .seatUse, .quiesce, .seatWait,
      .spillTold, .slipTold]
  | .slipCredit _ _ _ _ _ _ => Part.base ++ [
      .time, .laneBusy, .slipWant, .links, .dmas, .slots, .fetched, .seats, .seatUse, .seatWait, .spillTold,
      .slipTold]
  | .slipCap _ _ _ _ _ _ _ => Part.base ++ [.time, .slipWant, .links, .dmas, .slots, .fetched]
  | .slipAck _ _ _ => Part.base ++ [
      .time, .laneBusy, .slipWant, .links, .dmas, .slots, .fetched, .seats, .seatUse, .seatWait, .spillTold,
      .slipTold]
  | .slipNak _ _ _ => Part.base ++ [
      .time, .laneBusy, .slipWant, .links, .dmas, .slots, .fetched, .seats, .seatUse, .seatWait, .spillTold,
      .slipTold]
  | .slipPacketDamaged _ _ => Part.base ++ [.time, .laneBusy, .slipWant, .links]
  | .ackTimer _ => Part.base ++ [.time, .laneBusy, .slipWant, .links]
  | .replayTimeout _ => Part.base ++ [
      .time, .laneBusy, .slipWant, .links, .dmas, .slots, .fetched, .seats, .seatUse, .seatWait, .spillTold,
      .slipTold]
  | .readTimeout _ _ => Part.base ++ [.time, .slots, .fetched]
  | .slipLaneLost _ _ => Part.base ++ [.time, .laneBusy, .slipWant, .links, .dmas, .slots, .fetched]
  | .capsTimeout _ => Part.base ++ [.time, .slipWant, .links, .dmas, .slots, .fetched]
  | .slipCapSend _ => Part.base ++ [.time, .laneBusy, .slipWant, .links]
  | .stationSelect _ => Part.base ++ [
      .time, .laneBusy, .slipWant, .links, .dmas, .fetched, .seats, .seatUse, .seatWait, .spillTold]
  | .descFetch _ _ => Part.base ++ [
      .time, .laneBusy, .slipWant, .links, .slots, .fetched, .seats, .seatUse, .seatWait, .spillTold]
  | .descComplete _ => Part.base ++ [
      .time, .laneBusy, .slipWant, .links, .dmas, .fetched, .seats, .seatUse, .seatWait, .spillTold]
  | .quiesceEnd _ => Part.base ++ [.time, .slots, .quiesce]
  | .stationPaused _ => Part.base ++ [.time]
  | .startEdge _ _ _ => Part.base ++ [.time, .startQ, .startLast]
  | .selfTrigger => Part.base ++ [.time, .accQ, .evNo, .startQ, .presc, .selfLast, .selfSeen, .coincTold, .autoCnt]
  | .autoTrigger => Part.base ++ [.time, .accQ, .evNo, .startQ, .presc, .autoCnt, .autoDue]
  | .neighWord _ _ => Part.base ++ [.free, .time, .nbHits, .nbSt, .nbMsg, .nbErrs, .nbMiss]
  | .neighTrained _ => Part.base ++ [.time, .nbSt, .nbMsg, .nbErrs, .nbMiss]
  | .neighTrainTimeout _ => Part.base ++ [.time, .nbSt, .nbMsg, .nbErrs, .nbMiss]
  | .neighCatchWord _ _ => Part.base ++ [.free, .time, .nbSt, .nbMsg, .nbErrs, .nbMiss]
  | .neighLinkDown _ => Part.base ++ [.time, .nbSt, .nbMsg, .nbErrs, .nbMiss]
  | .puCalStepEnd _ _ => Part.base ++ [.time, .banks]
  | .overlapCompare _ _ => Part.base ++ [.time, .banks]
  | .spareSelftestEnd _ _ => Part.base ++ [.time, .banks]
  | .stuckSlice _ _ => Part.base ++ [.time, .banks, .words]
  | .pcoefEccFail _ _ => Part.base ++ [.time, .badTaps]
  | .fragmentStart => Part.base ++ [.free, .time, .records, .accQ, .frags, .fragId, .recBad]
  | .fragmentReadEnd => Part.base ++ [.free, .time, .hist, .accQ, .frags, .lensStall, .lensWait, .lensClk]
  | .lensEngineStart => Part.base ++ [.free, .time, .frags, .engines, .lensStall, .lensWait, .lensClk]
  | .lensBlockDone _ => Part.base ++ [.time, .frags, .engines, .lensStall, .lensWait, .lensClk]
  | .derandOffer => Part.base ++ [.time, .records, .frags, .recBad, .offer, .admitId, .shedSeen]
  | .derandAdmit => Part.base ++ [.time, .offer, .admitId, .shedSeen]
  | .satHit _ _ => Part.base ++ [.time, .satHits, .sats]
  | .satAligned _ => Part.base ++ [.time, .sats]
  | .satCap _ _ _ _ _ => Part.base ++ [.time, .sats]
  | .satCapReqRetry _ => Part.base ++ [.time, .sats]
  | .satK285Arrival _ => Part.base ++ [.time, .satOut, .sats]
  | .satResyncRetry _ => Part.base ++ [.time, .sats]
  | .satLinkDown _ _ _ => Part.base ++ [.time, .satOut, .sats]
  | .satReadResp _ _ _ _ => Part.base ++ [.time, .sats]
  | .satRespTimeout _ => Part.base ++ [.time, .sats]
  | .satConfigSend _ => Part.base ++ [.time, .sats]
  | .scrubBlockDue _ => Part.base ++ [.time, .sats, .passTold]
  | .hkDelayEnd _ => Part.base ++ [.time]
  | .hkEntryDone _ _ => Part.base ++ [.free, .time]
  | .hkSelftestStart => Part.base ++ [.time]
  | .hkSelftestDone _ _ _ _ => Part.base ++ [.time]
  | .excSample _ _ _ _ => Part.base ++ [.time]
  | .ptPeriod _ => Part.base ++ [.free, .time]
  | .ringRead _ => Part.base ++ [
      .free, .holdC, .holdG, .staged, .ovf, .unlockC, .unlockG, .snapReq, .arbC, .arbG, .served, .time, .banks,
      .badTaps, .frags, .engines, .lensClk, .es, .laneBusy, .slipWant, .links, .dmas, .fetched, .seats, .seatUse,
      .seatWait, .spillTold, .sats, .ring]
  | .ringWrite _ => Part.base ++ [
      .free, .holdC, .holdG, .staged, .ovf, .unlockC, .unlockG, .snapReq, .arbC, .arbG, .served, .time, .banks,
      .badTaps, .frags, .engines, .lensClk, .es, .laneBusy, .slipWant, .links, .dmas, .fetched, .seats, .seatUse,
      .seatWait, .spillTold, .sats, .ring]
  | .keyedWrite _ => Part.base ++ [
      .free, .holdC, .holdG, .staged, .ovf, .unlockC, .unlockG, .snapReq, .arbC, .arbG, .served, .time, .banks,
      .badTaps, .frags, .engines, .lensClk, .es, .laneBusy, .slipWant, .links, .dmas, .fetched, .seats, .seatUse,
      .seatWait, .spillTold, .sats, .ring]
  | .rollCall _ => Part.base ++ [.time, .ring]
  | .helloForward _ => Part.base ++ [.time]
  | .ringReset _ => Part.resets
  | .ringBadOp _ => Part.base ++ [.time]
  | .ringFramePass _ => Part.base ++ [.time, .ring]
  | .ringFramingError _ => Part.base ++ [.time, .ring]
  | .helloSend => Part.base ++ [.time, .ring]
  | .bypassOpen => Part.base ++ [.time, .ring]
  | .bypassClose => Part.base ++ [.time, .ring]
  | .digestMismatch _ => Part.base ++ [.free, .time, .tcuA, .tcuB, .cox]
  | .voteCorrect _ => Part.base ++ [.time, .cox]
  | .tcuSelftestEnd _ _ => Part.base ++ [.time, .tcuA, .tcuB]
  | .memtestFail _ => Part.base ++ [.time, .tcuA, .tcuB, .cox]
  | .scrubDbe _ => Part.base ++ [
      .free, .time, .tcuA, .tcuB, .badTaps, .wakeBad, .accQ, .frags, .recBad, .engines, .slipWant, .links, .dmas,
      .slots, .fetched, .quiesce, .satGaps]
  | .supplyExcursion _ _ => Part.base ++ [.time, .pads, .ring]
  | .tempTrip _ => Part.base ++ [.time]
  | .powerOnReset => Part.resets ++ [.tap]
  | .porRelease => Part.base ++ [.phase, .time]
  | .resetN _ _ => Part.resets ++ [.tap]
  | .sweepDone => Part.base ++ [
      .free, .phase, .holdC, .holdG, .staged, .ovf, .unlockC, .unlockG, .snapReq, .arbC, .arbG, .served, .time,
      .banks, .badTaps, .frags, .engines, .lensClk, .es, .laneBusy, .slipWant, .links, .dmas, .fetched, .seats,
      .seatUse, .seatWait, .spillTold, .sats, .ring]
  | .crossingTick _ => Part.base ++ [
      .free, .swept, .strokeEnd, .holdC, .holdG, .staged, .ovf, .unlockC, .unlockG, .snapReq, .arbC, .arbG,
      .served, .clk, .time, .banks, .trimCur, .trimCal, .overs, .words, .vals, .pouts, .stat, .badTaps, .marks,
      .wake, .wakeBad, .accQ, .evNo, .startQ, .presc, .hits, .nbHits, .autoCnt, .frags, .engines, .lensStall,
      .lensWait, .lensClk, .laneFrom, .txRd, .rxRd, .rxErr, .codeTold, .rxTail, .prbs, .checks, .loopFrom, .es,
      .sig, .sigRun, .sigDone, .laneBusy, .slipWant, .links, .dmas, .slots, .fetched, .seats, .seatUse, .seatWait,
      .spillTold, .slipTold, .satHits, .satGaps, .satFast, .sats, .ring, .tp, .tpLast]
  | .controlFrameDiscard _ => Part.base ++ [.time]
  | .fastCommandDiscard _ _ => Part.base ++ [.time]
  | .laneSignalLost _ => Part.base ++ [.time]
  | .selfCheckError _ => Part.base ++ [.time, .tcuA, .tcuB]
  | .scrubSbe _ => Part.base ++ [.time]
  | .memtestPassDone _ => Part.base ++ [.time, .tcuA, .tcuB]
  | .tapInstruction _ => Part.base ++ [.time, .tap, .pads]

end Sys2Proof
end

