-- ==== Sys2Proof/Safety.lean ====
section
/-! DEFINITION. The vocabulary of the claims: how two states agree, what a CT-S counter reads after counting, when an access is
performed at once, and what holds in every state that the hub leaves behind. -/

namespace Sys2Proof.Machine

/-- What a CT-S counter of `w` bits reads after counting `n` from `v` (R50): PEGGED with all ones below it once the count reaches
its maximum. -/
def counted (w v n : Nat) : Nat :=
  if v % 2 ^ (w - 1) + n < 2 ^ (w - 1) - 1 then v + n else 2 ^ w - 1

/-- The bits that the hub sets again at every core clock, whatever the command (R91, R224, R282, R283, R287, R415, R416): the
derandomiser's and the queue's flags, HEALTH.STATUS and SETTLED, with the events they raise and, where EASY rises,
DERAND.EASY_CNT and PACEA.EASY_ACCEPTS. -/
def flagBits (key : Nat) : Word :=
  if key = 0x4A010 then 0xFFFF01F8
  else if key = 0x4A04C then 0x0000000F
  else if key = 0x4A058 then 0xFFFFFFFF
  else if key = 0x0E0A8 then 0xFFFFFFFF
  else if key = 0x30058 then 0x00000002
  else if key = 0x06010 then 0xFFFF0080
  else if key = 0x06040 then 0x00001FFF
  else if key = 0x0C010 then 0xFFFF0080
  else if key = 0x0C080 then 0x00000002
  else 0

/-- The EVT_STATUS word of a page (R37). -/
def evtKey (pg : Nat) : Nat := pg * 4096 + 0x010

/-- The FAULT_CODE word of a page (R37). -/
def faultKey (pg : Nat) : Nat := pg * 4096 + 0x01C

/-- The PAGE_STATE word of a page (R37). -/
def stateKey (pg : Nat) : Nat := pg * 4096 + 0x00C

/-- The words of the capture units (R95). -/
def captureKeys : List Nat := (List.range 64).map (fun i => 0x0C180 + 4 * i)

/-- What lane `l` delivered, of what lanes A and B delivered. -/
def onLane {α : Type} (l : PaceLane) (a b : α) : α := match l with
  | .A => a
  | .B => b

namespace State

/-- A lane that received the frame that is delivered now delivered something good (R101, R102, R112): the data lane, or its partner as
long as that one could repair it. -/
def delivers (s : State) (good : PaceLane → Bool) : Bool :=
  (s.whole s.dataLane && good s.dataLane) || (s.whole s.dataLane.other && good s.dataLane.other)

/-- Every register word outside `ks` is in `t` what it is in `s`, but for the flags that hold at every core clock. -/
def keeps (s t : State) (ks : List Nat) : Prop :=
  ∀ k, k ∉ ks → t.rd k &&& ~~~flagBits k = s.rd k &&& ~~~flagBits k

/-- The register words of every page outside `pgs` are in `t` what they are in `s`, but for the same flags. -/
def keepsPages (s t : State) (pgs : List Nat) : Prop :=
  ∀ k, k / 4096 % 256 ∉ pgs → t.rd k &&& ~~~flagBits k = s.rd k &&& ~~~flagBits k

/-- The state without its register words and without what belongs to the command itself (the outputs, the events of its clock, the
sources it fired) or follows the flags of every core clock (R106, R287). -/
def bare (s : State) : State :=
  { s with
    out := [], evtSeen := [], fired := [], regs := []
    pace := { s.pace with nE := none, breach := false }
    held := s.held.map (fun h => { h with told := false }) }

/-- `bare`, without the event matrix's firings on their way to the task inputs (R59) as well. -/
def still (s : State) : State := { s.bare with evmq := [] }

/-- An access of a port to address `a` is performed at once: the hub is alive, the port carries accesses (R394, R424), nothing of it
waits before this one, and the sweep, if it still runs, has passed the memory that the register reaches (R55, R57). -/
def serves (s : State) (p : Port) (a : Nat) : Prop :=
  s.alive = true ∧ s.portOpen p = true ∧ s.waitingAt p = [] ∧ s.sweepHolds a = false

/-- The flags of every core clock say what their rules make of the rest of the state: the throttle (R224, R282, R283), HEALTH.STATUS
(R415, R416) and SETTLED (R91). -/
def flagsTrue (s : State) : Prop :=
  s.alive = true →
    s.get ⟨0x4A04C, 0, 4⟩ = s.throttleWord ∧ s.flag R.ACQ_STATUS_EASY_REQ = s.queueAsks
      ∧ s.get ⟨0x06040, 0, 13⟩ = s.healthWord ∧ s.flag R.TIME_STATUS_SETTLED = s.settled

/-- The register words are in their canonical form. -/
def regsWf (s : State) : Bool := Assoc.wf resetWord s.regs

/-- The hub has a link for each of its eight stations, a record for each of its sixteen Rigger ports, a sequencer for each of its
24 banks, and a monitor for each of its four excitation outputs. -/
def tablesWf (s : State) : Bool :=
  decide (s.links.length = 8) && decide (s.sats.length = 16) && decide (s.banks.length = 24) && decide (s.hk.exc.length = 4)

/-- Hub Time's nanoseconds lie within their second (R81), and the last catch does not lie ahead of the present crossing. -/
def timeWf (s : State) : Bool := decide (s.time.sub < secondSub) && decide (s.time.lastCatch ≤ s.time.cr)

end State

end Sys2Proof.Machine
end

