-- ==== Sys2Proof/Certificates/Slice0/Obligations.lean ====
section
/-! DEFINITION. The statements about the hub for the provers. A statement about a command says what its rule in the spec says of the
next state, and the frame: which register words may differ (`keeps`, always apart from the flags that the hub sets again at every
core clock) and that every other component of the state is as before (`bare`, `still`). -/

open Sys2Proof Sys2Proof.Machine

/-- The command at the front of the queue is performed on the state with the queue's rest. -/
def Obligations.StepRunsFrontCommand : Prop :=
  ∀ (s : State) (c : Instr) (cs : List Instr), s.pending = c :: cs → step s = exec c { s with pending := cs }

/-- On an empty queue the block idles (the model's choice, log entry 1). -/
def Obligations.EmptyQueueIdles : Prop := ∀ s : State, s.pending = [] → step s = .next s

/-- Every command completes: no command of the table stops with a fault or a refusal, and none touches the queue.
Rests on log entries 7, 8. -/
def Obligations.EveryCommandCompletes : Prop :=
  ∀ (c : Instr) (s : State), ∃ t, exec c s = .next t ∧ t.pending = s.pending

/-- Every step leaves the flags of every core clock true: the throttle (R224, R282, R283, R285), HEALTH.STATUS (R415, R416) and
SETTLED (R91).
Rests on log entries 10, 21, 24, 35. -/
def Obligations.FlagsStayTrue : Prop := ∀ s t : State, s.flagsTrue → step s = .next t → t.flagsTrue

/-- No step lets the accept queue hold more than its 256 entries (R217). -/
def Claims.AcceptQueueStaysBounded : Prop :=
  ∀ s t : State, s.accQ.length ≤ 256 → step s = .next t → t.accQ.length ≤ 256

/-- No step lets a page hold more than 64 staged entries (R41, R42). -/
def Claims.StagedQueuesStayBounded : Prop :=
  ∀ s t : State, (∀ pg, (s.entries pg).length ≤ 64) → step s = .next t → ∀ pg, (t.entries pg).length ≤ 64

/-- A staged entry names a register of its own page. -/
def Sys2Proof.Machine.State.stagedInForm (s : State) : Prop := ∀ e ∈ s.staged, e.key / 4096 % 256 = e.page

/-- Every step keeps the staged entries on their own pages (R41). -/
def Claims.StagedEntriesNameTheirPage : Prop := ∀ s t : State, s.stagedInForm → step s = .next t → t.stagedInForm

/-- Every step keeps the lists with keys in their order: the converters' words, the registers at the end of the stroke and Lens's engines. -/
def Claims.ListsStaySorted : Prop :=
  ∀ s t : State, s.regsWf = true → Assoc.sorted s.words = true → Assoc.sorted s.strokeEnd = true → Assoc.sorted s.engines = true →
    step s = .next t → Assoc.sorted t.words = true ∧ Assoc.sorted t.strokeEnd = true ∧ Assoc.sorted t.engines = true

/-- No step takes the newest event in Lens beyond the crossing (R277). -/
def Claims.LensStaysInTheCrossing : Prop :=
  ∀ s t : State, s.lensClk ≤ 16 * s.time.cr + 15 → step s = .next t → t.lensClk ≤ 16 * t.time.cr + 15

/-- The queues keep their bounds (R217, R41, R42), the lists of the state their order, and the staged entries their page. -/
def Obligations.QueuesStayBoundedAndInForm : Prop :=
  Claims.AcceptQueueStaysBounded ∧ Claims.StagedQueuesStayBounded ∧ Claims.StagedEntriesNameTheirPage ∧ Claims.ListsStaySorted
    ∧ Claims.LensStaysInTheCrossing

/-- No step takes a register word out of its canonical form. -/
def Obligations.RegistersStayCanonical : Prop := ∀ s t : State, s.regsWf = true → step s = .next t → t.regsWf = true

/-- No step takes the nanoseconds of Hub Time out of their second (R81). -/
def Obligations.HubTimeStaysWithinItsSecond : Prop :=
  ∀ s t : State, s.time.sub < secondSub → step s = .next t → t.time.sub < secondSub

/-- The state after reset has every invariant that the steps keep.
Rests on log entry 6. -/
def Obligations.ResetMeetsInvariants : Prop :=
  State.reset.flagsTrue ∧ State.reset.accQ.length ≤ 256 ∧ (∀ pg, (State.reset.entries pg).length ≤ 64)
    ∧ State.reset.regsWf = true ∧ State.reset.time.sub < secondSub ∧ State.reset.stagedInForm
    ∧ Assoc.sorted State.reset.words = true ∧ Assoc.sorted State.reset.strokeEnd = true ∧ Assoc.sorted State.reset.engines = true
    ∧ State.reset.lensClk ≤ 16 * State.reset.time.cr + 15

/-- The words of immediate registers whose write has a rule of its own: TIME.CMPn.CTL, PCOEF.COEF and SHADOW.DATA (R93, R164, R359). -/
def ownRule : List Nat := [0x29048, 0x88048] ++ (List.range 8).map (fun n => 0x0C100 + 16 * n)

/-- A write to an immediate register of a page's body acts in the clock in which it is performed: the RW-I bits take the data's, the word's
other bits stay (R40). -/
def Claims.ImmediateWritesActAtOnce : Prop :=
  ∀ (s : State) (p : Port) (a : RegAddr) (d : Word), s.serves p a.toNat → a.toNat % 4 = 0 →
    (pageType (a.toNat / 4096)).isSome = true → 0x040 ≤ a.toNat % 4096 → a.toNat % 4096 < 0x800 → a.toNat ∉ ownRule →
    accMask a.toNat (fun c => c == .rwI) ≠ 0 →
    ∃ t, exec (.regWrite p a d) s = .next t
      ∧ t.rd a.toNat = (s.rd a.toNat &&& ~~~accMask a.toNat (fun c => c == .rwI))
          ||| (d &&& accMask a.toNat (fun c => c == .rwI))
      ∧ t.out = [.answer p a d 0] ∧ s.keeps t [a.toNat] ∧ t.bare = { s.bare with served := p }

/-- The bits of a register that a host write stages: its buffered bits, and of a crew's entry only those that the host sets (R40, R289, R299). -/
def stagedBits (a : Nat) : Word :=
  accMask a accBuffered &&& (if 0x40044 ≤ a ∧ a ≤ 0x40060 then State.crewHost ((a - 0x40044) / 4) else 0xFFFFFFFF)

/-- A write to a buffered register of a page's body changes no active value: it takes an entry in its page's staged queue, behind the entries of
both ports that were performed before it (R41, R43). When the queue is full, or has overflowed in this stroke, the write takes no entry and
WRITE_OVF is raised (R42).
Completion of REG_WRITE is stated here.
Rests on log entry 17. -/
def Obligations.BufferedWritesAreStaged : Prop :=
  ∀ (s : State) (p : Port) (a : RegAddr) (d : Word) (sel : Nat), s.serves p a.toNat → a.toNat % 4 = 0 →
    (pageType (a.toNat / 4096)).isSome = true → 0x040 ≤ a.toNat % 4096 → a.toNat % 4096 < 0x800 →
    ¬ (0x0C180 ≤ a.toNat ∧ a.toNat < 0x0C280) → stagedBits a.toNat ≠ 0 → hasAcc a.toNat .rwK = false →
    s.selOf a.toNat = some sel →
    (let pg := a.toNat / 4096
    (pg ∉ s.ovf → (s.entries pg).length < 64 → ∃ t, exec (.regWrite p a d) s = .next t
      ∧ t.staged = s.staged ++ [⟨pg, a.toNat + 1048576 * sel, stagedBits a.toNat, d &&& stagedBits a.toNat⟩]
      ∧ t.out = [.answer p a d 0] ∧ s.keeps t [] ∧ t.bare = { s.bare with served := p, staged := t.staged })
    ∧ (pg ∈ s.ovf ∨ 64 ≤ (s.entries pg).length → ∃ t, exec (.regWrite p a d) s = .next t
      ∧ t.hasEvt (E.WRITE_OVF pg) = true ∧ pg ∈ t.ovf
      ∧ t.out = [.answer p a d 1] ∧ s.keeps t [evtKey pg] ∧ t.bare = { s.bare with served := p, ovf := t.ovf }))

/-- A write to EVT_ENABLE takes the enables of the page's sixteen events at once (R37, R40); a write to PAGE_CTL without PAGE_RESET takes PAUSE at once, while
its ENABLE takes an entry of the page's staged queue, or is refused with WRITE_OVF by a queue that is full or has overflowed (R37, R42, R454). -/
def Claims.HeaderWritesAct : Prop :=
  ∀ (s : State) (p : Port) (pg : BitVec 8) (d : Word), (pageType pg.toNat).isSome = true →
    (s.serves p (pg.toNat * 4096 + 0x018) → ∃ t, exec (.regWrite p (BitVec.ofNat 20 (pg.toNat * 4096 + 0x018)) d) s = .next t
      ∧ t.rd (pg.toNat * 4096 + 0x018) = (s.rd (pg.toNat * 4096 + 0x018) &&& 0xFFFF0000) ||| (d &&& 0x0000FFFF)
      ∧ t.out = [.answer p (BitVec.ofNat 20 (pg.toNat * 4096 + 0x018)) d 0]
      ∧ s.keeps t [pg.toNat * 4096 + 0x018] ∧ t.bare = { s.bare with served := p })
    ∧ (s.serves p (pg.toNat * 4096 + 0x008) → d.getLsbD 1 = false →
      (pg.toNat ∉ s.ovf → (s.entries pg.toNat).length < 64 →
        ∃ t, exec (.regWrite p (BitVec.ofNat 20 (pg.toNat * 4096 + 0x008)) d) s = .next t
        ∧ t.flag (R.PAGE_CTL_PAUSE pg.toNat) = d.getLsbD 2
        ∧ t.staged = s.staged ++ [⟨pg.toNat, pg.toNat * 4096 + 0x008, 1, d &&& 1⟩]
        ∧ t.get (R.PAGE_CTL_ENABLE pg.toNat) = s.get (R.PAGE_CTL_ENABLE pg.toNat)
        ∧ t.out = [.answer p (BitVec.ofNat 20 (pg.toNat * 4096 + 0x008)) d 0]
        ∧ (pg.toNat < 0x40 ∨ 0x4A ≤ pg.toNat → s.keeps t [pg.toNat * 4096 + 0x008]
          ∧ t.bare = { s.bare with served := p, staged := t.staged }))
      ∧ (pg.toNat ∈ s.ovf ∨ 64 ≤ (s.entries pg.toNat).length →
        ∃ t, exec (.regWrite p (BitVec.ofNat 20 (pg.toNat * 4096 + 0x008)) d) s = .next t
        ∧ t.flag (R.PAGE_CTL_PAUSE pg.toNat) = d.getLsbD 2 ∧ t.hasEvt (E.WRITE_OVF pg.toNat) = true
        ∧ t.get (R.PAGE_CTL_ENABLE pg.toNat) = s.get (R.PAGE_CTL_ENABLE pg.toNat)
        ∧ t.out = [.answer p (BitVec.ofNat 20 (pg.toNat * 4096 + 0x008)) d 1]
        ∧ (pg.toNat < 0x40 ∨ 0x4A ≤ pg.toNat → s.keeps t [pg.toNat * 4096 + 0x008, evtKey pg.toNat]
          ∧ t.bare = { s.bare with served := p, ovf := t.ovf })))

/-- The event that tells of a selector that names no channel, on the pages whose windows a channel selector chooses. -/
def selErrors : List (Nat × Ev) :=
  [(0x28, E.PRISM_SEL_ERR), (0x2A, E.RSMP_SEL_ERR), (0x2C, E.TPRIM_SEL_ERR), (0x32, E.SELF_SEL_ERR), (0x38, E.FRAG_SEL_ERR)]

/-- A write through a window whose selector names no channel or trim is refused: it takes no entry and raises its page's SEL_ERR (R179, R196,
R211, R237, R266) or, on a BANK page, TRIM_ADDR_ERR, where FAULT_CODE records the slice of the trim address with class 0x01 (R131). -/
def Claims.WritesThroughBadSelectorsAreRefused : Prop :=
  ∀ (s : State) (p : Port) (a : RegAddr) (d : Word), s.serves p a.toNat → a.toNat % 4 = 0 →
    (pageType (a.toNat / 4096)).isSome = true → 0x040 ≤ a.toNat % 4096 → a.toNat % 4096 < 0x800 →
    accMask a.toNat accBuffered ≠ 0 → s.selOf a.toNat = none →
    (let pg := a.toNat / 4096
    ∃ t, exec (.regWrite p a d) s = .next t
      ∧ t.out = [.answer p a d 1]
      ∧ (0x28 ≤ pg → ∃ e : Ev, (pg, e) ∈ selErrors ∧ t.hasEvt e = true)
      ∧ (0x28 ≤ pg → s.keeps t [evtKey pg])
      ∧ (pg < 0x28 → t.hasEvt (E.BANK_TRIM_ADDR_ERR pg) = true
        ∧ t.rd (faultKey pg) = BitVec.ofNat 32 (1 + s.get (R.BANK_TRIM_ADDR_SLICE pg) % 256 * 256 + s.time.cn.toNat % 65536 * 65536)
        ∧ s.keeps t [evtKey pg, faultKey pg])
      ∧ t.bare = { s.bare with served := p })

/-- A write of registers that act at once, of the header's words, and one through a selector that selects nothing.
Completion of REG_WRITE is stated here. -/
def Obligations.RegisterWritesActOrAreRefused : Prop :=
  Claims.ImmediateWritesActAtOnce ∧ Claims.HeaderWritesAct ∧ Claims.WritesThroughBadSelectorsAreRefused

/-- A write of the key to KEY.UNLOCK gives the port one unlock, however often it is written, and the other port none (R44, R45). -/
def Claims.TheKeyUnlocks : Prop :=
  ∀ (s : State) (p : Port), s.serves p 0x01040 → ∃ t, exec (.keyUnlock p 0x0000C0C5) s = .next t
    ∧ t.unlocked p = true ∧ (∀ q, q ≠ p → t.unlocked q = s.unlocked q)
    ∧ s.keeps t [] ∧ t.bare = { s.bare with served := p, unlockC := t.unlockC, unlockG := t.unlockG }

/-- A write to KEY.UNLOCK with any other value than the key leaves the port locked, or ends its unlock if it held one, and raises KEY_FAULT. A keyed
write from a port that holds no unlock, to a keyed register or to PAGE_RESET of a keyed page, is refused, takes no queue entry and raises
LOCKED_WRITE. Both are counted, and LOCK_STATE shows which ports hold an unlock (R46).
Completion of REG_WRITE, KEY_UNLOCK, PAGE_RESET_REQUEST and COHERENT_GROUP_READ is stated here. -/
def Obligations.WrongAndMissingKeysAreRefused : Prop :=
  ∀ (s : State) (p : Port), (∀ d : Word, s.serves p 0x01040 → d ≠ 0x0000C0C5 → ∃ t, exec (.keyUnlock p d) s = .next t
      ∧ t.unlocked p = false ∧ (∀ q, q ≠ p → t.unlocked q = s.unlocked q)
      ∧ t.get R.KEY_KEY_FAULT_CNT = counted 32 (s.get R.KEY_KEY_FAULT_CNT) 1 ∧ t.hasEvt E.KEY_KEY_FAULT = true
      ∧ s.keeps t [R.KEY_KEY_FAULT_CNT.key, evtKey 0x01]
      ∧ t.bare = { s.bare with served := p, unlockC := t.unlockC, unlockG := t.unlockG })
    ∧ (∀ (a : RegAddr) (d : Word) (sel : Nat), s.serves p a.toNat → a.toNat % 4 = 0 → (pageType (a.toNat / 4096)).isSome = true →
      0x040 ≤ a.toNat % 4096 → a.toNat % 4096 < 0x800 → hasAcc a.toNat .rwK = true → s.selOf a.toNat = some sel →
      s.unlocked p = false → ∃ t, exec (.regWrite p a d) s = .next t
      ∧ t.get R.KEY_LOCKED_WRITE_CNT = counted 32 (s.get R.KEY_LOCKED_WRITE_CNT) 1
      ∧ t.hasEvt E.KEY_LOCKED_WRITE = true ∧ t.staged = s.staged
      ∧ t.out = [.answer p a d 2] ∧ s.keeps t [R.KEY_LOCKED_WRITE_CNT.key, evtKey 0x01] ∧ t.bare = { s.bare with served := p })
    ∧ (∀ (pg : BitVec 8) (d : Word), s.serves p (pg.toNat * 4096 + 0x008) → pageKeyed pg.toNat = true → s.unlocked p = false →
      d.getLsbD 1 = true →
      ∀ c ∈ [Instr.pageResetRequest p pg, Instr.regWrite p (BitVec.ofNat 20 (pg.toNat * 4096 + 0x008)) d],
      ∃ t, exec c s = .next t
      ∧ t.get R.KEY_LOCKED_WRITE_CNT = counted 32 (s.get R.KEY_LOCKED_WRITE_CNT) 1
      ∧ t.hasEvt E.KEY_LOCKED_WRITE = true ∧ t.staged = s.staged
      ∧ s.keeps t [R.KEY_LOCKED_WRITE_CNT.key, evtKey 0x01] ∧ t.bare = { s.bare with served := p })
    ∧ (s.serves p 0x01044 → ∃ t, exec (.coherentGroupRead p 0x01044) s = .next t
      ∧ t.out = [.answer p 0x01044 (BitVec.ofNat 32 (s.unlockC.toNat + 2 * s.unlockG.toNat)) 0]
      ∧ s.keeps t [] ∧ t.bare = { s.bare with served := p })

/-- A write to a keyed register of a port that holds an unlock is staged and uses the unlock up, also where a full queue refuses it; the other port's
unlock stays (R44, R45, R42). -/
def Claims.KeyedWritesNeedAnUnlock : Prop :=
  ∀ (s : State) (p : Port) (a : RegAddr) (d : Word) (sel : Nat), s.serves p a.toNat → a.toNat % 4 = 0 →
    (pageType (a.toNat / 4096)).isSome = true → 0x040 ≤ a.toNat % 4096 → a.toNat % 4096 < 0x800 →
    hasAcc a.toNat .rwK = true → s.selOf a.toNat = some sel →
    (let pg := a.toNat / 4096
    (s.unlocked p = true → pg ∉ s.ovf → (s.entries pg).length < 64 → ∃ t, exec (.regWrite p a d) s = .next t
      ∧ t.staged = s.staged ++ [⟨pg, a.toNat + 1048576 * sel, accMask a.toNat accBuffered, d &&& accMask a.toNat accBuffered⟩]
      ∧ t.unlocked p = false ∧ (∀ q, q ≠ p → t.unlocked q = s.unlocked q)
      ∧ t.out = [.answer p a d 0] ∧ s.keeps t []
      ∧ t.bare = { s.bare with served := p, staged := t.staged, unlockC := t.unlockC, unlockG := t.unlockG })
    ∧ (s.unlocked p = true → pg ∈ s.ovf ∨ 64 ≤ (s.entries pg).length → ∃ t, exec (.regWrite p a d) s = .next t
      ∧ t.hasEvt (E.WRITE_OVF pg) = true ∧ pg ∈ t.ovf
      ∧ t.unlocked p = false ∧ (∀ q, q ≠ p → t.unlocked q = s.unlocked q)
      ∧ t.out = [.answer p a d 1] ∧ s.keeps t [evtKey pg]
      ∧ t.bare = { s.bare with served := p, ovf := t.ovf, unlockC := t.unlockC, unlockG := t.unlockG }))

/-- The events that a flag of every core clock raises in the clock of a command that changes none of them: its flag is down and its condition
holds (R91, R282, R283, R285, R287, R415), and the EASY_CNT that counts a rise of EASY reaches its maximum (R50). -/
def risingFlags (s : State) : List Ev :=
  (if s.flag R.DERAND_STATUS_SHED = false ∧ s.shedOn = true then [E.DERAND_SHED_ON] else [])
    ++ (if s.flag R.DERAND_STATUS_PRIORITY = false ∧ s.priorityOn = true then [E.DERAND_PRIORITY] else [])
    ++ (if s.flag R.DERAND_STATUS_EASY_REQ = false ∧ s.derandAsks = true then [E.DERAND_EASY_ON] else [])
    ++ (if s.flag R.DERAND_STATUS_EASY_REQ = true ∧ s.derandAsks = false then [E.DERAND_EASY_OFF] else [])
    ++ (if s.flag R.TIME_STATUS_SETTLED = false ∧ s.settled = true then [E.TIME_SETTLED] else [])
    ++ (if (List.range 5).any (fun i => (s.rd R.HEALTH_STATUS_SUPPLY_OK.key).getLsbD (8 + i) && !s.healthWord.testBit (8 + i)) = true
        then [E.HEALTH_COND_LOST] else [])
    ++ (if s.held.any (fun h => !h.told && s.stranded.any (fun f => f.id == h.id)) = true then [E.DERAND_STRANDED] else [])
    ++ (if s.flag R.DERAND_STATUS_EASY = false ∧ (s.derandAsks || s.queueAsks) = true ∧ s.get R.DERAND_EASY_CNT % 2 ^ 31 + 1 = 2 ^ 31 - 1
        then [E.PEGGED 0x4A] else [])

/-- A write to EVT_CLEAR whose [31:16] equal the page's EVT_SEQ clears the events named in [15:0]; an event that
occurs in the same clock stays or becomes set (R48), where the events that can occur in it are those that a flag of every core clock raises then (log
entry 10). With a stale sequence number nothing changes and ID.CLEAR_STALE counts one (R48).
Completion of EVT_CLEAR is stated here.
Rests on log entry 10. -/
def Obligations.EventsAreClearedBySequence : Prop :=
  ∀ (s : State) (p : Port) (pg : BitVec 8) (d : Word), s.serves p (pg.toNat * 4096 + 0x014) →
    (pageType pg.toNat).isSome = true →
    (bits (s.rd (evtKey pg.toNat)) 16 16 = bits d 16 16 → ∃ t, exec (.evtClear p pg d) s = .next t
      ∧ t.rd (evtKey pg.toNat) &&& ~~~flagBits (evtKey pg.toNat)
          = (s.rd (evtKey pg.toNat) &&& ~~~(d &&& 0x0000FFFF)) &&& ~~~flagBits (evtKey pg.toNat)
      ∧ (∀ b < 16, t.hasEvt ⟨pg.toNat, b⟩
          = ((s.hasEvt ⟨pg.toNat, b⟩ && !d.getLsbD b) || decide ((⟨pg.toNat, b⟩ : Ev) ∈ risingFlags s)))
      ∧ s.keeps t [evtKey pg.toNat] ∧ t.bare = { s.bare with served := p })
    ∧ (bits (s.rd (evtKey pg.toNat)) 16 16 ≠ bits d 16 16 → ∃ t, exec (.evtClear p pg d) s = .next t
      ∧ t.get R.ID_CLEAR_STALE = counted 32 (s.get R.ID_CLEAR_STALE) 1
      ∧ s.keeps t [R.ID_CLEAR_STALE.key, evtKey 0x00] ∧ t.bare = { s.bare with served := p })

/-- A write to a CT-S counter clears it, whatever the data (R50), one to PRBS_ERR_CNT the bits counted with it (R317); a write to a CT-W
counter changes nothing (R51). -/
def Claims.CountersAreClearedByWrites : Prop :=
  ∀ (s : State) (p : Port) (a : RegAddr) (d : Word), s.serves p a.toNat → a.toNat % 4 = 0 →
    (pageType (a.toNat / 4096)).isSome = true → 0x040 ≤ a.toNat % 4096 → a.toNat % 4096 < 0x800 →
    (hasAcc a.toNat .ctS = true → ∃ t, exec (.counterClear p a d) s = .next t
      ∧ t.rd a.toNat &&& ~~~flagBits a.toNat
          = (s.rd a.toNat &&& ~~~accMask a.toNat (fun c => c == .ctS)) &&& ~~~flagBits a.toNat
      ∧ (xcvrAt (a.toNat - 0x06C) = none → s.keeps t [a.toNat])
      ∧ (∀ x, xcvrAt (a.toNat - 0x06C) = some x →
          t.get (R.LANE_PRBS_BITS_LO (xcvrBase x)) = 0 ∧ t.get (R.LANE_PRBS_BITS_HI (xcvrBase x)) = 0
            ∧ s.keeps t [a.toNat, (R.LANE_PRBS_BITS_LO (xcvrBase x)).key, (R.LANE_PRBS_BITS_HI (xcvrBase x)).key])
      ∧ t.bare = { s.bare with served := p })
    ∧ (hasAcc a.toNat .ctW = true → ∃ t, exec (.counterClear p a d) s = .next t
      ∧ s.keeps t [] ∧ t.bare = { s.bare with served := p })

/-- A write of 1 to PAGE_RESET asks for the page's reset at the next catch; the word's ENABLE as it stands takes an entry, and PAUSE stays (R37). -/
def Claims.PageResetsAreRequested : Prop :=
  ∀ (s : State) (p : Port) (pg : BitVec 8), s.serves p (pg.toNat * 4096 + 0x008) → (pageType pg.toNat).isSome = true →
    (pageKeyed pg.toNat = false → pg.toNat ∉ s.ovf → (s.entries pg.toNat).length < 64 →
      ∃ t, exec (.pageResetRequest p pg) s = .next t ∧ t.get (R.PAGE_CTL_PAGE_RESET pg.toNat) = 1
      ∧ t.get (R.PAGE_CTL_PAUSE pg.toNat) = s.get (R.PAGE_CTL_PAUSE pg.toNat)
      ∧ t.staged = s.staged ++ [⟨pg.toNat, pg.toNat * 4096 + 0x008, 1, s.rd (pg.toNat * 4096 + 0x008) &&& 1⟩]
      ∧ (pg.toNat < 0x40 ∨ 0x4A ≤ pg.toNat → s.keeps t [pg.toNat * 4096 + 0x008]
          ∧ t.bare = { s.bare with served := p, staged := t.staged }))

/-- A keyed page's PAGE_RESET needs an unlock as a keyed register does: with one the reset is asked for and the unlock is used up (R39, R44). That the word's
ENABLE as it stands takes an entry is log entry 16. -/
def Claims.KeyedResetsNeedAnUnlock : Prop :=
  ∀ (s : State) (p : Port) (pg : BitVec 8), s.serves p (pg.toNat * 4096 + 0x008) → (pageType pg.toNat).isSome = true →
    pageKeyed pg.toNat = true →
    (s.unlocked p = true → pg.toNat ∉ s.ovf → (s.entries pg.toNat).length < 64 →
      ∃ t, exec (.pageResetRequest p pg) s = .next t ∧ t.get (R.PAGE_CTL_PAGE_RESET pg.toNat) = 1
      ∧ t.unlocked p = false
      ∧ t.staged = s.staged ++ [⟨pg.toNat, pg.toNat * 4096 + 0x008, 1, s.rd (pg.toNat * 4096 + 0x008) &&& 1⟩]
      ∧ s.keeps t [pg.toNat * 4096 + 0x008]
      ∧ t.bare = { s.bare with served := p, staged := t.staged, unlockC := t.unlockC, unlockG := t.unlockG })

/-- The write that unlocks, and the writes that need it.
Completion of REG_WRITE, KEY_UNLOCK and PAGE_RESET_REQUEST is stated here.
Rests on log entry 16. -/
def Obligations.KeysGuardTheirRegisters : Prop :=
  Claims.TheKeyUnlocks ∧ Claims.KeyedWritesNeedAnUnlock ∧ Claims.KeyedResetsNeedAnUnlock

/-- A read changes no register. The first register of a group copies the whole group for the port that reads it and answers with its own word;
the others answer with the port's copies; every other register answers with its word as it stands (R53). Reading HKSEQ.RESr.STAT clears FRESH
after the copy (R377). A mirror word answers with the staged value of a buffered register, which is what the page's entries will leave of it, with the snapshot of
a counter, and with zero else (R34, R52); pages that are not listed, and odd addresses, read as zero (R8, R35).
Completion of COHERENT_GROUP_READ and HK_RESULT_READ is stated here.
Rests on log entry 9. -/
def Obligations.ReadsAreCoherent : Prop :=
  ∀ (s : State) (p : Port), (∀ a : RegAddr, s.serves p a.toNat → a.toNat % 4 = 0 →
      (pageType (a.toNat / 4096)).isSome = true → a.toNat % 4096 < 0x800 →
      (groupOf a.toNat = none → ∃ t, exec (.coherentGroupRead p a) s = .next t
        ∧ t.out = [.answer p a (s.begin_.liveWord a.toNat).1 0]
        ∧ s.keeps t [] ∧ t.bare = { s.bare with served := p, free := t.free })
      ∧ (∀ g, groupOf a.toNat = some g →
        (g.head? = some a.toNat → ∃ t, exec (.coherentGroupRead p a) s = .next t
          ∧ t.out = [.answer p a (s.begin_.liveWord a.toNat).1 0]
          ∧ (∀ b ∈ g, Assoc.getD (fun _ => 0) (t.holding p) b
              = (Assoc.getD (fun _ => 0) (s.holding p) b &&& ~~~State.groupBits a.toNat b)
                ||| ((s.begin_.liveWord b).1 &&& State.groupBits a.toNat b))
          ∧ (∀ b, b ∉ g → Assoc.getD (fun _ => 0) (t.holding p) b = Assoc.getD (fun _ => 0) (s.holding p) b)
          ∧ (a.toNat / 4096 = 0x91 → t.get ⟨a.toNat, 0, 1⟩ = 0 ∧ s.keeps t [a.toNat])
          ∧ (a.toNat / 4096 ≠ 0x91 → s.keeps t [])
          ∧ t.bare = { s.bare with served := p, holdC := t.holdC, holdG := t.holdG })
        ∧ (g.head? ≠ some a.toNat → ∃ t, exec (.coherentGroupRead p a) s = .next t
          ∧ t.out = [.answer p a (Assoc.getD (fun _ => 0) (s.holding p) a.toNat) 0]
          ∧ s.keeps t [] ∧ t.bare = { s.bare with served := p })))
    ∧ (∀ a : RegAddr, s.serves p a.toNat → (pageType (a.toNat / 4096)).isNone = true ∨ a.toNat % 4 ≠ 0 →
      ∃ t, exec (.coherentGroupRead p a) s = .next t
        ∧ t.out = [.answer p a 0 0] ∧ s.keeps t [] ∧ t.bare = { s.bare with served := p })
    ∧ (∀ a : RegAddr, s.serves p a.toNat → a.toNat % 4 = 0 → (pageType (a.toNat / 4096)).isSome = true → 0x800 ≤ a.toNat % 4096 →
      (let r := a.toNat - 0x800
       let counter := hasAcc r .ctS || hasAcc r .ctW
      ∃ t w, exec (.coherentGroupRead p a) s = .next t
        ∧ t.out = [.answer p a w 0] ∧ s.keeps t [] ∧ t.bare = { s.bare with served := p }
        ∧ (counter = true → w = Assoc.getD (fun _ => 0) s.snap r)
        ∧ (counter = false → accMask r accBuffered = 0 → w = 0)
        ∧ (∀ sel, counter = false → accMask r accBuffered ≠ 0 → s.selOf r = some sel →
            w = (((s.entries (a.toNat / 4096)).filter (fun e => e.key == r + 1048576 * sel)).foldl State.overlay
              (s.rd (r + 1048576 * sel))) &&& accMask r accBuffered)))
    ∧ ∀ r : Fin 72, s.serves p (0x91580 + 8 * r.val) → ∃ t, exec (.hkResultRead p r) s = .next t
      ∧ t.out = [.answer p (BitVec.ofNat 20 (0x91580 + 8 * r.val)) (s.begin_.liveWord (0x91580 + 8 * r.val)).1 0]
      ∧ (∀ i < 2, Assoc.getD (fun _ => 0) (t.holding p) (0x91580 + 8 * r.val + 4 * i)
          = (s.begin_.liveWord (0x91580 + 8 * r.val + 4 * i)).1)
      ∧ t.get ⟨0x91580 + 8 * r.val, 0, 1⟩ = 0
      ∧ s.keeps t [0x91580 + 8 * r.val] ∧ t.bare = { s.bare with served := p, holdC := t.holdC, holdG := t.holdG }

/-- Writes that request something at once: a snapshot at the next catch (R52); the start of a housekeeping sequence, or its loss while the sequence
runs (R372); a housekeeping self-test (R375); a fresh eye scan (R318); a capture unit made ready again (R95). -/
def Claims.GoBitsActAtOnce : Prop :=
  ∀ (s : State) (p : Port),
    (s.serves p 0x0004C → ∃ t, exec (.snapshotRequest p) s = .next t
      ∧ s.keeps t [] ∧ t.bare = { s.bare with served := p, snapReq := true })
    ∧ (s.serves p 0x90068 → s.enabled 0x90 = true → s.enabled 0x91 = true →
      (s.hk.reg = .idle → ∃ t, exec (.hkRegGo p) s = .next t
        ∧ s.keeps t [] ∧ t.bare = { s.bare with served := p, hk := { s.hk with reg := .delay } })
      ∧ (s.hk.reg ≠ .idle → ∃ t, exec (.hkRegGo p) s = .next t ∧ t.hasEvt E.HK_TRIG_LOST = true
        ∧ t.get R.HK_REG_LOST_CNT = counted 32 (s.get R.HK_REG_LOST_CNT) 1
        ∧ s.keeps t [R.HK_REG_LOST_CNT.key, evtKey 0x90] ∧ t.bare = { s.bare with served := p })
      ∧ (s.hk.inj = .idle → ∃ t, exec (.hkInjGo p) s = .next t
        ∧ s.keeps t [] ∧ t.bare = { s.bare with served := p, hk := { s.hk with inj := .delay } })
      ∧ (s.hk.inj ≠ .idle → ∃ t, exec (.hkInjGo p) s = .next t ∧ t.hasEvt E.HK_TRIG_LOST = true
        ∧ t.get R.HK_INJ_LOST_CNT = counted 32 (s.get R.HK_INJ_LOST_CNT) 1
        ∧ s.keeps t [R.HK_INJ_LOST_CNT.key, evtKey 0x90] ∧ t.bare = { s.bare with served := p })
      ∧ ∃ t, exec (.hkSelftestGo p) s = .next t ∧ t.get R.HK_STATUS_ST_PENDING = 1
        ∧ s.keeps t [R.HK_STATUS_ST_PENDING.key] ∧ t.bare = { s.bare with served := p })
    ∧ (∀ x : Xcvr, s.serves p (xcvrBase x + 0x05C) → hasRx x = true → ∃ t, exec (.esGo p x) s = .next t
      ∧ t.get (R.LANE_STATUS_ES_DONE (xcvrBase x)) = 0 ∧ t.get (R.LANE_STATUS_ES_ABORT (xcvrBase x)) = 0
      ∧ t.get (R.LANE_ES_ERR (xcvrBase x)) = 0
      ∧ s.keeps t [(R.LANE_STATUS_ES_DONE (xcvrBase x)).key, (R.LANE_ES_ERR (xcvrBase x)).key]
      ∧ t.bare = { s.bare with served := p, es := Assoc.put s.es (xcvrBase x) s.time.cr })
    ∧ ∀ n : Fin 8, s.serves p (0x0C180 + 32 * n.val) → 0x0C ∉ s.ovf → (s.entries 0x0C).length < 64 →
      ∃ t, exec (.capRearm p n) s = .next t ∧ t.flag (R.TIME_CAPn_CTL_FULL n.val) = false
      ∧ t.staged = s.staged ++ [⟨0x0C, 0x0C180 + 32 * n.val, accMask (0x0C180 + 32 * n.val) accBuffered,
          s.rd (0x0C180 + 32 * n.val) &&& accMask (0x0C180 + 32 * n.val) accBuffered⟩]
      ∧ s.keeps t [0x0C180 + 32 * n.val] ∧ t.bare = { s.bare with served := p, staged := t.staged }

/-- Page resets and the other bits whose writing is a request.
Completion of PAGE_RESET_REQUEST, SNAPSHOT_REQUEST, ES_GO, CAP_REARM, HK_REG_GO, HK_INJ_GO and HK_SELFTEST_GO is stated here.
Rests on log entries 16, 42. -/
def Obligations.RequestBitsAct : Prop :=
  Claims.PageResetsAreRequested ∧ Claims.GoBitsActAtOnce

/-- A write to TIME.CMPn.CTL sets the unit's mode, arming and repetition (R93). An armed unit whose target lies ahead waits; the TIME page being
ENABLED, one whose target has passed fires at once with CMP_LATE (R94), and, without REPEAT, is disarmed. Here in CN mode. -/
def Claims.CompareUnitsAreArmed : Prop :=
  ∀ (s : State) (p : Port) (n : Fin 8) (d : Word), s.serves p (0x0C100 + 16 * n.val) →
    (d.getLsbD 0 = false ∨ (d.getLsbD 1 = false ∧ s.cnN < s.cmpTarget n.val) ∨ s.enabled 0x0C = false → ∃ t, exec (.cmpArm p n d) s = .next t
      ∧ bits (t.rd (0x0C100 + 16 * n.val)) 0 3 = bits d 0 3 ∧ t.fired = []
      ∧ s.keeps t [0x0C100 + 16 * n.val] ∧ t.bare = { s.bare with served := p })
    ∧ (d.getLsbD 0 = true → d.getLsbD 1 = false → d.getLsbD 2 = false → s.cmpTarget n.val ≤ s.cnN → s.enabled 0x0C = true →
      ∃ t, exec (.cmpArm p n d) s = .next t
      ∧ t.flag (R.TIME_CMPn_CTL_ARM n.val) = false ∧ t.hasEvt E.TIME_CMP_LATE = true ∧ t.fired = [(n.val, 0)]
      ∧ s.keepsPages t [0x0C, 0x90])

/-- A write to CAL.NOW with its GO bit for a powered, working channel of a rotating bank joins the bank's queue of at most four; a channel that waits
already is ignored; every other request is refused, counted and raises NOW_REFUSED (R150). -/
def Claims.CalNowQueuesOrRefuses : Prop :=
  ∀ (s : State) (p : Port) (d : Word), s.serves p 0x07048 → d.getLsbD 15 = true →
    (let c := bits d 0 10
     let k := s.bank (c / 32)
     let i := c % 32
     let fit := k.queue.length < 4 ∧ s.flag (R.BANK_CHi_POWER (0x10 + c / 32) i) = true ∧ k.dead.getLsbD i = false
        ∧ k.rotating = true
    (c < 768 → i ∉ k.queue → fit → s.banks.length = 24 → ∃ t, exec (.calNow p d) s = .next t
      ∧ t.bank (c / 32) = { k with queue := k.queue ++ [i] } ∧ (∀ b, b ≠ c / 32 → t.bank b = s.bank b)
      ∧ s.keeps t [] ∧ t.bare = { s.bare with served := p, banks := t.banks })
    ∧ (c < 768 → i ∈ k.queue → ∃ t, exec (.calNow p d) s = .next t ∧ s.keeps t [] ∧ t.bare = { s.bare with served := p })
    ∧ (768 ≤ c ∨ (i ∉ k.queue ∧ ¬ fit) → ∃ t, exec (.calNow p d) s = .next t
      ∧ t.get R.CAL_NOW_REFUSED_CNT = counted 32 (s.get R.CAL_NOW_REFUSED_CNT) 1 ∧ t.hasEvt E.CAL_NOW_REFUSED = true
      ∧ s.keeps t [R.CAL_NOW_REFUSED_CNT.key, evtKey 0x07] ∧ t.bare = { s.bare with served := p }))

/-- Compare units are armed, and calibration on demand is queued or refused.
Completion of CAL_NOW and CMP_ARM is stated here.
Rests on log entries 25, 60. -/
def Obligations.CompareArmingAndCalibrationRequests : Prop :=
  Claims.CompareUnitsAreArmed ∧ Claims.CalNowQueuesOrRefuses

/-- A write to PCOEF.COEF of an UNCOMMITTED profile, the page being ENABLED, writes the tap that PSEL and TAP name and moves TAP on by one; a write to a locked
profile is refused, raises WRITE_LOCKED and counts (R164). -/
def Claims.CoefficientsAreWrittenTapByTap : Prop :=
  ∀ (s : State) (p : Port) (d : Word), s.serves p 0x29048 →
    (let q := s.get R.PCOEF_PSEL
     let k := s.get R.PCOEF_TAP
    (s.profState q = 0 → s.enabled 0x29 = true → ∃ t, exec (.coefWrite p d) s = .next t
      ∧ t.get (R.PCOEF_COEF (q * 256 + k)) = bits d 0 18 ∧ t.get R.PCOEF_TAP = (k + 1) % 256
      ∧ s.keeps t [(R.PCOEF_COEF (q * 256 + k)).key, R.PCOEF_TAP.key]
      ∧ t.bare = { s.bare with served := p, badTaps := s.badTaps.filter (· != q * 256 + k) })
    ∧ (s.profState q ≠ 0 ∨ s.enabled 0x29 = false → ∃ t, exec (.coefWrite p d) s = .next t
      ∧ t.hasEvt E.PCOEF_WRITE_LOCKED = true ∧ t.get R.PCOEF_WRITE_LOCKED_CNT = counted 32 (s.get R.PCOEF_WRITE_LOCKED_CNT) 1
      ∧ s.keeps t [R.PCOEF_WRITE_LOCKED_CNT.key, evtKey 0x29] ∧ t.bare = { s.bare with served := p }))

/-- A write to CREDIT_ADD adds to the crew's CREDITS, which saturate at 65,535; then CREDIT_OVF is raised and counted (R290). -/
def Claims.CreditsAddAndSaturate : Prop :=
  ∀ (s : State) (p : Port) (d : Word), s.serves p 0x40068 →
    (let c := bits d 0 12
     let v := s.crewCredits c + bits d 16 16
     ∃ t, exec (.creditAdd p d) s = .next t ∧ t.crewCredits c = min v 65535
      ∧ (65535 < v → t.hasEvt E.CREW_CREDIT_OVF = true ∧ t.get R.CREW_CREDIT_OVF_CNT = counted 32 (s.get R.CREW_CREDIT_OVF_CNT) 1
          ∧ s.keeps t [(R.CREW_Ew 7 c).key, R.CREW_CREDIT_OVF_CNT.key, evtKey 0x40])
      ∧ (v ≤ 65535 → s.keeps t [(R.CREW_Ew 7 c).key])
      ∧ t.bare = { s.bare with served := p })

/-- A write to SHADOW.DATA stores the cell's value with its written mark, ends what an upset left on it, queues its address for the satellite unless it
waits there already, and moves ADDR on by one; with the queue full it is refused, counted and raises WQ_FULL (R359, R360, R363). A write of 1 to FORGET takes the
cell's mark away (R359). -/
def Claims.ShadowWordsAreWrittenAndForgotten : Prop :=
  ∀ (s : State) (p : Port), s.sats.length = 16 →
    (let q := s.get R.SHADOW_PORT_SEL
     let a := s.get R.SHADOW_ADDR
     let k := s.sat q
    (∀ d : Word, s.serves p 0x88048 →
      (a ∈ k.queue ∨ k.queue.length ≠ 64 → ∃ t, exec (.shadowDataWrite p d) s = .next t
        ∧ t.get (R.SHADOW_DATA (q * 16384 + a)) = bits d 0 16 ∧ t.get (R.SHADOW_DATA_MARK (q * 16384 + a)) = 1
        ∧ t.get (R.SHADOW_DATA_ECC (q * 16384 + a)) = 0 ∧ t.get R.SHADOW_ADDR = (a + 1) % 16384
        ∧ t.sat q = { k with
            queue := (if a ∈ k.queue then k.queue else k.queue ++ [a]),
            settling := Assoc.put k.settling a false, suspect := k.suspect.filter (· != a) }
        ∧ s.keeps t [(R.SHADOW_DATA (q * 16384 + a)).key, R.SHADOW_ADDR.key]
        ∧ t.bare = { s.bare with served := p, sats := s.sats.set q (t.sat q) })
      ∧ (a ∉ k.queue → k.queue.length = 64 → ∃ t, exec (.shadowDataWrite p d) s = .next t
        ∧ t.get R.SHADOW_WQ_FULL_CNT = counted 32 (s.get R.SHADOW_WQ_FULL_CNT) 1 ∧ t.hasEvt E.SHADOW_WQ_FULL = true
        ∧ s.keeps t [R.SHADOW_WQ_FULL_CNT.key, evtKey 0x88] ∧ t.bare = { s.bare with served := p }))
    ∧ (s.serves p 0x8804C → ∃ t, exec (.shadowForget p) s = .next t ∧ t.get (R.SHADOW_DATA_MARK (q * 16384 + a)) = 0
        ∧ s.keeps t [(R.SHADOW_DATA (q * 16384 + a)).key] ∧ t.bare = { s.bare with served := p }))

/-- A write of 1 to LENS.FLUSH reaches every engine that is coding at once: its block ends after the element that it is consuming, and the rest of
its elements wait as a block of their own, the first of its bank (R270). A block whose last element is being consumed ends there anyway: it is told as
flushed unless it was the payload's last (R269) or its coding has ended; an engine whose block starts later goes on untouched. The core clock of the flush is a free value. -/
def Claims.FlushEndsTheBlocks : Prop :=
  ∀ (s : State) (p : Port), s.serves p 0x39040 → Assoc.sorted s.engines = true →
    (let now := s.lensClock.1
    let eatenElems (g : Engine) : Nat := consumed 0 (State.eaten g now) g.elems
    ∃ t, exec (.lensFlush p) s = .next t
      ∧ (∀ i, Assoc.find? s.engines i = none → Assoc.find? t.engines i = none)
      ∧ (∀ g i, Assoc.find? s.engines i = some g →
          (now < g.start → Assoc.find? t.engines i = some g)
          ∧ (g.start ≤ now → eatenElems g < g.elems.length → Assoc.find? t.engines i
            = some { g with elems := g.elems.take (eatenElems g), last := false, flushed := true })
          ∧ (g.start ≤ now → g.elems.length ≤ eatenElems g → g.last = false → State.eaten g now < (prepared 0 g.elems).length →
            Assoc.find? t.engines i = some { g with flushed := true })
          ∧ (g.elems.length ≤ eatenElems g → g.last = true ∨ (prepared 0 g.elems).length ≤ State.eaten g now →
            Assoc.find? t.engines i = some g))
      ∧ (∀ i g, s.engines = [(i, g)] → g.start ≤ now → eatenElems g < g.elems.length →
          t.frags = (s.updBank g.frag g.bank (fun b => { b with todo := g.elems.drop (eatenElems g) :: b.todo })).frags)
      ∧ s.keeps t [] ∧ t.bare = { s.bare with served := p, free := s.free + 1, lensClk := now, engines := t.engines, frags := t.frags })
/-- The words that a repair from the partner lane may change (R112, R414): the data lane's REPAIR_CNT and HEALTH's class 0x07. -/
def repairKeys (s : State) : List Nat :=
  [(R.PACEx_REPAIR_CNT s.dataLane.page).key, evtKey s.dataLane.page, (R.HEALTH_FAULT_CNTc 7).key, faultKey 0x06, evtKey 0x06]

/-- The writes of counters, credits, coefficients, shadow words and FLUSH.
Completion of COUNTER_CLEAR, COEF_WRITE, CREDIT_ADD, LENS_FLUSH, SHADOW_DATA_WRITE and SHADOW_FORGET is stated here.
Rests on log entries 2, 40. -/
def Obligations.WritesThatCountOrClearAct : Prop :=
  Claims.CountersAreClearedByWrites ∧ Claims.CreditsAddAndSaturate ∧ Claims.CoefficientsAreWrittenTapByTap
    ∧ Claims.ShadowWordsAreWrittenAndForgotten ∧ Claims.FlushEndsTheBlocks

/-- The words that an accepted fast command may change besides its own effect: LAST_CMD, what a repair counts, and the capture units
that select its event source (R95, R103). -/
def fastKeys (s : State) : List Nat := R.PACEA_LAST_CMD_CODE.key :: evtKey 0x0C :: (repairKeys s ++ captureKeys)

/-- LAST_CMD holds a command's code, argument and crossing m = n − ALIGN_K − 2 (R99, R103), and the command has fired its source. -/
def latched (s t : State) (code arg : Nat) : Prop :=
  t.get R.PACEA_LAST_CMD_CODE = code ∧ t.get R.PACEA_LAST_CMD_ARG = arg
    ∧ t.get R.PACEA_LAST_CMD_CN_LO = (s.time.cn - BitVec.ofNat 64 (s.get R.SYNC_ALIGN_K + 2)).toNat % 2 ^ 16
    ∧ t.fired = [(0x0B + code, 0)]

/-- A fast command that a usable lane delivers correctly is latched, fires its source and has its effect (R102, R103, R104).
Completion of RESYNC, SNAPSHOT, ORBIT_RESET, RUN_START, RUN_STOP, CAL_PULSE, MOOR and WAKE is stated here.
Rests on log entries 23, 62. -/
def Obligations.FastCommandsTakeEffect : Prop :=
  ∀ (s : State) (a b : LaneCopy), s.commandsArrive = true → s.delivers (fun l => onLane l a b == .good) = true →
    (∃ t, exec (.resync a b) s = .next t ∧ latched s t 1 0
      ∧ t.get R.TIME_STATUS_RESYNC_PENDING = (if s.time.resync = .idle then 1 else s.get R.TIME_STATUS_RESYNC_PENDING)
      ∧ s.keeps t (R.TIME_STATUS_RESYNC_PENDING.key :: fastKeys s)
      ∧ t.still = { s.still with time := { s.time with
          resync := if s.time.resync = .idle then .waiting else s.time.resync } })
    ∧ (∃ t, exec (.snapshot a b) s = .next t ∧ latched s t 2 0 ∧ s.keeps t (fastKeys s)
      ∧ t.still = { s.still with snapReq := true })
    ∧ (∃ t, exec (.orbitReset a b) s = .next t ∧ latched s t 3 0 ∧ s.keeps t (fastKeys s)
      ∧ t.still = { s.still with time := { s.time with orbitReset := true } })
    ∧ (∃ t, exec (.runStart a b) s = .next t ∧ latched s t 4 0 ∧ s.keeps t (fastKeys s)
      ∧ t.still = { s.still with pace := { s.still.pace with runCmd := some true } })
    ∧ (∃ t, exec (.runStop a b) s = .next t ∧ latched s t 5 0 ∧ s.keeps t (fastKeys s)
      ∧ t.still = { s.still with pace := { s.still.pace with runCmd := some false } })
    ∧ (∃ t, exec (.moor a b) s = .next t ∧ latched s t 7 0 ∧ s.keeps t (fastKeys s)
      ∧ t.still = { s.still with pace := { s.still.pace with moorCmd := some true } })
    ∧ (∃ t, exec (.wake a b) s = .next t ∧ latched s t 8 0 ∧ s.keeps t (fastKeys s)
      ∧ t.still = { s.still with pace := { s.still.pace with moorCmd := some false } })
    ∧ ∀ arg : BitVec 4,
      (s.flag R.PACEA_RUN_HOLD = false → ∃ t, exec (.calPulse arg a b) s = .next t ∧ latched s t 6 arg.toNat
        ∧ s.keeps t (fastKeys s) ∧ t.still = s.still)
      ∧ (s.flag R.PACEA_RUN_HOLD = true → ∃ t, exec (.calPulse arg a b) s = .next t ∧ t.fired = []
        ∧ t.get R.PACEA_HELD_ACCEPTS = counted 32 (s.get R.PACEA_HELD_ACCEPTS) 1
        ∧ s.keeps t (R.PACEA_HELD_ACCEPTS.key :: evtKey 0x0E :: repairKeys s) ∧ t.bare = s.bare)

/-- The words that an undeliverable field may change on the two Pace pages. -/
def badFieldKeys (cnt : Nat → Fld) : List Nat := [(cnt 0x0E).key, (cnt 0x0F).key, evtKey 0x0E, evtKey 0x0F]

/-- A fast command that no usable lane delivers correctly is discarded: each lane that delivered a frame counts one in its CMD_ERR_CNT and
raises CMD_ERR on its own page; where the partner shows that no command was sent, its 0x00 and 0xFF repair the data lane's field (R102). -/
def Claims.BadFastCommandsAreDiscarded : Prop :=
  ∀ (s : State) (a b : Option (Byte × Byte)), s.commandsArrive = true →
    (s.delivers (fun l => (onLane l a b).any (fun p => cmdOk p.1 p.2)) = false →
      ∃ t, exec (.fastCommandDiscard a b) s = .next t
      ∧ (∀ l : PaceLane, t.get (R.PACEx_CMD_ERR_CNT l.page)
          = if (onLane l a b).isSome = true ∧ s.whole l = true then counted 32 (s.get (R.PACEx_CMD_ERR_CNT l.page)) 1
            else s.get (R.PACEx_CMD_ERR_CNT l.page))
      ∧ (∀ l : PaceLane, (onLane l a b).isSome = true → s.whole l = true → t.hasEvt (E.PACEx_CMD_ERR l.page) = true)
      ∧ s.keeps t (badFieldKeys R.PACEx_CMD_ERR_CNT) ∧ t.bare = s.bare)
    ∧ (s.delivers (fun l => l == s.dataLane && (onLane l a b).any (fun p => cmdOk p.1 p.2)) = false →
      s.whole s.dataLane.other = true → onLane s.dataLane.other a b = some (0x00, 0xFF) →
      ∃ t, exec (.fastCommandDiscard a b) s = .next t
      ∧ t.get (R.PACEx_REPAIR_CNT s.dataLane.page) = counted 32 (s.get (R.PACEx_REPAIR_CNT s.dataLane.page)) 1
      ∧ s.keeps t (repairKeys s) ∧ t.bare = s.bare)

/-- A control frame that fails its check, or is cut, counts in FRAME_ERR_CNT of its lane and raises FRAME_ERR (R108); LINK_INFO shows the master's
version (R114). -/
def Claims.ControlFramesAreCheckedAndShown : Prop :=
  ∀ (s : State) (l : PaceLane), s.alive = true →
    (∃ t, exec (.controlFrameDiscard l) s = .next t
      ∧ t.get (R.PACEx_FRAME_ERR_CNT l.page) = counted 32 (s.get (R.PACEx_FRAME_ERR_CNT l.page)) 1
      ∧ t.hasEvt (E.PACEx_FRAME_ERR l.page) = true
      ∧ s.keeps t [(R.PACEx_FRAME_ERR_CNT l.page).key, evtKey l.page] ∧ t.bare = s.bare)
    ∧ ∀ v : Byte, s.laneUp l = true → ∃ t, exec (.linkInfo l v) s = .next t
      ∧ t.get (R.PACEx_STATUS_PARTNER_VER l.page) = v.toNat
      ∧ s.keeps t [(R.PACEx_STATUS_PARTNER_VER l.page).key] ∧ t.bare = s.bare

/-- Fast commands and control frames that are not taken.
Completion of LINK_INFO, CONTROL_FRAME_DISCARD and FAST_COMMAND_DISCARD is stated here.
Rests on log entry 62. -/
def Obligations.BadFramesAreDiscarded : Prop :=
  Claims.BadFastCommandsAreDiscarded ∧ Claims.ControlFramesAreCheckedAndShown

/-- A Pace lane comes up through SIGNAL and ALIGNED to ENABLED; there LINK_UP is raised, and LINK_INFO with version 0x01 and the hub's
number joins the return stream (R114). Where the lane ends an outage as the data lane, the hub enters HOLD (R116), but for an outage that began
while it was Moored; while Moored it may begin the wake-up (R117). The lane receives again from this crossing on, unless it is in TEST (R315). -/
def Claims.PaceLanesComeUp : Prop :=
  ∀ (s : State) (l : PaceLane), s.alive = true →
    (s.pstate l.page = 2 → ∃ t, exec (.paceSignalPresent l) s = .next t ∧ t.pstate l.page = 3
      ∧ s.keeps t [stateKey l.page] ∧ t.bare = s.bare)
    ∧ (s.pstate l.page = 3 → ∃ t, exec (.paceAligned l) s = .next t ∧ t.pstate l.page = 4
      ∧ s.keeps t [stateKey l.page] ∧ t.bare = s.bare)
    ∧ (s.pstate l.page = 4 → ∃ t seq, exec (.paceLinkUp l) s = .next t ∧ t.pstate l.page = 1
      ∧ t.hasEvt (E.PACEx_LINK_UP l.page) = true
      ∧ t.pace.txq = s.pace.txq ++ [controlSyms ([0x86, seq, 0x01] ++ leBytes 2 (s.get R.ID_HUB_NUMBER))]
      ∧ (let u := if s.inTest (l.page * 4096 + 0x1C0) = true then s else s.updGap l (fun g => g.end_ s.time.cr)
         let wake := s.pace.linkWake || (s.moored && s.flag (R.PACEx_CTL_WAKE_ON_LINK l.page))
         (s.outage = false → s.keeps t [stateKey l.page, evtKey l.page]
          ∧ t.bare = { u.bare with free := s.free + 1, pace := { u.bare.pace with txq := t.pace.txq, linkWake := wake } })
         ∧ (s.outage = true → l = s.dataLane → s.inTest (l.page * 4096 + 0x1C0) = false →
          t.get R.PACEA_RUN_HOLD = (if s.pace.quiet = true then s.get R.PACEA_RUN_HOLD else 1)
          ∧ s.keeps t [stateKey l.page, evtKey l.page, R.PACEA_RUN_HOLD.key]
          ∧ t.bare = { u.bare with free := s.free + 1, pace := { u.bare.pace with
              txq := t.pace.txq, linkWake := wake, outGap := s.pace.outGap.end_ s.time.cr, quiet := false } })))

/-- The pages that the loss of a Pace lane may change: HEALTH, CLK, PACEA, PACEB. -/
def lanePages : List Nat := [0x06, 0x08, 0x0E, 0x0F]

/-- A Pace lane in ALIGNED or ENABLED that is lost goes DOWN and raises LINK_DOWN (R114); the loss of a lane that is not the data lane
records its fault, unless the hub is Moored (R117). Losing the data lane hands its role to a usable partner at once (R113); without one,
SWITCH_REFUSED is raised and the outage begins (R115) with the first crossing that no lane delivers. COMMA_ERR_CNT counts the four crossings without a
comma, but for those that it has counted already; code errors are a cause once sixteen lie within 256 crossings. -/
def Claims.PaceLanesGoDown : Prop :=
  ∀ (s : State) (l : PaceLane) (cause : DownCause), s.alive = true → s.pstate l.page = 1 ∨ s.pstate l.page = 4 →
    (cause = .codeErrors → s.sixteenErrors (l.page * 4096 + 0x1C0) = true) →
    (let from_ := if cause = .commas then s.time.cr - 3 else s.time.cr
    let told := s.pace.noComma.filter (fun e => e.1 == l && decide (s.time.cr ≤ e.2 + 3))
    ∃ t, exec (.paceLinkDown l cause) s = .next t ∧ t.pstate l.page = 2
      ∧ t.hasEvt (E.PACEx_LINK_DOWN l.page) = true
      ∧ (l ≠ s.dataLane → s.moored = false →
          t.rd (faultKey l.page) = BitVec.ofNat 32 (1 + l.idx * 256 + s.time.cn.toNat % 65536 * 65536))
      ∧ (l ≠ s.dataLane → s.moored = true → t.rd (faultKey l.page) = s.rd (faultKey l.page))
      ∧ (l = s.dataLane → s.usable l.other = true → t.dataLane = l.other ∧ t.hasEvt E.PACEA_DATA_SWITCH = true
          ∧ t.get R.PACEA_SWITCH_CNT = counted 32 (s.get R.PACEA_SWITCH_CNT) 1)
      ∧ (l = s.dataLane → s.usable l.other = false → t.dataLane = l
          ∧ t.hasEvt E.PACEA_SWITCH_REFUSED = true ∧ t.outage = true
          ∧ t.pace.outGap = s.pace.outGap.begin (s.outFrom from_)
          ∧ (s.outage = false → s.moored = false → s.running = true → t.hasEvt E.PACEA_TRIG_BLIND = true))
      ∧ (l ≠ s.dataLane ∨ s.usable l.other = true → t.pace.outGap = s.pace.outGap ∧ t.pace.quiet = s.pace.quiet)
      ∧ t.gapOf l = (s.gapOf l).begin from_
      ∧ (cause = .commas → t.get (R.PACEx_COMMA_ERR_CNT l.page) = counted 32 (s.get (R.PACEx_COMMA_ERR_CNT l.page)) (4 - told.length))
      ∧ s.keepsPages t lanePages
      ∧ (let u := (s.updGap l (fun g => g.begin from_)).bare
         t.bare = { u with clk := t.clk, time := { s.time with exch := t.time.exch },
                           pace := { u.pace with outGap := t.pace.outGap, quiet := t.pace.quiet } }))

/-- The states of the Pace lanes.
Completion of PACE_SIGNAL_PRESENT, PACE_ALIGNED, PACE_LINK_UP and PACE_LINK_DOWN is stated here.
Rests on log entries 3, 62. -/
def Obligations.PaceLanesComeUpAndGoDown : Prop :=
  Claims.PaceLanesComeUp ∧ Claims.PaceLanesGoDown

/-- No START edge becomes a trigger in the present crossing (R217). -/
def noStarts (s : State) : Prop := ∀ e ∈ s.startQ, s.time.cr < e.1 + 3

/-- The trigger byte of a crossing that the data lane, or else a partner that repairs it, delivers validly, as a byte w (R101). -/
def triggerByte (s : State) (a b : Option Byte) (w : Byte) : Prop :=
  (s.whole s.dataLane = true ∧ onLane s.dataLane a b = some w ∧ trigValid w = true)
    ∨ (s.delivers (fun l => l == s.dataLane && (onLane l a b).any trigValid) = false
        ∧ s.whole s.dataLane.other = true ∧ onLane s.dataLane.other a b = some w ∧ trigValid w = true)

/-- An accept that arrives in a run, out of HOLD, with ACQ enabled and room in the queue, counts in ACCEPT_CNT and joins the accept queue with
its TYPE, the crossing m = n − ALIGN_K − 2, its anchor ACQ.LATENCY before it, the window of its type and the next event number (R101, R217,
R220, R242).
Completion of ACCEPT is stated here.
Rests on log entry 31. -/
def Obligations.AcceptsJoinTheQueue : Prop :=
  ∀ (s : State) (a b : Option Byte) (w : Byte), s.commandsArrive = true → noStarts s → triggerByte s a b w →
    trigAccept w = true → s.running = true → s.flag R.PACEA_RUN_HOLD = false → s.enabled 0x30 = true →
    s.flag R.ACQ_STATUS_REACH_HOLD = false → s.accQ.length < 256 →
    ∃ t e, exec (.accept a b) s = .next t ∧ t.accQ = s.accQ ++ [e]
      ∧ e.src = 0 ∧ e.type = trigType w ∧ e.word1 = s.time.cn - BitVec.ofNat 64 (s.get R.SYNC_ALIGN_K + 2)
      ∧ e.anchor = (s.time.cr : Int) - (s.get R.SYNC_ALIGN_K + 2 : Nat) - s.get R.ACQ_LATENCY
      ∧ e.ofs = s.geti (R.ACQ_TYPEt_OFS (trigType w)) ∧ e.len = s.get (R.ACQ_TYPEt_LEN (trigType w))
      ∧ e.evNo = s.evNo ∧ t.evNo = (s.evNo + 1) % 65536 ∧ t.autoCnt = 0
      ∧ t.get R.PACEA_ACCEPT_CNT = (s.get R.PACEA_ACCEPT_CNT + 1) % 2 ^ 32
      ∧ t.get R.ACQ_QUEUE_LEVEL_HIGH = max (s.get R.ACQ_QUEUE_LEVEL_HIGH) (s.accQ.length + 1) % 2 ^ 9
      ∧ s.keepsPages t [0x06, 0x0C, 0x0E, 0x0F, 0x30]
      ∧ t.still = { s.still with
          accQ := t.accQ, evNo := t.evNo, autoCnt := 0, easyBroken := t.easyBroken, satFast := t.satFast }

/-- What becomes of an accept that does not join the queue: outside a run it counts in NORUN_ACCEPTS and takes no number (R101); in HOLD it
counts in HELD_ACCEPTS and takes its number (R116, R242); with ACQ DISABLED it counts in DISABLED_CNT (R217), under REACH_HOLD in REACH_HELD_CNT (R220), and
with the queue full in QUEUE_FULL_CNT, which raises QUEUE_FULL and OVERRUN with a fault (R223), each taking its number and counting in ACCEPT_CNT. A crossing for which no lane yields a valid byte is lost for triggering: TRIG_PARITY,
and in a run one of BLIND_CR (R101). A valid byte that is no accept does nothing.
Completion of ACCEPT is stated here.
Rests on log entries 22, 31. -/
def Obligations.OtherTriggerBytes : Prop :=
  ∀ (s : State) (a b : Option Byte), s.commandsArrive = true → noStarts s →
    (∀ w, triggerByte s a b w → trigAccept w = false → ∃ t, exec (.accept a b) s = .next t
      ∧ s.keeps t (repairKeys s) ∧ t.bare = s.bare)
    ∧ (∀ w, triggerByte s a b w → trigAccept w = true → s.running = false → ∃ t, exec (.accept a b) s = .next t
      ∧ t.get R.PACEA_NORUN_ACCEPTS = counted 32 (s.get R.PACEA_NORUN_ACCEPTS) 1
      ∧ s.keeps t (R.PACEA_NORUN_ACCEPTS.key :: evtKey 0x0E :: repairKeys s) ∧ t.bare = s.bare)
    ∧ (∀ w, triggerByte s a b w → trigAccept w = true → s.running = true → s.flag R.PACEA_RUN_HOLD = true →
      ∃ t, exec (.accept a b) s = .next t
      ∧ t.get R.PACEA_HELD_ACCEPTS = counted 32 (s.get R.PACEA_HELD_ACCEPTS) 1
      ∧ s.keeps t (R.PACEA_HELD_ACCEPTS.key :: evtKey 0x0E :: repairKeys s)
      ∧ t.bare = { s.bare with evNo := (s.evNo + 1) % 65536 })
    ∧ (∀ w, triggerByte s a b w → trigAccept w = true → s.running = true → s.flag R.PACEA_RUN_HOLD = false →
      s.enabled 0x30 = false ∨ s.flag R.ACQ_STATUS_REACH_HOLD = true ∨ 256 ≤ s.accQ.length → ∃ t, exec (.accept a b) s = .next t
      ∧ t.get R.PACEA_ACCEPT_CNT = (s.get R.PACEA_ACCEPT_CNT + 1) % 2 ^ 32
      ∧ t.get R.ACQ_DISABLED_CNT
        = (if s.enabled 0x30 = false then counted 32 (s.get R.ACQ_DISABLED_CNT) 1 else s.get R.ACQ_DISABLED_CNT)
      ∧ t.get R.ACQ_REACH_HELD_CNT = (if s.enabled 0x30 = true ∧ s.flag R.ACQ_STATUS_REACH_HOLD = true then
          counted 32 (s.get R.ACQ_REACH_HELD_CNT) 1 else s.get R.ACQ_REACH_HELD_CNT)
      ∧ (s.enabled 0x30 = true → s.flag R.ACQ_STATUS_REACH_HOLD = false →
          t.get R.ACQ_QUEUE_FULL_CNT = counted 32 (s.get R.ACQ_QUEUE_FULL_CNT) 1 ∧ t.hasEvt E.ACQ_QUEUE_FULL = true
          ∧ t.hasEvt E.ACQ_OVERRUN = true
          ∧ t.rd (faultKey 0x30) = BitVec.ofNat 32 (1 + s.time.cn.toNat % 65536 * 65536))
      ∧ s.keepsPages t [0x06, 0x0C, 0x0E, 0x0F, 0x30]
      ∧ t.still = { s.still with evNo := (s.evNo + 1) % 65536, easyBroken := t.easyBroken, satFast := t.satFast })
    ∧ (s.delivers (fun l => (onLane l a b).any trigValid) = false →
      ∃ t, exec (.accept a b) s = .next t ∧ t.hasEvt E.PACEA_TRIG_PARITY = true
      ∧ (∀ l : PaceLane, t.get (R.PACEx_TRIG_PARITY_CNT l.page)
          = if (onLane l a b).isSome = true ∧ s.whole l = true then counted 32 (s.get (R.PACEx_TRIG_PARITY_CNT l.page)) 1
            else s.get (R.PACEx_TRIG_PARITY_CNT l.page))
      ∧ t.get R.PACEA_BLIND_CR = (if s.running = true then counted 32 (s.get R.PACEA_BLIND_CR) 1 else s.get R.PACEA_BLIND_CR)
      ∧ s.keeps t (R.PACEA_BLIND_CR.key :: badFieldKeys R.PACEx_TRIG_PARITY_CNT)
      ∧ t.bare = { s.bare with pace := { s.bare.pace with
          trigErr := 2, trigErrCr := s.time.cr, lost := (s.arrival :: s.pace.lost).take 8 } })

/-- A READ or WRITE frame of the Pace link is performed at the arbiter for port C and answered with its SEQ, STATUS and, for a READ, DATA; the
answer is kept, and a repeated SEQ gets it again and performs nothing (R108, R109).
Completion of PACE_REG_READ and PACE_REG_WRITE is stated here.
Rests on log entry 17. -/
def Obligations.PaceRequestsAreAnswered : Prop :=
  ∀ (s : State) (seq : Byte) (a : RegAddr) (d : Word), s.controlArrives = true → s.serves .C a.toNat →
    ((s.pace.lastReq.all (fun r => r.1 != seq)) = true →
      (let r := { s.begin_ with served := .C }.performRead .C a.toNat
        ∃ t, exec (.paceRegRead seq a false) s = .next t
        ∧ t.pace.lastReq = some (seq, [0x81, seq, 0] ++ leBytes 4 r.1.toNat)
        ∧ t.pace.txq = s.pace.txq ++ [controlSyms ([0x81, seq, 0] ++ leBytes 4 r.1.toNat)]
        ∧ r.2.keeps t []
        ∧ t.bare = { r.2.bare with pace := { r.2.bare.pace with lastReq := t.pace.lastReq, txq := t.pace.txq } })
      ∧ (let r := { s.begin_ with served := .C }.performWrite .C a.toNat d
        ∃ t, exec (.paceRegWrite seq a d false) s = .next t
        ∧ t.pace.lastReq = some (seq, [0x82, seq, BitVec.ofNat 8 r.1])
        ∧ t.pace.txq = s.pace.txq ++ [controlSyms [0x82, seq, BitVec.ofNat 8 r.1]]
        ∧ (¬ (0x0C100 ≤ a.toNat ∧ a.toNat < 0x0C180) → r.2.keeps t [] ∧ t.bare = { r.2.bare with
            pace := { r.2.bare.pace with lastReq := t.pace.lastReq, txq := t.pace.txq } })))
    ∧ ∀ bytes, s.pace.lastReq = some (seq, bytes) →
      (∃ t, exec (.paceRegRead seq a false) s = .next t ∧ s.keeps t []
        ∧ t.bare = { s.bare with pace := { s.bare.pace with txq := s.pace.txq ++ [controlSyms bytes] } })
      ∧ ∃ t, exec (.paceRegWrite seq a d false) s = .next t ∧ s.keeps t []
        ∧ t.bare = { s.bare with pace := { s.bare.pace with txq := s.pace.txq ++ [controlSyms bytes] } }

/-- A delay exchange (R85): SYNC stamps t2 and opens it, an open one being lost; DELAY_REQ, sent REQ_OFFSET after a catch of a later stroke,
stamps t3 at its crossing and carries the next SEQ; without an answer within 64 st the exchange is discarded. Stamps in native mode (R87). -/
def Claims.ExchangesOpenAndTimeOut : Prop :=
  ∀ s : State, s.alive = true →
    (∀ (t1 : TimeStamp) (phase : Fin 4096), s.dataUp = true → s.enabled 0x0D = true → s.moored = false →
      s.get R.SYNC_CTL_STAMP_MODE = 0 → ∃ t, exec (.syncMessage t1 phase false) s = .next t
      ∧ t.time = { s.time with exch := some {
          lane := s.dataLane, t1 := stamp16 t1,
          t2 := (s.hubTime + ((s.incr : Int) + s.geti R.TIME_RATE_ADJ).toNat * phase.val / 4096) / 65536,
          coasted := s.coast, stroke := s.time.catches, t3 := none, seq := 0, reqCr := 0 } }
      ∧ t.get R.SYNC_LOST_CNT
          = (if s.time.exch.isSome = true then counted 32 (s.get R.SYNC_LOST_CNT) 1 else s.get R.SYNC_LOST_CNT)
      ∧ s.keeps t [R.SYNC_LOST_CNT.key, evtKey 0x0D, faultKey 0x0D] ∧ t.bare = { s.bare with time := t.time })
    ∧ (∀ e, s.time.exch = some e → e.t3 = none → e.stroke < s.time.catches →
      s.time.cr = s.time.lastCatch + s.get R.SYNC_CTL_REQ_OFFSET → s.moored = false → s.get R.SYNC_CTL_STAMP_MODE = 0 →
      ∃ t, exec .delayReqSend s = .next t ∧ t.out = [.paceCtl [0x83, s.time.reqSeq + 1]]
      ∧ t.time = { s.time with reqSeq := s.time.reqSeq + 1, exch := some { e with
          t3 := some (s.hubTime / 65536 : Nat), seq := s.time.reqSeq + 1, reqCr := s.time.cr, coasted := e.coasted || s.coast } }
      ∧ s.keeps t [] ∧ t.bare = { s.bare with time := t.time })
    ∧ (∀ e, s.time.exch = some e → e.t3 ≠ none → e.reqCr + 64 * 256 ≤ s.time.cr →
      ∃ t, exec .exchangeTimeout s = .next t ∧ t.time = { s.time with exch := none }
      ∧ t.hasEvt E.SYNC_RESP_TIMEOUT = true ∧ t.get R.SYNC_LOST_CNT = counted 32 (s.get R.SYNC_LOST_CNT) 1
      ∧ s.keeps t [R.SYNC_LOST_CNT.key, evtKey 0x0D, faultKey 0x0D] ∧ t.bare = { s.bare with time := t.time })

/-- DELAY_RESP on the data lane with the SEQ of the DELAY_REQ completes the exchange: with a = t2 − t1 − ASYM and b = t4 − t3 + ASYM, OFFSET is
half their difference and MEAN_DELAY half their sum, EXCH_CNT counts and EXCHANGE_DONE is raised (R85, R86). Here with the servo and the
alignment switched off. -/
def Claims.DelayRespCompletesTheExchange : Prop :=
  ∀ (s : State) (e : Exchange) (t3 : Int) (t4 : TimeStamp), s.dataUp = true → s.moored = false →
    s.time.exch = some e → e.t3 = some t3 → e.coasted = false → e.lane = s.dataLane →
    s.flag R.SYNC_CTL_SERVO_EN = false → s.flag R.SYNC_CTL_ALIGN_EN = false →
    (let asym := s.geti (R.SYNC_ASYMp e.lane.idx)
     let a := e.t2 - e.t1 - asym
     let b := stamp16 t4 - t3 + asym
     ∃ t, exec (.delayResp s.dataLane e.seq t4) s = .next t
      ∧ (-(2 ^ 31 : Int) ≤ (a - b) / 2 → (a - b) / 2 < 2 ^ 31 → t.geti R.SYNC_OFFSET = (a - b) / 2)
      ∧ (0 ≤ (a + b) / 2 → (a + b) / 2 < 2 ^ 32 → (t.get R.SYNC_MEAN_DELAY : Int) = (a + b) / 2)
      ∧ t.get R.SYNC_EXCH_CNT = (s.get R.SYNC_EXCH_CNT + 1) % 2 ^ 32
      ∧ t.hasEvt E.SYNC_EXCHANGE_DONE = true
      ∧ s.keeps t [R.SYNC_OFFSET.key, R.SYNC_MEAN_DELAY.key, (R.SYNC_CABLE_LENp e.lane.idx).key, R.SYNC_EXCH_CNT.key, evtKey 0x0D]
      ∧ t.bare = { s.bare with
          free := t.free, time := { s.time with exch := none, lastExch := some s.time.cr } })

/-- A delay exchange from SYNC to its answer or its end.
Completion of SYNC_MESSAGE, DELAY_RESP, DELAY_REQ_SEND and EXCHANGE_TIMEOUT is stated here.
Rests on log entries 2, 3, 20. -/
def Obligations.DelayExchangesRun : Prop :=
  Claims.ExchangesOpenAndTimeOut ∧ Claims.DelayRespCompletesTheExchange

/-- CN_ANNOUNCE (R89, R90): one that is not in its slot, or whose CN is no multiple of 256, counts in ANN_BAD_CNT and does nothing; one that a
pending resynchronisation waits for names its catch, with the hub's own number for it, that of crossing m + 1,024 (moved by
a change of ALIGN_K, R88); one that agrees with the hub
while it is locked to a Pace lane and checks nothing else ends HOLD (R116) and changes nothing more; one that disagrees raises CN_MISMATCH, be a
resynchronisation pending or not, and starts one if none is. -/
def Claims.AnnouncementsAreJudged : Prop :=
  ∀ (s : State) (c : BitVec 64), s.dataUp = true → s.moored = false →
    (let k := s.get R.SYNC_ALIGN_K
    let own := s.time.cn - BitVec.ofNat 64 (k + 2) + 1024
    let at_ := own + BitVec.ofInt 64 ((k : Int) - ((s.time.newAlign.map (·.1)).getD k : Nat))
    (∀ inSlot, inSlot = false ∨ c.toNat % 256 ≠ 0 → ∃ t, exec (.cnAnnounce c inSlot false) s = .next t
      ∧ t.get R.SYNC_ANN_BAD_CNT = counted 32 (s.get R.SYNC_ANN_BAD_CNT) 1
      ∧ s.keeps t [R.SYNC_ANN_BAD_CNT.key, evtKey 0x0D] ∧ t.bare = s.bare)
    ∧ (c.toNat % 256 = 0 → s.time.wake = none → s.time.resync = .waiting → ∃ t, exec (.cnAnnounce c true false) s = .next t
      ∧ t.get R.TIME_STATUS_RESYNC_PENDING = 1
      ∧ (s.lockedToPace = false ∨ own = c →
          s.keeps t [R.TIME_STATUS_RESYNC_PENDING.key, R.PACEA_RUN_HOLD.key, evtKey 0x0E])
      ∧ (s.lockedToPace = true → own ≠ c → t.hasEvt E.SYNC_CN_MISMATCH = true
          ∧ s.keeps t [R.TIME_STATUS_RESYNC_PENDING.key, evtKey 0x0D])
      ∧ t.bare = { s.bare with time := { s.time with resync := .named at_ c } })
    ∧ (∀ n c', c.toNat % 256 = 0 → s.time.wake = none → s.time.resync = .named n c' → s.lockedToPace = true → own ≠ c → s.ownAt own ≠ c →
      ∃ t, exec (.cnAnnounce c true false) s = .next t ∧ t.hasEvt E.SYNC_CN_MISMATCH = true
      ∧ s.keeps t [evtKey 0x0D] ∧ t.bare = s.bare)
    ∧ (c.toNat % 256 = 0 → s.time.wake = none → s.time.resync = .idle → s.lockedToPace = true → own = c →
      ∃ t, exec (.cnAnnounce c true false) s = .next t ∧ t.get R.PACEA_RUN_HOLD = 0
      ∧ (s.flag R.PACEA_RUN_HOLD = true → t.hasEvt E.PACEA_HOLD_END = true)
      ∧ s.keeps t [R.PACEA_RUN_HOLD.key, evtKey 0x0E] ∧ t.bare = s.bare)
    ∧ (c.toNat % 256 = 0 → s.time.wake = none → s.time.resync = .idle → s.lockedToPace = true → own ≠ c →
      ∃ t, exec (.cnAnnounce c true false) s = .next t ∧ t.hasEvt E.SYNC_CN_MISMATCH = true
      ∧ t.get R.TIME_STATUS_RESYNC_PENDING = 1 ∧ s.keeps t [R.TIME_STATUS_RESYNC_PENDING.key, evtKey 0x0D]
      ∧ t.bare = { s.bare with time := { s.time with resync := .named at_ c } }))

/-- The orbit-start comma on the data lane (R83): it brings a pending ORBIT_RESET into force, ORBIT_POS and ORBIT_CNT then being ALIGN_K
modulo and over ORBIT_LEN; without one, a position that does not fit raises ORBIT_MISMATCH and counts. -/
def Claims.OrbitStartCommasAreChecked : Prop :=
  ∀ (s : State) (l : PaceLane), s.alive = true → l = s.dataLane → s.pstate l.page = 1 ∨ s.pstate l.page = 4 →
    (let len := max 1 (s.get R.TIME_ORBIT_LEN)
     let k := s.get R.SYNC_ALIGN_K
    (s.time.orbitReset = true → ∃ t, exec (.orbitStartComma l none) s = .next t
      ∧ t.get R.TIME_ORBIT_POS = k % len ∧ t.get R.TIME_ORBIT_CNT = k / len
      ∧ s.keeps t [R.TIME_ORBIT_POS.key, R.TIME_ORBIT_CNT.key]
      ∧ t.bare = { s.bare with time := { s.time with orbitReset := false } })
    ∧ (s.time.orbitReset = false → ∃ t, exec (.orbitStartComma l none) s = .next t
      ∧ (((s.get R.TIME_ORBIT_POS : Int) - k) % len = 0 → s.keeps t [])
      ∧ (((s.get R.TIME_ORBIT_POS : Int) - k) % len ≠ 0 → t.hasEvt E.TIME_ORBIT_MISMATCH = true
          ∧ t.get R.TIME_ORBIT_MISMATCH_CNT = counted 32 (s.get R.TIME_ORBIT_MISMATCH_CNT) 1
          ∧ s.keeps t [R.TIME_ORBIT_MISMATCH_CNT.key, evtKey 0x0C])
      ∧ t.bare = s.bare))

/-- CN_ANNOUNCE and the orbit commas.
Completion of CN_ANNOUNCE and ORBIT_START_COMMA is stated here.
Rests on log entry 20. -/
def Obligations.AnnouncementsAndOrbitsAreChecked : Prop :=
  Claims.AnnouncementsAreJudged ∧ Claims.OrbitStartCommasAreChecked

/-- A CROSSING_TICK ends the crossing: the count of crossings and CN rise by one (R16, R17), NS32 and Hub Time move by the increment of TIME.INCR and
RATE_ADJ (R81, R82, R84), the phase in force moves by at most 64/4,096 cr toward its target (R88), and the catch of the new crossing is
due where its CN is a multiple of 256 and no named resynchronisation replaces or omits it (R17, R90). No set applies in it. With no access waiting at the
arbiter.
Completion of CROSSING_TICK is stated here.
Rests on log entries 14, 65. -/
def Obligations.ACrossingTickCountsTheCrossing : Prop :=
  ∀ (s : State) (i : TickIn), s.alive = true → s.time.catchDue = false → s.resyncDue = false → s.arbC = [] → s.arbG = [] →
    ∃ t, exec (.crossingTick i) s = .next t
      ∧ t.time.cr = s.time.cr + 1 ∧ t.time.cn = s.time.cn + 1
      ∧ (t.hubTime : Int) = ((s.hubTime : Int) + s.incr + s.geti R.TIME_RATE_ADJ) % (2 ^ 48 * secondSub)
      ∧ t.time.ns32 = s.time.ns32 + BitVec.ofNat 64 s.incr
      ∧ t.time.alignCur = s.time.alignCur
          + clampI (-64) 64 (s.time.alignTgt - s.time.alignCur)
      ∧ t.time.catchDue = (decide ((s.time.cn + 1).toNat % 256 = 0) && match s.time.resync with
          | .named at_ _ => decide (128 ≤ (at_ - (s.time.cn + 1)).toNat)
          | _ => true)
      ∧ t.time.lastCatch = s.time.lastCatch ∧ t.time.catches = s.time.catches ∧ t.time.resync = s.time.resync
      ∧ t.staged = s.staged ∧ t.fades = s.fades ∧ t.profiles = s.profiles ∧ t.cnSegs = s.cnSegs ∧ t.offer = s.offer

/-- The catch of a crossing changes no crossing number: it counts the stroke, takes the commands of the stroke that ends (R104), lets both unlocks lapse (R44),
lets overflowed queues accept again (R42), and leaves no staged entry behind: every set has been applied, refused whole or discarded (R21, R23, R42). The set of a page that no
condition can refuse and no other action of a catch writes, EVM, has been applied entry by entry. With no access waiting at the arbiter. -/
def Claims.ACatchEndsTheStroke : Prop :=
  ∀ (s : State) (phase : BitVec 16), s.alive = true → s.time.catchDue = true → s.arbC = [] → s.arbG = [] →
    ∃ t, exec (.catch_ phase) s = .next t
      ∧ t.time.cr = s.time.cr ∧ t.time.cn = s.time.cn ∧ t.time.catchDue = false ∧ t.time.lastCatch = s.time.cr
      ∧ t.time.catches = s.time.catches + 1 ∧ t.time.step = none
      ∧ t.pace.runCmd = none ∧ t.pace.moorCmd = none ∧ t.pace.linkWake = false
      ∧ t.unlockC = false ∧ t.unlockG = false ∧ t.ovf = [] ∧ t.snapReq = false
      ∧ (∀ pg ∈ allPages, t.entries pg = []) ∧ t.prevRegs = s.regs
      ∧ (0x05 ∉ s.ovf → s.resetAsked 0x05 = false → ∀ k, k / 4096 = 0x05 → 0x040 ≤ k % 4096 →
          t.rd k = (s.applyEntries (s.entries 0x05)).rd k)

/-- At the catch that a resynchronisation names, CN takes the announced number and a catch is made in the same crossing (R18, R90). -/
def Claims.AFullResyncSetsCn : Prop :=
  ∀ (s : State) (c : BitVec 64), s.alive = true → s.time.resync = .named s.time.cn c → s.arbC = [] → s.arbG = [] →
    ∃ t, exec .fullResync s = .next t
      ∧ t.time.cn = c ∧ t.time.cr = s.time.cr ∧ t.time.resync = .idle ∧ t.time.catchDue = false
      ∧ t.time.lastCatch = s.time.cr ∧ t.time.catches = s.time.catches + 1
      ∧ t.cnSegs.head? = some (s.time.cr, c) ∧ (∀ pg ∈ allPages, t.entries pg = [])

/-- A catch, and one at which the hub resynchronises.
Completion of CATCH and FULL_RESYNC is stated here.
Rests on log entries 2, 15, 61. -/
def Obligations.CatchesEndStrokesAndResynchronise : Prop :=
  Claims.ACatchEndsTheStroke ∧ Claims.AFullResyncSetsCn

/-- An armed compare unit in CN mode fires in the crossing whose CN is its target; without REPEAT it is disarmed, with REPEAT and a PERIOD its target moves on
by PERIOD and it stays armed (R93). -/
def Claims.CompareUnitsFire : Prop :=
  ∀ (s : State) (n : Fin 8), s.alive = true → s.enabled 0x0C = true → s.flag (R.TIME_CMPn_CTL_ARM n.val) = true →
    s.get (R.TIME_CMPn_CTL_MODE n.val) = 0 → s.cmpTarget n.val = s.cnN →
    ∃ t, exec (.cmpFire n) s = .next t ∧ t.fired = [(n.val, 0)]
      ∧ (s.flag (R.TIME_CMPn_CTL_REPEAT n.val) = false ∨ s.get (R.TIME_CMPn_PERIOD n.val) = 0 →
          t.flag (R.TIME_CMPn_CTL_ARM n.val) = false ∧ t.cmpTarget n.val = s.cmpTarget n.val)
      ∧ (s.flag (R.TIME_CMPn_CTL_REPEAT n.val) = true → s.get (R.TIME_CMPn_PERIOD n.val) ≠ 0 →
          t.flag (R.TIME_CMPn_CTL_ARM n.val) = true
            ∧ t.cmpTarget n.val = (s.cmpTarget n.val + s.get (R.TIME_CMPn_PERIOD n.val)) % 2 ^ 64)
      ∧ s.keepsPages t [0x0C, 0x90] ∧ { t.still with hk := s.hk } = s.still

/-- The oldest firing on its way reaches the task inputs of the event matrix: a task that selects several of its sources counts the others in COINCIDE (R59);
the snapshot task, task 0, requests a snapshot (R52, R453). Here for sources that no task but task 0 selects. -/
def Claims.FiringsReachTheirTasks : Prop :=
  ∀ (s : State) (f : Firing) (q : List Firing), s.evmq = f :: q →
    (∀ n < 64, 0 < n → ∀ src ∈ f.srcs, s.taskSelects n src = false) →
    (let k := (f.srcs.eraseDups.filter (s.taskSelects 0)).length
     ∃ t, exec .evmTaskFire s = .next t ∧ t.evmq = q ∧ t.snapReq = (s.snapReq || decide (0 < k))
      ∧ (1 < k → t.get R.EVM_COINCIDE = counted 32 (s.get R.EVM_COINCIDE) (k - 1)
          ∧ s.keeps t [R.EVM_COINCIDE.key, evtKey 0x05])
      ∧ (k ≤ 1 → s.keeps t [])
      ∧ t.bare = { s.bare with evmq := q, snapReq := t.snapReq })

/-- Compare units fire, and firings reach their tasks.
Completion of CMP_FIRE and EVM_TASK_FIRE is stated here.
Rests on log entries 13, 60, 67. -/
def Obligations.InstantsFireAndReachTasks : Prop :=
  Claims.CompareUnitsFire ∧ Claims.FiringsReachTheirTasks

/-- The end of the frequency gate shows each source's COUNT and makes it VALID (R67). CLKIN is READY after two gates in a row in band with edges present, and not READY
after a gate without edges or out of band (R68). -/
def Claims.FrequencyGatesAreJudged : Prop :=
  ∀ (s : State) (a b c x : GateCount), s.alive = true → s.clk.xoStable = true → s.clk.gates.length = 3 →
    ∃ t, exec (.freqGate a b c x) s = .next t
      ∧ t.get (R.CLK_SRC_FREQn_COUNT 0) = a.count.toNat ∧ t.get (R.CLK_SRC_FREQn_COUNT 1) = b.count.toNat
      ∧ t.get (R.CLK_SRC_FREQn_COUNT 2) = c.count.toNat ∧ t.get (R.CLK_SRC_FREQn_COUNT 3) = x.count.toNat
      ∧ (∀ n < 4, t.get (R.CLK_SRC_FREQn_VALID n) = 1)
      ∧ (c.good = true → s.inBand (c.count.toNat * 800000) = true → s.clk.gates[2]? = some 1 ∨ s.clk.gates[2]? = some 2 →
          t.ready 2 = true)
      ∧ (c.good = false ∨ s.inBand (c.count.toNat * 800000) = false → t.ready 2 = false ∧ t.clk.gates[2]? = some 0)
      ∧ s.keepsPages t [0x06, 0x08] ∧ t.bare = { s.bare with clk := t.clk }

/-- What the loss of the source in use leaves (R73, R74). -/
def coasting (s t : State) (cause : Nat) : Prop :=
  t.pstate 0x08 = 2 ∧ t.coast = true ∧ t.get R.CLK_STATUS_LOCKED = 0 ∧ t.get R.CLK_LOSS_CAUSE = cause
    ∧ t.hasEvt E.CLK_SOURCE_LOST = true ∧ t.hasEvt E.CLK_COAST_ENTER = true
    ∧ t.get R.CLK_COAST_CNT = counted 32 (s.get R.CLK_COAST_CNT) 1
    ∧ t.clk.fbc = khz (s.get R.CLK_BAND_FLOOR)

/-- The loss of the source in use, for a cause that can befall it, sends the clock into COAST at the band floor (R73, R74); a failing XO raises XO_FAULT and is no longer
READY, and is lost if it is in use (R73). -/
def Claims.LostSourcesCoast : Prop :=
  ∀ s : State, s.alive = true → s.moored = false →
    (∀ cause : BitVec 3, s.sourceInUse = true →
      (s.get R.CLK_STATUS_ACTIVE_SRC < 2 ∧ cause ∈ [1, 2, 4, 7]) ∨ (s.get R.CLK_STATUS_ACTIVE_SRC = 2 ∧ cause ∈ [3, 4])
        ∨ (s.get R.CLK_STATUS_ACTIVE_SRC = 3 ∧ cause = 4) →
      ∃ t, exec (.sourceLost cause) s = .next t ∧ coasting s t cause.toNat
        ∧ s.keepsPages t [0x06, 0x08] ∧ t.bare = { s.bare with clk := t.clk })
    ∧ (s.clk.xoStable = true → ∃ t, exec .xoFault s = .next t
        ∧ t.hasEvt E.CLK_XO_FAULT = true ∧ t.ready 3 = false ∧ t.clk.xoFailed = true
        ∧ (s.get R.CLK_STATUS_ACTIVE_SRC = 3 → s.sourceInUse = true → coasting s t 5)
        ∧ (s.get R.CLK_STATUS_ACTIVE_SRC ≠ 3 → t.pstate 0x08 = s.pstate 0x08)
        ∧ s.keepsPages t [0x06, 0x08] ∧ t.bare = { s.bare with clk := t.clk })

/-- The clock comes back: RAMP ends in ACQUIRE at the source's frequency (R77), ACQUIRE in LOCKED with RELOCKED raised (R78); a move to the XO's frequency ends LOCKED where the page is ENABLED or DISABLED (R70). -/
def Claims.TheClockComesBack : Prop :=
  ∀ s : State, s.alive = true →
    (s.moored = false → s.pstate 0x08 = 3 → ∃ t, exec .rampDone s = .next t ∧ t.pstate 0x08 = 4 ∧ s.keeps t [stateKey 0x08]
      ∧ t.bare = { s.bare with clk := { s.clk with fbc := s.srcFreq (s.get R.CLK_STATUS_ACTIVE_SRC) } })
    ∧ (s.moored = false → s.pstate 0x08 ≠ 3 → s.clk.moving = true → s.clk.moveEnd = none → ∃ t, exec .rampDone s = .next t
      ∧ t.get R.CLK_STATUS_LOCKED = (if s.pstate 0x08 = 0 ∨ s.pstate 0x08 = 1 then 1 else s.get R.CLK_STATUS_LOCKED)
      ∧ s.keeps t [R.CLK_STATUS_LOCKED.key]
      ∧ t.bare = { s.bare with clk := { s.clk with moving := false, fbc := s.get R.CLK_XO_RATIO * 25000 } })
    ∧ (s.moored = false → s.pstate 0x08 = 4 → ∃ t, exec .relocked s = .next t ∧ t.pstate 0x08 = 1 ∧ t.get R.CLK_STATUS_LOCKED = 1
      ∧ t.hasEvt E.CLK_RELOCKED = true ∧ s.keeps t [stateKey 0x08, R.CLK_STATUS_LOCKED.key, evtKey 0x08] ∧ t.bare = s.bare)

/-- Sources are judged, lost, coasted through, and come back.
Completion of FREQ_GATE, SOURCE_LOST, XO_FAULT, RAMP_DONE and RELOCKED is stated here.
Rests on log entries 19, 66. -/
def Obligations.ClockSourcesAreJudged : Prop :=
  Claims.FrequencyGatesAreJudged ∧ Claims.LostSourcesCoast ∧ Claims.TheClockComesBack

/-- The words that a reset other than of power may leave different from their reset values: the cause of the reset, the units' states and causes with the
Active unit, and the clock's READY flags and LOCKED with the event of a change (R66, R407, R421). -/
def resetKeys : List Nat :=
  [R.ID_RESET_CAUSE_POR.key, stateKey 0x02, stateKey 0x03, (R.TCUx_UNFIT_CAUSE 0x02).key, (R.TCUx_UNFIT_CAUSE 0x03).key,
    R.COX_STATUS_ACTIVE.key, R.CLK_STATUS_LOCKED.key, evtKey 0x08]

/-- Power-on reset puts every register to its reset value and every block to rest, whatever the state before, and names SUPPLY as the cause (R418, R421); its
release starts the XO count (R423); the stable XO starts crossing 0 and the sweep, with its catch due (R66, R423, R455); the end of the sweep brings service (R57). An XO that
has failed in service and is stable anew is READY again where its frequency lies in the band (R68). -/
def Claims.PowerUpRunsItsCourse : Prop :=
  ∀ s : State,
    (∃ t, exec .powerOnReset s = .next t ∧ t.phase = .held ∧ t.get R.ID_RESET_CAUSE_POR = 0 ∧ t.rd 0x00058 = 2
      ∧ (∀ k, k ∉ [0x00058, stateKey 0x02, stateKey 0x03] → t.rd k = resetWord k)
      ∧ t.unitState .A = tcuActive ∧ t.unitState .B = tcuSelftest
      ∧ t.bare = { State.reset.bare with pending := s.pending, free := s.free, phase := .held, tap := .idcode, pads := s.pads })
    ∧ (s.phase = .held → ∃ t, exec .porRelease s = .next t ∧ s.keeps t [] ∧ t.bare = { s.bare with phase := .xoCount })
    ∧ (s.phase = .xoCount → ∃ t, exec .xoStable s = .next t ∧ t.get R.CLK_STATUS_LOCKED = 1
      ∧ s.keeps t [R.CLK_STATUS_LOCKED.key, evtKey 0x08]
      ∧ t.bare = { s.bare with
          phase := .sweeping, swept := [], time := { s.time with catchDue := true }, clk := { s.clk with xoStable := true } })
    ∧ (s.alive = true → s.clk.xoFailed = true → ∃ t, exec .xoStable s = .next t
      ∧ t.ready 3 = (s.clk.xoStable && s.inBand s.xoNow)
      ∧ s.keeps t [R.CLK_STATUS_LOCKED.key, evtKey 0x08] ∧ t.bare = { s.bare with clk := { s.clk with xoFailed := false } })
    ∧ (s.phase = .sweeping → s.arbC = [] → s.arbG = [] → ∃ t, exec .sweepDone s = .next t
      ∧ t.get R.ID_INIT_STATUS_SWEEP_DONE = 1 ∧ s.keeps t [R.ID_INIT_STATUS_SWEEP_DONE.key]
      ∧ t.bare = { s.bare with phase := .running })

/-- RESET_N low for at least 1.0 µs resets the hub, for less than 100 ns never, and between these where the pulse is taken (R420): every register at its reset value but for
the cause, which is SUPPLY where a rail left its reset window meanwhile (R431), and what survives, every queue and memory empty, and, the XO being stable, the sweep begins with crossing 0 (R419, R423). -/
def Claims.ResetNResets : Prop :=
  ∀ (s : State) (ns : Nat) (p : ResetPulse), s.phase ≠ .held →
    (1000 ≤ ns ∨ (100 ≤ ns ∧ p.taken = true) → ∃ t, exec (.resetN ns p) s = .next t
      ∧ t.rd 0x00058 = (if p.supply = true then 2 else 4) ∧ t.phase = (if s.alive = true then .sweeping else .xoCount)
      ∧ (∀ k, k ∉ resetKeys → t.rd k &&& ~~~flagBits k = resetWord k &&& ~~~flagBits k)
      ∧ (∀ u, s.unitState u = tcuUnfit → (s.unitState .A = tcuUnfit → s.unitState .B ≠ tcuUnfit) → t.unitState u = tcuUnfit)
      ∧ t.bare = { State.reset.bare with
          pending := s.pending, free := s.free, tap := s.tapRelease.tap, pads := s.pads, phase := t.phase, clk := t.clk, tcuB := t.tcuB,
          time := { State.reset.time with catchDue := s.alive },
          ring := { State.reset.ring with taint := if s.flag R.RING_STATUS_BYPASS_OPEN = true then some 0 else none } })
    ∧ (ns < 100 ∨ (ns < 1000 ∧ p.taken = false) → ∃ t, exec (.resetN ns p) s = .next t ∧ s.keeps t []
      ∧ t.tap = (if s.tap ∈ [.extest, .extestPulse, .extestTrain] then .bypass else s.tap) ∧ t.bare = { s.bare with tap := t.tap })

/-- The LSB of a channel's range in the units of an input, 2^-29/10 V (R118). -/
def lsbUnits (range : Nat) : Int := if range = 0 then 655360 else if range = 1 then 524288 else 327680

/-- The words of the slices that serve channels (R121, R124, R125, R126): CODE is the input over the LSB of the channel's range, rounded to the nearest
and held within 14 bits; OVR is set more than 1.5 LSB beyond full scale and clear within 1 LSB, and set for the two samples after an input far beyond it;
SUB marks the spare. A channel that no slice serves, or whose slice is stuck, gets none: it is VOID. What an exact tie rounds to is log entry 2. -/
def Claims.SamplesBecomeWords : Prop :=
  ∀ (s : State) (i : TickIn), s.alive = true → s.time.catchDue = false → s.resyncDue = false → s.arbC = [] → s.arbG = [] →
    ∃ t, exec (.crossingTick i) s = .next t ∧ ∀ b c p : Nat, b < 24 → c < 32 → p < 4 →
      let q := 4 * s.time.cr + p
      (s.serving b c = none → Assoc.find? t.words (q * 1024 + 32 * b + c)
        = Assoc.find? s.words (q * 1024 + 32 * b + c))
      ∧ ∀ (sl : Fin 33) (x : SliceSample), s.serving b c = some sl.val → sl.val ∈ s.activeSlices b →
        (sl.val ∈ (s.bank b).stuck → Assoc.find? t.words (q * 1024 + 32 * b + c)
          = Assoc.find? s.words (q * 1024 + 32 * b + c))
        ∧ (sl.val ∉ (s.bank b).stuck →
          i.samples.find? (fun e => e.bank.val == b && e.slice.val == sl.val && e.phase.val == p) = some x →
          let l := lsbUnits (s.get (R.BANK_CHi_RANGE (0x10 + b) c))
          let far := (s.overs ++ s.farSamples i.samples s.time.cr).any
            (fun e => e.1 == 33 * b + sl.val && decide (e.2 < q) && decide (q ≤ e.2 + 2))
          2 * x.v % (2 * l) ≠ l → ∃ w, Assoc.find? t.words (q * 1024 + 32 * b + c) = some w
            ∧ ((w.toNat % 16384 : Nat) : Int) = clampI 0 16383 (8192 + (2 * x.v + l) / (2 * l))
            ∧ w.getLsbD 15 = decide (sl.val = 32)
            ∧ (3 * l < 2 * (x.v - 8191 * l) ∨ 3 * l < 2 * (-8192 * l - x.v) ∨ far = true → w.getLsbD 14 = true)
            ∧ (x.v ≤ 8192 * l → -8193 * l ≤ x.v → far = false → w.getLsbD 14 = false))

/-- The words of a crossing three crossings ago enter Prism (R154, R155): 16·u less the pedestal, times FGAIN/32,768, rounded and held within 18 bits, with OVR where the word has
it or the value was held, and SUB. Here where each word stands once in the pipeline, and no catch has come between. -/
def Claims.WordsEnterPrism : Prop :=
  ∀ (s : State) (i : TickIn), s.alive = true → s.time.catchDue = false → s.resyncDue = false → s.arbC = [] → s.arbG = [] →
    3 ≤ s.time.cr → s.time.lastCatch + 3 ≤ s.time.cr → Assoc.sorted s.words = true →
    ∃ t, exec (.crossingTick i) s = .next t ∧ ∀ (p c : Nat) (w : BitVec 16), p < 4 → c < 768 →
      Assoc.find? s.words ((4 * (s.time.cr - 3) + p) * 1024 + c) = some w →
      let y := ((16 * (((w.toNat % 16384 : Nat) : Int) - 8192) - s.geti (R.PRISM_CH_PED c)) * (s.get (R.PRISM_CH_CFG_FGAIN c) : Nat)
        + 16384) / 32768
      Assoc.find? t.vals ((4 * (s.time.cr - 3) + p) * 1024 + c)
        = some ⟨clampI (-131072) 131071 y, w.getLsbD 14 || decide (y < -131072) || decide (131071 < y), w.getLsbD 15⟩

/-- A Prism output (R157 to R160, R162): with the page ENABLED and the channel on, without a fade, output j of a crossing three crossings ago is the sum of the
profile's coefficients over the inputs up to the sample that its rate gives it, over 2^17, rounded and held within 18 bits; the sum is over all taps of
the profile's length, its flags are those of its inputs, and it is VOID, and there is none, where an input or a coefficient is missing (R159, R170). -/
def Claims.PrismFiltersItsInputs : Prop :=
  (∀ (s : State) (i : TickIn), s.alive = true → s.time.catchDue = false → s.resyncDue = false → s.arbC = [] → s.arbG = [] →
    3 ≤ s.time.cr → s.time.lastCatch + 3 ≤ s.time.cr → s.flag (R.PAGE_CTL_ENABLE 0x28) = true →
    ∃ t, exec (.crossingTick i) s = .next t ∧ ∀ c j : Nat, c < 768 → s.flag (R.PRISM_CH_CFG_EN c) = true →
      (∀ f ∈ s.fades, f.chan ≠ c) → j < s.rate c →
      let prof := s.get (R.PRISM_CH_CFG_PROFILE c)
      let q := 4 * (s.time.cr - 3) + (j + 1) * (4 / s.rate c) - 1
      (∀ a, t.fir prof (s.profLen prof) q c = some a →
        let y := (a.v + 65536) / 131072
        Assoc.find? t.pouts ((4 * (s.time.cr - 3) + j) * 1024 + c)
          = some ⟨clampI (-131072) 131071 y, a.ovr || decide (y < -131072) || decide (131071 < y), a.sub⟩)
      ∧ (t.fir prof (s.profLen prof) q c = none → Assoc.find? t.pouts ((4 * (s.time.cr - 3) + j) * 1024 + c)
          = Assoc.find? s.pouts ((4 * (s.time.cr - 3) + j) * 1024 + c)))
    ∧ ∀ (s : State) (p len q c : Nat), (∀ b ∈ s.badTaps, b / 256 = p → len ≤ b % 256) →
      (∀ x : Nat → Val, len ≤ q + 1 → (∀ k < len, Assoc.find? s.vals ((q - k) * 1024 + c) = some (x k)) →
        s.fir p len q c = some ⟨((List.range len).map (fun k => s.coef p k * (x k).v)).sum,
          (List.range len).any (fun k => (x k).ovr), (List.range len).any (fun k => (x k).sub)⟩)
      ∧ ((∃ k < len, q < k ∨ Assoc.find? s.vals ((q - k) * 1024 + c) = none) → s.fir p len q c = none)

/-- The resampler's outputs of a crossing five crossings ago are written in the channel's Wake ring (R182, R184, R212, R213), here at the ratio 1, in a part of the stream
that began at `g`, far from a change of rate (R188), with a rate that RMAX lets in (R214): output i stands at the Prism position i less the delay, and is the sum of the 16 Prism outputs
from the one at or before it down, times the kernel of the delay's fraction, over 2^17, rounded and held within 18 bits; a missing input leaves none. The kernel meets R183 at every
phase, and at the ends of the phases takes one output as it is. -/
def Claims.ResamplerFillsTheWakeRings : Prop :=
  (∀ (s : State) (i : TickIn), s.alive = true → s.time.catchDue = false → s.resyncDue = false → s.arbC = [] → s.arbG = [] →
    5 ≤ s.time.cr → s.time.lastCatch + 5 ≤ s.time.cr → s.flag (R.PAGE_CTL_ENABLE 0x28) = true →
    ∃ t, exec (.crossingTick i) s = .next t ∧ ∀ (c n : Nat) (g : Seg), c < 768 → s.flag (R.PRISM_CH_CFG_EN c) = true →
      s.segOf c n = g → g.step = one32 → g.idx ≤ n → Assoc.find? s.rateCr c = none →
      s.streamIdx c (s.time.cr - 5) ≤ n → n < s.streamIdx c (s.time.cr - 4) →
      State.rateOver (s.get R.ACQ_CTL_RMAX) (s.rate c) = false →
      let d := if s.flag (R.PAGE_CTL_ENABLE 0x2A) = true then s.get (R.RSMP_CH_DELAY c) else 0
      let at_ : Int := ((g.rate * g.cr + (n - g.idx) : Nat) : Int) - (d / 1024 : Nat)
      (∀ a, t.phaseSum c g.rate (d % 1024) at_ = some a →
        let y := (a.v + 65536) / 131072
        Assoc.find? t.wake (n * 1024 + c) = some ⟨clampI (-131072) 131071 y,
          a.ovr || decide (y < -131072) || decide (131071 < y) || decide (clampI (-131072) 131071 y = -131072), a.sub⟩)
      ∧ (t.phaseSum c g.rate (d % 1024) at_ = none →
          Assoc.find? t.wake (n * 1024 + c) = Assoc.find? s.wake (n * 1024 + c)))
    ∧ (∀ p, 0 < p → p < 1024 → kernelOk p (kernelTaps p) = true)
    ∧ (∀ k < 16, kernel 0 k = (if k = 7 then 131072 else 0) ∧ kernel 1024 k = (if k = 8 then 131072 else 0))

/-- The primitive path makes a record of a crossing three crossings ago (R197 to R199): while the TPRIM page is ENABLED, a lane's words are the sums over its groups of
the channels' values, shifted, and cut at the width's maximum; a channel that is on has its filtered value less its pedestal, held within 17 bits, where
all eight samples are there, else zero. A frame leaves five crossings and ALIGN later on each trigger lane that sends (R202, R203, R205): comma, hub
number, CN, status, INFO, the words with their peak flags (R200), and the CRC. -/
def Claims.PrimitivesLeaveInFrames : Prop :=
  (∀ (s : State) (i : TickIn), s.alive = true → s.time.catchDue = false → s.resyncDue = false → s.arbC = [] → s.arbG = [] →
    3 ≤ s.time.cr → s.time.lastCatch + 3 ≤ s.time.cr → ∃ t, exec (.crossingTick i) s = .next t
      ∧ (∃ r, t.tp.head? = some r ∧ r.cr = s.time.cr - 3 ∧ r.on = s.flag (R.PAGE_CTL_ENABLE 0x2C)
        ∧ (r.on = true → ∀ (k : Fin 8) (j : Nat),
          let g := groupSize (s.get R.TPRIM_CTL_GROUP)
          let cap := 2 ^ (wordWidth (s.flag R.TPRIM_CTL_WIDTH) - 1) - 1
          j < 96 / g → (r.sums[k.val]?).bind (fun l => l[j]?)
            = some (min (((List.range g).foldl (fun x c => x + (t.chanValue (s.time.cr - 3) (96 * k.val + j * g + c)).1) (0 : Int)).toNat
                / 2 ^ s.get R.TPRIM_CTL_SHIFT) cap)))
      ∧ ∀ r, s.tp.find? (fun r => r.cr + 5 + r.align == s.time.cr) = some r → s.tp.length < 72 →
        ∀ k : Fin 8, s.trigLaneOn k.val = true →
        let w := wordWidth r.wide
        let words := State.peakWords r (s.tp.find? (fun x => x.cr + 1 == r.cr)) (s.tp.find? (fun x => x.cr == r.cr + 1)) k.val
        .laneFrame k.val (if r.catch_ = true then 0xBC else 0x3C)
          (State.laneBytes r.hub r.cn ((r.st[k.val]?).getD 0) (BitVec.ofNat 8 (k.val * 32 + r.group * 8 + (if r.wide = true then 4 else 0)))
            ((words.zipIdx.map (fun e => e.1 * 2 ^ (w * e.2))).sum)) ∈ t.out)
    ∧ (∀ (r x y : TpCr) (k j v m n : Nat), r.brk = false → y.brk = false → x.on = true → y.on = true →
      (r.sums[k]?).bind (fun l => l[j]?) = some v → (x.sums[k]?).bind (fun l => l[j]?) = some m →
      (y.sums[k]?).bind (fun l => l[j]?) = some n →
      (State.peakWords r (some x) (some y) k)[j]? = some (v + if r.thr ≤ v ∧ m < v ∧ n ≤ v then 2 ^ (wordWidth r.wide - 1) else 0))
    ∧ ∀ (s : State) (n c : Nat) (u : Nat → Val), s.time.lastCatch ≤ n → s.flag R.TPRIM_CTL_PICK_MODE = true →
      (∀ k < 11, s.tapU c (4 * n + 3 - (k : Nat)) = some (u k)) →
      let f := s.get (R.TPRIM_CH_CFG_FSET c)
      let x (p : Nat) : Int := (((List.range 8).map (fun k => s.fset n f k * (u (3 - p + k)).v)).sum
        * (if s.flag (R.TPRIM_CH_CFG_INV c) = true then -1 else 1) + 512) / 1024
      (s.chanValue n c).1 = (if s.flag (R.TPRIM_CH_CFG_EN c) = true
          then clampI 0 131071 (max (max (x 0) (x 1)) (max (x 2) (x 3)) - s.geti (R.TPRIM_CH_PED c)) else 0)
        ∧ (s.chanValue n c).2.1 = false

/-- What a crossing does to the words of the converters, through Prism and the resampler into the Wake rings, and through the primitive path.
Completion of CROSSING_TICK is stated here.
Rests on log entries 2, 30. -/
def Obligations.SamplesRunThroughTheDatapath : Prop :=
  Claims.SamplesBecomeWords ∧ Claims.WordsEnterPrism ∧ Claims.PrismFiltersItsInputs ∧ Claims.ResamplerFillsTheWakeRings
    ∧ Claims.PrimitivesLeaveInFrames

/-- Nothing is staged on a page, and its reset is not asked for. -/
def quietPage (s : State) (pg : Nat) : Prop := s.entries pg = [] ∧ s.resetAsked pg = false ∧ pg ∉ s.ovf

/-- A snapshot that was asked for is taken: every counter's mirror holds its value at the end of the stroke, and SNAP_CN_LO the catch's number (R52). A page
whose reset is asked for is DISABLED, holds nothing staged, and has DISCARDED where something was (R39, R422); the event matrix's registers are all at their reset values. -/
def Claims.SnapshotsAndPageResetsAreDone : Prop :=
  ∀ (s : State) (phase : BitVec 16), s.alive = true → s.time.catchDue = true → s.arbC = [] → s.arbG = [] → s.stagedInForm →
    ∃ t, exec (.catch_ phase) s = .next t
      ∧ (s.snapReq = true → s.resetAsked 0x00 = false → Assoc.sorted s.strokeEnd = true →
          t.get R.ID_SNAP_CN_LO = s.time.cn.toNat % 2 ^ R.ID_SNAP_CN_LO.w
          ∧ ∀ k, k / 1048576 = 0 → Assoc.getD (fun _ => 0) t.snap k = Assoc.getD (fun _ => 0) s.strokeEnd k &&& counterMask k)
      ∧ (s.snapReq = false → (∀ pg ∈ allPages, s.resetAsked pg = false) → t.snap = s.snap)
      ∧ (∀ pg ∈ allPages, s.resetAsked pg = true → t.enabled pg = false ∧ t.resetAsked pg = false ∧ t.entries pg = []
          ∧ (s.entries pg ≠ [] → t.hasEvt (E.DISCARDED pg) = true))
      ∧ (s.resetAsked 0x05 = true → ∀ k, k / 4096 = 0x05 → k ≠ evtKey 0x05 → t.rd k = resetWord k)

/-- A set that its page's owner refuses applies nothing (R23): a BANK set that writes RANGE = 0b11 anywhere raises RANGE_REFUSED (R119); a TPRIM set
that would leave a combination that does not fit in force records the lowest cause that holds, GROUP or BUDGET, in LAST_REFUSE and FAULT_CODE
(R201, R456). A set whose queue has overflowed is discarded (R42). -/
def Claims.RefusedSetsApplyNothing : Prop :=
  ∀ (s : State) (phase : BitVec 16), s.alive = true → s.time.catchDue = true → s.arbC = [] → s.arbG = [] → s.stagedInForm →
    ∃ t, exec (.catch_ phase) s = .next t
      ∧ (∀ b, b < 24 → 0x10 + b ∉ s.ovf → s.resetAsked (0x10 + b) = false →
          (∃ e ∈ s.entries (0x10 + b), 0x040 ≤ e.key % 4096 ∧ e.key % 4096 < 0x0C0 ∧ bits e.data 2 2 = 3) →
          t.hasEvt (E.BANK_RANGE_REFUSED (0x10 + b)) = true ∧ t.entries (0x10 + b) = []
          ∧ ∀ e ∈ s.entries (0x10 + b), 0x040 ≤ e.key % 4096 → e.key % 4096 < 0x0C0 → t.rd e.key = s.rd e.key)
      ∧ (0x2C ∉ s.ovf → s.resetAsked 0x2C = false → s.entries 0x2C ≠ [] →
          let v := s.applyEntries (s.entries 0x2C)
          ∀ cause, cause < 3 → (v.get R.TPRIM_CTL_GROUP = 0 ∧ cause = 1)
            ∨ (v.get R.TPRIM_CTL_GROUP = 1 ∧ v.get R.TPRIM_CTL_WIDTH = 0 ∧ cause = 2) →
          t.get R.TPRIM_LAST_REFUSE_CAUSE = cause ∧ t.hasEvt E.TPRIM_REFUSED = true
          ∧ t.rd (faultKey 0x2C) = BitVec.ofNat 32 (1 + cause * 256 + s.time.cn.toNat % 65536 * 65536)
          ∧ t.entries 0x2C = [] ∧ ∀ e ∈ s.entries 0x2C, 0x040 ≤ e.key % 4096 → e.key % 4096 < 0x05C → t.rd e.key = s.rd e.key)
      ∧ (0x2C ∈ s.ovf → s.resetAsked 0x2C = false → t.hasEvt (E.DISCARDED 0x2C) = true ∧ t.entries 0x2C = []
          ∧ ∀ e ∈ s.entries 0x2C, 0x040 ≤ e.key % 4096 → e.key % 4096 < 0x05C → t.rd e.key = s.rd e.key)

/-- The commands of the stroke act in their order (R104, R426): a WAKE, or a link wake, first; then the run state, where a run is refused while the hub stays Moored; then a
MOOR, which is refused while a run is active and has no effect on a hub that was Moored when it came. A run begins with event number 0 (R242) and an unbroken contract (R415). -/
def Claims.CommandsOfTheStrokeAct : Prop :=
  ∀ (s : State) (phase : BitVec 16), s.alive = true → s.time.catchDue = true → s.arbC = [] → s.arbG = [] → s.stagedInForm →
    quietPage s 0x0C → quietPage s 0x0E → ∃ t, exec (.catch_ phase) s = .next t
      ∧ (let stay := s.moored && !(s.pace.moorCmd == some false || s.pace.linkWake)
        (s.pace.runCmd = none → t.running = s.running) ∧ (s.pace.runCmd = some false → t.running = false)
        ∧ (s.pace.runCmd = some true → stay = false →
            t.running = true ∧ t.runStart = s.time.cr ∧ t.evNo = 0 ∧ t.easyBroken = false)
        ∧ (s.pace.runCmd = some true → stay = true → t.running = s.running ∧ t.hasEvt E.PACEA_CMD_REFUSED = true)
        ∧ (s.moored = true → t.moored = stay)
        ∧ (s.moored = false → s.pace.moorCmd ≠ some true → t.moored = false)
        ∧ (s.moored = false → s.pace.moorCmd = some true → t.moored = !t.running
            ∧ (t.running = true → t.hasEvt E.PACEA_CMD_REFUSED = true)))

/-- A crew command of the staged set acts by the crew's state (R298): here for a set of one command, on a crew whose ring fits. Where the ring does
not, an ENABLE is refused with cause 1 and changes no crew (R299). -/
def Claims.CrewCommandsAct : Prop :=
  ∀ (s : State) (phase : BitVec 16) (e : Staged), s.alive = true → s.time.catchDue = true → s.arbC = [] → s.arbG = [] → s.stagedInForm →
    s.entries 0x40 = [e] → e.key = 0x40064 → 0x40 ∉ s.ovf → s.resetAsked 0x40 = false → ∃ t, exec (.catch_ phase) s = .next t
      ∧ (let c := bits e.data 0 12
        let op := bits e.data 12 2
        let st := s.crewState c
        let fits : Prop := 12 ≤ s.crewK c ∧ s.crewK c ≤ 46 ∧ s.crewBase c % 2 ^ s.crewK c = 0
        (op = 1 → fits → st ≠ crewQuiescing → t.crewState c = crewEnabled ∧ t.crewGen c = s.crewGen c)
        ∧ (op = 1 → s.crewK c < 12 → t.crewState c = st ∧ t.crewGen c = s.crewGen c ∧ t.hasEvt E.CREW_REFUSED = true
            ∧ t.get R.CREW_LAST_REFUSE_CAUSE = 1 ∧ t.get R.CREW_LAST_REFUSE_CREW = c)
        ∧ (op = 1 → fits → st = crewQuiescing → t.crewState c = st ∧ t.crewGet c 5 28 1 = 1 ∧ t.crewGen c = s.crewGen c)
        ∧ (op = 2 → st = crewQuiescing → t.crewState c = st ∧ t.crewGet c 5 28 1 = 0 ∧ t.crewGen c = s.crewGen c)
        ∧ (op = 2 → st ≠ crewQuiescing → st ≠ crewEnabled → t.crewState c = st ∧ t.crewGen c = s.crewGen c)
        ∧ (op = 2 ∨ op = 3 → st = crewEnabled → fits ∨ s.crewGet c 5 28 1 = 0 → t.crewState c = crewQuiescing ∧ t.crewGen c = (s.crewGen c + 1) % 256
            ∧ t.crewGet c 5 29 1 = (if op = 3 then 1 else 0) ∧ Assoc.find? t.quiesce c = some s.time.cr)
        ∧ (op = 3 → st = crewQuiescing → t.crewState c = st ∧ t.crewGen c = (s.crewGen c + 1) % 256
            ∧ t.crewGet c 5 29 1 = 1 ∧ t.crewGet c 5 28 1 = 0 ∧ Assoc.find? t.quiesce c = Assoc.find? s.quiesce c)
        ∧ (op = 3 → st = crewQuiesced → t.crewState c = crewDisabled ∧ t.crewGen c = s.crewGen c
            ∧ (s.fetchedOf c = [] → s.requested c = [] → t.crewCredits c = 0)
            ∧ (s.fetchedOf c = [] → s.requested c = [] → t.crewValid c = false) ∧ t.crewGet c 4 0 32 = 0 ∧ t.crewGet c 6 0 32 = 0))

/-- The control units swap at the catch after a decision (R404, R409, R411): the incoming unit is ACTIVE with claim 0x80, the outgoing one has claim 0x40 and begins its
self-test (R406, R408); the swap is told and counted. A swap that the Cox has decided records the exposure (R405), one that the host has set is its decision of
kind 4. -/
def Claims.UnitsSwapAtTheCatch : Prop :=
  ∀ (s : State) (phase : BitVec 16) (first : BitVec 64), s.alive = true → s.time.catchDue = true → s.arbC = [] → s.arbG = [] → s.stagedInForm →
    quietPage s 0x02 → quietPage s 0x03 → quietPage s 0x04 → quietPage s 0x06 → s.tcuA.stDue = false → s.tcuB.stDue = false →
    s.unitState s.activeUnit = tcuActive → s.mirrorFit = true → ∃ t, exec (.catch_ phase) s = .next t
      ∧ ((s.cox.wait = .swap first ∧ s.cox.waitFrom < s.time.cr ∧ s.flag R.COX_STATUS_PENDING = false)
          ∨ (s.cox.wait = .none ∧ s.flag R.COX_STATUS_PENDING = true ∧ s.cox.hostSwap = true) →
        t.activeUnit = s.activeUnit.other ∧ t.unitState s.activeUnit.other = tcuActive ∧ t.unitState s.activeUnit = tcuSelftest
        ∧ t.get (State.claimFld s.activeUnit.other) = 0x80 ∧ t.get (State.claimFld s.activeUnit) = 0x40
        ∧ t.hasEvt E.COX_SWAP = true ∧ t.get R.COX_SWAP_CNT = counted 32 (s.get R.COX_SWAP_CNT) 1
        ∧ t.flag R.COX_STATUS_PENDING = false ∧ t.cox.hostSwap = false
        ∧ (s.cox.wait = .none → t.get R.COX_LAST_DECISION_KIND = 4)
        ∧ (s.cox.wait = .swap first → t.hasEvt E.HEALTH_EXPOSED = true
            ∧ t.get R.HEALTH_EXPOSED_FIRST_LO + t.get R.HEALTH_EXPOSED_FIRST_HI * 2 ^ 32 = first.toNat
            ∧ t.get R.HEALTH_EXPOSED_LAST_LO + t.get R.HEALTH_EXPOSED_LAST_HI * 2 ^ 32 = (s.time.cn - 1).toNat))
      ∧ (s.cox.wait = .none → s.flag R.COX_STATUS_PENDING = false →
          s.get (State.claimFld s.activeUnit.other) ≤ s.get (State.claimFld s.activeUnit) →
          t.activeUnit = s.activeUnit ∧ t.get R.COX_SWAP_CNT = s.get R.COX_SWAP_CNT)

/-- A fade whose last output is delivered ends at the catch: the channel's PROFILE is the new one, told and counted (R177). A bank's first waiting request starts where the ledger
has room, from this catch's crossing on (R174, R175); one without room waits, and is refused with cause 0x8 once it has waited WAIT_MAX catches. -/
def Claims.FadesStartAndEndAtTheCatch : Prop :=
  ∀ (s : State) (phase : BitVec 16), s.alive = true → s.time.catchDue = true → s.arbC = [] → s.arbG = [] → s.stagedInForm →
    quietPage s 0x28 → quietPage s 0x29 → (∀ e ∈ s.profiles, e.2.1 ≠ 2) → ∃ t, exec (.catch_ phase) s = .next t
      ∧ (∀ f : Fade, s.fades = [f] → f.chan < 768 → f.new < 64 → f.n0 + f.len / f.rate ≤ s.time.cr → s.fadeQ = [] →
          t.fades = [] ∧ t.get (R.PRISM_CH_CFG_PROFILE f.chan) = f.new ∧ t.hasEvt E.PRISM_FADE_DONE = true
          ∧ t.get R.PRISM_FADE_DONE_CNT = (s.get R.PRISM_FADE_DONE_CNT + 1) % 2 ^ 32)
      ∧ (∀ f : Fade, s.fades = [f] → s.time.cr < f.n0 + f.len / f.rate → s.fadeQ = [] →
          t.fades = [f] ∧ t.get R.PRISM_FADE_DONE_CNT = s.get R.PRISM_FADE_DONE_CNT)
      ∧ ∀ f : FadeReq, s.enabled 0x28 = true → s.fades = [] → s.fadeQ = [f] → f.chan < 768 →
          (s.charge (f.chan / 32) + s.profLen f.prof * s.rate f.chan ≤ 4096 →
            t.fadeQ = [] ∧ t.hasEvt E.PRISM_FADE_START = true
            ∧ t.fades = [⟨f.chan, s.get (R.PRISM_CH_CFG_PROFILE f.chan), f.prof, 16 * 2 ^ f.len, s.time.cr, s.rate f.chan⟩])
          ∧ (4096 < s.charge (f.chan / 32) + s.profLen f.prof * s.rate f.chan →
            (f.waited < s.get R.PRISM_FADE_CTL_WAIT_MAX → t.fades = [] ∧ t.fadeQ = [{ f with told := true, waited := f.waited + 1 }]
              ∧ (f.told = false → t.hasEvt E.PRISM_FADE_WAIT = true))
            ∧ (s.get R.PRISM_FADE_CTL_WAIT_MAX ≤ f.waited → t.fades = [] ∧ t.fadeQ = [] ∧ t.hasEvt E.PRISM_FADE_REFUSED = true
              ∧ t.get R.PRISM_FADE_REFUSED_CNT = counted 32 (s.get R.PRISM_FADE_REFUSED_CNT) 1
              ∧ t.get R.PRISM_LAST_REFUSE_CAUSE = 8 ∧ t.get R.PRISM_LAST_REFUSE_BANK = f.chan / 32
              ∧ t.get R.PRISM_LAST_REFUSE_CHANNEL = f.chan))

/-- A hand-over or hand-back at the catch changes which slice serves the channel (R145): after an overlap that passed, the spare serves it; after the overlap back,
its primary does. Each is counted. Here in a bank without a BAD slice, no other bank being ENABLED. -/
def Claims.TheSpareTakesOver : Prop :=
  ∀ (s : State) (phase : BitVec 16) (b : Nat), s.alive = true → s.time.catchDue = true → s.arbC = [] → s.arbG = [] → s.stagedInForm → b < 24 →
    s.banks.length = 24 → s.moored = false → s.pace.moorCmd ≠ some true → quietPage s 0x07 → quietPage s (0x10 + b) → s.enabled (0x10 + b) = true →
    (∀ c, c < 24 → c ≠ b → s.enabled (0x10 + c) = false ∧ quietPage s (0x10 + c)) →
    (s.bank b).puDone = true → (∀ h ∈ (s.bank b).health, h < 2) → (s.bank b).health.length = 33 → (s.bank b).index < 32 →
    (s.bank b).ovl = some true → (s.bank b).dead = 0 →
    s.flag (R.BANK_CHi_POWER (0x10 + b) (s.bank b).index) = true → (s.bank b).pow.getLsbD (s.bank b).index = true →
    ∃ t, exec (.catch_ phase) s = .next t
      ∧ ((s.bank b).spare = spOverlapOn → (s.bank b).reach = true →
          t.serving b (s.bank b).index = some 32 ∧ (t.bank b).spare = spServing
          ∧ t.get R.CAL_HANDOVER_CNT = counted 32 (s.get R.CAL_HANDOVER_CNT) 1)
      ∧ ((s.bank b).spare = spOverlapBack →
          t.serving b (s.bank b).index = some (s.bank b).index
          ∧ t.get R.CAL_HANDOVER_CNT = counted 32 (s.get R.CAL_HANDOVER_CNT) 1
          ∧ ((s.bank b).now = true → t.hasEvt E.CAL_NOW_DONE = true))

/-- What a catch does with snapshots and page resets, refused sets, commands of the stroke and of crews, swaps, fades and hand-overs.
Completion of CATCH is stated here.
Rests on log entry 58. -/
def Obligations.CatchesActOnWhatTheyFind : Prop :=
  Claims.SnapshotsAndPageResetsAreDone ∧ Claims.RefusedSetsApplyNothing ∧ Claims.CommandsOfTheStrokeAct ∧ Claims.CrewCommandsAct
    ∧ Claims.UnitsSwapAtTheCatch ∧ Claims.FadesStartAndEndAtTheCatch ∧ Claims.TheSpareTakesOver

/-- HEALTH has counted and recorded a fault of class `c` with its detail (R37, R414). -/
def faultTold (s t : State) (c detail : Nat) : Prop :=
  t.get (R.HEALTH_FAULT_CNTc c) = counted (R.HEALTH_FAULT_CNTc c).w (s.get (R.HEALTH_FAULT_CNTc c)) 1
    ∧ t.rd (faultKey 0x06) = BitVec.ofNat 32 (c + detail * 256 + s.time.cn.toNat % 65536 * 65536)
    ∧ t.hasEvt E.HEALTH_FAULT = true

/-- The words of HEALTH that a fault of class `c` changes. -/
def healthKeys (c : Nat) : List Nat := [(R.HEALTH_FAULT_CNTc c).key, faultKey 0x06, evtKey 0x06]

/-- The tests of the timing and control units: a pass of the background test of the unit in MIRROR, 4,096 st after it began, counts in MEMTEST_PASS_CNT, and the next begins; its failure
makes the unit UNFIT with cause 1 (R407). A self-test that has run its 64 st ends at a catch, in RESEED where it passed, and in UNFIT with cause 2 where it failed (R406). A self-check error counts and is
remembered for the Cox (R403). -/
def Claims.UnitsAreTested : Prop :=
  ∀ (s : State) (u : Unit2), s.alive = true →
    (s.unitState u = tcuMirror → ((s.tcu u).memFrom + 4096 * 256 ≤ s.time.cr → ∃ t, exec (.memtestPassDone u) s = .next t
        ∧ t.get (R.TCUx_MEMTEST_PASS_CNT u.page) = (s.get (R.TCUx_MEMTEST_PASS_CNT u.page) + 1) % 2 ^ 32
        ∧ s.keeps t [(R.TCUx_MEMTEST_PASS_CNT u.page).key, evtKey u.page]
        ∧ t.bare = (s.setTcu u { s.tcu u with memFrom := s.time.cr }).bare)
      ∧ ∃ t, exec (.memtestFail u) s = .next t ∧ t.unitState u = tcuUnfit ∧ t.get (R.TCUx_UNFIT_CAUSE u.page) = 1
        ∧ t.hasEvt (E.TCUx_UNFIT u.page) = true ∧ t.cox.wait = .none
        ∧ s.keeps t [stateKey u.page, (R.TCUx_UNFIT_CAUSE u.page).key, evtKey u.page, faultKey u.page]
        ∧ t.bare = { (s.setTcu u { s.tcu u with stStart := none, stDue := false }).bare with cox := { s.cox with wait := .none } })
    ∧ (∀ c, (s.tcu u).stStart = some c → s.unitState u = tcuSelftest → c + 64 * 256 ≤ s.time.cr → s.time.catchDue = false →
      s.time.cr = s.time.lastCatch →
      (∃ t, exec (.tcuSelftestEnd u true) s = .next t ∧ t.unitState u = tcuReseed ∧ t.hasEvt (E.TCUx_SELFTEST_DONE u.page) = true
        ∧ s.keeps t [stateKey u.page, evtKey u.page] ∧ t.bare = (s.setTcu u { s.tcu u with stStart := none }).bare)
      ∧ ∃ t, exec (.tcuSelftestEnd u false) s = .next t ∧ t.unitState u = tcuUnfit ∧ t.get (R.TCUx_UNFIT_CAUSE u.page) = 2
        ∧ t.hasEvt (E.TCUx_UNFIT u.page) = true
        ∧ s.keeps t [stateKey u.page, (R.TCUx_UNFIT_CAUSE u.page).key, evtKey u.page, faultKey u.page]
        ∧ t.bare = (s.setTcu u { s.tcu u with stStart := none, stDue := false }).bare)
    ∧ ∃ t, exec (.selfCheckError u) s = .next t
      ∧ t.get (R.TCUx_SELFCHECK_CNT u.page) = counted 32 (s.get (R.TCUx_SELFCHECK_CNT u.page)) 1
      ∧ (t.tcu u).errs.head? = some s.time.cr ∧ (∀ e, e ∈ (t.tcu u).errs → e = s.time.cr ∨ e ∈ (s.tcu u).errs)
      ∧ s.keeps t [(R.TCUx_SELFCHECK_CNT u.page).key, evtKey u.page]
      ∧ t.bare = (s.setTcu u { s.tcu u with errs := (t.tcu u).errs }).bare

/-- A digest mismatch while a fit unit mirrors and no decision waits is counted and raised, sets NO_MIRROR (R402, R416), leaves the units' DIGESTs apart, and the Cox decides (R403): a unit whose
copies alone disagree with the Cox's is at fault. The Active unit at fault is swapped at the next catch, the Mirror at fault enters SELFTEST at once (R404). -/
def Claims.TheCoxDecides : Prop :=
  ∀ (s : State) (f : MismatchFacts), s.alive = true → s.mirrorFit = true → s.cox.wait = .none →
    (∀ u : Unit2, f.aWrong = (u == .A) → f.bWrong = (u == .B) → ∃ t, exec (.digestMismatch f) s = .next t
      ∧ t.hasEvt E.COX_MISMATCH = true ∧ t.get R.COX_MISMATCH_CNT = counted 32 (s.get R.COX_MISMATCH_CNT) 1
      ∧ t.get R.COX_LAST_DECISION_CN_LO = s.time.cn.toNat % 65536 ∧ faultTold s t 0x04 u.idx
      ∧ t.get (R.TCUx_DIGEST 0x02) ≠ t.get (R.TCUx_DIGEST 0x03)
      ∧ t.cox.mismatch = true ∧ t.get R.HEALTH_STATUS_NO_MIRROR = 1
      ∧ (u = s.activeUnit → t.get R.COX_LAST_DECISION_KIND = 1 ∧ t.cox.wait = .swap (s.cnAt (s.time.cr - 1))
          ∧ t.unitState u = s.unitState u)
      ∧ (u ≠ s.activeUnit → t.get R.COX_LAST_DECISION_KIND = 2 ∧ t.cox.wait = .none ∧ t.unitState u = tcuSelftest
          ∧ (t.tcu u).stStart = some s.time.cr)
      ∧ s.keeps t ([R.COX_MISMATCH_CNT.key, evtKey 0x04, R.COX_LAST_DECISION_KIND.key, stateKey u.page,
          (R.TCUx_DIGEST s.activeUnit.other.page).key] ++ healthKeys 0x04)
      ∧ t.bare = { s.bare with
          free := s.free + 1, cox := t.cox, tcuA := if u = .A then t.tcuA else s.tcuA, tcuB := if u = .B then t.tcuB else s.tcuB })
    ∧ (f.aWrong = f.bWrong → (s.tcu .A).errs = [] → (s.tcu .B).errs = [] → ∃ t, exec (.digestMismatch f) s = .next t
      ∧ t.hasEvt E.COX_MISMATCH = true ∧ t.get R.COX_LAST_DECISION_KIND = 3 ∧ t.cox.wait = .reseed
      ∧ faultTold s t 0x04 s.activeUnit.other.idx
      ∧ s.keeps t ([R.COX_MISMATCH_CNT.key, evtKey 0x04, R.COX_LAST_DECISION_KIND.key,
          (R.TCUx_DIGEST s.activeUnit.other.page).key] ++ healthKeys 0x04)
      ∧ t.bare = { s.bare with free := s.free + 1, cox := t.cox })

/-- The control units and the Cox.
Completion of DIGEST_MISMATCH, TCU_SELFTEST_END, MEMTEST_FAIL, SELF_CHECK_ERROR and MEMTEST_PASS_DONE is stated here.
Rests on log entries 3, 24, 58. -/
def Obligations.UnitsAreTestedAndCompared : Prop :=
  Claims.UnitsAreTested ∧ Claims.TheCoxDecides

/-- A vote that corrects a copy counts in COX.VOTE_CNT and, once a stroke, raises VOTE (R401); HEALTH counts it in class 0x03 without an event (R414). A single-bit error is
corrected and counted, in class 0x01 (R412, R414). -/
def Claims.CorrectedUpsetsAreCounted : Prop :=
  ∀ s : State, s.alive = true →
    (∀ u, ∃ t, exec (.voteCorrect u) s = .next t ∧ t.get R.COX_VOTE_CNT = counted 32 (s.get R.COX_VOTE_CNT) 1
      ∧ t.get (R.HEALTH_FAULT_CNTc 3) = counted (R.HEALTH_FAULT_CNTc 3).w (s.get (R.HEALTH_FAULT_CNTc 3)) 1
      ∧ (s.cox.voteIn ≠ some s.time.catches → t.hasEvt E.COX_VOTE = true)
      ∧ (s.cox.voteIn = some s.time.catches → t.hasEvt E.COX_VOTE = s.hasEvt E.COX_VOTE)
      ∧ s.keeps t [R.COX_VOTE_CNT.key, evtKey 0x04, (R.HEALTH_FAULT_CNTc 3).key, evtKey 0x06]
      ∧ t.bare = { s.bare with cox := { s.cox with voteIn := some s.time.catches } })
    ∧ ∀ h, ∃ t, exec (.scrubSbe h) s = .next t ∧ t.get R.HEALTH_SCRUB_SBE_CNT = counted 32 (s.get R.HEALTH_SCRUB_SBE_CNT) 1
      ∧ t.get (R.HEALTH_FAULT_CNTc 1) = counted (R.HEALTH_FAULT_CNTc 1).w (s.get (R.HEALTH_FAULT_CNTc 1)) 1
      ∧ s.keeps t [R.HEALTH_SCRUB_SBE_CNT.key, (R.HEALTH_FAULT_CNTc 1).key, evtKey 0x06] ∧ t.bare = s.bare

/-- A double-bit error is counted, shown in LAST_DBE with its memory and crossing, and told as a fault of class 0x02 (R412, R414). In the Wake memory the row goes bad, in the
derandomiser the word of the fragment does, two of its bits inverted, in the phase-record log the record, and an entry of the accept queue carries it to its fragment (R412). -/
def Claims.DoubleBitErrorsAreTold : Prop :=
  ∀ (s : State) (h : ScrubHit), s.alive = true →
    ∃ t, exec (.scrubDbe h) s = .next t ∧ t.get R.HEALTH_SCRUB_DBE_CNT = counted 32 (s.get R.HEALTH_SCRUB_DBE_CNT) 1
      ∧ t.get R.HEALTH_LAST_DBE_MEM = h.mem.toNat ∧ t.get R.HEALTH_LAST_DBE_CN_LO = s.time.cn.toNat % 65536
      ∧ t.hasEvt E.HEALTH_SCRUB_DBE = true
      ∧ (h.mem = 0x01 → h.where_ ∈ t.wakeBad ∧ t.bare = { s.bare with wakeBad := t.wakeBad })
      ∧ (h.mem = 0x03 → h.where_ % 16384 ∈ t.badTaps ∧ t.bare = { s.bare with badTaps := t.badTaps })
      ∧ (h.mem = 0x0B → h.where_ % 4 = 0 → (h.where_ / 4 < s.records.length → h.where_ / 4 ∈ t.recBad)
          ∧ (∀ k, k ≠ h.where_ / 4 → (k ∈ t.recBad ↔ k ∈ s.recBad)) ∧ t.bare = { s.bare with recBad := t.recBad })
      ∧ (h.mem = 0x0B → h.where_ % 4 = 1 → (∀ e, s.accQ[h.where_ / 4]? = some e → t.accQ[h.where_ / 4]? = some { e with dbe := true })
          ∧ t.bare = { s.bare with accQ := t.accQ })
      ∧ (h.mem = 0x02 → (∀ f, s.held[h.where_ / 65536]? = some f → ∃ g, t.held[h.where_ / 65536]? = some g
            ∧ h.where_ % 65536 ∈ g.bad ∧ g.crew = f.crew ∧ g.words.length = f.words.length
            ∧ (h.where_ % 65536 < f.words.length → g.words[h.where_ % 65536]? ≠ f.words[h.where_ % 65536]?)
            ∧ (∀ k, k ≠ h.where_ % 65536 → g.words[k]? = f.words[k]?))
          ∧ t.bare = { s.bare with free := s.free + 1, held := t.bare.held })
      ∧ (h.mem ∈ [0x01, 0x03, 0x0B] → faultTold s t 0x02 h.mem.toNat
          ∧ s.keeps t ([R.HEALTH_SCRUB_DBE_CNT.key, R.HEALTH_LAST_DBE_MEM.key] ++ healthKeys 0x02))

/-- Corrected upsets and double-bit errors.
Completion of VOTE_CORRECT, SCRUB_DBE and SCRUB_SBE is stated here.
Rests on log entries 2, 52, 59. -/
def Obligations.UpsetsAreCorrectedAndTold : Prop :=
  Claims.CorrectedUpsetsAreCounted ∧ Claims.DoubleBitErrorsAreTold

/-- A rail outside its window sets its bit of HEALTH.SUPPLY_LOW or SUPPLY_HIGH, a tripped sensor its bit of TEMP_HOT; both raise their event and are told as faults of class 0x0C and
0x0D (R413, R414), and their condition no longer holds (R415). The rail closes the ring's bypass, and until it is back the bypass does not open; its receiver counts its valid characters anew (R394, R431). A
sensor that falls back clears its bit (R413). -/
def Claims.SuppliesAndTemperaturesAreTold : Prop :=
  ∀ s : State, s.alive = true →
    (∀ (rail : Fin 6) (m : RailMove), m ≠ .back → ∃ t, exec (.supplyExcursion rail m) s = .next t
      ∧ t.get ⟨R.HEALTH_SUPPLY_LOW.key, rail.val + (if m = .high then 8 else 0), 1⟩ = 1 ∧ t.hasEvt E.HEALTH_SUPPLY = true
      ∧ t.get R.HEALTH_STATUS_SUPPLY_OK = 0 ∧ faultTold s t 0x0C rail.val
      ∧ t.get R.RING_STATUS_BYPASS_OPEN = 0 ∧ t.ring.valid = 0 ∧ rail.val ∈ t.pads.railsOut ∧ t.ringReady = false
      ∧ (s.ringOpen = true → t.hasEvt E.RING_BYPASS = true ∧ t.get R.RING_BYPASS_CNT = counted 32 (s.get R.RING_BYPASS_CNT) 1)
      ∧ s.keeps t ([R.HEALTH_SUPPLY_LOW.key] ++ healthKeys 0x0C
          ++ if s.ringOpen = true then [R.RING_STATUS_BYPASS_OPEN.key, R.RING_BYPASS_CNT.key, evtKey 0x98] else [])
      ∧ t.bare = { s.bare with
          ring := if s.ringOpen = true then t.ring else { s.ring with valid := 0 },
          pads := { s.pads with railsOut := t.pads.railsOut } })
    ∧ (∀ rail : Fin 6, ∃ t, exec (.supplyExcursion rail .back) s = .next t
      ∧ (∀ r, r ∈ t.pads.railsOut ↔ r ∈ s.pads.railsOut ∧ r ≠ rail.val)
      ∧ s.keeps t [] ∧ t.bare = { s.bare with pads := { s.pads with railsOut := t.pads.railsOut } })
    ∧ (∀ n : Fin 4, ∃ t, exec (.tempTrip ⟨n, false⟩) s = .next t
      ∧ t.get ⟨R.HEALTH_TEMP_HOT.key, n.val, 1⟩ = 0 ∧ s.keeps t [R.HEALTH_TEMP_HOT.key] ∧ t.bare = s.bare)
    ∧ ∀ n : Fin 4, ∃ t, exec (.tempTrip ⟨n, true⟩) s = .next t
      ∧ t.get ⟨R.HEALTH_TEMP_HOT.key, n.val, 1⟩ = 1 ∧ t.hasEvt E.HEALTH_TEMP = true ∧ t.get R.HEALTH_STATUS_TEMP_OK = 0
      ∧ faultTold s t 0x0D n.val ∧ s.keeps t (R.HEALTH_TEMP_HOT.key :: healthKeys 0x0D) ∧ t.bare = s.bare

/-- The test access port takes an instruction at any time: IDCODE offers its word; SAMPLE/PRELOAD captures the pins and loads the boundary cells; the EXTEST instructions drive the cells onto the pins while
RESET_N is held low, and act as BYPASS at any other time; so does an instruction that the port does not implement (R448; the last is the model's choice, log entry 53). It changes nothing else. -/
def Claims.TheTestPortTakesInstructions : Prop :=
  ∀ (s : State) (x : TapLoad), ∃ t, exec (.tapInstruction x) s = .next t
    ∧ t.tap = (if x.instr = .idcode ∨ x.instr = .samplePreload then x.instr
        else if x.resetLow = true ∧ x.instr ≠ .other then x.instr else .bypass)
    ∧ (x.instr = .idcode → ∃ w, t.out = [.idcode w] ∧ w &&& 0x0FFFFFFF = 0x0C7687B3)
    ∧ (x.instr = .samplePreload → t.out = [.boundary .samplePreload [] x.pins])
    ∧ (x.instr ∈ [.extest, .extestPulse, .extestTrain] → x.resetLow = true →
        ∃ l, t.out = .boundary x.instr s.pads.cells x.pins :: l ∧ (x.scan ≠ [] → l = [.boundary x.instr x.scan []]))
    ∧ (x.instr ∈ [.extest, .extestPulse, .extestTrain] → x.resetLow = false → t.out = [])
    ∧ t.pads.cells = (if x.scan ≠ [] ∧ (x.instr = .samplePreload ∨ (x.instr ∈ [.extest, .extestPulse, .extestTrain] ∧ x.resetLow = true))
        then x.scan else s.pads.cells)
    ∧ s.keeps t [] ∧ t.bare = { s.bare with tap := t.tap, pads := { s.pads with cells := t.pads.cells } }

/-- Supplies, temperatures and the test port.
Completion of SUPPLY_EXCURSION, TEMP_TRIP and TAP_INSTRUCTION is stated here.
Rests on log entries 47, 53. -/
def Obligations.TheHubWatchesItself : Prop :=
  Claims.SuppliesAndTemperaturesAreTold ∧ Claims.TheTestPortTakesInstructions

/-- A Regatta request as it comes: of an operation, no answer, its CRC good. -/
def request (f : RingFrame) (op : Nat) : Prop := f.op.toNat = op ∧ f.resp = false ∧ ringOk f = true

/-- The answer to an addressed request (R391): back to its sender, with the STATUS, the hub's number, the data and a good CRC. -/
def ringReply (s : State) (f : RingFrame) (status : BitVec 2) (d : Word) : RingFrame :=
  resealed true { f with dest := f.src, src := BitVec.ofNat 16 (s.get R.ID_HUB_NUMBER), resp := true, status := status, data := d }

/-- A state in which one more frame of the hub's own waits for a gap of the ring (R386). -/
def ownWaits (s : State) : State := { s with ring := { s.ring with own := s.ring.own + 1 } }

/-- Requests addressed to this hub are performed for port G, counted in PERFORMED_CNT and answered (R390, R391): a READ with the word read, a WRITE with its STATUS, a KEYED_WRITE as a write of
the key and the write (R392). A broadcast WRITE goes on and is performed without an answer.
Completion of RING_READ, RING_WRITE and KEYED_WRITE is stated here.
Rests on log entry 43. -/
def Obligations.RingRequestsArePerformed : Prop :=
  ∀ (s : State) (f : RingFrame), s.ringOpen = true → s.serves .G (f.addr.setWidth 20).toNat →
    (request f 1 → s.ringMine f = true → frameBroadcast f = false →
      (let r := { s.begin_ with served := .G }.performRead .G (f.addr.setWidth 20).toNat
       ∃ t, exec (.ringRead f) s = .next t ∧ t.out = [.ring (ringReply r.2 f 0 r.1)]
        ∧ t.get R.RING_PERFORMED_CNT = (r.2.get R.RING_PERFORMED_CNT + 1) % 2 ^ 32
        ∧ r.2.keeps t [R.RING_PERFORMED_CNT.key, evtKey 0x98] ∧ t.bare = (ownWaits r.2).bare))
    ∧ (request f 2 → ¬ (0x0C100 ≤ (f.addr.setWidth 20).toNat ∧ (f.addr.setWidth 20).toNat < 0x0C180) →
      ((let r := { s.begin_ with served := .G }.performWrite .G (f.addr.setWidth 20).toNat f.data
       s.ringMine f = true → frameBroadcast f = false → ∃ t, exec (.ringWrite f) s = .next t
        ∧ t.out = r.2.out ++ [.ring (ringReply r.2 f (BitVec.ofNat 2 r.1) f.data)]
        ∧ t.get R.RING_PERFORMED_CNT = (r.2.get R.RING_PERFORMED_CNT + 1) % 2 ^ 32
        ∧ r.2.keeps t [R.RING_PERFORMED_CNT.key, evtKey 0x98] ∧ t.bare = (ownWaits r.2).bare)
       ∧ (let r := { s.begin_ with served := .G, out := [.ring f] }.performWrite .G (f.addr.setWidth 20).toNat f.data
        s.ringMine f = false → frameBroadcast f = true → ∃ t, exec (.ringWrite f) s = .next t ∧ t.out = r.2.out
        ∧ t.get R.RING_PERFORMED_CNT = (r.2.get R.RING_PERFORMED_CNT + 1) % 2 ^ 32
        ∧ r.2.keeps t [R.RING_PERFORMED_CNT.key, evtKey 0x98] ∧ t.bare = r.2.bare)))
    ∧ (request f 3 → s.ringMine f = true → frameBroadcast f = false → s.time.catchDue = false →
      (s.time.cn + 1).toNat % 256 ≠ 0 → ¬ (0x0C100 ≤ (f.addr.setWidth 20).toNat ∧ (f.addr.setWidth 20).toNat < 0x0C180) →
      (let r := { s.begin_ with served := .G, unlockG := true }.performWrite .G (f.addr.setWidth 20).toNat f.data
       ∃ t, exec (.keyedWrite f) s = .next t ∧ t.out = r.2.out ++ [.ring (ringReply r.2 f (BitVec.ofNat 2 r.1) f.data)]
        ∧ r.2.keeps t [R.RING_PERFORMED_CNT.key, evtKey 0x98] ∧ t.bare = (ownWaits r.2).bare))

/-- The 16 characters of a frame as they come in at RING_IN (R382, R389): control bit and data byte. -/
def ringSlots (f : RingFrame) : List RingSlot :=
  .rx true 0x01 :: ((ringBytes f ++ [f.crc.extractLsb' 8 8, f.crc.extractLsb' 0 8]).map (RingSlot.rx false) ++ [.rx true 0x02])

/-- Frames that the hub passes on: a frame for another hub as it came, told whole or by its 16 characters (R389), an unknown operation with one of PROTO_ERR_CNT (R390, R391); a HELLO with its HOPS one more and its CRC formed anew, or, after 256
of them, removed and counted (R391). Here with good CRCs. -/
def Claims.RingFramesPass : Prop :=
  ∀ (s : State) (f : RingFrame), s.ringOpen = true → ringOk f = true →
    (f.op.toNat = 0 ∨ 6 < f.op.toNat → ∃ t, exec (.ringBadOp f) s = .next t ∧ t.out = [.ring f]
      ∧ t.get R.RING_PROTO_ERR_CNT = counted 32 (s.get R.RING_PROTO_ERR_CNT) 1
      ∧ s.keeps t [R.RING_PROTO_ERR_CNT.key, evtKey 0x98] ∧ t.bare = s.bare)
    ∧ (1 ≤ f.op.toNat → f.op.toNat ≤ 4 → (f.resp = true ∨ (s.ringMine f = false ∧ frameBroadcast f = false)) →
      (∃ t, exec (.ringFramePass ⟨[], some f⟩) s = .next t ∧ t.out = [.ring f] ∧ s.keeps t [] ∧ t.bare = s.bare)
      ∧ (s.ring.buf = [] → ∃ t, exec (.ringFramePass ⟨ringSlots f, none⟩) s = .next t ∧ t.out = [.ring f] ∧ t.ring.buf = ringChars f
        ∧ s.keeps t [R.RING_BUF_LEVEL_HIGH.key] ∧ t.bare = { s.bare with ring := t.ring }))
    ∧ (f.op = 5 → f.resp = true → f.addr.toNat % 512 < 256 → ∃ t, exec (.helloForward f) s = .next t
      ∧ t.out = [.ring (resealed true { f with addr := f.addr + 1 })] ∧ s.keeps t [] ∧ t.bare = s.bare)
    ∧ (f.op = 5 → f.resp = true → 256 ≤ f.addr.toNat % 512 → ∃ t, exec (.helloForward f) s = .next t ∧ t.out = []
      ∧ t.get R.RING_PROTO_ERR_CNT = counted 32 (s.get R.RING_PROTO_ERR_CNT) 1
      ∧ s.keeps t [R.RING_PROTO_ERR_CNT.key, evtKey 0x98] ∧ t.bare = s.bare)

/-- The elastic buffer of the ring (R386): a received character joins it, and BUF_LEVEL.HIGH follows its level; full inside a frame or at its SOF, it drops that frame, counts and raises OVF with a fault. A character that
falls due is the oldest held; between frames an IDLE is inserted where none is held, and the oldest IDLE is deleted where more than it is held and two IDLEs have gone out; inside a frame an empty buffer ends
the frame with ABORT. No frame of the hub's own is under way or can start. -/
def Claims.TheElasticBufferHolds : Prop :=
  ∀ s : State, s.ringOpen = true →
    (∀ b : Byte, s.ring.rxDrop = false →
      (s.ring.buf.length < 32 → ∃ t, exec (.ringFramePass ⟨[.rx false b], none⟩) s = .next t
        ∧ t.ring.buf = s.ring.buf ++ [.data b]
        ∧ t.get R.RING_BUF_LEVEL_HIGH = max (s.get R.RING_BUF_LEVEL_HIGH) (s.ring.buf.length + 1)
        ∧ t.out = [] ∧ s.keeps t [R.RING_BUF_LEVEL_HIGH.key]
        ∧ t.bare = { s.bare with ring := { s.ring with
            buf := t.ring.buf, rxBytes := s.ring.rxBytes.map (· ++ [b]), rxIdles := 0,
            valid := if s.pads.railsOut = [] then min 16 (s.ring.valid + 1) else 0 } })
      ∧ (s.ring.buf.length = 32 → s.ring.rxIn = true → ∃ t, exec (.ringFramePass ⟨[.rx false b], none⟩) s = .next t
        ∧ t.ring.buf = State.withoutLast s.ring.buf ∧ t.ring.rxDrop = true
        ∧ t.get R.RING_OVF_CNT = counted 32 (s.get R.RING_OVF_CNT) 1 ∧ t.hasEvt E.RING_OVF = true
        ∧ t.rd (faultKey 0x98) = BitVec.ofNat 32 (1 + s.time.cn.toNat % 65536 * 65536)
        ∧ t.out = [] ∧ s.keeps t [R.RING_OVF_CNT.key, evtKey 0x98, faultKey 0x98] ∧ t.bare = { s.bare with ring := t.ring }))
    ∧ (s.ring.buf.length = 32 → ∃ t, exec (.ringFramePass ⟨[.rx true 0x01], none⟩) s = .next t
        ∧ t.ring.buf = s.ring.buf ∧ t.ring.rxIn = true ∧ t.ring.rxDrop = true
        ∧ t.get R.RING_OVF_CNT = counted 32 (s.get R.RING_OVF_CNT) 1 ∧ t.hasEvt E.RING_OVF = true
        ∧ t.out = [] ∧ s.keeps t [R.RING_OVF_CNT.key, evtKey 0x98, faultKey 0x98] ∧ t.bare = { s.bare with ring := t.ring })
    ∧ (s.ring.ownLeft = 0 → s.ring.own = 0 →
      (s.ring.txIn = true → ∀ c l, s.ring.buf = c :: l → ∃ t, exec (.ringFramePass ⟨[.tx], none⟩) s = .next t
        ∧ t.ring.buf = l ∧ t.out = [] ∧ s.keeps t [] ∧ t.bare = { s.bare with ring := t.ring })
      ∧ (s.ring.txIn = true → s.ring.buf = [] → ∃ t, exec (.ringFramePass ⟨[.tx], none⟩) s = .next t
        ∧ t.out = [.ringAbort] ∧ t.get R.RING_ABORT_CNT = counted 32 (s.get R.RING_ABORT_CNT) 1 ∧ t.hasEvt E.RING_ABORT = true
        ∧ s.keeps t [R.RING_ABORT_CNT.key, evtKey 0x98]
        ∧ t.bare = { s.bare with ring := { s.ring with txIn := false, idles := 0, rxDrop := s.ring.rxIn } })
      ∧ (s.ring.txIn = false → s.ring.buf = [] → ∃ t, exec (.ringFramePass ⟨[.tx], none⟩) s = .next t
        ∧ t.get R.RING_INSERT_CNT = (s.get R.RING_INSERT_CNT + 1) % 2 ^ 32 ∧ t.out = []
        ∧ s.keeps t [R.RING_INSERT_CNT.key, evtKey 0x98]
        ∧ t.bare = { s.bare with ring := { s.ring with idles := min 2 (s.ring.idles + 1) } })
      ∧ (s.ring.txIn = false → s.ring.idles = 2 → ∀ l, s.ring.buf = .idle :: .idle :: l →
        ∃ t, exec (.ringFramePass ⟨[.tx], none⟩) s = .next t ∧ t.ring.buf = l
        ∧ t.get R.RING_DELETE_CNT = (s.get R.RING_DELETE_CNT + 1) % 2 ^ 32 ∧ t.out = []
        ∧ s.keeps t [R.RING_DELETE_CNT.key, evtKey 0x98] ∧ t.bare = { s.bare with ring := { s.ring with buf := l } }))

/-- A walk goes on with its COUNT one more; the hub keeps its position and the ring's number, shows the walk and counts it, and an ASSIGN gives a hub that is not NUMBERED its default number for
the next catch (R397, R399). -/
def Claims.WalksNumberTheHub : Prop :=
  ∀ (s : State) (f : RingFrame), s.ringOpen = true → request f 4 → frameBroadcast f = true → f.data.toNat % 512 < 256 →
    ∃ t g, exec (.rollCall f) s = .next t ∧ t.out = [.ring g] ∧ ringOk g = true ∧ g.data.toNat % 512 = f.data.toNat % 512 + 1
      ∧ t.get R.RING_STATUS_POS = f.data.toNat % 512 ∧ t.get R.RING_STATUS_POS_VALID = 1
      ∧ t.get R.RING_STATUS_RING = bits f.data 16 8 ∧ t.get R.RING_LAST_WALK_COUNT = f.data.toNat % 512
      ∧ t.get R.RING_LAST_WALK_ASSIGN = (if f.addr.getLsbD 0 = true then 1 else 0)
      ∧ t.hasEvt E.RING_WALK = true ∧ t.get R.RING_WALK_CNT = (s.get R.RING_WALK_CNT + 1) % 2 ^ 32
      ∧ t.ring.number = (if f.addr.getLsbD 0 = true ∧ s.get R.RING_STATUS_NUMBERED = 0
          then some (bits f.data 16 8 * 256 + f.data.toNat % 512) else s.ring.number)
      ∧ s.keeps t [R.RING_STATUS_POS.key, R.RING_LAST_WALK_COUNT.key, R.RING_WALK_CNT.key, evtKey 0x98]
      ∧ t.bare = { s.bare with ring := { s.ring with number := t.ring.number } }

/-- Frames that pass the hub, and the walk that numbers it.
Completion of ROLL_CALL, HELLO_FORWARD, RING_BAD_OP and RING_FRAME_PASS is stated here.
Rests on log entries 43, 51. -/
def Obligations.RingFramesPassAndNumber : Prop :=
  Claims.RingFramesPass ∧ Claims.TheElasticBufferHolds ∧ Claims.WalksNumberTheHub

/-- RING_RESET with its key and a good CRC resets the hub, after the answer where it is addressed and after it has gone on where it is broadcast; with any other data it is answered with STATUS 2 and resets
nothing (R393, R419). -/
def Claims.RingResetNeedsItsKey : Prop :=
  ∀ (s : State) (f : RingFrame), s.ringOpen = true → request f 6 →
    (f.data = 0x0000C0C5 → s.ringMine f = true ∨ frameBroadcast f = true → ∃ t, exec (.ringReset f) s = .next t
      ∧ t.rd 0x00058 = 8 ∧ t.phase = .sweeping
      ∧ t.out = [.ring (if s.ringMine f = true then ringReply s f 0 f.data else f)]
      ∧ (∀ k, k ∉ resetKeys → t.rd k &&& ~~~flagBits k = resetWord k &&& ~~~flagBits k)
      ∧ t.bare = { State.reset.bare with
          pending := s.pending, free := s.free, tap := s.tap, pads := s.pads, phase := .sweeping, clk := t.clk, tcuB := t.tcuB,
          time := { State.reset.time with catchDue := true }, ring := { State.reset.ring with taint := some 0 } })
    ∧ (f.data ≠ 0x0000C0C5 → s.ringMine f = true → ∃ t, exec (.ringReset f) s = .next t
      ∧ t.out = [.ring (ringReply s f 2 f.data)] ∧ s.keeps t [] ∧ t.bare = (ownWaits s).bare)

/-- The receiver and the bypass of the ring: a framing error counts, taints the hub, stands as an error symbol in the elastic buffer and is raised at most once in a millisecond, and inside a frame it counts as a
protocol error too (R384, R386, R398); the bypass opens in service with every rail in its window and a stable XO, after 16 valid characters and three IDLEs, and closes, which counts, taints and raises BYPASS, empties the buffer, and its opening makes a
HELLO due (R394, R396, R398, R400); a HELLO that is due is sent with the hub's number and its device number (R400). -/
def Claims.TheRingPortOpensAndReports : Prop :=
  ∀ s : State, s.alive = true →
    (∀ inFrame, ∃ t, exec (.ringFramingError inFrame) s = .next t
      ∧ t.get R.RING_FRAMING_ERR_CNT = counted 32 (s.get R.RING_FRAMING_ERR_CNT) 1
      ∧ (inFrame = true ∨ s.ring.rxIn = true → t.get R.RING_PROTO_ERR_CNT = counted 32 (s.get R.RING_PROTO_ERR_CNT) 1)
      ∧ t.ring.taint = some s.ring.now ∧ t.ring.valid = 0
      ∧ (s.ringOpen = true → s.ring.rxDrop = false → s.ring.buf.length < 32 → t.ring.buf = s.ring.buf ++ [.error])
      ∧ (s.ring.told = none ∨ (∃ c, s.ring.told = some c ∧ c + 1000000 * 2 ^ 32 ≤ s.ring.now) →
          t.hasEvt E.RING_FRAMING_ERR = true ∧ t.ring.told = some s.ring.now)
      ∧ (∀ c, s.ring.told = some c → s.ring.now < c + 1000000 * 2 ^ 32 →
          t.hasEvt E.RING_FRAMING_ERR = s.hasEvt E.RING_FRAMING_ERR ∧ t.ring.told = some c)
      ∧ s.keeps t ([R.RING_FRAMING_ERR_CNT.key, R.RING_PROTO_ERR_CNT.key, evtKey 0x98]
          ++ if s.ringOpen = true then [R.RING_BUF_LEVEL_HIGH.key, R.RING_OVF_CNT.key, faultKey 0x98] else [])
      ∧ t.bare = { s.bare with ring := { s.ring with
          taint := some s.ring.now, told := t.ring.told, buf := t.ring.buf, rxDrop := t.ring.rxDrop, rxBytes := none, valid := 0,
          rxIdles := 0 } })
    ∧ (s.phase = .running → s.pads.railsOut = [] → s.clk.xoStable = true → s.clk.xoFailed = false →
      s.get R.RING_STATUS_BYPASS_OPEN = 0 → s.ring.valid = 16 → s.ring.rxIdles = 3 → ∃ t, exec .bypassOpen s = .next t
      ∧ t.get R.RING_STATUS_BYPASS_OPEN = 1 ∧ t.get R.RING_BYPASS_CNT = counted 32 (s.get R.RING_BYPASS_CNT) 1
      ∧ t.hasEvt E.RING_BYPASS = true ∧ s.keeps t [R.RING_STATUS_BYPASS_OPEN.key, R.RING_BYPASS_CNT.key, evtKey 0x98]
      ∧ t.bare = { s.bare with ring := { s.ring with
          hello := true, taint := some s.ring.now, buf := [], rxDrop := s.ring.rxIn, rxBytes := none, txIn := false, own := 0, ownLeft := 0, idles := 0 } })
    ∧ (s.ringOpen = true → ∃ t, exec .bypassClose s = .next t
      ∧ t.get R.RING_STATUS_BYPASS_OPEN = 0 ∧ t.get R.RING_BYPASS_CNT = counted 32 (s.get R.RING_BYPASS_CNT) 1
      ∧ t.hasEvt E.RING_BYPASS = true ∧ s.keeps t [R.RING_STATUS_BYPASS_OPEN.key, R.RING_BYPASS_CNT.key, evtKey 0x98]
      ∧ t.bare = { s.bare with ring := { s.ring with
          hello := false, taint := some s.ring.now, buf := [], rxDrop := s.ring.rxIn, rxBytes := none, txIn := false, own := 0, ownLeft := 0, idles := 0,
          valid := 0 } })
    ∧ (s.ringOpen = true → s.helloDue = true → ∃ t f, exec .helloSend s = .next t
      ∧ t.out = [.ring f] ∧ ringOk f = true ∧ f.op = 5 ∧ f.resp = true ∧ f.dest = 0xFFFF ∧ f.pos = true
      ∧ f.src = BitVec.ofNat 16 (s.get R.ID_HUB_NUMBER) ∧ f.addr = 0
      ∧ f.data.toNat % 65536 = s.get R.ID_DEVICE ∧ f.data.getLsbD 16 = s.flag R.RING_STATUS_NUMBERED
      ∧ s.keeps t [] ∧ t.bare = { s.bare with ring := { s.ring with hello := false, helloAt := s.ring.now, own := s.ring.own + 1 } })

/-- RING_RESET, and the port's own state.
Completion of RING_RESET, RING_FRAMING_ERROR, HELLO_SEND, BYPASS_OPEN and BYPASS_CLOSE is stated here.
Rests on log entries 43, 47, 51. -/
def Obligations.TheRingPortOpensAndResets : Prop :=
  Claims.RingResetNeedsItsKey ∧ Claims.TheRingPortOpensAndReports

/-- The register words that tell of a receiver's state: LANE.STATUS of its block and, on a Rigger port, PAGE_STATE. -/
def receiverKeys : Xcvr → List Nat
  | .sat p => [(R.LANE_STATUS_RX_STATE (xcvrBase (.sat p))).key, stateKey (0x78 + p.val)]
  | x => [(R.LANE_STATUS_RX_STATE (xcvrBase x)).key]

/-- A receiver goes DOWN, SIGNAL, ALIGNED and back (R303). LANE_SIGNAL_DETECT takes it from DOWN to SIGNAL, and a Rigger port that is DOWN with
it (R355); eight commas at one alignment take it to ALIGNED, told on LANE pages, with a running disparity that is free; losing it counts in ALIGN_LOSS_CNT, aborts an eye scan (R318), is told and
recorded as fault class 1 on LANE pages, and leads to DOWN on loss of signal, to SIGNAL on sixteen code errors within 256 crossings or, on Pace and
Rigger links, on missing commas; a readout lane is lost to its station's link with it (R340); a receiver in SIGNAL that loses its signal is DOWN. -/
def Claims.ReceiversFollowTheirSignal : Prop :=
  ∀ (s : State) (x : Xcvr), s.rxOn x = true →
    (s.rxState (xcvrBase x) = 0 → ∃ t, exec (.laneSignalDetect x) s = .next t ∧ t.rxState (xcvrBase x) = 1
      ∧ (∀ p, x = .sat p → t.satState p.val = if s.satState p.val = satDown then satSignal else s.satState p.val)
      ∧ s.keeps t (receiverKeys x) ∧ t.bare = s.bare)
    ∧ (∀ k, 8 ≤ k → s.rxState (xcvrBase x) = 1 → ∃ t, exec (.laneRxAligned ⟨x, k⟩) s = .next t ∧ t.rxState (xcvrBase x) = 2
      ∧ ((xcvrLane x).isSome = true → t.hasEvt (E.LANE_RX_ALIGNED (xcvrPage x)) = true)
      ∧ s.keeps t ((R.LANE_STATUS_RX_STATE (xcvrBase x)).key
          :: if (xcvrLane x).isSome = true then [evtKey (xcvrPage x)] else [])
      ∧ (∀ b, b ≠ xcvrBase x → (b ∈ t.rxRd ↔ b ∈ s.rxRd))
      ∧ t.bare = { s.bare with free := s.free + 1, rxRd := t.rxRd })
    ∧ (∀ k, k < 8 → ∃ t, exec (.laneRxAligned ⟨x, k⟩) s = .next t ∧ s.keeps t [] ∧ t.bare = s.bare)
    ∧ (s.rxState (xcvrBase x) = 1 → ∃ t, exec (.laneSignalLost x) s = .next t ∧ t.rxState (xcvrBase x) = 0
      ∧ s.keeps t [(R.LANE_STATUS_RX_STATE (xcvrBase x)).key] ∧ t.bare = s.bare)
    ∧ ∀ cause, s.rxState (xcvrBase x) = 2 → (cause = .commas → (xcvrLane x).isSome = false) →
      (cause = .codeErrors → s.sixteenErrors (xcvrBase x) = true) →
      ∃ t, exec (.laneRxLost x cause) s = .next t
        ∧ t.rxState (xcvrBase x) = (if cause = .lossOfSignal then 0 else 1)
        ∧ t.get (R.LANE_ALIGN_LOSS_CNT (xcvrBase x)) = counted 32 (s.get (R.LANE_ALIGN_LOSS_CNT (xcvrBase x))) 1
        ∧ Assoc.find? t.es (xcvrBase x) = none ∧ (∀ k, k ≠ xcvrBase x → Assoc.find? t.es k = Assoc.find? s.es k)
        ∧ ((Assoc.find? s.es (xcvrBase x)).isSome = true → t.flag (R.LANE_STATUS_ES_ABORT (xcvrBase x)) = true)
        ∧ (∀ n : Fin 32, x = .lane n → t.hasEvt (E.LANE_RX_LOST (0x50 + n.val)) = true
            ∧ t.rd (faultKey (0x50 + n.val)) = BitVec.ofNat 32 (1 + n.val * 256 + s.time.cn.toNat % 65536 * 65536))
        ∧ ((∀ n : Fin 32, x = .lane n → n.val < 24 → s.linkState (n.val / 3) = slipOff) →
          s.keeps t ([(R.LANE_STATUS_RX_STATE (xcvrBase x)).key, (R.LANE_ALIGN_LOSS_CNT (xcvrBase x)).key,
              evtKey (xcvrPage x)] ++ if (xcvrLane x).isSome = true then [faultKey (xcvrPage x)] else [])
          ∧ t.bare = { s.bare with es := t.es })
        ∧ (s.tablesWf = true → ∀ n : Fin 32, x = .lane n → n.val < 24 → s.linkState (n.val / 3) ≠ slipOff →
          n.val % 3 ∈ (t.link (n.val / 3)).lost
          ∧ (s.linkState (n.val / 3) = slipUp → n.val % 3 ∉ (s.link (n.val / 3)).lost → groupSize3 (t.rxGood (n.val / 3)) < 2 →
              t.linkState (n.val / 3) = slipDown ∧ t.hasEvt E.SLIP_LINK_DOWN = true)
          ∧ (s.linkState (n.val / 3) ≠ slipUp →
              s.keeps t [(R.LANE_STATUS_RX_STATE (xcvrBase x)).key, (R.LANE_ALIGN_LOSS_CNT (xcvrBase x)).key, evtKey (xcvrPage x),
                faultKey (xcvrPage x), (R.HEALTH_FAULT_CNTc 8).key, faultKey 0x06, evtKey 0x06]
              ∧ t.bare = { s.bare with es := t.es, links := t.links })
          ∧ s.keepsPages t [0x06, 0x40, 0x50 + n.val, 0x70])

/-- The words of a Rigger port's gap record (R357). -/
def gapKeys (pg : Nat) : List Nat :=
  [(R.SAT_GAP_CR pg).key, (R.SAT_GAP_FIRST_LO pg).key, (R.SAT_GAP_FIRST_HI pg).key, (R.SAT_GAP_LAST_LO pg).key,
    (R.SAT_GAP_LAST_HI pg).key]

/-- A code error is counted in CODE_ERR_CNT of the transceiver, and of the Pace lane too (R302); on readout, trigger and Pace lanes it is a fault of class 7 (R414). On a Rigger port that listens, one in a frame
discards the frame, and one in a hit item discards the item; both are faults of class 7, and an item lost in RUN is a gap from AGE_MAX crossings
back (R350, R357). -/
def Claims.CodeErrorsAreCounted : Prop :=
  ∀ (s : State) (x : Xcvr) (item : SatItem), s.rxOn x = true →
    ∃ t, exec (.codeError x item) s = .next t
      ∧ t.get (R.LANE_CODE_ERR_CNT (xcvrBase x)) = counted 32 (s.get (R.LANE_CODE_ERR_CNT (xcvrBase x))) 1
      ∧ Assoc.find? t.rxErr (xcvrBase x) = some ((s.time.cr
          :: (Assoc.getD (fun _ => []) s.rxErr (xcvrBase x)).filter (fun c => decide (s.time.cr < c + 256))).take 4096)
      ∧ (∀ k, k ≠ xcvrBase x → Assoc.find? t.rxErr k = Assoc.find? s.rxErr k)
      ∧ (∀ l, x = .pace l →
          t.get (R.PACEx_CODE_ERR_CNT l.page) = counted 32 (s.get (R.PACEx_CODE_ERR_CNT l.page)) 1
          ∧ t.satGaps = s.satGaps ∧ faultTold s t 0x07 l.idx
          ∧ s.keeps t ([(R.LANE_CODE_ERR_CNT (xcvrBase x)).key, (R.PACEx_CODE_ERR_CNT l.page).key, evtKey l.page] ++ healthKeys 0x07))
      ∧ (∀ n : Fin 32, x = .lane n → t.satGaps = s.satGaps ∧ faultTold s t 0x07 n.val
          ∧ s.keeps t ([(R.LANE_CODE_ERR_CNT (xcvrBase x)).key, evtKey (xcvrPage x)] ++ healthKeys 0x07))
      ∧ (∀ p, x = .sat p → s.satListens p.val = true → item ≠ .idle →
          t.hasEvt E.HEALTH_FAULT = true
          ∧ t.rd (faultKey 0x06) = BitVec.ofNat 32 (7 + p.val * 256 + s.time.cn.toNat % 65536 * 65536)
          ∧ t.get (R.HEALTH_FAULT_CNTc 7) = counted 32 (s.get (R.HEALTH_FAULT_CNTc 7)) 1
          ∧ (item = .frame → t.hasEvt (E.SAT_FRAME_ERR (0x78 + p.val)) = true
              ∧ t.get (R.SAT_FRAME_ERR_CNT (0x78 + p.val)) = counted 32 (s.get (R.SAT_FRAME_ERR_CNT (0x78 + p.val))) 1)
          ∧ (item = .hit → t.hasEvt (E.SAT_PARTIAL (0x78 + p.val)) = true
              ∧ t.get (R.SAT_PARTIAL_CNT (0x78 + p.val)) = counted 32 (s.get (R.SAT_PARTIAL_CNT (0x78 + p.val))) 1)
          ∧ (item = .hit → s.satState p.val = satRun →
              t.satGaps = (p.val, (s.time.cr : Int) - s.get (R.SAT_AGE_MAX (0x78 + p.val)), (s.time.cr : Int)) :: s.satGaps
              ∧ t.get (R.SAT_GAP_CR (0x78 + p.val))
                = counted 32 (s.get (R.SAT_GAP_CR (0x78 + p.val))) (s.get (R.SAT_AGE_MAX (0x78 + p.val)) + 1))
          ∧ (item = .frame ∨ s.satState p.val ≠ satRun → t.satGaps = s.satGaps)
          ∧ s.keeps t ([(R.LANE_CODE_ERR_CNT (xcvrBase x)).key, (R.SAT_FRAME_ERR_CNT (0x78 + p.val)).key,
              (R.SAT_PARTIAL_CNT (0x78 + p.val)).key, evtKey (0x78 + p.val), (R.HEALTH_FAULT_CNTc 7).key, faultKey 0x06, evtKey 0x06]
              ++ if item = .hit ∧ s.satState p.val = satRun then gapKeys (0x78 + p.val) else []))
      ∧ (∀ p, x = .sat p → s.satListens p.val = false ∨ item = .idle →
          t.satGaps = s.satGaps ∧ s.keeps t [(R.LANE_CODE_ERR_CNT (xcvrBase x)).key, evtKey (xcvrPage x)])
      ∧ t.bare = { s.bare with rxErr := t.rxErr, codeTold := t.codeTold, satGaps := t.satGaps, sats := t.sats }
      ∧ Assoc.find? t.codeTold (xcvrBase x) = some (Assoc.getD (fun _ => 0) s.codeTold (xcvrBase x) + 1)
      ∧ ((∀ p, x ≠ .sat p) → t.sats = s.sats)

/-- Receivers, and the code errors they find.
Completion of LANE_SIGNAL_DETECT, LANE_RX_ALIGNED, LANE_RX_LOST, CODE_ERROR and LANE_SIGNAL_LOST is stated here.
Rests on log entries 24, 36, 37. -/
def Obligations.ReceiversAreWatched : Prop :=
  Claims.ReceiversFollowTheirSignal ∧ Claims.CodeErrorsAreCounted

/-- A readout lane that is ENABLED with FEATHER.EN, idle for FEATHER.IDLE_CR crossings (at least one), outside positions 255 and 0 and with the
clock state ENABLED, enters FEATHER and counts it (R307); a feathered lane whose station has had something to send, at position 255, after COAST
was raised or FEATHER.EN cleared, leaves it with a square-up burst, coded from negative disparity, and carries data from the next crossing on
(R301, R308, R309). -/
def Claims.LanesFeatherAndWake : Prop :=
  ∀ (s : State) (n : Fin 24), s.alive = true →
    (s.pstate (0x50 + n.val) = 1 → s.flag (R.LANE_FEATHER_EN ((0x50 + n.val) * 4096)) = true →
      max 1 (s.get (R.LANE_FEATHER_IDLE_CR ((0x50 + n.val) * 4096))) ≤ s.idleCount n.val → s.pos ≠ 255 → s.pos ≠ 0 →
      s.pstate 0x08 = 1 →
      ∃ t, exec (.featherEnter n) s = .next t ∧ t.pstate (0x50 + n.val) = 2
        ∧ t.get (R.LANE_FEATHER_CNT ((0x50 + n.val) * 4096)) = (s.get (R.LANE_FEATHER_CNT ((0x50 + n.val) * 4096)) + 1) % 2 ^ 32
        ∧ s.keeps t [stateKey (0x50 + n.val), (R.LANE_FEATHER_CNT ((0x50 + n.val) * 4096)).key, evtKey (0x50 + n.val)]
        ∧ t.bare = s.bare)
    ∧ (s.pstate (0x50 + n.val) = 2 → s.burstDue n.val = true →
      ∃ t, exec (.squareUpBurst n) s = .next t ∧ t.pstate (0x50 + n.val) = 1
        ∧ Assoc.getD (fun _ => 0) t.laneFrom n.val = s.time.cr + 1
        ∧ s.keeps t [stateKey (0x50 + n.val)]
        ∧ (0x50 + n.val) * 4096 ∉ t.txRd ∧ (∀ b, b ≠ (0x50 + n.val) * 4096 → (b ∈ t.txRd ↔ b ∈ s.txRd))
        ∧ t.bare = { s.bare with laneFrom := t.laneFrom, loopFrom := t.loopFrom, txRd := t.txRd })

/-- The watches over a transmitter: a symbol outside its slot is told and recorded as class 3 on LANE pages, and restored at the next catch
(R306); a mismatch of a loop monitor that compares counts in LOOP_ERR_CNT and is class 2 on LANE pages, told once a stroke (R312, R313). -/
def Claims.TransmittersAreWatched : Prop :=
  ∀ (s : State) (x : Xcvr), s.alive = true →
    (∃ t, exec (.txPhaseErr x) s = .next t ∧ xcvrBase x ∈ t.txOff
      ∧ (∀ n : Fin 32, x = .lane n → t.hasEvt (E.LANE_TX_PHASE_ERR (0x50 + n.val)) = true
          ∧ t.rd (faultKey (0x50 + n.val)) = BitVec.ofNat 32 (3 + n.val * 256 + s.time.cn.toNat % 65536 * 65536))
      ∧ s.keeps t (if (xcvrLane x).isSome = true then [evtKey (xcvrPage x), faultKey (xcvrPage x)] else [])
      ∧ t.bare = { s.bare with txOff := t.txOff })
    ∧ (s.get (R.LANE_LOOP_MODE (xcvrBase x)) = 1 ∨ s.get (R.LANE_LOOP_MODE (xcvrBase x)) = 2 →
      s.codes x = true →
      Assoc.getD (fun _ => 0) s.loopFrom (xcvrBase x) ≤ s.time.cr →
      ∃ t, exec (.loopMismatch x) s = .next t
        ∧ t.get (R.LANE_LOOP_ERR_CNT (xcvrBase x)) = counted 32 (s.get (R.LANE_LOOP_ERR_CNT (xcvrBase x))) 1
        ∧ (∀ n : Fin 32, x = .lane n → Assoc.find? t.loopTold n.val = some s.time.catches
            ∧ (Assoc.find? s.loopTold n.val ≠ some s.time.catches → t.hasEvt (E.LANE_LOOP_ERR (0x50 + n.val)) = true)
            ∧ t.rd (faultKey (0x50 + n.val)) = BitVec.ofNat 32 (2 + n.val * 256 + s.time.cn.toNat % 65536 * 65536))
        ∧ s.keeps t ((R.LANE_LOOP_ERR_CNT (xcvrBase x)).key :: evtKey (xcvrPage x)
            :: if (xcvrLane x).isSome = true then [faultKey (xcvrPage x)] else [])
        ∧ t.bare = { s.bare with loopTold := t.loopTold })

/-- Feathering lanes, and the watches over a transmitter.
Completion of FEATHER_ENTER, SQUARE_UP_BURST, TX_PHASE_ERR and LOOP_MISMATCH is stated here.
Rests on log entries 34, 37, 56. -/
def Obligations.TransmittersRestAndAreWatched : Prop :=
  Claims.LanesFeatherAndWake ∧ Claims.TransmittersAreWatched

/-- In TEST the checker locks at the 64th bit in a row that matches, loses its lock at the 64th mismatch within 1,024 bits and then seeds itself anew; each is then shown in
STATUS and told on LANE pages (R317); losing it aborts an eye scan (R318). An eye scan is done
when its 2^(20+N) bits have passed: ES_ERR holds its errors, held at all ones, and ES_DONE is set (R318).
Completion of CHK_LOCK, CHK_LOST and ES_DONE is stated here.
Rests on log entry 37. -/
def Obligations.PatternsAndEyesAreMeasured : Prop :=
  ∀ (s : State) (x : Xcvr), s.alive = true →
    (∀ (pat : Nat) (c : Checker) (b : Bool),
      ((prbsTaps pat).1 ≤ c.have_ → c.run = 63 → prbsBit pat c.reg = b →
        (State.checkBit pat false c b).1 = true ∧ (State.checkBit pat false c b).2.turns = c.turns + 1)
      ∧ (prbsBit pat c.reg ≠ b → (c.miss.filter (fun i => decide (c.bits < i + 1024))).length = 63 →
        State.checkBit pat true c b = (false, { State.checkIdle with turns := c.turns + 1 }))
      ∧ (prbsBit pat c.reg ≠ b → (State.checkBit pat false c b).1 = false ∧ (State.checkBit pat false c b).2.run = 0))
    ∧ (s.testing x = true → s.flag (R.LANE_STATUS_CHK_LOCK (xcvrBase x)) = false → 1 ≤ (s.checker (xcvrBase x)).turns →
      ∃ t, exec (.chkLock x) s = .next t ∧ t.flag (R.LANE_STATUS_CHK_LOCK (xcvrBase x)) = true
        ∧ ((xcvrLane x).isSome = true → t.hasEvt (E.LANE_CHK_LOCK (xcvrPage x)) = true)
        ∧ s.keeps t ((R.LANE_STATUS_CHK_LOCK (xcvrBase x)).key
            :: if (xcvrLane x).isSome = true then [evtKey (xcvrPage x)] else [])
        ∧ t.checker (xcvrBase x) = { s.checker (xcvrBase x) with turns := (s.checker (xcvrBase x)).turns - 1 }
        ∧ (∀ b, b ≠ xcvrBase x → t.checker b = s.checker b) ∧ t.bare = { s.bare with checks := t.checks })
    ∧ (s.testing x = true → s.flag (R.LANE_STATUS_CHK_LOCK (xcvrBase x)) = true → 1 ≤ (s.checker (xcvrBase x)).turns →
      ∃ t, exec (.chkLost x) s = .next t ∧ t.flag (R.LANE_STATUS_CHK_LOCK (xcvrBase x)) = false
        ∧ ((xcvrLane x).isSome = true → t.hasEvt (E.LANE_CHK_LOST (xcvrPage x)) = true)
        ∧ Assoc.find? t.es (xcvrBase x) = none
        ∧ ((Assoc.find? s.es (xcvrBase x)).isSome = true → t.flag (R.LANE_STATUS_ES_ABORT (xcvrBase x)) = true)
        ∧ s.keeps t ((R.LANE_STATUS_CHK_LOCK (xcvrBase x)).key
            :: if (xcvrLane x).isSome = true then [evtKey (xcvrPage x)] else [])
        ∧ t.checker (xcvrBase x) = { s.checker (xcvrBase x) with turns := (s.checker (xcvrBase x)).turns - 1 } ∧ (∀ b, b ≠ xcvrBase x → t.checker b = s.checker b)
        ∧ t.bare = { s.bare with es := t.es, checks := t.checks })
    ∧ ∀ c err, Assoc.find? s.es (xcvrBase x) = some c →
      2 ^ (20 + s.get (R.LANE_ES_CTL_N (xcvrBase x))) ≤ (s.time.cr + 1 - c) * (10 * symsPerCr x) →
      ∃ t, exec (.esDone x err) s = .next t ∧ t.get (R.LANE_ES_ERR (xcvrBase x)) = min err (2 ^ 32 - 1)
        ∧ t.flag (R.LANE_STATUS_ES_DONE (xcvrBase x)) = true ∧ Assoc.find? t.es (xcvrBase x) = none
        ∧ ((xcvrLane x).isSome = true → t.hasEvt (E.LANE_ES_DONE (xcvrPage x)) = true)
        ∧ s.keeps t ((R.LANE_ES_ERR (xcvrBase x)).key :: (R.LANE_STATUS_ES_DONE (xcvrBase x)).key
            :: if (xcvrLane x).isSome = true then [evtKey (xcvrPage x)] else [])
        ∧ t.bare = { s.bare with es := t.es }

/-- `t` is what `u` becomes when everything that waits on station `n` goes on: unsequenced packets, a replay that waited, posted writes
(R324, R335, R337). -/
def goesOn (n : Nat) (u t : State) : Prop :=
  (u.linkGo n).keeps t [] ∧ t.bare = (u.linkGo n).bare ∧ t.out = (u.linkGo n).out

/-- An unsequenced packet leaves at once, or waits until the station's lanes are awake (R308, R324). -/
def sendsControl (s t : State) (n : Nat) (bytes : List Byte) : Prop :=
  if s.linkAwake n = true then t.out = [.slip n (packet bytes)] ∧ (t.link n).ctlq = (s.link n).ctlq
  else t.out = [] ∧ (t.link n).ctlq = (s.link n).ctlq ++ [packet bytes]

/-- The valid MAP bytes of a marker. -/
def validMaps (m0 m1 m2 : Option MarkerIn) : List Byte := (([m0, m1, m2].filterMap id).map (fun m => m.map)).filter mapValid

/-- A link that is gone DOWN (R344): LINK_DOWN, its count, fault class 1, an empty transmit group; the station's reads end and its descriptors
are rewound (R294), so that CREW words change too. -/
def linkFell (n : Nat) (s t : State) : Prop :=
  t.linkState n = slipDown ∧ t.txg n = 0 ∧ t.hasEvt E.SLIP_LINK_DOWN = true
    ∧ t.get (R.SLIP_STNn_LINKDOWN_CNT n) = counted 32 (s.get (R.SLIP_STNn_LINKDOWN_CNT n)) 1
    ∧ t.rd (faultKey 0x70) = BitVec.ofNat 32 (1 + n * 256 + s.time.cn.toNat % 65536 * 65536)
    ∧ s.keepsPages t [0x06, 0x40, 0x70]
    ∧ t.bare = { s.bare with
        links := t.links, slipWant := t.slipWant, laneBusy := t.laneBusy, dmas := t.dmas, slots := t.slots, fetched := t.fetched
        held := t.bare.held }

/-- Catch markers (R322, R344): RXG takes what most valid MAP bytes carry; in TRAIN the second valid marker in a row takes a link with two good
receivers to CAPS, with its receive-good map as transmit group; a catch without a valid marker is a protocol error, and a second in a row takes
a link that is UP down. Here for markers within the deskew window on a link with no lane lost; a lane whose marker lies outside it is lost (R323,
R340), and a lost one whose receiver is ALIGNED, without code errors in 8 of the last 16 crossings, is good again with a valid marker in time (R340). -/
def Claims.MarkersTrainALink : Prop :=
  ∀ (s : State) (n : Fin 8) (m0 m1 m2 : Option MarkerIn), s.alive = true → s.tablesWf = true → s.linkState n.val ≠ slipOff →
    (∃ t, exec (.catchMarker n m0 m1 m2) s = .next t
      ∧ (∀ p ∈ State.outOfWindow [m0, m1, m2], p ∈ (t.link n.val).lost ∧ t.rxGood n.val / 2 ^ p % 2 = 0
          ∧ (p ∉ (s.link n.val).lost → t.hasEvt E.HEALTH_FAULT = true))
      ∧ (∀ p m, p ∉ State.outOfWindow [m0, m1, m2] → [m0, m1, m2][p]? = some (some m) → mapValid m.map = true →
          s.rxState ((0x50 + 3 * n.val + p) * 4096) = 2 → s.errCrossings (3 * n.val + p) < 8 → p ∉ (t.link n.val).lost)
      ∧ s.keepsPages t [0x06, 0x40, 0x70]
      ∧ t.bare = { s.bare with
          links := t.links, slipWant := t.slipWant, laneBusy := t.laneBusy, dmas := t.dmas, slots := t.slots, fetched := t.fetched
          held := t.bare.held })
    ∧ (State.outOfWindow [m0, m1, m2] = [] → (s.link n.val).lost = [] →
    (validMaps m0 m1 m2 = [] → s.linkState n.val ≠ slipUp ∨ (s.link n.val).mkBad = 0 →
      ∃ t, exec (.catchMarker n m0 m1 m2) s = .next t
      ∧ t.get (R.SLIP_STNn_PROTO_ERR_CNT n.val) = counted 32 (s.get (R.SLIP_STNn_PROTO_ERR_CNT n.val)) 1
      ∧ t.hasEvt E.SLIP_PROTO_ERR = true ∧ t.linkState n.val = s.linkState n.val
      ∧ (t.link n.val).mkOk = 0 ∧ (t.link n.val).mkBad = (s.link n.val).mkBad + 1
      ∧ s.keeps t [(R.SLIP_STNn_PROTO_ERR_CNT n.val).key, evtKey 0x70] ∧ t.bare = { s.bare with links := t.links })
    ∧ (validMaps m0 m1 m2 = [] → s.linkState n.val = slipUp → 1 ≤ (s.link n.val).mkBad →
      ∃ t, exec (.catchMarker n m0 m1 m2) s = .next t ∧ linkFell n.val s t)
    ∧ (validMaps m0 m1 m2 ≠ [] → ∃ t, exec (.catchMarker n m0 m1 m2) s = .next t
      ∧ t.get (R.SLIP_STNn_STATUS_RXG n.val)
        = ((majority ((validMaps m0 m1 m2).map (fun b => b.toNat % 8))).getD (s.get (R.SLIP_STNn_STATUS_RXG n.val)))
      ∧ (t.link n.val).mkOk = (s.link n.val).mkOk + 1 ∧ (t.link n.val).mkBad = 0
      ∧ (s.linkState n.val = slipTrain → 1 ≤ (s.link n.val).mkOk → 2 ≤ groupSize3 (t.rxGood n.val) →
          t.linkState n.val = slipCaps ∧ t.txg n.val = t.rxGood n.val)
      ∧ (s.linkState n.val ≠ slipTrain ∨ (s.link n.val).mkOk = 0 ∨ groupSize3 (t.rxGood n.val) < 2 →
          t.linkState n.val = s.linkState n.val ∧ t.txg n.val = s.txg n.val)
      ∧ s.keeps t [(R.SLIP_STNn_STATUS_STATE n.val).key] ∧ t.bare = { s.bare with links := t.links }))

/-- The peer's CAP is shown (R343); in UP it takes the link down; in CAPS it is remembered for the next catch, and one that does not match is told
once (R344). In CAPS the hub sends its own CAP every 16 crossings, and falls back to TRAIN when 16 catches bring none (R343, R344). -/
def Claims.CapabilitiesAreExchanged : Prop :=
  ∀ (s : State) (n : Fin 8), s.alive = true → s.tablesWf = true →
    (∀ (ver beats maxpl reads : Byte) (id : BitVec 16) (stn : Byte), s.linkState n.val ≠ slipOff →
      ∃ t, exec (.slipCap n ver beats maxpl reads id stn) s = .next t
      ∧ t.get (R.SLIP_STNn_PEER_CAP_VERSION n.val) = ver.toNat ∧ t.get (R.SLIP_STNn_PEER_CAP_BEATS n.val) = beats.toNat % 16
      ∧ t.get (R.SLIP_STNn_PEER_CAP_MAXPL n.val) = maxpl.toNat % 4
      ∧ t.get (R.SLIP_STNn_PEER_CAP_MAX_READS n.val) = reads.toNat % 64
      ∧ t.get (R.SLIP_STNn_PEER_CAP_STATION n.val) = stn.toNat ∧ t.get (R.SLIP_STNn_PEER_ID n.val) = id.toNat
      ∧ (s.linkState n.val = slipUp → linkFell n.val s t)
      ∧ (s.linkState n.val = slipCaps → (t.link n.val).capSeen = true
          ∧ (t.capMatch n.val = false → (t.link n.val).capTold = true ∧ ((s.link n.val).capTold = false →
              t.hasEvt E.SLIP_CAP_MISMATCH = true
              ∧ t.rd (faultKey 0x70) = BitVec.ofNat 32 (2 + n.val * 256 + s.time.cn.toNat % 65536 * 65536))))
      ∧ (s.linkState n.val ≠ slipUp → t.linkState n.val = s.linkState n.val
          ∧ s.keeps t [(R.SLIP_STNn_PEER_CAP_VERSION n.val).key, (R.SLIP_STNn_PEER_ID n.val).key, evtKey 0x70, faultKey 0x70]
          ∧ t.bare = { s.bare with links := t.links }))
    ∧ (s.linkState n.val = slipCaps → (∀ c, (s.link n.val).capCr = some c → c + 16 ≤ s.time.cr) →
      ∃ t, exec (.slipCapSend n) s = .next t ∧ (t.link n.val).capCr = some s.time.cr
      ∧ sendsControl s t n.val ([0x30, 0x01, 0x0F, 3, 32] ++ leBytes 2 (s.get R.ID_HUB_NUMBER) ++ leBytes 1 n.val)
      ∧ s.keeps t [] ∧ t.bare = { s.bare with links := t.links, laneBusy := t.laneBusy, slipWant := t.slipWant })
    ∧ (s.linkState n.val = slipCaps → (s.link n.val).capSeen = false → (s.link n.val).capSt + 16 ≤ s.time.catches →
      ∃ t, exec (.capsTimeout n) s = .next t ∧ t.linkState n.val = slipTrain ∧ t.txg n.val = 0
      ∧ s.keepsPages t [0x70] ∧ t.bare = { s.bare with links := t.links, slipWant := t.slipWant })

/-- A Slipway link on its way up.
Completion of CATCH_MARKER, SLIP_CAP, CAPS_TIMEOUT and SLIP_CAP_SEND is stated here.
Rests on log entries 39, 63. -/
def Obligations.LinksTrainAndExchangeCapabilities : Prop :=
  Claims.MarkersTrainALink ∧ Claims.CapabilitiesAreExchanged

/-- The state `u` that a packet's effect has left is `t` once the packet counts as performed (R331): E has advanced past its number, a NAK may be
sent again (R334), and what waits on the station goes on. -/
def takesIn (n seq : Nat) (u t : State) : Prop :=
  (u.performed n).get (R.SLIP_STNn_SEQ_RX_E n) = (seq + 1) % 4096 ∧ ((u.performed n).link n).nakSent = false
    ∧ goesOn n (u.performed n) t

/-- Packets of the peer that bear a number (R331): the expected one is performed, E advances and what waits goes on; one ahead of it is answered
with one NAK for the loss (R334), a duplicate with an ACK. CREDIT adds COUNT to its crew's CREDITS, and sets TAIL where it carries one (R290,
R329). A COMPL that fits no read is a protocol error (R328), one of a read that is stale or of an older generation is dropped (R298), late ones of an
earlier read in the same slot too, one whose
descriptor is in error stops the crew (R292), and one that is good adds its descriptor to the crew and sets NEXT, or ends the list (R291, R292).
Completion of SLIP_COMPL and SLIP_CREDIT is stated here.
Rests on log entry 39. -/
def Obligations.PeerPacketsAreTakenInOrder : Prop :=
  ∀ (s : State) (n : Fin 8) (seq : BitVec 12), s.alive = true → s.tablesWf = true → s.linkState n.val = slipUp →
    (s.seqClass n.val seq.toNat = 0 → ∀ (crew : BitVec 12) (tv : Bool) (count : BitVec 16) (tail : BitVec 46),
      ∃ u t, exec (.slipCredit n seq crew tv count tail) s = .next t
      ∧ u.crewCredits crew.toNat = min (s.crewCredits crew.toNat + count.toNat) 65535
      ∧ (65535 < s.crewCredits crew.toNat + count.toNat → u.hasEvt E.CREW_CREDIT_OVF = true)
      ∧ (tv = true → u.crewGet crew.toNat 6 0 32 + u.crewGet crew.toNat 7 0 14 * 2 ^ 32 = tail.toNat)
      ∧ s.keeps u [(R.CREW_Ew 6 crew.toNat).key, (R.CREW_Ew 7 crew.toNat).key, R.CREW_CREDIT_OVF_CNT.key, evtKey 0x40]
      ∧ u.bare = s.bare ∧ takesIn n.val seq.toNat u t)
    ∧ (s.seqClass n.val seq.toNat = 0 → ∀ (tag : Word) (st : Byte) (data : List Byte),
      ((∀ l, Assoc.find? s.slots (32 * n.val + bits tag 0 5) = some l →
          bits tag 5 12 ≠ l.crew ∨ bits tag 25 7 ≠ 0 ∨ (bits tag 17 8 ≠ l.gen ∧ bits tag 17 8 = s.crewGen l.crew)) →
        ∃ u t, exec (.slipCompl n seq tag st data) s = .next t
        ∧ u.get (R.SLIP_STNn_PROTO_ERR_CNT n.val) = counted 32 (s.get (R.SLIP_STNn_PROTO_ERR_CNT n.val)) 1
        ∧ u.hasEvt E.SLIP_PROTO_ERR = true
        ∧ s.keeps u [(R.SLIP_STNn_PROTO_ERR_CNT n.val).key, evtKey 0x70] ∧ u.bare = s.bare ∧ takesIn n.val seq.toNat u t)
      ∧ (∀ l : Slot, Assoc.find? s.slots (32 * n.val + bits tag 0 5) = some l → bits tag 5 12 = l.crew → bits tag 25 7 = 0 →
        bits tag 17 8 ≠ l.gen → bits tag 17 8 ≠ s.crewGen l.crew →
        ∃ u t, exec (.slipCompl n seq tag st data) s = .next t
        ∧ u.get R.CREW_LATE_DISCARD_CNT = counted 32 (s.get R.CREW_LATE_DISCARD_CNT) 1
        ∧ s.keeps u [R.CREW_LATE_DISCARD_CNT.key, evtKey 0x40] ∧ u.bare = s.bare ∧ takesIn n.val seq.toNat u t)
      ∧ ∀ l : Slot, Assoc.find? s.slots (32 * n.val + bits tag 0 5) = some l → bits tag 5 12 = l.crew → bits tag 17 8 = l.gen →
        bits tag 25 7 = 0 →
        (l.stale = true ∨ l.gen ≠ s.crewGen l.crew → ∃ u t, exec (.slipCompl n seq tag st data) s = .next t
          ∧ u.get R.CREW_LATE_DISCARD_CNT = counted 32 (s.get R.CREW_LATE_DISCARD_CNT) 1
          ∧ u.slots = Assoc.del s.slots (32 * n.val + bits tag 0 5)
          ∧ s.keeps u [R.CREW_LATE_DISCARD_CNT.key, evtKey 0x40] ∧ u.bare = { s.bare with slots := u.slots }
          ∧ takesIn n.val seq.toNat u t)
        ∧ (∀ kind, l.stale = false → l.gen = s.crewGen l.crew → descError data (s.crewK l.crew) st.toNat = some kind →
          ∃ u t, exec (.slipCompl n seq tag st data) s = .next t
          ∧ u.hasEvt E.CREW_DESC_ERR = true ∧ u.get R.CREW_DESC_ERR_CNT = counted 32 (s.get R.CREW_DESC_ERR_CNT) 1
          ∧ u.get R.CREW_LAST_ERR_CREW = l.crew ∧ u.get R.CREW_LAST_ERR_KIND = kind
          ∧ u.rd (faultKey 0x40) = BitVec.ofNat 32 (1 + kind * 256 + s.time.cn.toNat % 65536 * 65536)
          ∧ u.crewState l.crew = crewQuiescing ∧ u.crewGen l.crew = (l.gen + 1) % 256
          ∧ u.slots = Assoc.del s.slots (32 * n.val + bits tag 0 5)
          ∧ s.keepsPages u [0x40]
          ∧ u.bare = { s.bare with
              slots := u.slots, fetched := u.fetched, dmas := u.dmas, quiesce := u.quiesce, links := u.links, held := u.bare.held }
          ∧ takesIn n.val seq.toNat u t)
        ∧ (l.stale = false → l.gen = s.crewGen l.crew → descError data (s.crewK l.crew) st.toNat = none →
          ∃ u t, exec (.slipCompl n seq tag st data) s = .next t
          ∧ u.slots = Assoc.del s.slots (32 * n.val + bits tag 0 5)
          ∧ u.fetchedOf l.crew = s.fetchedOf l.crew ++ [Desc.mk l.addr (ofLeBytes ((data.drop 8).take 6))
              (ofLeBytes ((data.drop 16).take 4)) (ofLeBytes ((data.drop 20).take 4) % 2 == 1)]
          ∧ (ofLeBytes ((data.drop 20).take 4) / 2 % 2 = 1 → u.crewValid l.crew = false ∧ u.hasEvt E.CREW_LIST_END = true)
          ∧ (ofLeBytes ((data.drop 20).take 4) / 2 % 2 = 0 → u.crewNext l.crew = ofLeBytes ((data.drop 0).take 6)
              ∧ u.crewValid l.crew = true)
          ∧ s.keeps u [(R.CREW_Ew 2 l.crew).key, (R.CREW_Ew 3 l.crew).key, evtKey 0x40]
          ∧ u.bare = { s.bare with slots := u.slots, fetched := u.fetched }
          ∧ takesIn n.val seq.toNat ((u.takeDesc n.val).pump n.val) t))
    ∧ (s.seqClass n.val seq.toNat = 1 → ∀ (crew : BitVec 12) (tv : Bool) (count : BitVec 16) (tail : BitVec 46) (tag : Word)
        (st : Byte) (data : List Byte), ∀ c ∈ [Instr.slipCredit n seq crew tv count tail, Instr.slipCompl n seq tag st data],
      ∃ t, exec c s = .next t ∧ (t.link n.val).nakSent = true
      ∧ ((s.link n.val).nakSent = false → (t.link n.val).rxDue = 0
          ∧ t.get (R.SLIP_STNn_NAK_TX_CNT n.val) = counted 32 (s.get (R.SLIP_STNn_NAK_TX_CNT n.val)) 1
          ∧ sendsControl s t n.val (0x32 :: leBytes 2 (s.lastPerformed n.val) ++ leBytes 1 (s.rxGood n.val)))
      ∧ ((s.link n.val).nakSent = true → t.out = [] ∧ s.keeps t [] ∧ t.bare = s.bare)
      ∧ s.keeps t [(R.SLIP_STNn_NAK_TX_CNT n.val).key, evtKey 0x70]
      ∧ t.bare = { s.bare with links := t.links, laneBusy := t.laneBusy, slipWant := t.slipWant })
    ∧ (s.seqClass n.val seq.toNat = 2 → ∀ (crew : BitVec 12) (tv : Bool) (count : BitVec 16) (tail : BitVec 46) (tag : Word)
        (st : Byte) (data : List Byte), ∀ c ∈ [Instr.slipCredit n seq crew tv count tail, Instr.slipCompl n seq tag st data],
      ∃ t, exec c s = .next t ∧ (t.link n.val).rxDue = 0
      ∧ sendsControl s t n.val (0x31 :: leBytes 2 (s.lastPerformed n.val) ++ leBytes 1 (s.rxGood n.val))
      ∧ s.keeps t [] ∧ t.bare = { s.bare with links := t.links, laneBusy := t.laneBusy, slipWant := t.slipWant })

/-- A packet that is not performed (R325, R334): a wrong CRC counts in CRC_ERR_CNT and is a fault of class 7, a malformed packet is a protocol error;
in UP each is answered with one NAK for the loss. An acknowledgement that is due is sent (R333). A lane that is lost, its receiver no longer ALIGNED or
with code errors in 8 of the last 16 crossings, is a fault of class 8; where the receive-good map changes with it, it is reported at once, or takes the
link down when fewer than two good receivers are left (R340).
Completion of SLIP_PACKET_DAMAGED, ACK_TIMER and SLIP_LANE_LOST is stated here.
Rests on log entry 39. -/
def Obligations.DamageAndLossAreReported : Prop :=
  ∀ (s : State) (n : Fin 8), s.alive = true → s.tablesWf = true →
    (∀ why, s.linkState n.val ≠ slipOff → ∃ t, exec (.slipPacketDamaged n why) s = .next t
      ∧ (why = .crc → t.get (R.SLIP_STNn_CRC_ERR_CNT n.val) = counted 32 (s.get (R.SLIP_STNn_CRC_ERR_CNT n.val)) 1
          ∧ t.get (R.HEALTH_FAULT_CNTc 7) = counted 32 (s.get (R.HEALTH_FAULT_CNTc 7)) 1 ∧ t.hasEvt E.HEALTH_FAULT = true)
      ∧ (why = .proto → t.get (R.SLIP_STNn_PROTO_ERR_CNT n.val) = counted 32 (s.get (R.SLIP_STNn_PROTO_ERR_CNT n.val)) 1
          ∧ t.hasEvt E.SLIP_PROTO_ERR = true)
      ∧ (s.linkState n.val = slipUp → (s.link n.val).nakSent = false → (t.link n.val).nakSent = true
          ∧ t.get (R.SLIP_STNn_NAK_TX_CNT n.val) = counted 32 (s.get (R.SLIP_STNn_NAK_TX_CNT n.val)) 1
          ∧ sendsControl s t n.val (0x32 :: leBytes 2 (s.lastPerformed n.val) ++ leBytes 1 (s.rxGood n.val)))
      ∧ (s.linkState n.val ≠ slipUp ∨ (s.link n.val).nakSent = true →
          t.out = [] ∧ t.bare = s.bare ∧ t.get (R.SLIP_STNn_NAK_TX_CNT n.val) = s.get (R.SLIP_STNn_NAK_TX_CNT n.val))
      ∧ s.keeps t [(R.SLIP_STNn_CRC_ERR_CNT n.val).key, (R.SLIP_STNn_PROTO_ERR_CNT n.val).key,
          (R.SLIP_STNn_NAK_TX_CNT n.val).key, evtKey 0x70, (R.HEALTH_FAULT_CNTc 7).key, faultKey 0x06, evtKey 0x06]
      ∧ t.bare = { s.bare with links := t.links, laneBusy := t.laneBusy, slipWant := t.slipWant })
    ∧ (∀ c, (s.link n.val).ackFrom = some c → s.linkState n.val = slipUp →
      c + max 1 (s.get R.SLIP_CTL_ACK_LAT) ≤ s.time.cr → ∃ t, exec (.ackTimer n) s = .next t
      ∧ (t.link n.val).ackFrom = none ∧ (t.link n.val).rxDue = 0
      ∧ sendsControl s t n.val (0x31 :: leBytes 2 (s.lastPerformed n.val) ++ leBytes 1 (s.rxGood n.val))
      ∧ s.keeps t [] ∧ t.bare = { s.bare with links := t.links, laneBusy := t.laneBusy, slipWant := t.slipWant })
    ∧ ∀ p : Fin 3, s.linkState n.val ≠ slipOff → p.val ∉ (s.link n.val).lost →
      s.rxState ((0x50 + 3 * n.val + p.val) * 4096) ≠ 2 ∨ 8 ≤ s.errCrossings (3 * n.val + p.val) → ∃ t, exec (.slipLaneLost n p) s = .next t
      ∧ p.val ∈ (t.link n.val).lost ∧ t.rxGood n.val / 2 ^ p.val % 2 = 0
      ∧ t.get (R.HEALTH_FAULT_CNTc 8) = counted 32 (s.get (R.HEALTH_FAULT_CNTc 8)) 1 ∧ t.hasEvt E.HEALTH_FAULT = true
      ∧ t.rd (faultKey 0x06) = BitVec.ofNat 32 (8 + (3 * n.val + p.val) * 256 + s.time.cn.toNat % 65536 * 65536)
      ∧ (s.linkState n.val = slipUp → s.rxState ((0x50 + 3 * n.val + p.val) * 4096) = 2 → groupSize3 (t.rxGood n.val) < 2 →
          linkFell n.val s t)
      ∧ (s.linkState n.val = slipUp → s.rxState ((0x50 + 3 * n.val + p.val) * 4096) = 2 → 2 ≤ groupSize3 (t.rxGood n.val) →
          sendsControl s t n.val (0x31 :: leBytes 2 (s.lastPerformed n.val) ++ leBytes 1 (t.rxGood n.val))
          ∧ s.keeps t [(R.HEALTH_FAULT_CNTc 8).key, faultKey 0x06, evtKey 0x06]
          ∧ t.bare = { s.bare with links := t.links, laneBusy := t.laneBusy, slipWant := t.slipWant })
      ∧ (s.linkState n.val ≠ slipUp ∨ s.rxState ((0x50 + 3 * n.val + p.val) * 4096) ≠ 2 →
          t.out = [] ∧ s.keeps t [(R.HEALTH_FAULT_CNTc 8).key, faultKey 0x06, evtKey 0x06]
          ∧ t.bare = { s.bare with links := t.links })

/-- An ACK or NAK says up to which number the peer has performed (R332): an older one acknowledges nothing more, one that claims more than was sent is a protocol
error; else what it acknowledges leaves the replay buffer and lines whose last STATUS is among it are released (R336), its map and HOLD are taken
(R338, R341), and what waits goes on. A NAK begins a replay from the oldest packet left, unless one is under way, and tells a lane bit error that the replay masks
(R335, R414). -/
def Claims.AcknowledgementsEmptyTheBuffer : Prop :=
  ∀ (s : State) (n : Fin 8) (seq : BitVec 12) (map : Byte), s.alive = true → s.tablesWf = true → s.linkState n.val = slipUp →
    ((s.link n.val).replay.length + 2048 ≤ s.unacked n.val seq.toNat → ∀ c ∈ [Instr.slipAck n seq map, Instr.slipNak n seq map],
      ∃ u t, exec c s = .next t
      ∧ u.get (R.SLIP_STNn_PROTO_ERR_CNT n.val) = counted 32 (s.get (R.SLIP_STNn_PROTO_ERR_CNT n.val)) 1
      ∧ u.hasEvt E.SLIP_PROTO_ERR = true ∧ s.keeps u [(R.SLIP_STNn_PROTO_ERR_CNT n.val).key, evtKey 0x70]
      ∧ u.bare = s.bare ∧ goesOn n.val u t)
    ∧ (s.unacked n.val seq.toNat < (s.link n.val).replay.length + 2048 → ∃ u t, exec (.slipAck n seq map) s = .next t
      ∧ u.get (R.SLIP_STNn_STATUS_PEER_RXGOOD n.val) = map.toNat % 8
      ∧ u.flag (R.SLIP_STNn_STATUS_HOLD n.val) = map.getLsbD 3
      ∧ (s.unacked n.val seq.toNat < (s.link n.val).replay.length →
          (u.link n.val).replay = (s.link n.val).replay.drop ((s.link n.val).replay.length - s.unacked n.val seq.toNat)
          ∧ u.get (R.SLIP_STNn_SEQ_TX_ACKED n.val) = seq.toNat ∧ (u.link n.val).timer = s.time.cr
          ∧ u.get (R.SLIP_STNn_REPLAY_PKTS n.val) = s.unacked n.val seq.toNat
          ∧ ∀ h ∈ u.held, h.done = true → u.needed h.id = true)
      ∧ ((s.link n.val).replay.length ≤ s.unacked n.val seq.toNat →
          (u.link n.val).replay = (s.link n.val).replay ∧ u.held = s.held
          ∧ s.keeps u [(R.SLIP_STNn_STATUS_HOLD n.val).key])
      ∧ s.keeps u [(R.SLIP_STNn_STATUS_HOLD n.val).key, (R.SLIP_STNn_SEQ_TX_ACKED n.val).key,
          (R.SLIP_STNn_REPLAY_PKTS n.val).key, (R.SLIP_STNn_REPLAY_BYTES n.val).key]
      ∧ u.bare = { s.bare with links := u.links, held := u.bare.held } ∧ goesOn n.val u t)
    ∧ (s.unacked n.val seq.toNat = (s.link n.val).replay.length →
      (s.link n.val).replay ≠ [] → (s.link n.val).repQ = [] → (s.link n.val).repLeft = 0 → (s.link n.val).reform = false → map.getLsbD 3 = false →
      s.txg n.val &&& map.toNat % 8 = s.txg n.val → (s.link n.val).rowCnt + 1 < s.get R.SLIP_CTL_REPLAY_MAX →
      ∃ u t, exec (.slipNak n seq map) s = .next t
      ∧ u.get (R.SLIP_STNn_REPLAY_CNT n.val) = counted 32 (s.get (R.SLIP_STNn_REPLAY_CNT n.val)) 1
      ∧ (u.link n.val).replay = (s.link n.val).replay ∧ (u.link n.val).timer = s.time.cr
      ∧ faultTold s u 0x07 n.val ∧ u.slipTold = some s.time.catches ∧ (s.slipTold ≠ some s.time.catches → u.hasEvt E.SLIP_REPLAY = true)
      ∧ s.keeps u ([(R.SLIP_STNn_STATUS_HOLD n.val).key, (R.SLIP_STNn_REPLAY_CNT n.val).key, evtKey 0x70] ++ healthKeys 0x07)
      ∧ u.bare = { s.bare with links := u.links, slipTold := u.slipTold, laneBusy := u.laneBusy, slipWant := u.slipWant }
      ∧ goesOn n.val u t)

/-- Time-outs of a link that is UP: REPLAY_TMO crossings without an acknowledgement begin a replay, and the REPLAY_MAXth in a row at one packet takes
the link down (R335; log entry 46); a read without its completion for READ_TMO strokes is counted and told, its slot stays until a late completion,
and its crew is rewound (R339, R298). -/
def Claims.LinkTimeoutsAct : Prop :=
  ∀ (s : State) (n : Fin 8), s.alive = true → s.tablesWf = true →
    (∀ p l, s.linkState n.val = slipUp → (s.link n.val).replay = p :: l → s.flag (R.SLIP_STNn_STATUS_HOLD n.val) = false →
      (s.link n.val).reform = false → (s.link n.val).timer + max 16 (s.get R.SLIP_CTL_REPLAY_TMO) ≤ s.time.cr →
      (((s.link n.val).rowCnt = 0 ∨ (s.link n.val).rowSeq ≠ p.seq) ∧ 1 < s.get R.SLIP_CTL_REPLAY_MAX
        ∨ (s.link n.val).rowSeq = p.seq ∧ (s.link n.val).rowCnt + 1 < s.get R.SLIP_CTL_REPLAY_MAX →
        ∃ u t, exec (.replayTimeout n) s = .next t
        ∧ u.get (R.SLIP_STNn_REPLAY_CNT n.val) = counted 32 (s.get (R.SLIP_STNn_REPLAY_CNT n.val)) 1
        ∧ (u.link n.val).replay = (s.link n.val).replay ∧ (u.link n.val).timer = s.time.cr
        ∧ (s.slipTold ≠ some s.time.catches → u.hasEvt E.SLIP_REPLAY = true)
        ∧ s.keeps u [(R.SLIP_STNn_REPLAY_CNT n.val).key, evtKey 0x70]
        ∧ u.bare = { s.bare with links := u.links, slipTold := u.slipTold, laneBusy := u.laneBusy, slipWant := u.slipWant }
        ∧ goesOn n.val u t)
      ∧ ((s.link n.val).rowSeq = p.seq → (s.link n.val).rowCnt ≠ 0 → s.get R.SLIP_CTL_REPLAY_MAX ≤ (s.link n.val).rowCnt + 1 →
        ∃ t, exec (.replayTimeout n) s = .next t ∧ t.linkState n.val = slipDown ∧ t.hasEvt E.SLIP_LINK_DOWN = true
        ∧ t.get (R.SLIP_STNn_LINKDOWN_CNT n.val) = counted 32 (s.get (R.SLIP_STNn_LINKDOWN_CNT n.val)) 1
        ∧ s.keepsPages t [0x40, 0x70]
        ∧ t.bare = { s.bare with
            links := t.links, slipWant := t.slipWant, laneBusy := t.laneBusy, slipTold := t.slipTold, dmas := t.dmas
            slots := t.slots, fetched := t.fetched, held := t.bare.held }))
    ∧ ∀ (i : Fin 32) l, Assoc.find? s.slots (32 * n.val + i.val) = some l → l.stale = false →
      l.cr + 256 * max 1 (s.get R.SLIP_READ_TMO) ≤ s.time.cr →
      ∃ t, exec (.readTimeout n i) s = .next t
      ∧ t.get (R.SLIP_STNn_READ_TMO_CNT n.val) = counted 32 (s.get (R.SLIP_STNn_READ_TMO_CNT n.val)) 1
      ∧ t.hasEvt E.SLIP_READ_TMO = true
      ∧ Assoc.find? t.slots (32 * n.val + i.val) = some { l with stale := true }
      ∧ (∀ k, k ≠ 32 * n.val + i.val → Assoc.find? t.slots k = Assoc.find? s.slots k)
      ∧ (l.gen = s.crewGen l.crew → t.fetchedOf l.crew = [])
      ∧ (l.gen ≠ s.crewGen l.crew → t.fetched = s.fetched
          ∧ s.keeps t [(R.SLIP_STNn_READ_TMO_CNT n.val).key, evtKey 0x70])
      ∧ s.keeps t [(R.SLIP_STNn_READ_TMO_CNT n.val).key, evtKey 0x70, (R.CREW_Ew 2 l.crew).key, (R.CREW_Ew 3 l.crew).key,
          (R.CREW_Ew 7 l.crew).key, R.CREW_CREDIT_OVF_CNT.key, evtKey 0x40]
      ∧ t.bare = { s.bare with slots := t.slots, fetched := t.fetched }

/-- Acknowledgements, replays and time-outs.
Completion of SLIP_ACK, SLIP_NAK, REPLAY_TIMEOUT and READ_TIMEOUT is stated here.
Rests on log entries 39, 46. -/
def Obligations.LinksAcknowledgeAndReplay : Prop :=
  Claims.AcknowledgementsEmptyTheBuffer ∧ Claims.LinkTimeoutsAct

/-- The state and the outputs of `t` are those of `u`, but for the flags of every core clock. -/
def answers (u t : State) : Prop := u.keeps t [] ∧ t.bare = u.bare ∧ t.out = u.out

/-- STATION_SELECT (R288, R296): an ENABLED station whose link is UP and that has no fragment takes the fragment of its choice for its delivery
crew, seats the crew, takes its first fetched descriptor and begins to write; ALT_CNT counts a fragment that goes to the alternate crew (R287).
Without a seat to be had the station waits and SEAT_WAIT is raised (R296). A paused station whose writes are acknowledged is PAUSED (R297).
Completion of STATION_SELECT and STATION_PAUSED is stated here.
Rests on log entries 38, 55. -/
def Obligations.StationsTakeFragmentsAndPause : Prop :=
  ∀ (s : State) (n : Fin 8), s.alive = true →
    (∀ h c, s.enabled (0x42 + n.val) = true → s.enabled 0x40 = true → s.paused n.val = false → s.linkState n.val = slipUp →
      Assoc.find? s.dmas n.val = none → (s.link n.val).redo = [] → s.choice n.val = some (h, c) →
      ((s.takeSeat c).isSome = true → ∃ u t, exec (.stationSelect n) s = .next t
        ∧ u.dmas = Assoc.put s.dmas n.val (Dma.mk h.id c none 0 0 false false)
        ∧ (u.seatOf c).isSome = true ∧ ((s.seatOf c).isSome = true → u.seats = s.seats ∧ u.fetched = s.fetched)
        ∧ u.get R.CREW_ALT_CNT = (if c = h.crew then s.get R.CREW_ALT_CNT else counted 32 (s.get R.CREW_ALT_CNT) 1)
        ∧ ((s.seatOf c).isSome = true → s.keeps u [R.CREW_ALT_CNT.key, evtKey 0x40])
        ∧ s.keepsPages u [0x40, 0x41]
        ∧ u.bare = { s.bare with
            dmas := u.dmas, seats := u.seats, seatUse := u.seatUse, fetched := u.fetched, spillTold := u.spillTold }
        ∧ answers ((u.takeDesc n.val).pump n.val) t)
      ∧ ((s.takeSeat c).isSome = false → ∃ t, exec (.stationSelect n) s = .next t ∧ t.seatWait = true
        ∧ (s.seatWait = false → t.hasEvt E.SEATS_SEAT_WAIT = true)
        ∧ s.keeps t [evtKey 0x41] ∧ t.bare = { s.bare with seatWait := true }))
    ∧ (s.paused n.val = true → s.enabled (0x42 + n.val) = true → s.pstate (0x42 + n.val) ≠ 2 →
      (∀ p ∈ (s.link n.val).replay, p.write = false) →
      ∃ t, exec (.stationPaused n) s = .next t ∧ t.pstate (0x42 + n.val) = 2 ∧ t.hasEvt (E.STN_PAUSED (0x42 + n.val)) = true
        ∧ s.keeps t [stateKey (0x42 + n.val), evtKey (0x42 + n.val)] ∧ t.bare = s.bare)

/-- DESC_FETCH (R292, R326): for an ENABLED crew of the station with credits and a valid NEXT, fewer than two descriptors held or in progress, no read
outstanding and a free slot within the peer's MAX_READS, the station reads 32 bytes at NEXT under the tag of slot, crew and GEN; one credit and one
sequence number are used, and the packet joins the replay buffer. -/
def Claims.DescriptorsAreFetched : Prop :=
  ∀ (s : State) (n : Fin 8) (c : BitVec 12) (i : Nat), s.alive = true → s.tablesWf = true →
    s.enabled (0x42 + n.val) = true → s.paused n.val = false → s.crewStation c.toNat = n.val → s.canFetch c.toNat = true →
    s.reading c.toNat = false → (s.fetchedOf c.toNat).length + (if s.inProgress c.toNat = true then 1 else 0) < 2 →
    (s.slots.filter (fun e => e.1 / 32 == n.val && !e.2.stale)).length < s.get (R.SLIP_STNn_PEER_CAP_MAX_READS n.val) →
    (s.seatOf c.toNat).isSome = true ∨ s.dmas.any (fun e => e.1 == n.val && e.2.crew == c.toNat) = true →
    (s.takeSeat c.toNat).isSome = true → i < 32 → Assoc.find? s.slots (32 * n.val + i) = none →
    (∀ j, j < i → Assoc.find? s.slots (32 * n.val + j) ≠ none) →
    s.linkTakes n.val = true → s.linkAwake n.val = true → s.replayRoom n.val [19] = true →
    ∃ t p, exec (.descFetch n c) s = .next t
      ∧ p = packet (0x11 :: leBytes 2 (s.get (R.SLIP_STNn_SEQ_TX_NEXT n.val)) ++ (leBytes 6 (s.crewNext c.toNat)
          ++ leBytes 2 32 ++ leBytes 4 (i + c.toNat * 32 + s.crewGen c.toNat * 2 ^ 17)))
      ∧ t.out = [.slip n.val p]
      ∧ t.slots = Assoc.put s.slots (32 * n.val + i)
          (Slot.mk c.toNat (s.crewGen c.toNat) (s.crewNext c.toNat) s.time.cr false)
      ∧ t.crewCredits c.toNat = s.crewCredits c.toNat - 1
      ∧ t.get R.CREW_FETCH_CNT = (s.get R.CREW_FETCH_CNT + 1) % 2 ^ 32
      ∧ t.get (R.SLIP_STNn_SEQ_TX_NEXT n.val) = (s.get (R.SLIP_STNn_SEQ_TX_NEXT n.val) + 1) % 4096
      ∧ t.get (R.SLIP_STNn_PKT_TX_CNT n.val) = (s.get (R.SLIP_STNn_PKT_TX_CNT n.val) + 1) % 2 ^ 32
      ∧ (t.link n.val).replay = (s.link n.val).replay ++ [⟨s.get (R.SLIP_STNn_SEQ_TX_NEXT n.val), p, false⟩]
      ∧ s.keepsPages t [0x40, 0x41, 0x70]
      ∧ t.bare = { s.bare with
          slots := t.slots, links := t.links, laneBusy := t.laneBusy, slipWant := t.slipWant, seats := t.seats
          seatUse := t.seatUse, fetched := t.fetched, spillTold := t.spillTold }

/-- STATUS [61:56] of a part (R293): complete, more follows, first, truncated, shed, and whether its read met a double-bit error (R280). -/
def statusBits (h : Held) (d : Dma) (more gone : Bool) : Nat :=
  1 + (if more = true then 2 else 0) + (if d.base = 0 then 4 else 0) + (if gone = true then 8 else 0)
    + (if h.shed = true then 16 else 0)
    + (if d.met = true then 32 else 0)

/-- DESC_COMPLETE (R293): the STATUS write, and NOTIFY where the descriptor asks for it, of a part whose bytes are written; HEAD moves on and DESC_CNT
counts. The last part completes the fragment, a part with more to come goes on with the crew's next descriptor, and a part that was stopped, or
whose crew has left ENABLED with no descriptor left, is the last and the fragment is truncated (R298). A descriptor that restarts after link-up gets
its STATUS again, once its crew is seated (R296, R345). -/
def Claims.DescriptorsComplete : Prop :=
  ∀ (s : State) (n : Fin 8), s.alive = true → s.tablesWf = true → s.paused n.val = false →
    (∀ d x h, (s.link n.val).redo = [] → Assoc.find? s.dmas n.val = some d → d.desc = some x → s.heldOf d.held = some h →
      d.stop = true ∨ s.partLen d.held d.base x ≤ d.sent → (s.mayStart n.val (s.statusSizes n.val x)).1 = true →
      let more := decide (d.base + d.sent < 8 * h.words.length)
      let gone := d.stop || (more && s.crewState d.crew != crewEnabled && (s.fetchedOf d.crew).isEmpty)
      let w := ((s.begin_.mayStart n.val (s.statusSizes n.val x)).2).sendStatus n.val d.held d.crew x d.base d.sent (statusBits h d more gone)
      ∃ u t, exec (.descComplete n) s = .next t
        ∧ u.crewGet d.crew 4 0 32 + u.crewGet d.crew 5 0 14 * 2 ^ 32 = (x.ofs + d.sent) % 2 ^ s.crewK d.crew % 2 ^ 46
        ∧ u.get (R.STN_DESC_CNT (0x42 + n.val)) = (s.get (R.STN_DESC_CNT (0x42 + n.val)) + 1) % 2 ^ 32
        ∧ u.out = w.out ∧ u.bare = { w.bare with dmas := u.dmas, held := u.bare.held }
        ∧ (gone = true → u.hasEvt E.CREW_TRUNC = true ∧ u.get R.CREW_TRUNC_CNT = counted 32 (s.get R.CREW_TRUNC_CNT) 1
            ∧ u.dmas = Assoc.del s.dmas n.val ∧ u.held = s.held ∧ answers u t)
        ∧ (gone = false → more = true → u.dmas = Assoc.put s.dmas n.val { d with desc := none, sent := 0, base := d.base + d.sent }
            ∧ u.held = s.held ∧ answers ((u.takeDesc n.val).pump n.val) t)
        ∧ (gone = false → more = false → u.dmas = Assoc.del s.dmas n.val
            ∧ u.held = s.held.map (fun h => if h.id = d.held then { h with done := true } else h)
            ∧ u.get (R.STN_FRAG_CNT (0x42 + n.val)) = (s.get (R.STN_FRAG_CNT (0x42 + n.val)) + 1) % 2 ^ 32 ∧ answers u t)
        ∧ w.keeps u [(R.CREW_Ew 4 d.crew).key, (R.CREW_Ew 5 d.crew).key, R.CREW_TRUNC_CNT.key, evtKey 0x40,
            (R.STN_DESC_CNT (0x42 + n.val)).key, (R.STN_FRAG_CNT (0x42 + n.val)).key, evtKey (0x42 + n.val)])
    ∧ ∀ j l, (s.link n.val).redo = j :: l → j.bytes ≤ (s.link n.val).redoSent →
      (∀ v, s.begin_.seated j.crew = some v → (v.mayStart n.val (v.statusSizes n.val j.desc)).1 = true →
        ∃ u t, exec (.descComplete n) s = .next t ∧ (u.link n.val).redo = l ∧ (u.link n.val).redoSent = 0
          ∧ v.keeps u [(R.SLIP_STNn_STATUS_REPLAY_FULL n.val).key] ∧ u.bare = { v.bare with links := u.links } ∧ u.out = []
          ∧ answers ((u.sendStatus n.val j.held j.crew j.desc j.base j.bytes j.bits).pump n.val) t)
      ∧ (s.begin_.seated j.crew = none → ∃ t, exec (.descComplete n) s = .next t ∧ t.seatWait = true
        ∧ (s.seatWait = false → t.hasEvt E.SEATS_SEAT_WAIT = true)
        ∧ s.keeps t [evtKey 0x41] ∧ t.bare = { s.bare with seatWait := true })

/-- A QUIESCING crew with nothing in progress becomes QUIESCED, or DISABLED and cleared after RESET, or ENABLED where an ENABLE waited (R298); a read
still outstanding delays it for 4,096 crossings, after which its slots are stale and QUIESCE_TIMEOUT_CNT counts. -/
def Claims.CrewsBecomeQuiet : Prop :=
  ∀ (s : State) (c : BitVec 12), s.alive = true → s.crewState c.toNat = crewQuiescing → s.inProgress c.toNat = false →
    (s.reading c.toNat = true → (Assoc.find? s.quiesce c.toNat).getD 0 + 4096 ≤ s.time.cr) →
    ∃ t, exec (.quiesceEnd c) s = .next t ∧ t.hasEvt E.CREW_QUIESCED = true
      ∧ t.crewState c.toNat = (if s.crewGet c.toNat 5 28 1 = 1 then crewEnabled
          else if s.crewGet c.toNat 5 29 1 = 1 then crewDisabled else crewQuiesced)
      ∧ t.crewGet c.toNat 5 28 1 = 0 ∧ t.crewGet c.toNat 5 29 1 = 0 ∧ t.crewGen c.toNat = s.crewGen c.toNat
      ∧ (s.crewGet c.toNat 5 29 1 = 1 → t.crewCredits c.toNat = 0 ∧ t.crewValid c.toNat = false
          ∧ t.crewGet c.toNat 4 0 32 = 0 ∧ t.crewGet c.toNat 5 0 14 = 0 ∧ t.crewGet c.toNat 6 0 32 = 0 ∧ t.crewGet c.toNat 7 0 14 = 0)
      ∧ (s.crewGet c.toNat 5 29 1 = 0 → s.keeps t [(R.CREW_Ew 5 c.toNat).key, evtKey 0x40, R.CREW_QUIESCE_TIMEOUT_CNT.key])
      ∧ (s.reading c.toNat = false → t.slots = s.slots ∧ t.get R.CREW_QUIESCE_TIMEOUT_CNT = s.get R.CREW_QUIESCE_TIMEOUT_CNT)
      ∧ (s.reading c.toNat = true → t.reading c.toNat = false
          ∧ t.slots.length = s.slots.length
          ∧ t.get R.CREW_QUIESCE_TIMEOUT_CNT = counted 32 (s.get R.CREW_QUIESCE_TIMEOUT_CNT) 1)
      ∧ s.keeps t [(R.CREW_Ew 3 c.toNat).key, (R.CREW_Ew 4 c.toNat).key, (R.CREW_Ew 5 c.toNat).key, (R.CREW_Ew 6 c.toNat).key,
          (R.CREW_Ew 7 c.toNat).key, evtKey 0x40, R.CREW_QUIESCE_TIMEOUT_CNT.key]
      ∧ t.bare = { s.bare with slots := t.slots, quiesce := Assoc.del s.quiesce c.toNat }

/-- A descriptor from its fetch to its STATUS, and crews that become quiet.
Completion of DESC_FETCH, DESC_COMPLETE and QUIESCE_END is stated here.
Rests on log entries 38, 45. -/
def Obligations.DescriptorsAreFetchedAndComplete : Prop :=
  Claims.DescriptorsAreFetched ∧ Claims.DescriptorsComplete ∧ Claims.CrewsBecomeQuiet

/-- What becomes of a trigger of a local source `src`, of prescale `p` (none for AUTO), offered by a command that leads from `s` to `t` (R217, R232):
outside a run it is dropped; while ACQ is DISABLED it counts in DISABLED_CNT; it is prescaled; and it joins the accept queue with its type, anchor,
window and event number, or counts in QUEUE_FULL_CNT. -/
def localOutcome (s t : State) (src type : Nat) (p : Option Nat) (anchor : Int) : Prop :=
  (s.running = false → t.accQ = s.accQ ∧ t.presc = s.presc ∧ t.evNo = s.evNo)
    ∧ (s.running = true → s.enabled 0x30 = false → t.accQ = s.accQ ∧ t.presc = s.presc ∧ t.evNo = s.evNo
        ∧ t.get R.ACQ_DISABLED_CNT = counted 32 (s.get R.ACQ_DISABLED_CNT) 1)
    ∧ (s.running = true → s.enabled 0x30 = true → ∀ q, p = some q →
        Assoc.getD (fun _ => 0) s.presc src ≠ 0 → Assoc.getD (fun _ => 0) s.presc src < s.prescale q →
        t.accQ = s.accQ ∧ t.presc = Assoc.put s.presc src (Assoc.getD (fun _ => 0) s.presc src + 1) ∧ t.evNo = s.evNo
        ∧ t.get R.ACQ_PRESCALED_CNT = counted 32 (s.get R.ACQ_PRESCALED_CNT) 1)
    ∧ (s.running = true → s.enabled 0x30 = true →
        (∀ q, p = some q → Assoc.getD (fun _ => 0) s.presc src = 0 ∨ s.prescale q ≤ Assoc.getD (fun _ => 0) s.presc src) →
        (∀ q, p = some q → Assoc.find? t.presc src = some 1)
        ∧ (256 ≤ s.accQ.length → t.accQ = s.accQ ∧ t.evNo = s.evNo ∧ t.hasEvt E.ACQ_QUEUE_FULL = true
            ∧ t.get R.ACQ_QUEUE_FULL_CNT = counted 32 (s.get R.ACQ_QUEUE_FULL_CNT) 1)
        ∧ (s.accQ.length < 256 → ∃ e, t.accQ = s.accQ ++ [e] ∧ e.src = src ∧ e.type = type ∧ e.anchor = anchor
            ∧ e.ofs = s.geti (R.ACQ_TYPEt_OFS type) ∧ e.len = s.get (R.ACQ_TYPEt_LEN type)
            ∧ e.evNo = s.evNo ∧ t.evNo = (s.evNo + 1) % 65536 ∧ t.autoCnt = 0
            ∧ t.get R.ACQ_ENQ_CNT = (s.get R.ACQ_ENQ_CNT + 1) % 2 ^ 32
            ∧ t.get R.ACQ_QUEUE_LEVEL_HIGH = max (s.get R.ACQ_QUEUE_LEVEL_HIGH) (s.accQ.length + 1) % 2 ^ 9))

/-- A START input that is enabled (R225, R226): an edge that can be stamped, the first of its crossing, counts in EDGE_CNT, latches LAST, fires its
source, and with TRIG will become a trigger; any other edge counts in START_DOUBLE_CNT and is told. -/
def Claims.StartEdgesAreStamped : Prop :=
  ∀ (s : State) (n : Fin 4) (fine : BitVec 12) (stampable : Bool), s.alive = true → s.enabled 0x31 = true →
    s.flag (R.START_INs_CTL_EN n.val) = true →
    (stampable = false ∨ Assoc.find? s.startLast n.val = some s.time.cr → ∃ t, exec (.startEdge n fine stampable) s = .next t
      ∧ t.get (R.START_DOUBLE_CNTs n.val) = counted 32 (s.get (R.START_DOUBLE_CNTs n.val)) 1 ∧ t.hasEvt E.START_DOUBLE = true
      ∧ s.keeps t [(R.START_DOUBLE_CNTs n.val).key, evtKey 0x31] ∧ t.bare = s.bare)
    ∧ (stampable = true → Assoc.find? s.startLast n.val ≠ some s.time.cr → ∃ t, exec (.startEdge n fine stampable) s = .next t
      ∧ t.get (R.START_EDGE_CNTs n.val) = (s.get (R.START_EDGE_CNTs n.val) + 1) % 2 ^ 32
      ∧ t.get (R.START_INs_LAST_FINE n.val) = fine.toNat
      ∧ t.get (R.START_INs_LAST_CN_LO n.val) = s.time.cn.toNat % 65536
      ∧ t.startLast = Assoc.put s.startLast n.val s.time.cr
      ∧ t.startQ = (if s.flag (R.START_INs_CTL_TRIG n.val) = true then s.startQ ++ [(s.time.cr, n.val, fine.toNat)] else s.startQ)
      ∧ (0x08 + n.val, fine.toNat / 256) ∈ t.fired
      ∧ s.keeps t ((R.START_EDGE_CNTs n.val).key :: (R.START_INs_LAST_FINE n.val).key :: evtKey 0x31 :: evtKey 0x0C :: captureKeys)
      ∧ t.still = { s.still with startLast := t.startLast, startQ := t.startQ })

/-- The self-trigger decision for crossing n − 26 (R230), under the settings in force at the decision (R425): while SELF is DISABLED, without a hub hit,
or within HOLDOFF of the last, nothing; a hit without its coincidence counts in COINC_FAIL_CR; else SELF_TRIG_CNT counts and the trigger is offered,
anchored at its crossing, and one that joins the queue is told and fires its source. Auto mode (R231): at a catch, TIMEOUT catches after a trigger last
entered, a run gets a trigger anchored at the catch; AUTO_CNT and AUTO_FIRED tell of it. A START edge due in the crossing becomes a trigger before either
(R217, R226): of its input's type, at the crossing of T', its time less the input's DELAY. -/
def Claims.HubTriggersAreMade : Prop :=
  ∀ s : State, s.alive = true →
    (∀ n, noStarts s → s.time.cr = n + 26 → s.selfSeen ≠ some n →
      let held := match s.selfLast with
        | none => false
        | some l => decide (n ≤ l + s.get R.SELF_CTL_HOLDOFF)
      (s.enabled 0x32 = false ∨ Assoc.getD (fun _ => 0) s.hits n = 0 ∨ held = true → ∃ t, exec .selfTrigger s = .next t
        ∧ t.selfSeen = some n ∧ s.keeps t [] ∧ t.bare = { s.bare with selfSeen := some n })
      ∧ (s.enabled 0x32 = true → Assoc.getD (fun _ => 0) s.hits n ≠ 0 → held = false → s.flag R.SELF_CTL_COINC_EN = true →
        s.coincides n = false → ∃ t, exec .selfTrigger s = .next t ∧ t.get R.SELF_COINC_FAIL_CR = counted 32 (s.get R.SELF_COINC_FAIL_CR) 1
        ∧ t.get R.SELF_COINC_BLOCKED_CR
          = (if (List.range 4).any (fun j => s.flag (R.NEIGH_PORTj_CTL_COINC j) && !s.eligible j) = true then
              counted 32 (s.get R.SELF_COINC_BLOCKED_CR) 1 else s.get R.SELF_COINC_BLOCKED_CR)
        ∧ s.keeps t [R.SELF_COINC_FAIL_CR.key, R.SELF_COINC_BLOCKED_CR.key, evtKey 0x32]
        ∧ t.bare = { s.bare with selfSeen := some n, coincTold := t.coincTold })
      ∧ (s.enabled 0x32 = true → Assoc.getD (fun _ => 0) s.hits n ≠ 0 → held = false →
        s.flag R.SELF_CTL_COINC_EN = false ∨ s.coincides n = true → ∃ t, exec .selfTrigger s = .next t ∧ t.get R.SELF_TRIG_CNT = (s.get R.SELF_TRIG_CNT + 1) % 2 ^ 32
        ∧ t.selfLast = some n
        ∧ localOutcome s t 5 (s.get R.SELF_CTL_TYPE) (some (s.get R.SELF_PRESCALE)) n
        ∧ (s.accQ.length < t.accQ.length → t.hasEvt E.SELF_TRIG = true ∧ (0x15, 0) ∈ t.fired)
        ∧ s.keepsPages t [0x0C, 0x30, 0x32]
        ∧ t.still = { s.still with
            selfSeen := some n, selfLast := some n, presc := t.presc, accQ := t.accQ, evNo := t.evNo, autoCnt := t.autoCnt }))
    ∧ (∀ (c fine : Nat) (i : Fin 4), s.startQ = [(c, i.val, fine)] → c + 3 ≤ s.time.cr → s.autoDue = false →
      ∃ t, exec .autoTrigger s = .next t ∧ t.startQ = []
      ∧ localOutcome s t (1 + i.val) (s.get (R.START_INs_CTL_TYPE i.val)) (some (s.get (R.START_INs_PRESCALE i.val)))
          ((((4096 * c + fine : Nat) : Int) - s.get (R.START_INs_DELAY i.val)) / 4096)
      ∧ s.keepsPages t [0x30]
      ∧ t.bare = { s.bare with startQ := [], presc := t.presc, accQ := t.accQ, evNo := t.evNo, autoCnt := t.autoCnt })
    ∧ (noStarts s → s.autoDue = true → s.time.lastCatch = s.time.cr →
      s.time.catchDue = false → 0 < s.time.catches → ∃ t, exec .autoTrigger s = .next t ∧ t.autoCnt = 0 ∧ t.autoDue = false
      ∧ localOutcome s t 6 (s.get R.ACQ_AUTO_TYPE) none s.time.cr
      ∧ (s.running = true → s.enabled 0x30 = true → t.hasEvt E.ACQ_AUTO_FIRED = true
          ∧ t.get R.ACQ_AUTO_CNT = counted 32 (s.get R.ACQ_AUTO_CNT) 1 ∧ (0x16, 0) ∈ t.fired)
      ∧ (s.running = false → s.keeps t [])
      ∧ s.keepsPages t [0x0C, 0x30] ∧ t.still = { s.still with accQ := t.accQ, evNo := t.evNo, autoCnt := 0, autoDue := false })

/-- Triggers of the START inputs, the self-trigger and auto mode.
Completion of START_EDGE, SELF_TRIGGER and AUTO_TRIGGER is stated here.
Rests on log entries 26, 31. -/
def Obligations.TriggersAreMade : Prop :=
  Claims.StartEdgesAreStamped ∧ Claims.HubTriggersAreMade

/-- A neighbour port (R233 to R236): training ends in MEASURE, or after 16 st counts in TRAIN_FAIL_CNT and begins again; in MEASURE the peer's catch
word measures RX_DELAY, and under 15 cr, with AUTO or the right COARSE and FINE, the port runs and tells RECAL_DONE, else it tells ALIGN_ERR and trains, or
tells RANGE; a running link that is lost trains. A word of wrong parity counts, presents no hit and no SETTLED, and the sixteenth within 256 crossings ends
RUN; a good one in RUN gives SETTLED, its hit for 22 crossings ago and, from position 1 to 32, a bit of the peer's message; the second CATCH in a row that
the peer's catch words do not bring ends RUN.
Completion of NEIGH_WORD, NEIGH_TRAINED, NEIGH_TRAIN_TIMEOUT, NEIGH_CATCH_WORD and NEIGH_LINK_DOWN is stated here.
Rests on log entry 32. -/
def Obligations.NeighbourPortsTrainAndListen : Prop :=
  ∀ (s : State) (j : Fin 4), s.alive = true →
    (s.nbState j.val = 1 → ∃ t, exec (.neighTrained j) s = .next t ∧ t.nbState j.val = 2
      ∧ s.keeps t [(R.NEIGH_PORTj_STATUS_STATE j.val).key]
      ∧ t.bare = { s.bare with nbSt := t.nbSt, nbMsg := t.nbMsg, nbErrs := t.nbErrs, nbMiss := t.nbMiss })
    ∧ (s.nbState j.val = 1 → Assoc.getD (fun _ => 0) s.nbSt j.val + 16 ≤ s.time.catches →
      ∃ t, exec (.neighTrainTimeout j) s = .next t ∧ t.nbState j.val = 1
      ∧ t.get (R.NEIGH_TRAIN_FAIL_CNTj j.val) = counted 32 (s.get (R.NEIGH_TRAIN_FAIL_CNTj j.val)) 1
      ∧ Assoc.find? t.nbSt j.val = some s.time.catches
      ∧ s.keeps t [(R.NEIGH_TRAIN_FAIL_CNTj j.val).key, evtKey 0x33]
      ∧ t.bare = { s.bare with nbSt := t.nbSt, nbMsg := t.nbMsg, nbErrs := t.nbErrs, nbMiss := t.nbMiss })
    ∧ (s.nbState j.val = 3 → ∃ t, exec (.neighLinkDown j) s = .next t ∧ t.nbState j.val = 1
      ∧ t.flag (R.NEIGH_PORTj_STATUS_PEER_SETTLED j.val) = false ∧ t.hasEvt E.NEIGH_LINK_DOWN = true
      ∧ s.keeps t [(R.NEIGH_PORTj_STATUS_STATE j.val).key, evtKey 0x33]
      ∧ t.bare = { s.bare with nbSt := t.nbSt, nbMsg := t.nbMsg, nbErrs := t.nbErrs, nbMiss := t.nbMiss })
    ∧ (∀ delay : BitVec 20, s.nbState j.val = 2 → ∃ t, exec (.neighCatchWord j delay) s = .next t
      ∧ t.get (R.NEIGH_PORTj_RX_DELAY j.val) = delay.toNat
      ∧ (61440 ≤ delay.toNat → t.nbState j.val = 2 ∧ t.hasEvt E.NEIGH_RANGE = true
          ∧ t.rd (faultKey 0x33) = BitVec.ofNat 32 (1 + j.val * 256 + s.time.cn.toNat % 65536 * 65536))
      ∧ (delay.toNat < 61440 → s.flag (R.NEIGH_PORTj_CTL_AUTO j.val) = true →
          t.get (R.NEIGH_PORTj_COMP_COARSE j.val) = 14 - delay.toNat / 4096
          ∧ t.get (R.NEIGH_PORTj_COMP_FINE j.val) = ((delay.toNat + 256) % 4096 + 32) / 64 % 64)
      ∧ (delay.toNat < 61440 → s.flag (R.NEIGH_PORTj_CTL_AUTO j.val) = true
            ∨ (s.get (R.NEIGH_PORTj_COMP_COARSE j.val) = 14 - delay.toNat / 4096
              ∧ State.fineAligns delay.toNat (s.get (R.NEIGH_PORTj_COMP_FINE j.val)) = true) →
          t.nbState j.val = 3 ∧ t.flag (R.NEIGH_PORTj_STATUS_RECAL_DONE j.val) = true ∧ t.hasEvt E.NEIGH_RECAL_DONE = true)
      ∧ (delay.toNat < 61440 → s.flag (R.NEIGH_PORTj_CTL_AUTO j.val) = false →
          s.get (R.NEIGH_PORTj_COMP_COARSE j.val) ≠ 14 - delay.toNat / 4096
            ∨ State.fineAligns delay.toNat (s.get (R.NEIGH_PORTj_COMP_FINE j.val)) = false →
          t.nbState j.val = 1 ∧ t.hasEvt E.NEIGH_ALIGN_ERR = true)
      ∧ s.keeps t [(R.NEIGH_PORTj_RX_DELAY j.val).key, (R.NEIGH_PORTj_COMP_COARSE j.val).key,
          (R.NEIGH_PORTj_STATUS_STATE j.val).key, evtKey 0x33, faultKey 0x33, (R.SYNC_CABLE_LENp (2 + j.val)).key]
      ∧ t.bare = { s.bare with nbSt := t.nbSt, nbMsg := t.nbMsg, nbErrs := t.nbErrs, nbMiss := t.nbMiss, free := t.free })
    ∧ ∀ w : Byte,
      let c := (s.time.cn - 16).toNat % 256
      let missed := Assoc.getD (fun _ => 0) s.nbMiss j.val
      let bad := (s.time.cr :: Assoc.getD (fun _ => []) s.nbErrs j.val).filter (fun t => decide (s.time.cr < t + 256))
      (2 ≤ s.nbState j.val → ones w % 2 = 0 → ∃ t, exec (.neighWord j w) s = .next t
        ∧ t.get (R.NEIGH_PARITY_CNTj j.val) = counted 32 (s.get (R.NEIGH_PARITY_CNTj j.val)) 1
        ∧ t.hasEvt E.NEIGH_PARITY = true ∧ t.flag (R.NEIGH_PORTj_STATUS_PEER_SETTLED j.val) = false
        ∧ Assoc.find? t.nbMsg j.val = none
        ∧ (s.nbState j.val = 3 → 16 ≤ bad.length ∨ (c = 0 ∧ 1 ≤ missed) →
            t.nbState j.val = 1 ∧ t.hasEvt E.NEIGH_LINK_DOWN = true ∧ Assoc.find? t.nbErrs j.val = none)
        ∧ (s.nbState j.val = 3 → bad.length < 16 → c ≠ 0 ∨ missed = 0 →
            t.nbState j.val = 3 ∧ Assoc.find? t.nbErrs j.val = some bad
            ∧ Assoc.getD (fun _ => 0) t.nbMiss j.val = (if c = 0 then 1 else missed))
        ∧ (s.nbState j.val ≠ 3 → t.nbState j.val = s.nbState j.val ∧ t.nbErrs = s.nbErrs ∧ t.nbMiss = s.nbMiss)
        ∧ s.keeps t [(R.NEIGH_PARITY_CNTj j.val).key, (R.NEIGH_PORTj_STATUS_STATE j.val).key, evtKey 0x33]
        ∧ t.bare = { s.bare with nbSt := t.nbSt, nbMsg := t.nbMsg, nbErrs := t.nbErrs, nbMiss := t.nbMiss })
      ∧ (s.nbState j.val = 3 → ones w % 2 = 1 → ∃ t, exec (.neighWord j w) s = .next t
        ∧ (c = 0 → w.getLsbD 7 = false → 1 ≤ missed → t.nbState j.val = 1 ∧ t.hasEvt E.NEIGH_LINK_DOWN = true
            ∧ t.flag (R.NEIGH_PORTj_STATUS_PEER_SETTLED j.val) = false)
        ∧ (c ≠ 0 ∨ w.getLsbD 7 = true ∨ missed = 0 → t.nbState j.val = 3
            ∧ t.flag (R.NEIGH_PORTj_STATUS_PEER_SETTLED j.val) = w.getLsbD 6 ∧ t.nbErrs = s.nbErrs ∧ t.nbSt = s.nbSt
            ∧ Assoc.getD (fun _ => 0) t.nbMiss j.val = (if c ≠ 0 then missed else if w.getLsbD 7 = true then 0 else 1))
        ∧ t.nbHits = (if w.toNat % 16 ≠ 0 ∧ 22 ≤ s.time.cr then
            Assoc.put s.nbHits ((s.time.cr - 22) * 4 + j.val) (w.toNat % 16) else s.nbHits)
        ∧ (32 < c → t.nbMsg = s.nbMsg ∧ s.keeps t [(R.NEIGH_PORTj_STATUS_STATE j.val).key])
        ∧ (c = 1 → Assoc.find? t.nbMsg j.val = some (1, if w.getLsbD 5 = true then 1 else 0))
        ∧ (∀ m, c = 32 → Assoc.find? s.nbMsg j.val = some (31, m) →
            Assoc.find? t.nbMsg j.val = none
            ∧ t.get (R.NEIGH_PEER_DELAYj j.val) = m % 2 ^ 20
            ∧ t.get (R.NEIGH_PORTj_STATUS_PEER_VALID j.val) = m / 2 ^ 20 % 2
            ∧ t.get (R.NEIGH_PORTj_STATUS_PEER_PORT j.val) = m / 2 ^ 21 % 4)
        ∧ s.keeps t [(R.NEIGH_PORTj_STATUS_STATE j.val).key, (R.NEIGH_PEER_DELAYj j.val).key,
            (R.SYNC_CABLE_LENp (2 + j.val)).key, evtKey 0x33]
        ∧ t.bare = { s.bare with
            nbSt := t.nbSt, nbMsg := t.nbMsg, nbErrs := t.nbErrs, nbMiss := t.nbMiss, nbHits := t.nbHits, free := t.free })

/-- A step of power-up calibration ends at a catch when every slice has converged, or at its time-out with the slices that have not (R138): step 1 to
4 lead to the next; step 5 of a first attempt with failures leads to a second attempt from step 1 on the slices that failed (R139); else
calibration is done: a slice that failed twice or was found stuck is BAD, one that failed once SUSPECT, and the slices are assigned (R139, R141). The same
row ends a step of a spare's self-test (R149, log entry 25): within the step's budget the spare that has converged goes on to the next, and one that
has not when the budget is spent has failed. -/
def Claims.PowerUpCalibrationEnds : Prop :=
  ∀ (s : State) (b : Fin 24) (failed : List (Fin 33)), s.tablesWf = true → s.atCatch = true →
    ((s.bank b.val).spare = spSelftest → (s.bank b.val).step < 6 → (s.bank b.val).stepSt < s.time.catches →
      let spent := s.time.catches - (s.bank b.val).stepSt
      (spent ≤ State.stBudget (s.bank b.val).step → (32 : Fin 33) ∉ failed → ∃ t, exec (.puCalStepEnd b failed) s = .next t
        ∧ t.banks = s.banks.set b.val { s.bank b.val with step := (s.bank b.val).step + 1, stepSt := s.time.catches }
        ∧ s.keeps t [] ∧ t.bare = { s.bare with banks := t.banks })
      ∧ (State.stBudget (s.bank b.val).step ≤ spent → State.stBudget (s.bank b.val).step < spent ∨ (32 : Fin 33) ∈ failed →
        ∃ t, exec (.puCalStepEnd b failed) s = .next t ∧ t.banks = s.banks.set b.val { s.bank b.val with step := 7 }
        ∧ s.keeps t [] ∧ t.bare = { s.bare with banks := t.banks }))
    ∧ ((s.bank b.val).spare = spPowerup → (s.bank b.val).attempt ≠ 0 → (s.bank b.val).stepSt < s.time.catches →
    failed = [] ∨ (s.bank b.val).stepSt + puTimeout (s.bank b.val).step ≤ s.time.catches →
    let all := (s.bank b.val).failed ++ (failed.map (·.val)).filter (fun sl => !(s.bank b.val).failed.contains sl)
    ((s.bank b.val).step < 5 → ∃ t, exec (.puCalStepEnd b failed) s = .next t
      ∧ t.banks = s.banks.set b.val { s.bank b.val with
          failed := all, step := (s.bank b.val).step + 1, stepSt := s.time.catches }
      ∧ s.keeps t [] ∧ t.bare = { s.bare with banks := t.banks })
    ∧ (5 ≤ (s.bank b.val).step → (s.bank b.val).attempt = 1 → all ≠ [] → ∃ t, exec (.puCalStepEnd b failed) s = .next t
      ∧ t.banks = s.banks.set b.val { s.bank b.val with
          attempt := 2, step := 1, stepSt := s.time.catches, second := all, failed := [] }
      ∧ s.keeps t [] ∧ t.bare = { s.bare with banks := t.banks })
    ∧ (5 ≤ (s.bank b.val).step → (s.bank b.val).attempt ≠ 1 ∨ all = [] →
      ∃ u t, exec (.puCalStepEnd b failed) s = .next t
      ∧ (u.bank b.val).puDone = true ∧ (u.bank b.val).spare = spIdle ∧ u.hasEvt E.CAL_PU_DONE = true
      ∧ (∀ sl, sl < 33 → (u.bank b.val).healthOf sl
          = if sl ∈ (s.bank b.val).stuckPu ∨ (sl ∈ (s.bank b.val).second ∧ sl ∈ all) then 2
            else if sl ∈ (s.bank b.val).second then 1 else 0)
      ∧ ((u.bank b.val).anyBad = true → u.hasEvt E.CAL_BAD = true
          ∧ u.rd (faultKey 0x07) = BitVec.ofNat 32 (3 + b.val * 256 + s.time.cn.toNat % 65536 * 65536))
      ∧ s.keeps u [evtKey 0x07, faultKey 0x07] ∧ u.bare = { s.bare with banks := u.banks } ∧ answers (u.assign b.val) t))

/-- The comparator's verdict of an overlap once its 512 pairs are taken or its stroke is over (R144, R146): with fewer than 128 pairs left it passes and
counts in INCONCLUSIVE_CNT; else it passes within the limits on mean and rms, and a failure counts in CMP_FAIL_CNT and is a fault of class 2, and 6 on HEALTH. -/
def Claims.OverlapsAreCompared : Prop :=
  ∀ (s : State) (b : Fin 24), s.alive = true → State.comparing (s.bank b.val) = true → (s.bank b.val).ovl = none →
    (s.bank b.val).cmp.seen = 512 ∨ s.time.catchDue = true ∨ s.resyncDue = true →
    let verdict := s.compareVerdict (s.bank b.val).cmp
    ∃ t, exec (.overlapCompare b (s.bank b.val).cmp.seen) s = .next t
      ∧ t.banks = s.banks.set b.val { s.bank b.val with ovl := some (verdict.getD true) }
      ∧ t.get R.CAL_INCONCLUSIVE_CNT = (if verdict = none then counted 32 (s.get R.CAL_INCONCLUSIVE_CNT) 1
          else s.get R.CAL_INCONCLUSIVE_CNT)
      ∧ (verdict ≠ some false → s.keeps t [R.CAL_INCONCLUSIVE_CNT.key, evtKey 0x07])
      ∧ (verdict = some false → t.hasEvt E.CAL_CMP_FAIL = true
          ∧ t.get R.CAL_CMP_FAIL_CNT = counted 32 (s.get R.CAL_CMP_FAIL_CNT) 1
          ∧ t.rd (faultKey 0x07) = BitVec.ofNat 32 (2 + b.val * 256 + s.time.cn.toNat % 65536 * 65536)
          ∧ t.hasEvt E.HEALTH_FAULT = true
          ∧ t.rd (faultKey 0x06) = BitVec.ofNat 32 (6 + b.val * 256 + s.time.cn.toNat % 65536 * 65536)
          ∧ s.keeps t [R.CAL_CMP_FAIL_CNT.key, evtKey 0x07, faultKey 0x07, (R.HEALTH_FAULT_CNTc 6).key, evtKey 0x06, faultKey 0x06])
      ∧ t.bare = { s.bare with banks := t.banks }

/-- Power-up calibration, and the comparison of an overlap.
Completion of PU_CAL_STEP_END and OVERLAP_COMPARE is stated here.
Rests on log entry 25. -/
def Obligations.CalibrationAndOverlapsEnd : Prop :=
  Claims.PowerUpCalibrationEnds ∧ Claims.OverlapsAreCompared

/-- A self-test of a spare ends 512 st after it began (R149): counted; it has passed if every step was told to have converged, has failed if one was not, and
is judged by the row where steps were not told (log entry 25); a failure is told and the spare fails. After a self-test that an
overlap asked for, a spare that passed makes the overlap's slice fail and puts its channel at the head of the CAL.NOW queue, which refuses what it
cannot hold (R146). What the bank does next follows (R141 to R149). -/
def Claims.SpareSelfTestsEnd : Prop :=
  ∀ (s : State) (b : Fin 24) (pass : Bool), s.tablesWf = true → s.atCatch = true → (s.bank b.val).spare = spSelftest →
    (s.bank b.val).phaseSt + 512 ≤ s.time.catches → (s.bank b.val).health.length = 33 →
    let good := (s.bank b.val).step = 6 ∨ (pass = true ∧ (s.bank b.val).step ≠ 7)
    ∃ u t, exec (.spareSelftestEnd b pass) s = .next t
      ∧ u.get R.CAL_SELFTEST_CNT = counted 32 (s.get R.CAL_SELFTEST_CNT) 1
      ∧ (u.bank b.val).spare = spIdle ∧ (u.bank b.val).stFor = none
      ∧ (¬ good → u.hasEvt E.CAL_SELFTEST_FAIL = true ∧ (u.bank b.val).queue = (s.bank b.val).queue
          ∧ (u.bank b.val).healthOf 32 = (if (s.bank b.val).healthOf 32 = 0 then 1 else if (s.bank b.val).healthOf 32 = 1 then 2
              else (s.bank b.val).healthOf 32))
      ∧ (good → (s.bank b.val).stFor = none → (u.bank b.val).queue = (s.bank b.val).queue
          ∧ (u.bank b.val).healthOf 32 = (if (s.bank b.val).healthOf 32 = 1 then 0 else (s.bank b.val).healthOf 32))
      ∧ (∀ i, good → (s.bank b.val).stFor = some i → i < 32 →
          (u.bank b.val).healthOf 32 = (if (s.bank b.val).healthOf 32 = 1 then 0 else (s.bank b.val).healthOf 32)
          ∧ (u.bank b.val).healthOf i = (if (s.bank b.val).healthOf i = 0 then 1 else if (s.bank b.val).healthOf i = 1 then 2
              else (s.bank b.val).healthOf i)
          ∧ (u.bank b.val).queue = (i :: (s.bank b.val).queue.filter (· != i)).take 4
          ∧ (4 ≤ ((s.bank b.val).queue.filter (· != i)).length → u.hasEvt E.CAL_NOW_REFUSED = true
              ∧ u.get R.CAL_NOW_REFUSED_CNT = counted 32 (s.get R.CAL_NOW_REFUSED_CNT) 1))
      ∧ s.keeps u [R.CAL_SELFTEST_CNT.key, R.CAL_NOW_REFUSED_CNT.key, evtKey 0x07, faultKey 0x07]
      ∧ u.bare = { s.bare with banks := u.banks } ∧ answers (u.settleBank b.val) t

/-- A powered slice whose monitor has seen 256 equal words in a row (R151, R152): told once for the run, counted and recorded with its bank, slice and the run's first crossing, and as class 1, and 5 on
HEALTH; once calibration is done it is BAD at once, before that when calibration ends; words it delivered for the crossings just past become VOID.
A coefficient with a double-bit error is told, counted and recorded as class 3, and an error found first is a HEALTH fault of class 2 (R170). -/
def Claims.StuckSlicesAndBadCoefficientsAreTold : Prop :=
  ∀ s : State, s.alive = true →
    (∀ (b : Fin 24) (sl : Fin 33) (c : Nat), s.tablesWf = true → sl.val ∈ s.activeSlices b.val →
      State.monitorFires (s.bank b.val) sl.val = some c →
      ∃ t, exec (.stuckSlice b sl) s = .next t
      ∧ t.hasEvt E.CAL_STUCK = true ∧ t.get R.CAL_STUCK_CNT = counted 32 (s.get R.CAL_STUCK_CNT) 1
      ∧ t.get R.CAL_FAULT_SLICE_BANK = b.val ∧ t.get R.CAL_FAULT_SLICE_SLICE = sl.val
      ∧ t.get R.CAL_FAULT_CN_LO + t.get R.CAL_FAULT_CN_HI * 2 ^ 32 = (s.cnAt c).toNat
      ∧ t.rd (faultKey 0x07) = BitVec.ofNat 32 (1 + b.val * 256 + s.time.cn.toNat % 65536 * 65536)
      ∧ t.hasEvt E.HEALTH_FAULT = true
      ∧ t.rd (faultKey 0x06) = BitVec.ofNat 32 (5 + b.val * 256 + s.time.cn.toNat % 65536 * 65536)
      ∧ ((s.bank b.val).puDone = true → ((s.bank b.val).healthOf sl.val ≠ 2 → t.hasEvt E.CAL_BAD = true)
          ∧ ((s.bank b.val).health.length = 33 → (t.bank b.val).healthOf sl.val = 2))
      ∧ ((s.bank b.val).puDone = false → sl.val ∈ (t.bank b.val).stuckPu)
      ∧ sl.val ∈ (t.bank b.val).stuck ∧ State.monitorFires (t.bank b.val) sl.val = none ∧ (∀ k, k ≠ b.val → t.banks[k]? = s.banks[k]?)
      ∧ (∀ e ∈ t.words, e ∈ s.words)
      ∧ (∀ e ∈ s.words, e ∉ t.words → e.1 % 1024 / 32 = b.val ∧ 4 * s.time.cr ≤ e.1 / 1024 + 5)
      ∧ s.keeps t [R.CAL_STUCK_CNT.key, R.CAL_FAULT_SLICE_BANK.key, R.CAL_FAULT_CN_LO.key, R.CAL_FAULT_CN_HI.key, evtKey 0x07,
          faultKey 0x07, (R.HEALTH_FAULT_CNTc 5).key, evtKey 0x06, faultKey 0x06]
      ∧ t.bare = { s.bare with banks := t.banks, words := t.words })
    ∧ ∀ (p : Fin 64) (k : Fin 256), ∃ t, exec (.pcoefEccFail p k) s = .next t
      ∧ t.hasEvt E.PCOEF_ECC_FAIL = true ∧ t.get R.PCOEF_ECC_FAIL_CNT = counted 32 (s.get R.PCOEF_ECC_FAIL_CNT) 1
      ∧ t.rd (faultKey 0x29) = BitVec.ofNat 32 (3 + p.val * 256 + s.time.cn.toNat % 65536 * 65536)
      ∧ p.val * 256 + k.val ∈ t.badTaps
      ∧ (p.val * 256 + k.val ∉ s.badTaps → t.hasEvt E.HEALTH_FAULT = true
          ∧ t.get (R.HEALTH_FAULT_CNTc 2) = counted 32 (s.get (R.HEALTH_FAULT_CNTc 2)) 1)
      ∧ (p.val * 256 + k.val ∈ s.badTaps → t.badTaps = s.badTaps
          ∧ s.keeps t [R.PCOEF_ECC_FAIL_CNT.key, evtKey 0x29, faultKey 0x29])
      ∧ s.keeps t [R.PCOEF_ECC_FAIL_CNT.key, evtKey 0x29, faultKey 0x29, (R.HEALTH_FAULT_CNTc 2).key, evtKey 0x06, faultKey 0x06]
      ∧ t.bare = { s.bare with badTaps := t.badTaps }

/-- Spares' self-tests, stuck slices and bad coefficients.
Completion of SPARE_SELFTEST_END, STUCK_SLICE and PCOEF_ECC_FAIL is stated here.
Rests on log entry 25. -/
def Obligations.SlicesAreTested : Prop :=
  Claims.SpareSelfTestsEnd ∧ Claims.StuckSlicesAndBadCoefficientsAreTold

/-- `t` is `u` after the flags of every core clock, with the sources that the command fired on their way to the task inputs (R59). -/
def answersFired (u t : State) : Prop := u.keeps t [] ∧ t.still = u.still ∧ t.out = u.out

/-- After a command that leads from `s` to `t` in the present crossing, a payload that is left with all 64 engines busy waits, from a core clock of this
crossing unless one waits already, and STALL tells of the wait, once a stroke (R277); else nothing about the wait changes. -/
def lensMustWait (s t : State) (since : Option Nat) : Prop :=
  (s.lensWait = none → t.waitingPayload.isSome = true → t.engines.length = 64 →
      (∃ w, since = some w ∧ t.lensWait = some w ∧ w / 16 = s.time.cr) ∧ t.lensStall = some s.time.catches
      ∧ (s.lensStall ≠ some s.time.catches → t.hasEvt E.LENS_STALL = true))
    ∧ (s.lensWait ≠ none ∨ t.waitingPayload.isSome = false ∨ t.engines.length ≠ 64 →
      t.lensWait = s.lensWait ∧ t.lensStall = s.lensStall)

/-- The builder (R261): while FRAG is DISABLED the entry at the head is freed, counted and told (R263); an entry whose windows are complete, with no
fragment being read and no PAUSE becomes a fragment with the entry's numbers and times, of the crew that CREW.MAP names
for its type and event number (R240 to R242, R286), and takes the oldest phase records if its crew is of class A (R259). When its windows are
read, the entry is freed, and the fragment counts, as does one that is VOID (R261, R262); a payload of it that finds every Lens engine busy waits from then
on, and the wait is told (R277).
Completion of FRAGMENT_START and FRAGMENT_READ_END is stated here.
Rests on log entries 33, 41. -/
def Obligations.FragmentsAreBuilt : Prop :=
  ∀ s : State, s.alive = true →
    (∀ e l, s.accQ = e :: l → s.building = false →
      (s.enabled 0x38 = false → ∃ t, exec .fragmentStart s = .next t ∧ t.accQ = l
        ∧ t.get R.FRAG_DISCARD_CNT = counted 32 (s.get R.FRAG_DISCARD_CNT) 1 ∧ t.hasEvt E.FRAG_DISCARD = true
        ∧ s.keeps t [R.FRAG_DISCARD_CNT.key, evtKey 0x38] ∧ t.bare = { s.bare with accQ := l })
      ∧ (s.enabled 0x38 = true → s.flag (R.PAGE_CTL_PAUSE 0x38) = false → s.readable e = true →
        ∃ t f, exec .fragmentStart s = .next t ∧ t.frags = s.frags ++ [f]
        ∧ f.id = s.fragId ∧ t.fragId = s.fragId + 1 ∧ f.type = e.type ∧ f.evNo = e.evNo ∧ f.w1 = e.word1 ∧ f.w3 = e.word3
        ∧ f.crew = s.mapCrew (e.type * 16 + e.evNo % 16) ∧ f.classA = (s.crewGet f.crew 1 27 1 == 1)
        ∧ f.prio = s.crewGet f.crew 1 28 3 ∧ f.read = false ∧ f.banks.length = (s.typeBanks e.type).length
        ∧ f.w0 = BitVec.ofNat 64 (0xC7D8 * 2 ^ 48 + e.hub % 65536 * 2 ^ 32 + f.crew * 2 ^ 20 + e.type * 2 ^ 16)
        ∧ f.recs = (if f.classA = true then s.records.take (s.get R.FRAG_REC_MAX) else [])
        ∧ t.records = s.records.drop f.recs.length ∧ t.accQ = s.accQ
        ∧ s.keepsPages t [0x30, 0x38, 0x89]
        ∧ t.bare = { s.bare with
            frags := t.frags, fragId := t.fragId, records := t.records, recBad := t.recBad, free := t.free }))
    ∧ ∀ f, s.frags.find? (fun f => !f.read) = some f → s.lensClk ≤ 16 * s.time.cr + 15 → ∃ t, exec .fragmentReadEnd s = .next t
      ∧ t.accQ = s.accQ.drop 1 ∧ t.frags = s.frags.map (fun g => if g.id = f.id then { g with read := true } else g)
      ∧ t.get R.FRAG_FRAG_CNT = (s.get R.FRAG_FRAG_CNT + 1) % 2 ^ 32
      ∧ (f.w2.getLsbD 31 = true → t.hasEvt E.FRAG_VOID_SENT = true
          ∧ t.get R.FRAG_VOID_FRAG_CNT = counted 32 (s.get R.FRAG_VOID_FRAG_CNT) 1)
      ∧ (f.w2.getLsbD 31 = false → t.get R.FRAG_VOID_FRAG_CNT = s.get R.FRAG_VOID_FRAG_CNT)
      ∧ lensMustWait s t t.lensWait
      ∧ s.keeps t [R.FRAG_FRAG_CNT.key, R.FRAG_VOID_FRAG_CNT.key, evtKey 0x38, evtKey 0x39]
      ∧ t.bare = { s.bare with
          accQ := t.accQ, frags := t.frags, hist := t.hist, lensWait := t.lensWait, lensStall := t.lensStall, lensClk := t.lensClk
          free := t.free }

/-- The Lens engines (R277): the payload that waits first goes to the lowest free engine, and with none free it waits, told once a stroke; a block that
an engine has coded joins its payload as words (R269 to R275), raw where a double-bit error has ended its coding (R278), and is counted with its bytes,
words and kind; the engine is then free, and STALL_CC counts the core clocks that a payload has waited for it, or takes the payload's next block.
Completion of LENS_ENGINE_START and LENS_BLOCK_DONE is stated here.
Rests on log entry 2. -/
def Obligations.LensEnginesCode : Prop :=
  ∀ s : State, s.alive = true →
    (∀ f k b, s.waitingPayload = some (f, k) → f.banks[k]? = some b → s.lensClk ≤ 16 * s.time.cr + 15 →
      (∀ n, n < 64 → Assoc.find? s.engines n = none → (∀ m, m < n → Assoc.find? s.engines m ≠ none) →
        ∃ t g, exec .lensEngineStart s = .next t ∧ t.engines = Assoc.put s.engines n g
        ∧ g.frag = f.id ∧ g.bank = k ∧ g.elems = (State.nextBlock f.chanFlush b.todo).1
        ∧ g.last = (State.nextBlock f.chanFlush b.todo).2.1.isEmpty ∧ g.flushed = (State.nextBlock f.chanFlush b.todo).2.2
        ∧ g.start / 16 = s.time.cr ∧ s.lensClk ≤ g.start ∧ g.extra = 0 ∧ g.cut = none
        ∧ t.frags = (s.updBank f.id k (fun b => { b with todo := (State.nextBlock f.chanFlush b.todo).2.1, stage := 1 })).frags
        ∧ t.get R.LENS_ENGINES_HIGH = max (s.get R.LENS_ENGINES_HIGH) t.engines.length % 2 ^ 7
        ∧ lensMustWait s t (some g.start)
        ∧ s.keeps t [R.LENS_ENGINES_HIGH.key, evtKey 0x39]
        ∧ t.bare = { s.bare with
            frags := t.frags, engines := t.engines, lensWait := t.lensWait, lensStall := t.lensStall, lensClk := t.lensClk
            free := t.free })
      ∧ ((∀ n, n < 64 → Assoc.find? s.engines n ≠ none) → ∃ t, exec .lensEngineStart s = .next t
        ∧ lensMustWait s t t.lensWait ∧ s.keeps t [evtKey 0x39]
        ∧ t.bare = { s.bare with lensWait := t.lensWait, lensStall := t.lensStall, lensClk := t.lensClk, free := t.free }))
    ∧ ∀ (n : Fin 64) g f, Assoc.find? s.engines n.val = some g → State.engineDone g ≤ 16 * s.time.cr + 15 → s.fragOf g.frag = some f →
      let b := lensBlock g.elems g.last g.flushed f.raw g.cut
      ∃ u t, exec (.lensBlockDone n) s = .next t
        ∧ u.frags = (s.updBank g.frag g.bank (fun p => { p with
            words := p.words ++ b.words, stage := if g.last then 2 else 1 })).frags
        ∧ u.get R.LENS_BLOCK_CNT = (s.get R.LENS_BLOCK_CNT + 1) % 2 ^ 32
        ∧ u.get R.LENS_IN_BYTES = (s.get R.LENS_IN_BYTES + b.rawLen) % 2 ^ 32
        ∧ u.get R.LENS_OUT_WORDS = (s.get R.LENS_OUT_WORDS + b.words.length) % 2 ^ 32
        ∧ u.get R.LENS_RAW_BLOCK_CNT
          = (if b.raw = true then counted 32 (s.get R.LENS_RAW_BLOCK_CNT) 1 else s.get R.LENS_RAW_BLOCK_CNT)
        ∧ u.get R.LENS_FLUSHED_CNT
          = (if g.flushed = true then counted 32 (s.get R.LENS_FLUSHED_CNT) 1 else s.get R.LENS_FLUSHED_CNT)
        ∧ u.get R.LENS_FROZEN_CNT
          = (if b.frozen = true then counted 32 (s.get R.LENS_FROZEN_CNT) 1 else s.get R.LENS_FROZEN_CNT)
        ∧ s.keeps u [R.LENS_BLOCK_CNT.key, R.LENS_IN_BYTES.key, R.LENS_OUT_WORDS.key, R.LENS_RAW_BLOCK_CNT.key,
            R.LENS_FLUSHED_CNT.key, R.LENS_FROZEN_CNT.key, evtKey 0x39]
        ∧ (g.last = true → u.engines = Assoc.del s.engines n.val ∧ answers (u.lensFreed (State.engineDone g)) t ∧ t.lensWait = none
            ∧ ∀ w, s.lensWait = some w →
              t.get R.LENS_STALL_CC = counted 32 (s.get R.LENS_STALL_CC) (State.engineDone g - w))
        ∧ (g.last = false → u.engines = s.engines
            ∧ ∀ f', u.fragOf g.frag = some f' → answers (u.beginBlock n.val f' g.bank (State.engineDone g)) t)
        ∧ u.bare = { s.bare with frags := u.frags, engines := u.engines }

/-- The derandomiser (R280, R281): the oldest fragment, once it is read and coded, is offered; it is admitted while its lines and 512 more
fit, else the offer waits and is admitted once they do. A class-B fragment offered at 117,965 lines or more is shed: counted and told, its phase records
return, and a shed record, which needs no margin, is offered in its place (R264, R285).
Completion of DERAND_OFFER and DERAND_ADMIT is stated here.
Rests on log entry 33. -/
def Obligations.TheDerandomiserAdmits : Prop :=
  ∀ s : State, s.alive = true →
    (∀ f l, s.frags = f :: l → s.offer = none → f.read = true → (∀ b ∈ f.banks, b.stage = 2) →
      f.classA = true ∨ s.occupancy < 117965 → ∃ t h, exec .derandOffer s = .next t ∧ t.frags = l
      ∧ h.words = assemble f s.shedSeen ∧ h.crew = f.crew ∧ h.classA = f.classA ∧ h.prio = f.prio ∧ h.evNo = f.evNo
      ∧ h.shed = false ∧ h.recs = f.recs.length ∧ h.bad = [] ∧ h.done = false ∧ h.told = false
      ∧ (s.occupancy + linesOf h.words.length + 512 ≤ derandLines → h.id = s.admitId ∧ t.admitId = s.admitId + 1
          ∧ t.bare.held = s.bare.held ++ [h] ∧ t.offer = none ∧ t.shedSeen = false
          ∧ t.get R.FRAG_REC_CNT = (s.get R.FRAG_REC_CNT + h.recs) % 2 ^ 32
          ∧ t.get R.DERAND_LEVEL_HIGH
            = max (s.get R.DERAND_LEVEL_HIGH) (s.occupancy + linesOf h.words.length) % 2 ^ 18)
      ∧ (derandLines < s.occupancy + linesOf h.words.length + 512 → t.offer = some h ∧ t.bare.held = s.bare.held
          ∧ t.admitId = s.admitId ∧ t.shedSeen = s.shedSeen ∧ s.keeps t [])
      ∧ s.keeps t [R.FRAG_REC_CNT.key, evtKey 0x38, R.DERAND_LEVEL_HIGH.key]
      ∧ t.bare = { s.bare with
          frags := l, offer := t.offer, held := t.bare.held, admitId := t.admitId, shedSeen := t.shedSeen })
    ∧ (∀ f l, s.frags = f :: l → s.offer = none → f.read = true → (∀ b ∈ f.banks, b.stage = 2) →
      f.classA = false → 117965 ≤ s.occupancy → ∃ t h, exec .derandOffer s = .next t ∧ t.frags = l
      ∧ t.get R.FRAG_SHED_CNT = (s.get R.FRAG_SHED_CNT + 1) % 2 ^ 32 ∧ t.hasEvt E.FRAG_SHED = true
      ∧ t.records = f.recs ++ s.records ∧ t.shedSeen = true
      ∧ h.words = State.shedRecord f (assemble f s.shedSeen) (t.get R.FRAG_SHED_CNT) ∧ h.shed = true ∧ h.recs = 0 ∧ h.crew = f.crew
      ∧ (s.occupancy + 1 ≤ derandLines → t.bare.held = s.bare.held ++ [h] ∧ h.id = s.admitId ∧ t.offer = none)
      ∧ (derandLines ≤ s.occupancy → t.offer = some h ∧ t.bare.held = s.bare.held)
      ∧ s.keeps t [R.FRAG_SHED_CNT.key, evtKey 0x38, R.DERAND_LEVEL_HIGH.key]
      ∧ t.bare = { s.bare with
          frags := l, offer := t.offer, held := t.bare.held, admitId := t.admitId, shedSeen := true, records := t.records })
    ∧ ∀ h, s.offer = some h → s.roomFor h = true → ∃ t, exec .derandAdmit s = .next t ∧ t.offer = none
      ∧ t.bare.held = s.bare.held ++ [{ h with id := s.admitId, told := false }] ∧ t.admitId = s.admitId + 1
      ∧ t.shedSeen = (if h.shed = true then s.shedSeen else false)
      ∧ t.get R.FRAG_REC_CNT = (s.get R.FRAG_REC_CNT + h.recs) % 2 ^ 32
      ∧ s.keeps t [R.FRAG_REC_CNT.key, evtKey 0x38, R.DERAND_LEVEL_HIGH.key]
      ∧ t.bare = { s.bare with offer := none, held := t.bare.held, admitId := t.admitId, shedSeen := t.shedSeen }

/-- A request leaves on a port's configuration channel and is outstanding (R350, R355); its last symbol leaves in the crossing noted. -/
def asksCap (s t : State) (p : Nat) : Prop :=
  (t.sat p).tx = (s.sat p).tx ++ configSyms [0x03]
    ∧ (t.sat p).asked = some (.cap, s.time.cr + ((t.sat p).tx.length - 1) / 6)

/-- An upstream frame of a port is discarded (R350). -/
def frameDiscarded (s t : State) (p : Nat) : Prop :=
  t.hasEvt (E.SAT_FRAME_ERR (0x78 + p)) = true
    ∧ t.get (R.SAT_FRAME_ERR_CNT (0x78 + p)) = counted 32 (s.get (R.SAT_FRAME_ERR_CNT (0x78 + p))) 1

/-- A Rigger port (R355): alignment takes it to CAPS and asks for the satellite's CAP; a good CAP that was asked for is shown, and takes a port in CAPS
to RESYNC; a damaged frame or one not asked for is discarded (R350), the damaged one a fault of class 7. A request without its answer 64 cr later is
counted and told: in CAPS CAP_REQ is sent again, a block is read at its next turn (R350, R361). A link that is lost (by code errors only at the sixteenth
within 256 crossings) is DOWN, told, with fault class 1; an item that it cuts off counts in PARTIAL_CNT, and a port that leaves RUN remembers since when
(R357).
Completion of SAT_ALIGNED, SAT_CAP, SAT_CAP_REQ_RETRY, SAT_LINK_DOWN and SAT_RESP_TIMEOUT is stated here.
Rests on log entry 40. -/
def Obligations.RiggerPortsComeUpAndGoDown : Prop :=
  ∀ (s : State) (p : Fin 16), s.alive = true → s.tablesWf = true →
    (s.satState p.val = satSignal → ∃ t, exec (.satAligned p) s = .next t ∧ t.satState p.val = satCaps
      ∧ t.hasEvt (E.SAT_LINK_UP (0x78 + p.val)) = true ∧ asksCap s t p.val
      ∧ s.keeps t [stateKey (0x78 + p.val), evtKey (0x78 + p.val)] ∧ t.bare = { s.bare with sats := t.sats })
    ∧ (∀ (ty v : Byte) (r : List Byte) (crc : BitVec 16), s.satListens p.val = true →
      let bytes := satFrame ty (v :: r) crc
      (frameOk 0x83 bytes = false ∨ bytes.length ≠ 8 → ∃ t, exec (.satCap p ty v r crc) s = .next t ∧ frameDiscarded s t p.val
        ∧ t.hasEvt E.HEALTH_FAULT = true ∧ t.get (R.HEALTH_FAULT_CNTc 7) = counted 32 (s.get (R.HEALTH_FAULT_CNTc 7)) 1
        ∧ s.keeps t [(R.SAT_FRAME_ERR_CNT (0x78 + p.val)).key, evtKey (0x78 + p.val), (R.HEALTH_FAULT_CNTc 7).key, evtKey 0x06,
            faultKey 0x06] ∧ t.bare = s.bare)
      ∧ (frameOk 0x83 bytes = true → bytes.length = 8 → (∀ c, (s.sat p.val).asked ≠ some (.cap, c)) →
        ∃ t, exec (.satCap p ty v r crc) s = .next t
        ∧ frameDiscarded s t p.val
        ∧ s.keeps t [(R.SAT_FRAME_ERR_CNT (0x78 + p.val)).key, evtKey (0x78 + p.val)] ∧ t.bare = s.bare)
      ∧ ∀ c, frameOk 0x83 bytes = true → bytes.length = 8 → (s.sat p.val).asked = some (.cap, c) →
        ∃ t, exec (.satCap p ty v r crc) s = .next t
        ∧ t.get (R.SAT_CAP_VERSION (0x78 + p.val)) = field bytes 1 1 % 256
        ∧ t.get (R.SAT_CAP_MODEL (0x78 + p.val)) = field bytes 2 2 % 65536
        ∧ t.get (R.SAT_CAP_CELLS (0x78 + p.val)) = field bytes 4 2 % 32768
        ∧ (t.sat p.val).asked = none ∧ (t.sat p.val).syncDue = true
        ∧ (s.satState p.val = satCaps → t.satState p.val = satResync
            ∧ t.get (R.SAT_RESYNC_CNT (0x78 + p.val)) = counted 32 (s.get (R.SAT_RESYNC_CNT (0x78 + p.val))) 1)
        ∧ (s.satState p.val ≠ satCaps → t.satState p.val = s.satState p.val)
        ∧ s.keeps t [(R.SAT_CAP_VERSION (0x78 + p.val)).key, (R.SAT_CAP_CELLS (0x78 + p.val)).key, stateKey (0x78 + p.val),
            (R.SAT_RESYNC_CNT (0x78 + p.val)).key, evtKey (0x78 + p.val)]
        ∧ t.bare = { s.bare with sats := t.sats })
    ∧ (∀ k c, (s.sat p.val).asked = some (k, c) → c + 64 ≤ s.time.cr →
      ∀ i, i = Instr.satRespTimeout p ∨ (k = .cap ∧ i = Instr.satCapReqRetry p) → ∃ t, exec i s = .next t
      ∧ t.hasEvt (E.SAT_RESP_TMO (0x78 + p.val)) = true
      ∧ t.get (R.SAT_RESP_TMO_CNT (0x78 + p.val)) = counted 32 (s.get (R.SAT_RESP_TMO_CNT (0x78 + p.val))) 1
      ∧ (k = .cap → s.satState p.val = satCaps → asksCap s t p.val)
      ∧ (k = .cap → s.satState p.val ≠ satCaps → t.sats = s.sats.set p.val { s.sat p.val with asked := none })
      ∧ (∀ b, k = .block b → (t.sat p.val).asked = none ∧ (t.sat p.val).retry = some b ∧ (t.sat p.val).tx = (s.sat p.val).tx)
      ∧ s.keeps t [(R.SAT_RESP_TMO_CNT (0x78 + p.val)).key, evtKey (0x78 + p.val)] ∧ t.bare = { s.bare with sats := t.sats })
    ∧ ∀ cause cut, s.satState p.val ≠ satOff → s.satState p.val ≠ satDown →
      cause ≠ .codeErrors ∨ s.sixteenErrors ((0x78 + p.val) * 4096 + 0x1C0) = true → ∃ t, exec (.satLinkDown p cause cut) s = .next t
      ∧ t.satState p.val = satDown ∧ t.hasEvt (E.SAT_LINK_DOWN (0x78 + p.val)) = true
      ∧ t.rd (faultKey (0x78 + p.val)) = BitVec.ofNat 32 (1 + p.val * 256 + s.time.cn.toNat % 65536 * 65536)
      ∧ t.get (R.SAT_PARTIAL_CNT (0x78 + p.val))
        = (if cut = true ∨ (s.sat p.val).item.bytes ≠ [] ∨ (s.sat p.val).item.frame = true then counted 32 (s.get (R.SAT_PARTIAL_CNT (0x78 + p.val))) 1 else s.get (R.SAT_PARTIAL_CNT (0x78 + p.val)))
      ∧ t.satOut = (if s.satState p.val = satRun then Assoc.put s.satOut p.val s.time.cr else s.satOut)
      ∧ (t.sat p.val).asked = (s.sat p.val).asked
      ∧ s.keeps t [stateKey (0x78 + p.val), evtKey (0x78 + p.val), faultKey (0x78 + p.val), (R.SAT_PARTIAL_CNT (0x78 + p.val)).key]
      ∧ t.bare = { s.bare with sats := t.sats, satOut := t.satOut }

/-- The round trip of a port in RUN or RESYNC (R355, R356): K28.5 shows it in RT, before RESYNC too; two equal ones in a row while RT_REF is 0x100 become RT_REF; one that
is not RT_REF takes a port in RUN back to RESYNC, an item in progress being discarded and counted (R357), and two equal ones that are not RT_REF are told
as RT_CHANGE. After four strokes in
RESYNC without two right ones, SYNC is due again. -/
def Claims.RiggerPortsResynchronise : Prop :=
  ∀ (s : State) (p : Fin 16), s.alive = true → s.tablesWf = true →
    (s.satState p.val = satRun ∨ s.satState p.val = satResync →
      let agree := if (s.sat p.val).rt = some s.pos then (s.sat p.val).agree + 1 else 1
      let ref := s.get (R.SAT_RT_REF (0x78 + p.val))
      let learnt := if ref ≠ 0x100 then 0 else if (s.sat p.val).rt = some s.pos then (s.sat p.val).learnt + 1 else 1
      ∃ t, exec (.satK285Arrival p) s = .next t ∧ t.get (R.SAT_STATUS_RT (0x78 + p.val)) = s.pos
        ∧ t.get (R.SAT_RT_REF (0x78 + p.val)) = (if 2 ≤ learnt then s.pos else ref)
        ∧ (t.sat p.val).rt = some s.pos
        ∧ (s.satState p.val = satRun → ref ≠ 0x100 → ref ≠ s.pos → t.satState p.val = satResync
            ∧ t.get (R.SAT_RESYNC_CNT (0x78 + p.val)) = counted 32 (s.get (R.SAT_RESYNC_CNT (0x78 + p.val))) 1
            ∧ (t.sat p.val).match_ = 0 ∧ t.satOut = Assoc.put s.satOut p.val s.time.cr
            ∧ t.get (R.SAT_PARTIAL_CNT (0x78 + p.val))
              = (if (s.sat p.val).item.bytes ≠ [] ∨ (s.sat p.val).item.frame = true then
                  counted 32 (s.get (R.SAT_PARTIAL_CNT (0x78 + p.val))) 1 else s.get (R.SAT_PARTIAL_CNT (0x78 + p.val))))
        ∧ (t.sat p.val).agree = agree ∧ (t.sat p.val).learnt = learnt
        ∧ (ref ≠ 0x100 → ref ≠ s.pos → 2 ≤ agree → t.hasEvt (E.SAT_RT_CHANGE (0x78 + p.val)) = true
            ∧ t.rd (faultKey (0x78 + p.val)) = BitVec.ofNat 32 (2 + p.val * 256 + s.time.cn.toNat % 65536 * 65536))
        ∧ (s.satState p.val = satResync ∨ ref = 0x100 ∨ ref = s.pos → t.satState p.val = s.satState p.val
            ∧ (t.sat p.val).match_ = (if 2 ≤ learnt then 2 else if ref = s.pos then (s.sat p.val).match_ + 1 else 0)
            ∧ t.satOut = s.satOut)
        ∧ s.keeps t [(R.SAT_STATUS_RT (0x78 + p.val)).key, (R.SAT_RT_REF (0x78 + p.val)).key, stateKey (0x78 + p.val),
            (R.SAT_RESYNC_CNT (0x78 + p.val)).key, (R.SAT_PARTIAL_CNT (0x78 + p.val)).key, evtKey (0x78 + p.val),
            faultKey (0x78 + p.val)]
        ∧ t.bare = { s.bare with sats := t.sats, satOut := t.satOut })
    ∧ (s.satState p.val = satAlign ∨ s.satState p.val = satCaps → ∃ t, exec (.satK285Arrival p) s = .next t
      ∧ t.get (R.SAT_STATUS_RT (0x78 + p.val)) = s.pos ∧ s.keeps t [(R.SAT_STATUS_RT (0x78 + p.val)).key] ∧ t.bare = s.bare)
    ∧ ∀ c, (s.sat p.val).syncSt = some c → s.satState p.val = satResync → (s.sat p.val).match_ < 2 → c + 4 ≤ s.time.catches →
      ∃ t, exec (.satResyncRetry p) s = .next t ∧ t.sats = s.sats.set p.val { s.sat p.val with syncDue := true }
        ∧ s.keeps t [] ∧ t.bare = { s.bare with sats := t.sats }

/-- A hit of a satellite (R348, R351), its word from its four data bytes, the first least significant: outside RUN it counts in DISCARD_CNT; in RUN its age is its delay behind its crossing, (pos − CR − CR_OFS) mod 256: over AGE_MAX
it counts in LATE_CNT, told once a stroke, else it counts in HIT_CNT and is kept under its crossing. -/
def Claims.SatelliteHitsAreKept : Prop :=
  ∀ (s : State) (p : Fin 16) (b0 b1 b2 b3 : Byte), s.alive = true → s.tablesWf = true →
    s.satState p.val ≠ satOff → s.satState p.val ≠ satDown →
    let w : Word := BitVec.ofNat 32 (b0.toNat + 2 ^ 8 * b1.toNat + 2 ^ 16 * b2.toNat + 2 ^ 24 * b3.toNat)
    let age := (s.pos + 512 - bits w 14 8 - s.get (R.SAT_CR_OFS (0x78 + p.val))) % 256
    (s.satState p.val ≠ satRun → ∃ t, exec (.satHit p ⟨b0, b1, b2, b3⟩) s = .next t
      ∧ t.get (R.SAT_DISCARD_CNT (0x78 + p.val)) = counted 32 (s.get (R.SAT_DISCARD_CNT (0x78 + p.val))) 1
      ∧ s.keeps t [(R.SAT_DISCARD_CNT (0x78 + p.val)).key, evtKey (0x78 + p.val)] ∧ t.bare = s.bare)
    ∧ (s.satState p.val = satRun → s.get (R.SAT_AGE_MAX (0x78 + p.val)) < age → ∃ t, exec (.satHit p ⟨b0, b1, b2, b3⟩) s = .next t
      ∧ t.get (R.SAT_LATE_CNT (0x78 + p.val)) = counted 32 (s.get (R.SAT_LATE_CNT (0x78 + p.val))) 1
      ∧ ((s.sat p.val).lateTold ≠ some s.time.catches → t.hasEvt (E.SAT_LATE (0x78 + p.val)) = true)
      ∧ (t.sat p.val).lateTold = some s.time.catches
      ∧ s.keeps t [(R.SAT_LATE_CNT (0x78 + p.val)).key, evtKey (0x78 + p.val)] ∧ t.bare = { s.bare with sats := t.sats })
    ∧ (s.satState p.val = satRun → age ≤ s.get (R.SAT_AGE_MAX (0x78 + p.val)) →
      ∃ t, exec (.satHit p ⟨b0, b1, b2, b3⟩) s = .next t
      ∧ t.get (R.SAT_HIT_CNT (0x78 + p.val)) = (s.get (R.SAT_HIT_CNT (0x78 + p.val)) + 1) % 2 ^ 32
      ∧ t.satHits = (if s.time.cr < age then s.satHits else
          Assoc.put s.satHits ((s.time.cr - age) * 16 + p.val)
            (Assoc.getD (fun _ => []) s.satHits ((s.time.cr - age) * 16 + p.val) ++ [w]))
      ∧ s.keeps t [(R.SAT_HIT_CNT (0x78 + p.val)).key, evtKey (0x78 + p.val)] ∧ t.bare = { s.bare with satHits := t.satHits })

/-- A Rigger port's round trip and its hits.
Completion of SAT_HIT, SAT_K285_ARRIVAL and SAT_RESYNC_RETRY is stated here.
Rests on log entry 40. -/
def Obligations.PortsResynchroniseAndTakeHits : Prop :=
  Claims.RiggerPortsResynchronise ∧ Claims.SatelliteHitsAreKept

/-- Configuration of a satellite (R360, R361): in RUN, when the channel is free, the oldest word of the host queue is written, then dirty words without an
ECC error from the lowest address, then a block that is due is read. With SCRUB_EN a block becomes due at most every max(16, PERIOD) crossings:
one whose answer was missing, then the next with a marked word; past the last one, once its answer is no longer outstanding, the pass is counted, with its
length, and told, and begins anew. -/
def Claims.TheShadowIsScrubbed : Prop :=
  ∀ (s : State) (p : Fin 16), s.alive = true → s.tablesWf = true → s.satState p.val = satRun →
    ((s.sat p.val).tx.length < 6 →
      (∀ a l, (s.sat p.val).queue = a :: l → ∃ t, exec (.satConfigSend p) s = .next t
        ∧ (t.sat p.val).queue = l
        ∧ (t.sat p.val).tx = (s.sat p.val).tx ++ configSyms ([0x01] ++ leBytes 2 a ++ leBytes 2 (s.shGet p.val a))
        ∧ Assoc.find? (t.sat p.val).settling a = some true ∧ s.keeps t [] ∧ t.bare = { s.bare with sats := t.sats })
      ∧ (∀ a, (s.sat p.val).queue = [] → (s.sat p.val).dirty.find? (fun a => !s.shEcc p.val a) = some a →
        ∃ t, exec (.satConfigSend p) s = .next t
        ∧ (t.sat p.val).dirty = (s.sat p.val).dirty.filter (· != a)
        ∧ (t.sat p.val).tx = (s.sat p.val).tx ++ configSyms ([0x01] ++ leBytes 2 a ++ leBytes 2 (s.shGet p.val a))
        ∧ Assoc.find? (t.sat p.val).settling a = some true ∧ s.keeps t [] ∧ t.bare = { s.bare with sats := t.sats })
      ∧ (∀ b, (s.sat p.val).queue = [] → (∀ a ∈ (s.sat p.val).dirty, s.shEcc p.val a = true) → (s.sat p.val).due = some b →
        (s.sat p.val).asked = none → ∃ t, exec (.satConfigSend p) s = .next t
        ∧ (t.sat p.val).tx = (s.sat p.val).tx ++ configSyms ([0x02] ++ leBytes 2 (32 * b) ++ [32])
        ∧ (t.sat p.val).due = none
        ∧ (t.sat p.val).asked = some (.block b, s.time.cr + ((t.sat p.val).tx.length - 1) / 6)
        ∧ s.keeps t [] ∧ t.bare = { s.bare with sats := t.sats }))
    ∧ (s.enabled 0x88 = true → s.flag R.SHADOW_SCRUB_EN = true → (s.sat p.val).due = none →
      (∀ c, (s.sat p.val).dueCr = some c → c + max 16 (s.get R.SHADOW_SCRUB_PERIOD) ≤ s.time.cr) →
      (∀ b, (s.sat p.val).retry = some b ∨ ((s.sat p.val).retry = none ∧ s.markedBlock p.val (s.sat p.val).next = some b) →
        ∃ t, exec (.scrubBlockDue p) s = .next t ∧ (t.sat p.val).due = some b ∧ (t.sat p.val).dueCr = some s.time.cr
        ∧ (t.sat p.val).retry = none
        ∧ (t.sat p.val).next = (if (s.sat p.val).retry = none then b + 1 else (s.sat p.val).next)
        ∧ s.keeps t [] ∧ t.bare = { s.bare with sats := t.sats })
      ∧ ((s.sat p.val).retry = none → s.markedBlock p.val (s.sat p.val).next = none → (s.sat p.val).asked.isSome = true →
        ∃ t, exec (.scrubBlockDue p) s = .next t ∧ s.keeps t [] ∧ t.bare = s.bare)
      ∧ ((s.sat p.val).retry = none → s.markedBlock p.val (s.sat p.val).next = none → (s.sat p.val).asked = none →
        ∃ t, exec (.scrubBlockDue p) s = .next t ∧ (t.sat p.val).due = s.markedBlock p.val 0
        ∧ (∀ st, (s.sat p.val).passSt = some st → t.get R.SHADOW_PASS_CNT = (s.get R.SHADOW_PASS_CNT + 1) % 2 ^ 32
            ∧ t.get (R.SHADOW_PASS_ST p.val) = min (s.time.catches - st) 65535
            ∧ t.passTold = some s.time.catches ∧ (s.passTold ≠ some s.time.catches → t.hasEvt E.SHADOW_PASS_DONE = true))
        ∧ ((s.sat p.val).passSt = none → s.keeps t [])
        ∧ s.keeps t [R.SHADOW_PASS_CNT.key, (R.SHADOW_PASS_ST p.val).key, evtKey 0x88]
        ∧ t.bare = { s.bare with sats := t.sats, passTold := t.passTold }))

/-- A satellite's READ_RESP (R350, R362): one that is damaged, or that answers no outstanding block, is discarded; else the block is no longer outstanding
and each of its 32 words is compared. A marked word without ECC error that is not settling and differs is an upset: counted, told, recorded with
address and port, a fault of class 11, and dirty, so that it is written again; one that differs again after that is counted and told as stuck. -/
def Claims.UpsetsAreFound : Prop :=
  ∀ (s : State) (p : Fin 16) (ty : Byte) (body : List Byte) (crc : BitVec 16), s.tablesWf = true → s.satListens p.val = true →
    let bytes := satFrame ty body crc
    (frameOk 0x82 bytes = false ∨ frameLen bytes ≠ some bytes.length → ∃ t, exec (.satReadResp p ty body crc) s = .next t ∧ frameDiscarded s t p.val ∧ t.hasEvt E.HEALTH_FAULT = true
      ∧ s.keeps t [(R.SAT_FRAME_ERR_CNT (0x78 + p.val)).key, evtKey (0x78 + p.val), (R.HEALTH_FAULT_CNTc 7).key, evtKey 0x06,
          faultKey 0x06] ∧ t.bare = s.bare)
    ∧ (frameOk 0x82 bytes = true → frameLen bytes = some bytes.length →
      (∀ b c, (s.sat p.val).asked = some (.block b, c) → field bytes 1 2 ≠ 32 * b ∨ field bytes 3 1 ≠ 32) →
      ∃ t, exec (.satReadResp p ty body crc) s = .next t ∧ frameDiscarded s t p.val
      ∧ s.keeps t [(R.SAT_FRAME_ERR_CNT (0x78 + p.val)).key, evtKey (0x78 + p.val)] ∧ t.bare = s.bare)
    ∧ ∀ b c, frameOk 0x82 bytes = true → frameLen bytes = some bytes.length →
      (s.sat p.val).asked = some (.block b, c) → field bytes 1 2 = 32 * b → field bytes 3 1 = 32 →
      ((∀ j, j < 32 → s.shMark p.val (32 * b + j) = false) → ∃ t, exec (.satReadResp p ty body crc) s = .next t
        ∧ t.sats = s.sats.set p.val { s.sat p.val with asked := none } ∧ s.keeps t [] ∧ t.bare = { s.bare with sats := t.sats })
      ∧ ∀ (i : Fin 32), (∀ j, j < 32 → j ≠ i.val → s.shMark p.val (32 * b + j) = false) →
        s.shMark p.val (32 * b + i.val) = true → s.shEcc p.val (32 * b + i.val) = false →
        Assoc.find? (s.sat p.val).settling (32 * b + i.val) = none →
        let v := field bytes (4 + 2 * i.val) 2 % 65536
        ∃ t, exec (.satReadResp p ty body crc) s = .next t ∧ (t.sat p.val).asked = none
        ∧ (s.shGet p.val (32 * b + i.val) = v → 32 * b + i.val ∉ (t.sat p.val).suspect ∧ s.keeps t [])
        ∧ (s.shGet p.val (32 * b + i.val) ≠ v → 32 * b + i.val ∈ (t.sat p.val).suspect
            ∧ 32 * b + i.val ∈ (t.sat p.val).dirty
            ∧ t.hasEvt E.SHADOW_UPSET = true ∧ t.get R.SHADOW_UPSET_CNT = counted 32 (s.get R.SHADOW_UPSET_CNT) 1
            ∧ t.get R.SHADOW_LAST_UPSET_ADDR = (32 * b + i.val) % 2 ^ 14 ∧ t.get R.SHADOW_LAST_UPSET_PORT = p.val
            ∧ t.hasEvt E.HEALTH_FAULT = true
            ∧ t.rd (faultKey 0x06) = BitVec.ofNat 32 (11 + p.val * 256 + s.time.cn.toNat % 65536 * 65536)
            ∧ t.get R.SHADOW_STUCK_CNT = (if 32 * b + i.val ∈ (s.sat p.val).suspect then
                counted 32 (s.get R.SHADOW_STUCK_CNT) 1 else s.get R.SHADOW_STUCK_CNT)
            ∧ (32 * b + i.val ∈ (s.sat p.val).suspect → t.hasEvt E.SHADOW_STUCK = true
                ∧ t.rd (faultKey 0x88) = BitVec.ofNat 32 (1 + p.val * 256 + s.time.cn.toNat % 65536 * 65536)))
        ∧ s.keeps t [R.SHADOW_UPSET_CNT.key, R.SHADOW_LAST_UPSET_ADDR.key, R.SHADOW_STUCK_CNT.key, evtKey 0x88, faultKey 0x88,
            (R.HEALTH_FAULT_CNTc 11).key, evtKey 0x06, faultKey 0x06]
        ∧ t.bare = { s.bare with sats := t.sats }

/-- Configuration of satellites, the scrub and the upsets it finds.
Completion of SAT_READ_RESP, SAT_CONFIG_SEND and SCRUB_BLOCK_DUE is stated here.
Rests on log entry 40. -/
def Obligations.TheShadowIsKept : Prop :=
  Claims.TheShadowIsScrubbed ∧ Claims.UpsetsAreFound

/-- The housekeeping sequences (R371 to R373): the regular sequence starts when its delay ends, or waits for an injected one or a self-test; an
injected one starts at once and aborts, counted and told, what is in progress; where both fall due in one converter clock the injected one runs first. An
entry's conversions, 2^OVS of them, count in CONV_CNT; its
result is written with its flags and the pass number and judged against its limits (R376 to R380), and the next entry starts or the sequence ends. -/
def Claims.HousekeepingSequencesRun : Prop :=
  ∀ s : State, s.alive = true →
    (s.hk.reg = .delay → s.hkTesting = true ∨ s.hk.inj = .running → ∃ t, exec (.hkDelayEnd .regular) s = .next t
      ∧ t.hk = { s.hk with reg := .waiting } ∧ s.keeps t [] ∧ t.bare = { s.bare with hk := t.hk })
    ∧ (s.hk.reg = .delay → s.hkTesting = false → s.hk.inj ≠ .running → ∃ t e, exec (.hkDelayEnd .regular) s = .next t
      ∧ t.hk = { s.hk with reg := .running, regLen := s.get R.HKSEQ_REG_LEN, regIdx := 0, cur := some e }
      ∧ e.inj = false ∧ e.idx = 0 ∧ e.cfg = s.rd (R.HKSEQ_ENT_INP (entBlock false 0)).key
      ∧ e.seqNo = s.get R.HKSEQ_REG_PASS ∧ s.keeps t [] ∧ t.bare = { s.bare with hk := t.hk })
    ∧ (s.hk.inj = .delay → ∃ t e, exec (.hkDelayEnd .injected) s = .next t
      ∧ t.hk = { s.hk with
          inj := .running, injLen := s.get R.HKSEQ_INJ_LEN, cur := some e, stAgain := s.hkTesting || s.hk.stAgain }
      ∧ e.inj = true ∧ e.idx = 0 ∧ e.cfg = s.rd (R.HKSEQ_ENT_INP (entBlock true 0)).key ∧ e.seqNo = s.hk.injPass
      ∧ t.flag R.HK_STATUS_ST_BUSY = false
      ∧ (s.hkTesting = true ∨ s.hk.cur.isSome = true → t.hasEvt E.HK_ABORT = true
          ∧ t.get R.HK_ABORT_CNT = counted 32 (s.get R.HK_ABORT_CNT) 1)
      ∧ (s.hkTesting = false → s.hk.cur = none → s.keeps t [])
      ∧ s.keeps t [R.HK_STATUS_ST_BUSY.key, R.HK_ABORT_CNT.key, evtKey 0x90] ∧ t.bare = { s.bare with hk := t.hk })
    ∧ (s.hk.inj = .delay → s.hk.reg = .delay → ∃ t e, exec (.hkDelayEnd .both) s = .next t
      ∧ t.hk = { s.hk with
          inj := .running, injLen := s.get R.HKSEQ_INJ_LEN, cur := some e, stAgain := s.hkTesting || s.hk.stAgain, reg := .waiting }
      ∧ e.inj = true ∧ e.idx = 0 ∧ e.cfg = s.rd (R.HKSEQ_ENT_INP (entBlock true 0)).key ∧ e.seqNo = s.hk.injPass
      ∧ t.flag R.HK_STATUS_ST_BUSY = false
      ∧ s.keeps t [R.HK_STATUS_ST_BUSY.key, R.HK_ABORT_CNT.key, evtKey 0x90] ∧ t.bare = { s.bare with hk := t.hk })
    ∧ (s.hk.inj ≠ .delay → exec (.hkDelayEnd .both) s = exec (.hkDelayEnd .regular) s)
    ∧ (s.hk.reg ≠ .delay → exec (.hkDelayEnd .both) s = exec (.hkDelayEnd .injected) s)
    ∧ ∀ e (codes : HkCodes) cj, s.hkWatch.hk.cur = some e → e.idx < 64 → codes.length = 2 ^ bits e.cfg 24 3 →
      let w := s.hkWatch.countW R.HK_CONV_CNT E.HK_CONV_WRAP codes.length
      let v := w.hkValue e codes cj
      let r := if e.inj = true then 64 + e.idx else e.idx
      ∃ u t, exec (.hkEntryDone codes cj) s = .next t
        ∧ u.get R.HK_CONV_CNT = (s.get R.HK_CONV_CNT + codes.length) % 2 ^ 32
        ∧ u.geti (R.HKSEQ_RESr_VAL r) = signed 32 (unsigned 32 v.1)
        ∧ u.get (R.HKSEQ_RESr_STAT r) % 2 = 1
        ∧ u.get (R.HKSEQ_RESr_STAT r) / 2 ^ 24 = e.seqNo % 256
        ∧ u.flag ⟨(R.HKSEQ_RESr_STAT r).key, 5, 1⟩ = decide (e.limHi < v.1)
        ∧ u.flag ⟨(R.HKSEQ_RESr_STAT r).key, 6, 1⟩ = decide (v.1 < e.limLo)
        ∧ u.flag (State.limitFld r) = (decide (e.limHi < v.1) || decide (v.1 < e.limLo))
        ∧ (u.flag (State.limitFld r) = true → s.flag (State.limitFld r) = false → u.hasEvt E.HKSEQ_LIMIT = true)
        ∧ s.keepsPages u [0x0C, 0x90, 0x91, 0x92]
        ∧ u.bare = { s.bare with hk := s.hkWatch.hk, free := u.free }
        ∧ (e.idx + 1 < (if e.inj = true then s.hk.injLen else s.hk.regLen) →
            answersFired (u.entryStart e.inj (e.idx + 1)) t)
        ∧ ((if e.inj = true then s.hk.injLen else s.hk.regLen) ≤ e.idx + 1 → answersFired (u.seqEnd e.inj) t)

/-- The converter's self-test (R375) starts in an idle gap, or with CONT = 1 between two passes of the regular sequence unless the injected one counts its delay, and ends with offsets and
gain errors judged and, whatever the verdict, shown, 16 conversions counted, and a regular sequence that waited starts (that the gap between passes is not idle while the injected sequence counts its delay, and
that gain errors compare by magnitude, are the model's readings, log entry 64). Each sample of the excitation currents is shown; an output that is on OPENs after ten samples below 10 µA in a row
and is switched off as SHORT after two above 25 mA (R369). A pulse timer's next period begins with its settings as they stand (R374). -/
def Claims.TheConverterIsWatched : Prop :=
  ∀ s : State, s.alive = true → s.tablesWf = true →
    (s.enabled 0x90 = true → s.flag R.HK_STATUS_ST_PENDING = true → s.hkTesting = false → s.hk.reg = .idle → s.hk.inj = .idle →
      ∃ t, exec .hkSelftestStart s = .next t ∧ t.flag R.HK_STATUS_ST_PENDING = false ∧ t.hkTesting = true
      ∧ t.hk = { s.hk with stAgain := false, cur := none } ∧ s.keeps t [R.HK_STATUS_ST_BUSY.key] ∧ t.bare = { s.bare with hk := t.hk })
    ∧ (∀ o1 o128 g1 g2 : Int, s.hkTesting = true →
      let pass := decide (o1.natAbs ≤ 32) && decide (o128.natAbs ≤ 32) && decide (g1.natAbs ≤ 50) && decide (g2.natAbs ≤ 50)
      ∃ u t, exec (.hkSelftestDone o1 o128 g1 g2) s = .next t
      ∧ u.hkTesting = false ∧ u.flag R.HK_STATUS_ST_PASS = pass ∧ u.hasEvt E.HK_SELFTEST_DONE = true
      ∧ (pass = false → u.hasEvt E.HK_SELFTEST_FAIL = true
          ∧ u.rd (faultKey 0x90) = BitVec.ofNat 32 (2 + s.time.cn.toNat % 65536 * 65536))
      ∧ u.geti R.HK_ST_RES_OFS = clampI (-32768) 32767 o128
      ∧ u.geti R.HK_ST_RES_GAIN = clampI (-32768) 32767 (if g1.natAbs < g2.natAbs then g2 else g1)
      ∧ u.get R.HK_CONV_CNT = (s.get R.HK_CONV_CNT + 16) % 2 ^ 32
      ∧ s.keeps u [R.HK_STATUS_ST_BUSY.key, R.HK_ST_RES_OFS.key, R.HK_CONV_CNT.key, evtKey 0x90, faultKey 0x90]
      ∧ u.bare = s.bare ∧ answers (if s.hk.reg = .waiting then u.seqStart false else u) t)
    ∧ (∀ e (codes : HkCodes) cj, s.hkWatch.hk.cur = some e → e.inj = false → e.idx < 64 → codes.length = 2 ^ bits e.cfg 24 3 →
      s.hk.regLen ≤ e.idx + 1 → s.flag R.HK_REG_CTL_CONT = true → ∃ t, exec (.hkEntryDone codes cj) s = .next t
      ∧ t.hasEvt E.HKSEQ_REG_DONE = true ∧ t.get R.HKSEQ_REG_PASS = (s.get R.HKSEQ_REG_PASS + 1) % 256
      ∧ (s.flag R.HK_STATUS_ST_PENDING = true → s.hk.inj = .idle →
          t.hkTesting = true ∧ t.flag R.HK_STATUS_ST_PENDING = false ∧ t.hk.reg = .waiting ∧ t.hk.cur = none)
      ∧ (s.flag R.HK_STATUS_ST_PENDING = false ∨ s.hk.inj ≠ .idle →
          t.hkTesting = s.hkTesting ∧ t.flag R.HK_STATUS_ST_PENDING = s.flag R.HK_STATUS_ST_PENDING ∧ t.hk.reg = .running
          ∧ ∃ e', t.hk.cur = some e' ∧ e'.inj = false ∧ e'.idx = 0)
      ∧ s.keepsPages t [0x0C, 0x90, 0x91, 0x92])
    ∧ (∀ i0 i1 i2 i3 : Nat, ∃ t, exec (.excSample i0 i1 i2 i3) s = .next t
      ∧ (∀ (k : Fin 4) (i : Nat), [i0, i1, i2, i3][k.val]? = some i → t.get (R.HK_EXCk_I k.val) = min i 65535
          ∧ (s.excOn k.val = true → ∀ m, s.hk.exc[k.val]? = some m →
              (i < 10 → 9 ≤ m.low → t.flag (R.HK_EXCk_OPEN k.val) = true
                ∧ (s.flag (R.HK_EXCk_OPEN k.val) = false → t.hasEvt E.HK_EXC_OPEN = true))
              ∧ (10 ≤ i → 9 ≤ m.high → t.flag (R.HK_EXCk_OPEN k.val) = false)
              ∧ (25000 < i → 1 ≤ m.above → t.flag (R.HK_EXCk_SHORT k.val) = true ∧ t.flag (R.HK_EXCk_OFF k.val) = true
                ∧ t.hasEvt E.HK_EXC_SHORT = true)
              ∧ (i ≤ 25000 ∨ m.above = 0 → t.flag (R.HK_EXCk_SHORT k.val) = s.flag (R.HK_EXCk_SHORT k.val)
                ∧ t.flag (R.HK_EXCk_OFF k.val) = s.flag (R.HK_EXCk_OFF k.val))))
      ∧ s.keeps t ([evtKey 0x90, faultKey 0x90] ++ (List.range 4).map (fun k => (R.HK_EXCk_I k).key))
      ∧ t.bare = { s.bare with hk := { s.hk with exc := t.hk.exc, cur := t.hk.cur } })
    ∧ ∀ n : Fin 4, (Assoc.find? s.hk.pt n.val).isSome = true → ∃ t, exec (.ptPeriod n) s = .next t
      ∧ t.hk.pt = Assoc.put s.hk.pt n.val (s.get (R.HK_PTn_PERIOD n.val), s.get (R.HK_PTn_HIGH n.val))
      ∧ t.out = [.pwm n.val (s.get (R.HK_PTn_PERIOD n.val)) (s.get (R.HK_PTn_HIGH n.val))]
      ∧ (s.get (R.HK_PTn_HIGH n.val) ≠ 0 → ∃ cc, (0x1C + n.val, cc) ∈ t.fired)
      ∧ s.keepsPages t [0x0C, 0x90]
      ∧ t.still = { s.still with free := t.free, hk := { s.hk with pt := t.hk.pt, reg := t.hk.reg, inj := t.hk.inj } }

/-- Housekeeping sequences, self-test, excitation and pulse timers.
Completion of HK_DELAY_END, HK_ENTRY_DONE, HK_SELFTEST_START, HK_SELFTEST_DONE, EXC_SAMPLE and PT_PERIOD is stated here.
Rests on log entries 42, 48, 50, 64. -/
def Obligations.HousekeepingRuns : Prop :=
  Claims.HousekeepingSequencesRun ∧ Claims.TheConverterIsWatched

/-- No command changes a component of the state outside its footprint. -/
def Obligations.CommandsChangeOnlyTheirParts : Prop :=
  ∀ (c : Instr) (s t : State), exec c s = .next t → ∀ p, p ∉ c.touches → Part.same s t p

/-- The page types of the page directory: the page of the first instance, and how many instances there are. -/
def directoryPages : List (Nat × Nat) :=
  [(0x00, 1), (0x01, 1), (0x02, 2), (0x04, 1), (0x05, 1), (0x06, 1), (0x07, 1), (0x08, 1), (0x0C, 1), (0x0D, 1), (0x0E, 2),
    (0x10, 24), (0x28, 1), (0x29, 1), (0x2A, 1), (0x2C, 1), (0x30, 1), (0x31, 1), (0x32, 1), (0x33, 1), (0x38, 1), (0x39, 1),
    (0x40, 1), (0x41, 1), (0x42, 8), (0x4A, 1), (0x50, 32), (0x70, 1), (0x78, 16), (0x88, 1), (0x89, 1), (0x90, 1), (0x91, 1),
    (0x92, 1), (0x98, 1)]

/-- PAGE_ID of every page reads its type, the page number of the type's first instance, version 0x01, and its instance, counted from 0 (R450).
Completion of COHERENT_GROUP_READ is stated here. -/
def Obligations.PagesSayWhoTheyAre : Prop :=
  ∀ e ∈ directoryPages, ∀ i, i < e.2 → ∀ (s : State) (p : Port), s.serves p ((e.1 + i) * 4096) →
    ∃ t, exec (.coherentGroupRead p (BitVec.ofNat 20 ((e.1 + i) * 4096))) s = .next t
      ∧ t.out = [.answer p (BitVec.ofNat 20 ((e.1 + i) * 4096)) (BitVec.ofNat 32 (e.1 * 2 ^ 24 + 0x01 * 2 ^ 16 + i)) 0]
      ∧ s.keeps t [] ∧ t.bare = { s.bare with served := p }

/-- After every reset except a page reset exactly one bit of ID.RESET_CAUSE is set (R421): POR after the first power-up, SUPPLY after a later power-on reset, PIN
after RESET_N unless a rail left its reset window meanwhile (R431), RING after RING_RESET. -/
def Claims.EveryResetNamesItsCause : Prop :=
  State.reset.rd 0x00058 = 1
    ∧ ∀ s : State, (∃ t, exec .powerOnReset s = .next t ∧ t.rd 0x00058 = 2)
      ∧ (∀ ns (p : ResetPulse), s.phase ≠ .held → 1000 ≤ ns ∨ (100 ≤ ns ∧ p.taken = true) →
          ∃ t, exec (.resetN ns p) s = .next t ∧ t.rd 0x00058 = if p.supply = true then 2 else 4)
      ∧ ∀ f : RingFrame, s.ringOpen = true → request f 6 → f.data = 0x0000C0C5 →
          s.ringMine f = true ∨ frameBroadcast f = true → ∃ t, exec (.ringReset f) s = .next t ∧ t.rd 0x00058 = 8

/-- Power-up, RESET_N, and the cause that every reset names.
Completion of XO_STABLE, RING_RESET, POWER_ON_RESET, POR_RELEASE, RESET_N and SWEEP_DONE is stated here.
Rests on log entries 5, 6, 47, 65. -/
def Obligations.PowerUpAndResetRun : Prop :=
  Claims.PowerUpRunsItsCourse ∧ Claims.ResetNResets ∧ Claims.EveryResetNamesItsCause
end

