-- ==== Sys2Proof/Laws/Assoc.lean ====
section
/-! SUPPORT. The laws of sparse memory: a read after a write, and the canonical form that every write keeps. -/

namespace Sys2Proof.Machine

namespace Assoc

variable {α : Type}

/-- A deleted key is not listed; every other key reads as before. -/
theorem find?_del (l : Assoc α) (k j : Nat) : find? (del l k) j = if j = k then none else find? l j := by
  induction l with
  | nil => simp [del, find?]
  | cons e l ih =>
    obtain ⟨a, v⟩ := e
    simp only [del]
    split <;> rename_i h
    · rw [ih, find?]
      split
      · rfl
      · rw [if_neg (by omega)]
    · simp only [find?, ih]
      split <;> split <;> first | rfl | omega

/-- A key that is put reads as put; every other key reads as before. -/
theorem find?_put (l : Assoc α) (k : Nat) (v : α) (j : Nat) :
    find? (put l k v) j = if j = k then some v else find? l j := by
  induction l with
  | nil =>
    by_cases hj : j = k
    · simp [put, find?, hj]
    · simp [put, find?, hj, Ne.symm hj]
  | cons e l ih =>
    obtain ⟨a, w⟩ := e
    simp only [put]
    by_cases hj : j = k
    · subst hj
      split
      · simp [find?]
      · split
        · simp [find?]
        · rename_i h1 h2
          simp [find?, ih, Ne.symm h2]
    · split
      · simp [find?, hj, Ne.symm hj]
      · split
        · rename_i h2
          subst h2
          simp [find?, hj, Ne.symm hj]
        · simp [find?, ih, hj]

/-- A read after a write. -/
theorem getD_setD [DecidableEq α] (d : Nat → α) (l : Assoc α) (k : Nat) (v : α) (j : Nat) :
    getD d (setD d l k v) j = if j = k then v else getD d l j := by
  simp only [getD, setD]
  split
  · rename_i h
    rw [find?_del]
    split
    · rename_i hj; simp [hj, h]
    · rfl
  · rw [find?_put]
    split <;> rfl

/-- A bound below every key of a list bounds every key of the list without one. -/
theorem all_lt_del (l : Assoc α) (k m : Nat) (h : l.all (fun e => decide (m < e.1)) = true) :
    (del l k).all (fun e => decide (m < e.1)) = true := by
  induction l with
  | nil => rfl
  | cons e l ih =>
    obtain ⟨a, v⟩ := e
    simp only [List.all_cons, Bool.and_eq_true] at h
    simp only [del]
    split
    · exact ih h.2
    · simp only [List.all_cons, Bool.and_eq_true]
      exact ⟨h.1, ih h.2⟩

/-- A bound below every key of a list and below a key put into it. -/
theorem all_lt_put (l : Assoc α) (k : Nat) (v : α) (m : Nat) (hk : m < k)
    (h : l.all (fun e => decide (m < e.1)) = true) : (put l k v).all (fun e => decide (m < e.1)) = true := by
  induction l with
  | nil => simp [put, hk]
  | cons e l ih =>
    obtain ⟨a, w⟩ := e
    have h' := h
    simp only [List.all_cons, Bool.and_eq_true] at h
    simp only [put]
    split
    · simp only [List.all_cons, Bool.and_eq_true]
      exact ⟨by simpa using hk, h.1, h.2⟩
    · split
      · simp only [List.all_cons, Bool.and_eq_true]
        exact ⟨by simpa using hk, h.2⟩
      · simp only [List.all_cons, Bool.and_eq_true]
        exact ⟨h.1, ih h.2⟩

/-- Deleting keeps the keys rising. -/
theorem sorted_del (l : Assoc α) (k : Nat) (h : sorted l = true) : sorted (del l k) = true := by
  induction l with
  | nil => rfl
  | cons e l ih =>
    obtain ⟨a, v⟩ := e
    simp only [sorted, Bool.and_eq_true] at h
    simp only [del]
    split
    · exact ih h.2
    · simp only [sorted, Bool.and_eq_true]
      exact ⟨all_lt_del l k a h.1, ih h.2⟩

/-- Putting keeps the keys rising. -/
theorem sorted_put (l : Assoc α) (k : Nat) (v : α) (h : sorted l = true) : sorted (put l k v) = true := by
  induction l with
  | nil => rfl
  | cons e l ih =>
    obtain ⟨a, w⟩ := e
    simp only [sorted, Bool.and_eq_true] at h
    simp only [put]
    split
    · rename_i hk
      simp only [sorted, Bool.and_eq_true, List.all_cons]
      refine ⟨⟨by simpa using hk, ?_⟩, h.1, h.2⟩
      exact List.all_eq_true.2 fun e he => by
        have := List.all_eq_true.1 h.1 e he
        simp only [decide_eq_true_eq] at this ⊢
        omega
    · split
      · rename_i hk
        subst hk
        simp only [sorted, Bool.and_eq_true]
        exact ⟨h.1, h.2⟩
      · simp only [sorted, Bool.and_eq_true]
        exact ⟨all_lt_put l k v a (by omega) h.1, ih h.2⟩

/-- What holds of every entry of a list holds of every entry that is left. -/
theorem all_del (p : Nat × α → Bool) (l : Assoc α) (k : Nat) (h : l.all p = true) : (del l k).all p = true := by
  induction l with
  | nil => rfl
  | cons e l ih =>
    obtain ⟨a, v⟩ := e
    simp only [List.all_cons, Bool.and_eq_true] at h
    simp only [del]
    split
    · exact ih h.2
    · simp only [List.all_cons, Bool.and_eq_true]
      exact ⟨h.1, ih h.2⟩

/-- What holds of every entry of a list and of the entry put into it holds of every entry after. -/
theorem all_put (p : Nat × α → Bool) (l : Assoc α) (k : Nat) (v : α) (hv : p (k, v) = true) (h : l.all p = true) :
    (put l k v).all p = true := by
  induction l with
  | nil => simp [put, hv]
  | cons e l ih =>
    obtain ⟨a, w⟩ := e
    simp only [List.all_cons, Bool.and_eq_true] at h
    simp only [put]
    split
    · simp only [List.all_cons, Bool.and_eq_true]
      exact ⟨hv, h.1, h.2⟩
    · split
      · simp only [List.all_cons, Bool.and_eq_true]
        exact ⟨hv, h.2⟩
      · simp only [List.all_cons, Bool.and_eq_true]
        exact ⟨h.1, ih h.2⟩

/-- A write keeps the canonical form. -/
theorem wf_setD [DecidableEq α] (d : Nat → α) (l : Assoc α) (k : Nat) (v : α) (h : wf d l = true) :
    wf d (setD d l k v) = true := by
  simp only [wf, Bool.and_eq_true] at h ⊢
  simp only [setD]
  split
  · exact ⟨sorted_del l k h.1, all_del _ l k h.2⟩
  · rename_i hv
    exact ⟨sorted_put l k v h.1, all_put _ l k v (by simpa using hv) h.2⟩

/-- Leaving entries out keeps a bound below every key. -/
theorem all_filter (p q : Nat × α → Bool) (l : Assoc α) (h : l.all p = true) : (l.filter q).all p = true :=
  List.all_eq_true.2 fun e he => List.all_eq_true.1 h e (List.mem_filter.1 he).1

/-- Leaving entries out keeps the keys rising. -/
theorem sorted_filter (q : Nat × α → Bool) (l : Assoc α) (h : sorted l = true) : sorted (l.filter q) = true := by
  induction l with
  | nil => rfl
  | cons e l ih =>
    obtain ⟨a, v⟩ := e
    simp only [sorted, Bool.and_eq_true] at h
    simp only [List.filter_cons]
    split
    · simp only [sorted, Bool.and_eq_true]
      exact ⟨all_filter _ q l h.1, ih h.2⟩
    · exact ih h.2

/-- Leaving entries out keeps the canonical form. -/
theorem wf_filter [DecidableEq α] (d : Nat → α) (q : Nat × α → Bool) (l : Assoc α) (h : wf d l = true) :
    wf d (l.filter q) = true := by
  simp only [wf, Bool.and_eq_true] at h ⊢
  exact ⟨sorted_filter q l h.1, all_filter _ q l h.2⟩

end Assoc

end Sys2Proof.Machine
end

