-- ==== Sys2Proof/Laws/Regs.lean ====
section
/-! SUPPORT. The laws of register words and fields: reading after writing, events, counters and fault codes. -/

namespace Sys2Proof.Machine

/-- A bit of a word in which a field has been written. -/
theorem getLsbD_setBits (x : Word) (lo w v i : Nat) (hi : i < 32) :
    (setBits x lo w v).getLsbD i = if lo ≤ i ∧ i < lo + w then v.testBit (i - lo) else x.getLsbD i := by
  simp only [setBits, BitVec.getLsbD_or, BitVec.getLsbD_and, BitVec.getLsbD_not, BitVec.getLsbD_ofNat, hi, decide_true,
    Bool.true_and, Nat.testBit_mul_two_pow, Nat.testBit_two_pow_sub_one, Nat.testBit_mod_two_pow]
  by_cases h1 : lo ≤ i
  · by_cases h2 : i < lo + w
    · have : i - lo < w := by omega
      simp [h1, h2, this]
    · have : ¬ i - lo < w := by omega
      simp [h1, h2, this]
  · simp [h1]

/-- A field that has been written reads as written. -/
theorem bits_setBits (x : Word) (lo w v : Nat) (h : lo + w ≤ 32) : bits (setBits x lo w v) lo w = v % 2 ^ w := by
  have : BitVec.extractLsb' lo w (setBits x lo w v) = BitVec.ofNat w v := by
    apply BitVec.eq_of_getLsbD_eq
    intro i hi
    rw [BitVec.getLsbD_extractLsb', getLsbD_setBits _ _ _ _ _ (by omega), BitVec.getLsbD_ofNat]
    simp only [hi, decide_true, Bool.true_and, Nat.add_sub_cancel_left]
    rw [if_pos (by omega)]
  simp only [bits, this, BitVec.toNat_ofNat]

/-- A field apart from the one that has been written reads as before. -/
theorem bits_setBits_of_disjoint (x : Word) (lo w v lo' w' : Nat) (h' : lo' + w' ≤ 32) (hd : lo' + w' ≤ lo ∨ lo + w ≤ lo') :
    bits (setBits x lo w v) lo' w' = bits x lo' w' := by
  have : BitVec.extractLsb' lo' w' (setBits x lo w v) = BitVec.extractLsb' lo' w' x := by
    apply BitVec.eq_of_getLsbD_eq
    intro i hi
    rw [BitVec.getLsbD_extractLsb', BitVec.getLsbD_extractLsb', getLsbD_setBits _ _ _ _ _ (by omega)]
    rw [if_neg (by omega)]
  simp only [bits, this]

/-- A field is less than a power of two of its width. -/
theorem bits_lt (x : Word) (lo w : Nat) : bits x lo w < 2 ^ w := BitVec.isLt _

namespace State

/-- A register word after a write. -/
theorem rd_wr (s : State) (k : Nat) (v : Word) (j : Nat) : (s.wr k v).rd j = if j = k then v else s.rd j :=
  Assoc.getD_setD resetWord s.regs k v j

/-- The word that has been written. -/
@[simp] theorem rd_wr_self (s : State) (k : Nat) (v : Word) : (s.wr k v).rd k = v := by rw [rd_wr, if_pos rfl]

/-- Another word than the one written. -/
theorem rd_wr_of_ne (s : State) (k : Nat) (v : Word) (j : Nat) (h : j ≠ k) : (s.wr k v).rd j = s.rd j := by
  rw [rd_wr, if_neg h]

/-- A word other than that of the field that is set. -/
theorem rd_set_of_ne (s : State) (f : Fld) (v j : Nat) (h : j ≠ f.key) : (s.set f v).rd j = s.rd j :=
  rd_wr_of_ne s f.key _ j h

/-- A field that has been set reads as set. -/
theorem get_set (s : State) (f : Fld) (v : Nat) (h : f.lo + f.w ≤ 32) : (s.set f v).get f = v % 2 ^ f.w := by
  simp only [get, set, rd_wr_self, bits_setBits _ _ _ _ h]

/-- A field of another word reads as before. -/
theorem get_set_of_key (s : State) (f g : Fld) (v : Nat) (h : g.key ≠ f.key) : (s.set f v).get g = s.get g := by
  simp only [get, rd_set_of_ne s f v g.key h]

/-- Another field of the word reads as before. -/
theorem get_set_of_disjoint (s : State) (f g : Fld) (v : Nat) (hg : g.lo + g.w ≤ 32)
    (hd : g.lo + g.w ≤ f.lo ∨ f.lo + f.w ≤ g.lo) : (s.set f v).get g = s.get g := by
  by_cases hk : g.key = f.key
  · simp only [get, set, hk, rd_wr_self, bits_setBits_of_disjoint _ _ _ _ _ _ hg hd]
  · exact get_set_of_key s f g v hk

/-- A field reads below a power of two of its width. -/
theorem get_lt (s : State) (f : Fld) : s.get f < 2 ^ f.w := bits_lt _ _ _

/-- A one-bit field that has been set. -/
theorem flag_setb (s : State) (f : Fld) (b : Bool) (h : f.lo + f.w ≤ 32) (hw : f.w = 1) : (s.setb f b).flag f = b := by
  simp only [flag, setb, get_set _ _ _ h, hw]
  cases b <;> rfl

/-- The register words after an event: EVT_STATUS of its page is written. -/
theorem regs_raise (s : State) (e : Ev) : ∃ q, (s.raise e).regs = (s.wr (e.page * 4096 + 0x010)
    (setBits (s.rd (e.page * 4096 + 0x010) ||| BitVec.ofNat 32 (2 ^ e.bit)) 16 16 q)).regs := by
  refine ⟨if s.evtSeen.any (fun o => o.page == e.page) then bits (s.rd (e.page * 4096 + 0x010)) 16 16
    else (bits (s.rd (e.page * 4096 + 0x010)) 16 16 + 1) % 2 ^ 16, ?_⟩
  unfold raise
  simp only
  rw [apply_ite State.regs]
  exact ite_self _

/-- Words that an event does not touch. -/
theorem rd_raise_of_ne (s : State) (e : Ev) (j : Nat) (h : j ≠ e.page * 4096 + 0x010) : (s.raise e).rd j = s.rd j := by
  obtain ⟨q, hq⟩ := regs_raise s e
  have k := rd_wr_of_ne s (e.page * 4096 + 0x010)
    (setBits (s.rd (e.page * 4096 + 0x010) ||| BitVec.ofNat 32 (2 ^ e.bit)) 16 16 q) j h
  unfold rd at k ⊢
  rw [hq]
  exact k

/-- A field in another word than EVT_STATUS of the event's page. -/
theorem get_raise_of_ne (s : State) (e : Ev) (f : Fld) (h : f.key ≠ e.page * 4096 + 0x010) : (s.raise e).get f = s.get f := by
  simp only [get, rd_raise_of_ne s e f.key h]

/-- The bits of EVT_STATUS after an event of its page: its own is set, the others stay. -/
theorem getLsbD_raise (s : State) (e : Ev) (i : Nat) (hi : i < 16) :
    ((s.raise e).rd (e.page * 4096 + 0x010)).getLsbD i
      = ((s.rd (e.page * 4096 + 0x010)).getLsbD i || decide (e.bit = i)) := by
  have key : ∀ q, (setBits (s.rd (e.page * 4096 + 0x010) ||| BitVec.ofNat 32 (2 ^ e.bit)) 16 16 q).getLsbD i
      = ((s.rd (e.page * 4096 + 0x010)).getLsbD i || decide (e.bit = i)) := by
    intro q
    rw [getLsbD_setBits _ _ _ _ _ (by omega), if_neg (by omega), BitVec.getLsbD_or, BitVec.getLsbD_ofNat, Nat.testBit_two_pow]
    have : i < 32 := by omega
    simp [this]
  obtain ⟨q, hq⟩ := regs_raise s e
  rw [← key q, ← rd_wr_self s (e.page * 4096 + 0x010)
    (setBits (s.rd (e.page * 4096 + 0x010) ||| BitVec.ofNat 32 (2 ^ e.bit)) 16 16 q)]
  unfold rd
  rw [hq]
  rfl

/-- An event that occurs has its bit set. -/
theorem hasEvt_raise (s : State) (e : Ev) (h : e.bit < 16) : (s.raise e).hasEvt e = true := by
  simp only [hasEvt, getLsbD_raise s e e.bit h, decide_true, Bool.or_true]

/-- A bit of EVT_STATUS that is set stays set when another event occurs. -/
theorem hasEvt_raise_of_hasEvt (s : State) (e d : Ev) (hd : d.bit < 16) (h : s.hasEvt d = true) :
    (s.raise e).hasEvt d = true := by
  simp only [hasEvt] at h ⊢
  by_cases hp : d.page = e.page
  · rw [hp, getLsbD_raise s e d.bit hd]
    rw [hp] at h
    simp [h]
  · rw [rd_raise_of_ne s e _ (by omega)]
    exact h

/-- Words that a counter does not touch: its own, and EVT_STATUS of its page, in which PEGGED may be raised. -/
theorem rd_countBy_of_ne (s : State) (f : Fld) (n j : Nat) (h : j ≠ f.key) (hp : j ≠ f.key / 4096 % 256 * 4096 + 0x010) :
    (s.countBy f n).rd j = s.rd j := by
  unfold countBy
  simp only [apply_ite (fun t : State => t.rd j), rd_raise_of_ne _ (E.PEGGED (f.key / 4096 % 256)) _ hp,
    rd_set_of_ne _ _ _ _ h, ite_self]

/-- Words that a counter of wrap events does not touch. -/
theorem rd_countW_of_ne (s : State) (f : Fld) (e : Ev) (n j : Nat) (h : j ≠ f.key) (hp : j ≠ e.page * 4096 + 0x010) :
    (s.countW f e n).rd j = s.rd j := by
  unfold countW
  simp only
  split
  · exact rd_set_of_ne _ _ _ _ h
  · rw [rd_raise_of_ne _ _ _ hp]; exact rd_set_of_ne _ _ _ _ h

/-- Words that a fault code does not touch. -/
theorem rd_fault_of_ne (s : State) (pg c d j : Nat) (h : j ≠ pg * 4096 + 0x01C) : (s.fault pg c d).rd j = s.rd j :=
  rd_wr_of_ne _ _ _ _ h

/-- Words that a signed or unsigned field update does not touch. -/
theorem rd_seti_of_ne (s : State) (f : Fld) (v : Int) (j : Nat) (h : j ≠ f.key) : (s.seti f v).rd j = s.rd j :=
  rd_set_of_ne _ _ _ _ h

/-- Words that a one-bit field update does not touch. -/
theorem rd_setb_of_ne (s : State) (f : Fld) (b : Bool) (j : Nat) (h : j ≠ f.key) : (s.setb f b).rd j = s.rd j :=
  rd_set_of_ne _ _ _ _ h

end State

end Sys2Proof.Machine
end

