-- ==== Sys2Proof/Laws/Keeps.lean ====
section
/-! SUPPORT. Which register words an operation leaves alone: `s.keeps t ks` through writes, fields, events and counters. -/

namespace Sys2Proof.Machine

namespace State

/-- A state keeps its own words. -/
theorem keeps_refl (s : State) (ks : List Nat) : s.keeps s ks := fun _ _ => rfl

/-- Two changes one after the other. -/
theorem keeps_trans {s t u : State} {ks : List Nat} (h : s.keeps t ks) (h' : t.keeps u ks) : s.keeps u ks :=
  fun k hk => (h' k hk).trans (h k hk)

/-- More words may change. -/
theorem keeps_mono {s t : State} {ks ls : List Nat} (h : s.keeps t ks) (hl : ∀ k ∈ ks, k ∈ ls) : s.keeps t ls :=
  fun k hk => h k (fun hc => hk (hl k hc))

/-- Words that are equal are kept. -/
theorem keeps_of_rd {s t : State} {ks : List Nat} (h : ∀ k, k ∉ ks → t.rd k = s.rd k) : s.keeps t ks :=
  fun k hk => by rw [h k hk]

/-- The same register words. -/
theorem keeps_of_regs {s t : State} (ks : List Nat) (h : t.regs = s.regs) : s.keeps t ks :=
  keeps_of_rd fun k _ => by unfold rd; rw [h]

/-- A word written. -/
theorem keeps_wr {ks : List Nat} (s : State) (k : Nat) (v : Word) (h : k ∈ ks) : s.keeps (s.wr k v) ks :=
  keeps_of_rd fun j hj => rd_wr_of_ne s k v j (fun e => hj (e ▸ h))

/-- A field set. -/
theorem keeps_set {ks : List Nat} (s : State) (f : Fld) (v : Nat) (h : f.key ∈ ks) : s.keeps (s.set f v) ks :=
  keeps_wr s f.key _ h

/-- A signed field set. -/
theorem keeps_seti {ks : List Nat} (s : State) (f : Fld) (v : Int) (h : f.key ∈ ks) : s.keeps (s.seti f v) ks :=
  keeps_set s f _ h

/-- A one-bit field set. -/
theorem keeps_setb {ks : List Nat} (s : State) (f : Fld) (v : Bool) (h : f.key ∈ ks) : s.keeps (s.setb f v) ks :=
  keeps_set s f _ h

/-- An event raised. -/
theorem keeps_raise {ks : List Nat} (s : State) (e : Ev) (h : e.page * 4096 + 0x010 ∈ ks) : s.keeps (s.raise e) ks :=
  keeps_of_rd fun j hj => rd_raise_of_ne s e j (fun c => hj (c ▸ h))

/-- A CT-S counter. -/
theorem keeps_countBy {ks : List Nat} (s : State) (f : Fld) (n : Nat) (h : f.key ∈ ks)
    (hp : f.key / 4096 % 256 * 4096 + 0x010 ∈ ks) : s.keeps (s.countBy f n) ks :=
  keeps_of_rd fun j hj => rd_countBy_of_ne s f n j (fun c => hj (c ▸ h)) (fun c => hj (c ▸ hp))

/-- A CT-S counter counting one. -/
theorem keeps_count {ks : List Nat} (s : State) (f : Fld) (h : f.key ∈ ks)
    (hp : f.key / 4096 % 256 * 4096 + 0x010 ∈ ks) : s.keeps (s.count f) ks := keeps_countBy s f 1 h hp

/-- A CT-W counter. -/
theorem keeps_countW {ks : List Nat} (s : State) (f : Fld) (e : Ev) (n : Nat) (h : f.key ∈ ks)
    (hp : e.page * 4096 + 0x010 ∈ ks) : s.keeps (s.countW f e n) ks :=
  keeps_of_rd fun j hj => rd_countW_of_ne s f e n j (fun c => hj (c ▸ h)) (fun c => hj (c ▸ hp))

/-- A fault recorded. -/
theorem keeps_fault {ks : List Nat} (s : State) (pg c d : Nat) (h : pg * 4096 + 0x01C ∈ ks) : s.keeps (s.fault pg c d) ks :=
  keeps_wr s _ _ h

/-- A CT-S counter reads what R50 says after counting. -/
theorem get_countBy (s : State) (f : Fld) (n : Nat) (hw : 1 ≤ f.w) (h : f.lo + f.w ≤ 32)
    (hk : f.key ≠ f.key / 4096 % 256 * 4096 + 0x010) : (s.countBy f n).get f = counted f.w (s.get f) n := by
  have hlt := get_lt s f
  have hp : 2 ^ f.w = 2 * 2 ^ (f.w - 1) := by
    have := Nat.pow_succ (n := 2) (m := f.w - 1)
    rw [show (f.w - 1).succ = f.w by omega] at this
    omega
  have hpos : 0 < 2 ^ (f.w - 1) := Nat.pow_pos (by omega)
  have hdm := Nat.div_add_mod (s.get f) (2 ^ (f.w - 1))
  have hq : s.get f / 2 ^ (f.w - 1) ≤ 1 := by
    have : s.get f / 2 ^ (f.w - 1) < 2 := Nat.div_lt_of_lt_mul (by omega)
    omega
  have hle := Nat.mod_le (s.get f) (2 ^ (f.w - 1))
  have hml := Nat.mod_lt (s.get f) hpos
  unfold countBy counted
  simp only
  generalize hP : 2 ^ (f.w - 1) = P at *
  generalize hv : s.get f = v at *
  by_cases hn : v % P + n < P - 1
  · rw [if_pos hn, if_pos hn, if_pos hn, get_set _ _ _ h]
    generalize 2 ^ f.w = Q at *
    rw [Nat.mod_eq_of_lt]
    · omega
    · rcases Nat.le_one_iff_eq_zero_or_eq_one.mp hq with h0 | h1
      · rw [h0] at hdm; omega
      · rw [h1] at hdm; omega
  · rw [if_neg hn, if_neg hn, if_neg (Nat.lt_irrefl _)]
    have e : (s.set f (P + (P - 1))).get f = 2 ^ f.w - 1 := by
      rw [get_set _ _ _ h, Nat.mod_eq_of_lt] <;> generalize 2 ^ f.w = Q at * <;> omega
    split
    · exact (get_raise_of_ne _ (E.PEGGED (f.key / 4096 % 256)) f hk).trans e
    · exact e

/-- Bits of a word that raising an event leaves alone. -/
theorem rd_raise_masked (s : State) (e : Ev) (k : Nat) (m : Word) (hb : m.getLsbD e.bit = true)
    (hs : ∀ i, 16 ≤ i → i < 32 → m.getLsbD i = true) : (s.raise e).rd k &&& ~~~m = s.rd k &&& ~~~m := by
  by_cases hk : k = e.page * 4096 + 0x010
  · subst hk
    apply BitVec.eq_of_getLsbD_eq
    intro i hi
    simp only [BitVec.getLsbD_and, BitVec.getLsbD_not, hi, decide_true, Bool.true_and]
    by_cases h16 : i < 16
    · by_cases he : i = e.bit
      · subst he; simp [hb]
      · have := getLsbD_raise s e i h16
        rw [this]
        simp [show ¬ e.bit = i from fun c => he c.symm]
    · rw [hs i (by omega) hi]; simp
  · rw [rd_raise_of_ne s e k hk]

end State

end Sys2Proof.Machine
end

