-- ==== Sys2Proof/Laws/Mask.lean ====
section
/-! SUPPORT. What a part of the state leaves alone. `s.mask M` is `s` with every component whose place (in the order of the
declaration of `State`) is a set bit of `M` put to its reset value: two states that agree under a mask agree in every component
outside it. For each operation, one lemma says once which components it can change. -/

namespace Sys2Proof.Machine

namespace State

/-- The state with the components of `M` put to their reset values. -/
def mask (M : Nat) (s : State) : State where
  pending := if M.testBit 0 then State.reset.pending else s.pending
  out := if M.testBit 1 then State.reset.out else s.out
  evtSeen := if M.testBit 2 then State.reset.evtSeen else s.evtSeen
  fired := if M.testBit 3 then State.reset.fired else s.fired
  evmq := if M.testBit 4 then State.reset.evmq else s.evmq
  free := if M.testBit 5 then State.reset.free else s.free
  phase := if M.testBit 6 then State.reset.phase else s.phase
  swept := if M.testBit 7 then State.reset.swept else s.swept
  regs := if M.testBit 8 then State.reset.regs else s.regs
  prevRegs := if M.testBit 9 then State.reset.prevRegs else s.prevRegs
  strokeEnd := if M.testBit 10 then State.reset.strokeEnd else s.strokeEnd
  snap := if M.testBit 11 then State.reset.snap else s.snap
  holdC := if M.testBit 12 then State.reset.holdC else s.holdC
  holdG := if M.testBit 13 then State.reset.holdG else s.holdG
  staged := if M.testBit 14 then State.reset.staged else s.staged
  ovf := if M.testBit 15 then State.reset.ovf else s.ovf
  unlockC := if M.testBit 16 then State.reset.unlockC else s.unlockC
  unlockG := if M.testBit 17 then State.reset.unlockG else s.unlockG
  snapReq := if M.testBit 18 then State.reset.snapReq else s.snapReq
  arbC := if M.testBit 19 then State.reset.arbC else s.arbC
  arbG := if M.testBit 20 then State.reset.arbG else s.arbG
  served := if M.testBit 21 then State.reset.served else s.served
  clk := if M.testBit 22 then State.reset.clk else s.clk
  time := if M.testBit 23 then State.reset.time else s.time
  pace := if M.testBit 24 then State.reset.pace else s.pace
  tcuA := if M.testBit 25 then State.reset.tcuA else s.tcuA
  tcuB := if M.testBit 26 then State.reset.tcuB else s.tcuB
  cox := if M.testBit 27 then State.reset.cox else s.cox
  banks := if M.testBit 28 then State.reset.banks else s.banks
  trimCur := if M.testBit 29 then State.reset.trimCur else s.trimCur
  trimCal := if M.testBit 30 then State.reset.trimCal else s.trimCal
  overs := if M.testBit 31 then State.reset.overs else s.overs
  words := if M.testBit 32 then State.reset.words else s.words
  vals := if M.testBit 33 then State.reset.vals else s.vals
  pouts := if M.testBit 34 then State.reset.pouts else s.pouts
  stat := if M.testBit 35 then State.reset.stat else s.stat
  cnSegs := if M.testBit 36 then State.reset.cnSegs else s.cnSegs
  hubSegs := if M.testBit 37 then State.reset.hubSegs else s.hubSegs
  fades := if M.testBit 38 then State.reset.fades else s.fades
  prevFades := if M.testBit 39 then State.reset.prevFades else s.prevFades
  fadeQ := if M.testBit 40 then State.reset.fadeQ else s.fadeQ
  profiles := if M.testBit 41 then State.reset.profiles else s.profiles
  badTaps := if M.testBit 42 then State.reset.badTaps else s.badTaps
  segs := if M.testBit 43 then State.reset.segs else s.segs
  marks := if M.testBit 44 then State.reset.marks else s.marks
  rateCr := if M.testBit 45 then State.reset.rateCr else s.rateCr
  prevRateCr := if M.testBit 46 then State.reset.prevRateCr else s.prevRateCr
  records := if M.testBit 47 then State.reset.records else s.records
  hist := if M.testBit 48 then State.reset.hist else s.hist
  histClr := if M.testBit 49 then State.reset.histClr else s.histClr
  servoN := if M.testBit 50 then State.reset.servoN else s.servoN
  wake := if M.testBit 51 then State.reset.wake else s.wake
  wakeBad := if M.testBit 52 then State.reset.wakeBad else s.wakeBad
  accQ := if M.testBit 53 then State.reset.accQ else s.accQ
  evNo := if M.testBit 54 then State.reset.evNo else s.evNo
  runStart := if M.testBit 55 then State.reset.runStart else s.runStart
  startQ := if M.testBit 56 then State.reset.startQ else s.startQ
  startLast := if M.testBit 57 then State.reset.startLast else s.startLast
  presc := if M.testBit 58 then State.reset.presc else s.presc
  hits := if M.testBit 59 then State.reset.hits else s.hits
  nbHits := if M.testBit 60 then State.reset.nbHits else s.nbHits
  selfLast := if M.testBit 61 then State.reset.selfLast else s.selfLast
  selfSeen := if M.testBit 62 then State.reset.selfSeen else s.selfSeen
  coincTold := if M.testBit 63 then State.reset.coincTold else s.coincTold
  autoCnt := if M.testBit 64 then State.reset.autoCnt else s.autoCnt
  autoDue := if M.testBit 65 then State.reset.autoDue else s.autoDue
  nbSt := if M.testBit 66 then State.reset.nbSt else s.nbSt
  nbMsg := if M.testBit 67 then State.reset.nbMsg else s.nbMsg
  nbErrs := if M.testBit 68 then State.reset.nbErrs else s.nbErrs
  nbMiss := if M.testBit 69 then State.reset.nbMiss else s.nbMiss
  easyBroken := if M.testBit 70 then State.reset.easyBroken else s.easyBroken
  frags := if M.testBit 71 then State.reset.frags else s.frags
  fragId := if M.testBit 72 then State.reset.fragId else s.fragId
  recBad := if M.testBit 73 then State.reset.recBad else s.recBad
  engines := if M.testBit 74 then State.reset.engines else s.engines
  lensStall := if M.testBit 75 then State.reset.lensStall else s.lensStall
  lensWait := if M.testBit 76 then State.reset.lensWait else s.lensWait
  lensClk := if M.testBit 77 then State.reset.lensClk else s.lensClk
  offer := if M.testBit 78 then State.reset.offer else s.offer
  held := if M.testBit 79 then State.reset.held else s.held
  admitId := if M.testBit 80 then State.reset.admitId else s.admitId
  shedSeen := if M.testBit 81 then State.reset.shedSeen else s.shedSeen
  tests := if M.testBit 82 then State.reset.tests else s.tests
  laneFrom := if M.testBit 83 then State.reset.laneFrom else s.laneFrom
  txRd := if M.testBit 84 then State.reset.txRd else s.txRd
  rxRd := if M.testBit 85 then State.reset.rxRd else s.rxRd
  rxErr := if M.testBit 86 then State.reset.rxErr else s.rxErr
  codeTold := if M.testBit 87 then State.reset.codeTold else s.codeTold
  rxTail := if M.testBit 88 then State.reset.rxTail else s.rxTail
  prbs := if M.testBit 89 then State.reset.prbs else s.prbs
  checks := if M.testBit 90 then State.reset.checks else s.checks
  txOff := if M.testBit 91 then State.reset.txOff else s.txOff
  loopFrom := if M.testBit 92 then State.reset.loopFrom else s.loopFrom
  loopTold := if M.testBit 93 then State.reset.loopTold else s.loopTold
  es := if M.testBit 94 then State.reset.es else s.es
  sig := if M.testBit 95 then State.reset.sig else s.sig
  sigRun := if M.testBit 96 then State.reset.sigRun else s.sigRun
  sigDone := if M.testBit 97 then State.reset.sigDone else s.sigDone
  laneBusy := if M.testBit 98 then State.reset.laneBusy else s.laneBusy
  slipWant := if M.testBit 99 then State.reset.slipWant else s.slipWant
  links := if M.testBit 100 then State.reset.links else s.links
  dmas := if M.testBit 101 then State.reset.dmas else s.dmas
  slots := if M.testBit 102 then State.reset.slots else s.slots
  fetched := if M.testBit 103 then State.reset.fetched else s.fetched
  seats := if M.testBit 104 then State.reset.seats else s.seats
  seatUse := if M.testBit 105 then State.reset.seatUse else s.seatUse
  quiesce := if M.testBit 106 then State.reset.quiesce else s.quiesce
  seatWait := if M.testBit 107 then State.reset.seatWait else s.seatWait
  spillTold := if M.testBit 108 then State.reset.spillTold else s.spillTold
  slipTold := if M.testBit 109 then State.reset.slipTold else s.slipTold
  satHits := if M.testBit 110 then State.reset.satHits else s.satHits
  satGaps := if M.testBit 111 then State.reset.satGaps else s.satGaps
  satOut := if M.testBit 112 then State.reset.satOut else s.satOut
  satFast := if M.testBit 113 then State.reset.satFast else s.satFast
  sats := if M.testBit 114 then State.reset.sats else s.sats
  passTold := if M.testBit 115 then State.reset.passTold else s.passTold
  hk := if M.testBit 116 then State.reset.hk else s.hk
  tap := if M.testBit 117 then State.reset.tap else s.tap
  pads := if M.testBit 118 then State.reset.pads else s.pads
  ring := if M.testBit 119 then State.reset.ring else s.ring
  tp := if M.testBit 120 then State.reset.tp else s.tp
  tpMarks := if M.testBit 121 then State.reset.tpMarks else s.tpMarks
  tpLast := if M.testBit 122 then State.reset.tpLast else s.tpLast

/-- A bit of a part is a bit of the whole. -/
theorem bit_of_land {F M i : Nat} (h : F &&& M = F) (hi : F.testBit i = true) : M.testBit i = true := by
  have h2 := congrArg (fun n => Nat.testBit n i) h
  simp only [Nat.testBit_and, hi, Bool.true_and] at h2
  exact h2

/-- States that agree under a mask agree under a wider one. -/
theorem mask_mono {A M : Nat} (h : A &&& M = A) {s t : State} (e : mask A s = mask A t) : mask M s = mask M t := by
  have k : ∀ s, mask M (mask A s) = mask M s := by
    intro s
    have q : ∀ i {α : Type} (d x : α),
        (if M.testBit i then d else if A.testBit i then d else x) = if M.testBit i then d else x := by
      intro i α d x
      by_cases ha : A.testBit i = true
      · simp [bit_of_land h ha]
      · simp [ha]
    simp only [mask, q]
  rw [← k s, ← k t, e]

end State

/-- A part of a part. -/
theorem State.land_trans {A B M : Nat} (h : A &&& B = A) (k : B &&& M = B) : A &&& M = A := by
  rw [← h, Nat.and_assoc, k]

/-- A projection that every turn of a loop keeps, the loop keeps. -/
theorem State.foldl_keep {β γ δ : Type} (π : β → γ) (f : β → δ → β) (l : List δ) (r : β)
    (h : ∀ r c, π (f r c) = π r) : π (l.foldl f r) = π r := by
  induction l generalizing r with
  | nil => rfl
  | cons a l ih => exact (ih (f r a)).trans (h r a)

/-! Updates of one or more components. -/

/-- An update of pending. -/
theorem State.upd0_mask {M : Nat} (h : 1 &&& M = 1) (s : State) (x0) :
    State.mask M { s with pending := x0 } = State.mask M s := by
  simp only [State.mask, State.bit_of_land h (i := 0) (by decide), if_true]

/-- An update of out. -/
theorem State.upd1_mask {M : Nat} (h : 2 &&& M = 2) (s : State) (x0) :
    State.mask M { s with out := x0 } = State.mask M s := by
  simp only [State.mask, State.bit_of_land h (i := 1) (by decide), if_true]

/-- An update of out, evtSeen. -/
theorem State.upd1_2_mask {M : Nat} (h : 6 &&& M = 6) (s : State) (x0) (x1) :
    State.mask M { s with out := x0, evtSeen := x1 } = State.mask M s := by
  simp only [State.mask, State.bit_of_land h (i := 1) (by decide), State.bit_of_land h (i := 2) (by decide), if_true]

/-- An update of out, evtSeen, fired. -/
theorem State.upd1_2_3_mask {M : Nat} (h : 14 &&& M = 14) (s : State) (x0) (x1) (x2) :
    State.mask M { s with out := x0, evtSeen := x1, fired := x2 } = State.mask M s := by
  simp only [State.mask, State.bit_of_land h (i := 1) (by decide), State.bit_of_land h (i := 2) (by decide),
      State.bit_of_land h (i := 3) (by decide), if_true]

/-- An update of evtSeen. -/
theorem State.upd2_mask {M : Nat} (h : 4 &&& M = 4) (s : State) (x0) :
    State.mask M { s with evtSeen := x0 } = State.mask M s := by
  simp only [State.mask, State.bit_of_land h (i := 2) (by decide), if_true]

/-- An update of evtSeen, fired. -/
theorem State.upd2_3_mask {M : Nat} (h : 12 &&& M = 12) (s : State) (x0) (x1) :
    State.mask M { s with evtSeen := x0, fired := x1 } = State.mask M s := by
  simp only [State.mask, State.bit_of_land h (i := 2) (by decide), State.bit_of_land h (i := 3) (by decide), if_true]

/-- An update of evtSeen, regs. -/
theorem State.upd2_8_mask {M : Nat} (h : 260 &&& M = 260) (s : State) (x0) (x1) :
    State.mask M { s with evtSeen := x0, regs := x1 } = State.mask M s := by
  simp only [State.mask, State.bit_of_land h (i := 2) (by decide), State.bit_of_land h (i := 8) (by decide), if_true]

/-- An update of evtSeen, regs, snap. -/
theorem State.upd2_8_11_mask {M : Nat} (h : 2308 &&& M = 2308) (s : State) (x0) (x1) (x2) :
    State.mask M { s with evtSeen := x0, regs := x1, snap := x2 } = State.mask M s := by
  simp only [State.mask, State.bit_of_land h (i := 2) (by decide), State.bit_of_land h (i := 8) (by decide),
      State.bit_of_land h (i := 11) (by decide), if_true]

/-- An update of evtSeen, regs, snap, staged. -/
theorem State.upd2_8_11_14_mask {M : Nat} (h : 18692 &&& M = 18692) (s : State) (x0) (x1) (x2) (x3) :
    State.mask M { s with evtSeen := x0, regs := x1, snap := x2, staged := x3 } = State.mask M s := by
  simp only [State.mask, State.bit_of_land h (i := 2) (by decide), State.bit_of_land h (i := 8) (by decide),
      State.bit_of_land h (i := 11) (by decide), State.bit_of_land h (i := 14) (by decide), if_true]

/-- An update of evtSeen, regs, snap, staged, ovf. -/
theorem State.upd2_8_11_14_15_mask {M : Nat} (h : 51460 &&& M = 51460) (s : State) (x0) (x1) (x2) (x3) (x4) :
    State.mask M { s with evtSeen := x0, regs := x1, snap := x2, staged := x3, ovf := x4 } = State.mask M s := by
  simp only [State.mask, State.bit_of_land h (i := 2) (by decide), State.bit_of_land h (i := 8) (by decide),
      State.bit_of_land h (i := 11) (by decide), State.bit_of_land h (i := 14) (by decide),
      State.bit_of_land h (i := 15) (by decide), if_true]

/-- An update of fired. -/
theorem State.upd3_mask {M : Nat} (h : 8 &&& M = 8) (s : State) (x0) :
    State.mask M { s with fired := x0 } = State.mask M s := by
  simp only [State.mask, State.bit_of_land h (i := 3) (by decide), if_true]

/-- An update of evmq. -/
theorem State.upd4_mask {M : Nat} (h : 16 &&& M = 16) (s : State) (x0) :
    State.mask M { s with evmq := x0 } = State.mask M s := by
  simp only [State.mask, State.bit_of_land h (i := 4) (by decide), if_true]

/-- An update of free. -/
theorem State.upd5_mask {M : Nat} (h : 32 &&& M = 32) (s : State) (x0) :
    State.mask M { s with free := x0 } = State.mask M s := by
  simp only [State.mask, State.bit_of_land h (i := 5) (by decide), if_true]

/-- An update of phase. -/
theorem State.upd6_mask {M : Nat} (h : 64 &&& M = 64) (s : State) (x0) :
    State.mask M { s with phase := x0 } = State.mask M s := by
  simp only [State.mask, State.bit_of_land h (i := 6) (by decide), if_true]

/-- An update of phase, swept. -/
theorem State.upd6_7_mask {M : Nat} (h : 192 &&& M = 192) (s : State) (x0) (x1) :
    State.mask M { s with phase := x0, swept := x1 } = State.mask M s := by
  simp only [State.mask, State.bit_of_land h (i := 6) (by decide), State.bit_of_land h (i := 7) (by decide), if_true]

/-- An update of phase, swept, clk. -/
theorem State.upd6_7_22_mask {M : Nat} (h : 4194496 &&& M = 4194496) (s : State) (x0) (x1) (x2) :
    State.mask M { s with phase := x0, swept := x1, clk := x2 } = State.mask M s := by
  simp only [State.mask, State.bit_of_land h (i := 6) (by decide), State.bit_of_land h (i := 7) (by decide),
      State.bit_of_land h (i := 22) (by decide), if_true]

/-- An update of phase, swept, clk, time. -/
theorem State.upd6_7_22_23_mask {M : Nat} (h : 12583104 &&& M = 12583104) (s : State) (x0) (x1) (x2) (x3) :
    State.mask M { s with phase := x0, swept := x1, clk := x2, time := x3 } = State.mask M s := by
  simp only [State.mask, State.bit_of_land h (i := 6) (by decide), State.bit_of_land h (i := 7) (by decide),
      State.bit_of_land h (i := 22) (by decide), State.bit_of_land h (i := 23) (by decide), if_true]

/-- An update of phase, tap. -/
theorem State.upd6_117_mask {M : Nat} (h : 166153499473114484112975882535043136 &&& M = 166153499473114484112975882535043136) (s : State) (x0) (x1) :
    State.mask M { s with phase := x0, tap := x1 } = State.mask M s := by
  simp only [State.mask, State.bit_of_land h (i := 6) (by decide), State.bit_of_land h (i := 117) (by decide), if_true]

/-- An update of swept. -/
theorem State.upd7_mask {M : Nat} (h : 128 &&& M = 128) (s : State) (x0) :
    State.mask M { s with swept := x0 } = State.mask M s := by
  simp only [State.mask, State.bit_of_land h (i := 7) (by decide), if_true]

/-- An update of regs. -/
theorem State.upd8_mask {M : Nat} (h : 256 &&& M = 256) (s : State) (x0) :
    State.mask M { s with regs := x0 } = State.mask M s := by
  simp only [State.mask, State.bit_of_land h (i := 8) (by decide), if_true]

/-- An update of prevRegs. -/
theorem State.upd9_mask {M : Nat} (h : 512 &&& M = 512) (s : State) (x0) :
    State.mask M { s with prevRegs := x0 } = State.mask M s := by
  simp only [State.mask, State.bit_of_land h (i := 9) (by decide), if_true]

/-- An update of prevRegs, time. -/
theorem State.upd9_23_mask {M : Nat} (h : 8389120 &&& M = 8389120) (s : State) (x0) (x1) :
    State.mask M { s with prevRegs := x0, time := x1 } = State.mask M s := by
  simp only [State.mask, State.bit_of_land h (i := 9) (by decide), State.bit_of_land h (i := 23) (by decide), if_true]

/-- An update of prevRegs, time, prevFades. -/
theorem State.upd9_23_39_mask {M : Nat} (h : 549764203008 &&& M = 549764203008) (s : State) (x0) (x1) (x2) :
    State.mask M { s with prevRegs := x0, time := x1, prevFades := x2 } = State.mask M s := by
  simp only [State.mask, State.bit_of_land h (i := 9) (by decide), State.bit_of_land h (i := 23) (by decide),
      State.bit_of_land h (i := 39) (by decide), if_true]

/-- An update of prevRegs, time, prevFades, prevRateCr. -/
theorem State.upd9_23_39_46_mask {M : Nat} (h : 70918508380672 &&& M = 70918508380672) (s : State) (x0) (x1) (x2) (x3) :
    State.mask M { s with prevRegs := x0, time := x1, prevFades := x2, prevRateCr := x3 } = State.mask M s := by
  simp only [State.mask, State.bit_of_land h (i := 9) (by decide), State.bit_of_land h (i := 23) (by decide),
      State.bit_of_land h (i := 39) (by decide), State.bit_of_land h (i := 46) (by decide), if_true]

/-- An update of strokeEnd. -/
theorem State.upd10_mask {M : Nat} (h : 1024 &&& M = 1024) (s : State) (x0) :
    State.mask M { s with strokeEnd := x0 } = State.mask M s := by
  simp only [State.mask, State.bit_of_land h (i := 10) (by decide), if_true]

/-- An update of snap. -/
theorem State.upd11_mask {M : Nat} (h : 2048 &&& M = 2048) (s : State) (x0) :
    State.mask M { s with snap := x0 } = State.mask M s := by
  simp only [State.mask, State.bit_of_land h (i := 11) (by decide), if_true]

/-- An update of snap, snapReq. -/
theorem State.upd11_18_mask {M : Nat} (h : 264192 &&& M = 264192) (s : State) (x0) (x1) :
    State.mask M { s with snap := x0, snapReq := x1 } = State.mask M s := by
  simp only [State.mask, State.bit_of_land h (i := 11) (by decide), State.bit_of_land h (i := 18) (by decide), if_true]

/-- An update of holdC. -/
theorem State.upd12_mask {M : Nat} (h : 4096 &&& M = 4096) (s : State) (x0) :
    State.mask M { s with holdC := x0 } = State.mask M s := by
  simp only [State.mask, State.bit_of_land h (i := 12) (by decide), if_true]

/-- An update of holdG. -/
theorem State.upd13_mask {M : Nat} (h : 8192 &&& M = 8192) (s : State) (x0) :
    State.mask M { s with holdG := x0 } = State.mask M s := by
  simp only [State.mask, State.bit_of_land h (i := 13) (by decide), if_true]

/-- An update of staged. -/
theorem State.upd14_mask {M : Nat} (h : 16384 &&& M = 16384) (s : State) (x0) :
    State.mask M { s with staged := x0 } = State.mask M s := by
  simp only [State.mask, State.bit_of_land h (i := 14) (by decide), if_true]

/-- An update of staged, ovf. -/
theorem State.upd14_15_mask {M : Nat} (h : 49152 &&& M = 49152) (s : State) (x0) (x1) :
    State.mask M { s with staged := x0, ovf := x1 } = State.mask M s := by
  simp only [State.mask, State.bit_of_land h (i := 14) (by decide), State.bit_of_land h (i := 15) (by decide), if_true]

/-- An update of ovf. -/
theorem State.upd15_mask {M : Nat} (h : 32768 &&& M = 32768) (s : State) (x0) :
    State.mask M { s with ovf := x0 } = State.mask M s := by
  simp only [State.mask, State.bit_of_land h (i := 15) (by decide), if_true]

/-- An update of ovf, unlockC. -/
theorem State.upd15_16_mask {M : Nat} (h : 98304 &&& M = 98304) (s : State) (x0) (x1) :
    State.mask M { s with ovf := x0, unlockC := x1 } = State.mask M s := by
  simp only [State.mask, State.bit_of_land h (i := 15) (by decide), State.bit_of_land h (i := 16) (by decide), if_true]

/-- An update of ovf, unlockC, unlockG. -/
theorem State.upd15_16_17_mask {M : Nat} (h : 229376 &&& M = 229376) (s : State) (x0) (x1) (x2) :
    State.mask M { s with ovf := x0, unlockC := x1, unlockG := x2 } = State.mask M s := by
  simp only [State.mask, State.bit_of_land h (i := 15) (by decide), State.bit_of_land h (i := 16) (by decide),
      State.bit_of_land h (i := 17) (by decide), if_true]

/-- An update of unlockC. -/
theorem State.upd16_mask {M : Nat} (h : 65536 &&& M = 65536) (s : State) (x0) :
    State.mask M { s with unlockC := x0 } = State.mask M s := by
  simp only [State.mask, State.bit_of_land h (i := 16) (by decide), if_true]

/-- An update of unlockC, unlockG. -/
theorem State.upd16_17_mask {M : Nat} (h : 196608 &&& M = 196608) (s : State) (x0) (x1) :
    State.mask M { s with unlockC := x0, unlockG := x1 } = State.mask M s := by
  simp only [State.mask, State.bit_of_land h (i := 16) (by decide), State.bit_of_land h (i := 17) (by decide), if_true]

/-- An update of unlockG. -/
theorem State.upd17_mask {M : Nat} (h : 131072 &&& M = 131072) (s : State) (x0) :
    State.mask M { s with unlockG := x0 } = State.mask M s := by
  simp only [State.mask, State.bit_of_land h (i := 17) (by decide), if_true]

/-- An update of snapReq. -/
theorem State.upd18_mask {M : Nat} (h : 262144 &&& M = 262144) (s : State) (x0) :
    State.mask M { s with snapReq := x0 } = State.mask M s := by
  simp only [State.mask, State.bit_of_land h (i := 18) (by decide), if_true]

/-- An update of arbC. -/
theorem State.upd19_mask {M : Nat} (h : 524288 &&& M = 524288) (s : State) (x0) :
    State.mask M { s with arbC := x0 } = State.mask M s := by
  simp only [State.mask, State.bit_of_land h (i := 19) (by decide), if_true]

/-- An update of arbG. -/
theorem State.upd20_mask {M : Nat} (h : 1048576 &&& M = 1048576) (s : State) (x0) :
    State.mask M { s with arbG := x0 } = State.mask M s := by
  simp only [State.mask, State.bit_of_land h (i := 20) (by decide), if_true]

/-- An update of served. -/
theorem State.upd21_mask {M : Nat} (h : 2097152 &&& M = 2097152) (s : State) (x0) :
    State.mask M { s with served := x0 } = State.mask M s := by
  simp only [State.mask, State.bit_of_land h (i := 21) (by decide), if_true]

/-- An update of clk. -/
theorem State.upd22_mask {M : Nat} (h : 4194304 &&& M = 4194304) (s : State) (x0) :
    State.mask M { s with clk := x0 } = State.mask M s := by
  simp only [State.mask, State.bit_of_land h (i := 22) (by decide), if_true]

/-- An update of clk, time. -/
theorem State.upd22_23_mask {M : Nat} (h : 12582912 &&& M = 12582912) (s : State) (x0) (x1) :
    State.mask M { s with clk := x0, time := x1 } = State.mask M s := by
  simp only [State.mask, State.bit_of_land h (i := 22) (by decide), State.bit_of_land h (i := 23) (by decide), if_true]

/-- An update of clk, ring. -/
theorem State.upd22_119_mask {M : Nat} (h : 664613997892457936451903530144366592 &&& M = 664613997892457936451903530144366592) (s : State) (x0) (x1) :
    State.mask M { s with clk := x0, ring := x1 } = State.mask M s := by
  simp only [State.mask, State.bit_of_land h (i := 22) (by decide), State.bit_of_land h (i := 119) (by decide), if_true]

/-- An update of time. -/
theorem State.upd23_mask {M : Nat} (h : 8388608 &&& M = 8388608) (s : State) (x0) :
    State.mask M { s with time := x0 } = State.mask M s := by
  simp only [State.mask, State.bit_of_land h (i := 23) (by decide), if_true]

/-- An update of time, cnSegs. -/
theorem State.upd23_36_mask {M : Nat} (h : 68727865344 &&& M = 68727865344) (s : State) (x0) (x1) :
    State.mask M { s with time := x0, cnSegs := x1 } = State.mask M s := by
  simp only [State.mask, State.bit_of_land h (i := 23) (by decide), State.bit_of_land h (i := 36) (by decide), if_true]

/-- An update of pace. -/
theorem State.upd24_mask {M : Nat} (h : 16777216 &&& M = 16777216) (s : State) (x0) :
    State.mask M { s with pace := x0 } = State.mask M s := by
  simp only [State.mask, State.bit_of_land h (i := 24) (by decide), if_true]

/-- An update of pace, easyBroken. -/
theorem State.upd24_70_mask {M : Nat} (h : 1180591620717428080640 &&& M = 1180591620717428080640) (s : State) (x0) (x1) :
    State.mask M { s with pace := x0, easyBroken := x1 } = State.mask M s := by
  simp only [State.mask, State.bit_of_land h (i := 24) (by decide), State.bit_of_land h (i := 70) (by decide), if_true]

/-- An update of tcuA. -/
theorem State.upd25_mask {M : Nat} (h : 33554432 &&& M = 33554432) (s : State) (x0) :
    State.mask M { s with tcuA := x0 } = State.mask M s := by
  simp only [State.mask, State.bit_of_land h (i := 25) (by decide), if_true]

/-- An update of tcuB. -/
theorem State.upd26_mask {M : Nat} (h : 67108864 &&& M = 67108864) (s : State) (x0) :
    State.mask M { s with tcuB := x0 } = State.mask M s := by
  simp only [State.mask, State.bit_of_land h (i := 26) (by decide), if_true]

/-- An update of cox. -/
theorem State.upd27_mask {M : Nat} (h : 134217728 &&& M = 134217728) (s : State) (x0) :
    State.mask M { s with cox := x0 } = State.mask M s := by
  simp only [State.mask, State.bit_of_land h (i := 27) (by decide), if_true]

/-- An update of banks. -/
theorem State.upd28_mask {M : Nat} (h : 268435456 &&& M = 268435456) (s : State) (x0) :
    State.mask M { s with banks := x0 } = State.mask M s := by
  simp only [State.mask, State.bit_of_land h (i := 28) (by decide), if_true]

/-- An update of trimCur. -/
theorem State.upd29_mask {M : Nat} (h : 536870912 &&& M = 536870912) (s : State) (x0) :
    State.mask M { s with trimCur := x0 } = State.mask M s := by
  simp only [State.mask, State.bit_of_land h (i := 29) (by decide), if_true]

/-- An update of trimCal. -/
theorem State.upd30_mask {M : Nat} (h : 1073741824 &&& M = 1073741824) (s : State) (x0) :
    State.mask M { s with trimCal := x0 } = State.mask M s := by
  simp only [State.mask, State.bit_of_land h (i := 30) (by decide), if_true]

/-- An update of overs. -/
theorem State.upd31_mask {M : Nat} (h : 2147483648 &&& M = 2147483648) (s : State) (x0) :
    State.mask M { s with overs := x0 } = State.mask M s := by
  simp only [State.mask, State.bit_of_land h (i := 31) (by decide), if_true]

/-- An update of overs, words. -/
theorem State.upd31_32_mask {M : Nat} (h : 6442450944 &&& M = 6442450944) (s : State) (x0) (x1) :
    State.mask M { s with overs := x0, words := x1 } = State.mask M s := by
  simp only [State.mask, State.bit_of_land h (i := 31) (by decide), State.bit_of_land h (i := 32) (by decide), if_true]

/-- An update of words. -/
theorem State.upd32_mask {M : Nat} (h : 4294967296 &&& M = 4294967296) (s : State) (x0) :
    State.mask M { s with words := x0 } = State.mask M s := by
  simp only [State.mask, State.bit_of_land h (i := 32) (by decide), if_true]

/-- An update of vals. -/
theorem State.upd33_mask {M : Nat} (h : 8589934592 &&& M = 8589934592) (s : State) (x0) :
    State.mask M { s with vals := x0 } = State.mask M s := by
  simp only [State.mask, State.bit_of_land h (i := 33) (by decide), if_true]

/-- An update of vals, pouts. -/
theorem State.upd33_34_mask {M : Nat} (h : 25769803776 &&& M = 25769803776) (s : State) (x0) (x1) :
    State.mask M { s with vals := x0, pouts := x1 } = State.mask M s := by
  simp only [State.mask, State.bit_of_land h (i := 33) (by decide), State.bit_of_land h (i := 34) (by decide), if_true]

/-- An update of pouts. -/
theorem State.upd34_mask {M : Nat} (h : 17179869184 &&& M = 17179869184) (s : State) (x0) :
    State.mask M { s with pouts := x0 } = State.mask M s := by
  simp only [State.mask, State.bit_of_land h (i := 34) (by decide), if_true]

/-- An update of stat. -/
theorem State.upd35_mask {M : Nat} (h : 34359738368 &&& M = 34359738368) (s : State) (x0) :
    State.mask M { s with stat := x0 } = State.mask M s := by
  simp only [State.mask, State.bit_of_land h (i := 35) (by decide), if_true]

/-- An update of stat, marks. -/
theorem State.upd35_44_mask {M : Nat} (h : 17626545782784 &&& M = 17626545782784) (s : State) (x0) (x1) :
    State.mask M { s with stat := x0, marks := x1 } = State.mask M s := by
  simp only [State.mask, State.bit_of_land h (i := 35) (by decide), State.bit_of_land h (i := 44) (by decide), if_true]

/-- An update of hubSegs. -/
theorem State.upd37_mask {M : Nat} (h : 137438953472 &&& M = 137438953472) (s : State) (x0) :
    State.mask M { s with hubSegs := x0 } = State.mask M s := by
  simp only [State.mask, State.bit_of_land h (i := 37) (by decide), if_true]

/-- An update of fades. -/
theorem State.upd38_mask {M : Nat} (h : 274877906944 &&& M = 274877906944) (s : State) (x0) :
    State.mask M { s with fades := x0 } = State.mask M s := by
  simp only [State.mask, State.bit_of_land h (i := 38) (by decide), if_true]

/-- An update of fades, fadeQ. -/
theorem State.upd38_40_mask {M : Nat} (h : 1374389534720 &&& M = 1374389534720) (s : State) (x0) (x1) :
    State.mask M { s with fades := x0, fadeQ := x1 } = State.mask M s := by
  simp only [State.mask, State.bit_of_land h (i := 38) (by decide), State.bit_of_land h (i := 40) (by decide), if_true]

/-- An update of fadeQ. -/
theorem State.upd40_mask {M : Nat} (h : 1099511627776 &&& M = 1099511627776) (s : State) (x0) :
    State.mask M { s with fadeQ := x0 } = State.mask M s := by
  simp only [State.mask, State.bit_of_land h (i := 40) (by decide), if_true]

/-- An update of profiles. -/
theorem State.upd41_mask {M : Nat} (h : 2199023255552 &&& M = 2199023255552) (s : State) (x0) :
    State.mask M { s with profiles := x0 } = State.mask M s := by
  simp only [State.mask, State.bit_of_land h (i := 41) (by decide), if_true]

/-- An update of badTaps. -/
theorem State.upd42_mask {M : Nat} (h : 4398046511104 &&& M = 4398046511104) (s : State) (x0) :
    State.mask M { s with badTaps := x0 } = State.mask M s := by
  simp only [State.mask, State.bit_of_land h (i := 42) (by decide), if_true]

/-- An update of segs. -/
theorem State.upd43_mask {M : Nat} (h : 8796093022208 &&& M = 8796093022208) (s : State) (x0) :
    State.mask M { s with segs := x0 } = State.mask M s := by
  simp only [State.mask, State.bit_of_land h (i := 43) (by decide), if_true]

/-- An update of marks. -/
theorem State.upd44_mask {M : Nat} (h : 17592186044416 &&& M = 17592186044416) (s : State) (x0) :
    State.mask M { s with marks := x0 } = State.mask M s := by
  simp only [State.mask, State.bit_of_land h (i := 44) (by decide), if_true]

/-- An update of rateCr. -/
theorem State.upd45_mask {M : Nat} (h : 35184372088832 &&& M = 35184372088832) (s : State) (x0) :
    State.mask M { s with rateCr := x0 } = State.mask M s := by
  simp only [State.mask, State.bit_of_land h (i := 45) (by decide), if_true]

/-- An update of rateCr, hist. -/
theorem State.upd45_48_mask {M : Nat} (h : 316659348799488 &&& M = 316659348799488) (s : State) (x0) (x1) :
    State.mask M { s with rateCr := x0, hist := x1 } = State.mask M s := by
  simp only [State.mask, State.bit_of_land h (i := 45) (by decide), State.bit_of_land h (i := 48) (by decide), if_true]

/-- An update of rateCr, hist, histClr. -/
theorem State.upd45_48_49_mask {M : Nat} (h : 879609302220800 &&& M = 879609302220800) (s : State) (x0) (x1) (x2) :
    State.mask M { s with rateCr := x0, hist := x1, histClr := x2 } = State.mask M s := by
  simp only [State.mask, State.bit_of_land h (i := 45) (by decide), State.bit_of_land h (i := 48) (by decide),
      State.bit_of_land h (i := 49) (by decide), if_true]

/-- An update of records. -/
theorem State.upd47_mask {M : Nat} (h : 140737488355328 &&& M = 140737488355328) (s : State) (x0) :
    State.mask M { s with records := x0 } = State.mask M s := by
  simp only [State.mask, State.bit_of_land h (i := 47) (by decide), if_true]

/-- An update of records, recBad. -/
theorem State.upd47_73_mask {M : Nat} (h : 9444733106476778782720 &&& M = 9444733106476778782720) (s : State) (x0) (x1) :
    State.mask M { s with records := x0, recBad := x1 } = State.mask M s := by
  simp only [State.mask, State.bit_of_land h (i := 47) (by decide), State.bit_of_land h (i := 73) (by decide), if_true]

/-- An update of records, recBad, shedSeen. -/
theorem State.upd47_73_81_mask {M : Nat} (h : 2427296372335735128195072 &&& M = 2427296372335735128195072) (s : State) (x0) (x1) (x2) :
    State.mask M { s with records := x0, recBad := x1, shedSeen := x2 } = State.mask M s := by
  simp only [State.mask, State.bit_of_land h (i := 47) (by decide), State.bit_of_land h (i := 73) (by decide),
      State.bit_of_land h (i := 81) (by decide), if_true]

/-- An update of hist. -/
theorem State.upd48_mask {M : Nat} (h : 281474976710656 &&& M = 281474976710656) (s : State) (x0) :
    State.mask M { s with hist := x0 } = State.mask M s := by
  simp only [State.mask, State.bit_of_land h (i := 48) (by decide), if_true]

/-- An update of hist, histClr. -/
theorem State.upd48_49_mask {M : Nat} (h : 844424930131968 &&& M = 844424930131968) (s : State) (x0) (x1) :
    State.mask M { s with hist := x0, histClr := x1 } = State.mask M s := by
  simp only [State.mask, State.bit_of_land h (i := 48) (by decide), State.bit_of_land h (i := 49) (by decide), if_true]

/-- An update of servoN. -/
theorem State.upd50_mask {M : Nat} (h : 1125899906842624 &&& M = 1125899906842624) (s : State) (x0) :
    State.mask M { s with servoN := x0 } = State.mask M s := by
  simp only [State.mask, State.bit_of_land h (i := 50) (by decide), if_true]

/-- An update of wake. -/
theorem State.upd51_mask {M : Nat} (h : 2251799813685248 &&& M = 2251799813685248) (s : State) (x0) :
    State.mask M { s with wake := x0 } = State.mask M s := by
  simp only [State.mask, State.bit_of_land h (i := 51) (by decide), if_true]

/-- An update of wakeBad. -/
theorem State.upd52_mask {M : Nat} (h : 4503599627370496 &&& M = 4503599627370496) (s : State) (x0) :
    State.mask M { s with wakeBad := x0 } = State.mask M s := by
  simp only [State.mask, State.bit_of_land h (i := 52) (by decide), if_true]

/-- An update of accQ. -/
theorem State.upd53_mask {M : Nat} (h : 9007199254740992 &&& M = 9007199254740992) (s : State) (x0) :
    State.mask M { s with accQ := x0 } = State.mask M s := by
  simp only [State.mask, State.bit_of_land h (i := 53) (by decide), if_true]

/-- An update of accQ, autoCnt. -/
theorem State.upd53_64_mask {M : Nat} (h : 18455751272964292608 &&& M = 18455751272964292608) (s : State) (x0) (x1) :
    State.mask M { s with accQ := x0, autoCnt := x1 } = State.mask M s := by
  simp only [State.mask, State.bit_of_land h (i := 53) (by decide), State.bit_of_land h (i := 64) (by decide), if_true]

/-- An update of accQ, frags. -/
theorem State.upd53_71_mask {M : Nat} (h : 2361192248634077347840 &&& M = 2361192248634077347840) (s : State) (x0) (x1) :
    State.mask M { s with accQ := x0, frags := x1 } = State.mask M s := by
  simp only [State.mask, State.bit_of_land h (i := 53) (by decide), State.bit_of_land h (i := 71) (by decide), if_true]

/-- An update of evNo. -/
theorem State.upd54_mask {M : Nat} (h : 18014398509481984 &&& M = 18014398509481984) (s : State) (x0) :
    State.mask M { s with evNo := x0 } = State.mask M s := by
  simp only [State.mask, State.bit_of_land h (i := 54) (by decide), if_true]

/-- An update of evNo, runStart. -/
theorem State.upd54_55_mask {M : Nat} (h : 54043195528445952 &&& M = 54043195528445952) (s : State) (x0) (x1) :
    State.mask M { s with evNo := x0, runStart := x1 } = State.mask M s := by
  simp only [State.mask, State.bit_of_land h (i := 54) (by decide), State.bit_of_land h (i := 55) (by decide), if_true]

/-- An update of evNo, runStart, easyBroken. -/
theorem State.upd54_55_70_mask {M : Nat} (h : 1180645663912939749376 &&& M = 1180645663912939749376) (s : State) (x0) (x1) (x2) :
    State.mask M { s with evNo := x0, runStart := x1, easyBroken := x2 } = State.mask M s := by
  simp only [State.mask, State.bit_of_land h (i := 54) (by decide), State.bit_of_land h (i := 55) (by decide),
      State.bit_of_land h (i := 70) (by decide), if_true]

/-- An update of startQ. -/
theorem State.upd56_mask {M : Nat} (h : 72057594037927936 &&& M = 72057594037927936) (s : State) (x0) :
    State.mask M { s with startQ := x0 } = State.mask M s := by
  simp only [State.mask, State.bit_of_land h (i := 56) (by decide), if_true]

/-- An update of startQ, startLast. -/
theorem State.upd56_57_mask {M : Nat} (h : 216172782113783808 &&& M = 216172782113783808) (s : State) (x0) (x1) :
    State.mask M { s with startQ := x0, startLast := x1 } = State.mask M s := by
  simp only [State.mask, State.bit_of_land h (i := 56) (by decide), State.bit_of_land h (i := 57) (by decide), if_true]

/-- An update of startLast. -/
theorem State.upd57_mask {M : Nat} (h : 144115188075855872 &&& M = 144115188075855872) (s : State) (x0) :
    State.mask M { s with startLast := x0 } = State.mask M s := by
  simp only [State.mask, State.bit_of_land h (i := 57) (by decide), if_true]

/-- An update of presc. -/
theorem State.upd58_mask {M : Nat} (h : 288230376151711744 &&& M = 288230376151711744) (s : State) (x0) :
    State.mask M { s with presc := x0 } = State.mask M s := by
  simp only [State.mask, State.bit_of_land h (i := 58) (by decide), if_true]

/-- An update of hits. -/
theorem State.upd59_mask {M : Nat} (h : 576460752303423488 &&& M = 576460752303423488) (s : State) (x0) :
    State.mask M { s with hits := x0 } = State.mask M s := by
  simp only [State.mask, State.bit_of_land h (i := 59) (by decide), if_true]

/-- An update of hits, nbHits. -/
theorem State.upd59_60_mask {M : Nat} (h : 1729382256910270464 &&& M = 1729382256910270464) (s : State) (x0) (x1) :
    State.mask M { s with hits := x0, nbHits := x1 } = State.mask M s := by
  simp only [State.mask, State.bit_of_land h (i := 59) (by decide), State.bit_of_land h (i := 60) (by decide), if_true]

/-- An update of nbHits. -/
theorem State.upd60_mask {M : Nat} (h : 1152921504606846976 &&& M = 1152921504606846976) (s : State) (x0) :
    State.mask M { s with nbHits := x0 } = State.mask M s := by
  simp only [State.mask, State.bit_of_land h (i := 60) (by decide), if_true]

/-- An update of selfLast. -/
theorem State.upd61_mask {M : Nat} (h : 2305843009213693952 &&& M = 2305843009213693952) (s : State) (x0) :
    State.mask M { s with selfLast := x0 } = State.mask M s := by
  simp only [State.mask, State.bit_of_land h (i := 61) (by decide), if_true]

/-- An update of selfSeen. -/
theorem State.upd62_mask {M : Nat} (h : 4611686018427387904 &&& M = 4611686018427387904) (s : State) (x0) :
    State.mask M { s with selfSeen := x0 } = State.mask M s := by
  simp only [State.mask, State.bit_of_land h (i := 62) (by decide), if_true]

/-- An update of coincTold. -/
theorem State.upd63_mask {M : Nat} (h : 9223372036854775808 &&& M = 9223372036854775808) (s : State) (x0) :
    State.mask M { s with coincTold := x0 } = State.mask M s := by
  simp only [State.mask, State.bit_of_land h (i := 63) (by decide), if_true]

/-- An update of autoCnt. -/
theorem State.upd64_mask {M : Nat} (h : 18446744073709551616 &&& M = 18446744073709551616) (s : State) (x0) :
    State.mask M { s with autoCnt := x0 } = State.mask M s := by
  simp only [State.mask, State.bit_of_land h (i := 64) (by decide), if_true]

/-- An update of autoCnt, autoDue. -/
theorem State.upd64_65_mask {M : Nat} (h : 55340232221128654848 &&& M = 55340232221128654848) (s : State) (x0) (x1) :
    State.mask M { s with autoCnt := x0, autoDue := x1 } = State.mask M s := by
  simp only [State.mask, State.bit_of_land h (i := 64) (by decide), State.bit_of_land h (i := 65) (by decide), if_true]

/-- An update of nbSt. -/
theorem State.upd66_mask {M : Nat} (h : 73786976294838206464 &&& M = 73786976294838206464) (s : State) (x0) :
    State.mask M { s with nbSt := x0 } = State.mask M s := by
  simp only [State.mask, State.bit_of_land h (i := 66) (by decide), if_true]

/-- An update of nbSt, nbMsg. -/
theorem State.upd66_67_mask {M : Nat} (h : 221360928884514619392 &&& M = 221360928884514619392) (s : State) (x0) (x1) :
    State.mask M { s with nbSt := x0, nbMsg := x1 } = State.mask M s := by
  simp only [State.mask, State.bit_of_land h (i := 66) (by decide), State.bit_of_land h (i := 67) (by decide), if_true]

/-- An update of nbSt, nbMsg, nbErrs. -/
theorem State.upd66_67_68_mask {M : Nat} (h : 516508834063867445248 &&& M = 516508834063867445248) (s : State) (x0) (x1) (x2) :
    State.mask M { s with nbSt := x0, nbMsg := x1, nbErrs := x2 } = State.mask M s := by
  simp only [State.mask, State.bit_of_land h (i := 66) (by decide), State.bit_of_land h (i := 67) (by decide),
      State.bit_of_land h (i := 68) (by decide), if_true]

/-- An update of nbSt, nbMsg, nbErrs, nbMiss. -/
theorem State.upd66_67_68_69_mask {M : Nat} (h : 1106804644422573096960 &&& M = 1106804644422573096960) (s : State) (x0) (x1) (x2) (x3) :
    State.mask M { s with nbSt := x0, nbMsg := x1, nbErrs := x2, nbMiss := x3 } = State.mask M s := by
  simp only [State.mask, State.bit_of_land h (i := 66) (by decide), State.bit_of_land h (i := 67) (by decide),
      State.bit_of_land h (i := 68) (by decide), State.bit_of_land h (i := 69) (by decide), if_true]

/-- An update of nbMsg. -/
theorem State.upd67_mask {M : Nat} (h : 147573952589676412928 &&& M = 147573952589676412928) (s : State) (x0) :
    State.mask M { s with nbMsg := x0 } = State.mask M s := by
  simp only [State.mask, State.bit_of_land h (i := 67) (by decide), if_true]

/-- An update of nbMsg, nbErrs. -/
theorem State.upd67_68_mask {M : Nat} (h : 442721857769029238784 &&& M = 442721857769029238784) (s : State) (x0) (x1) :
    State.mask M { s with nbMsg := x0, nbErrs := x1 } = State.mask M s := by
  simp only [State.mask, State.bit_of_land h (i := 67) (by decide), State.bit_of_land h (i := 68) (by decide), if_true]

/-- An update of nbErrs. -/
theorem State.upd68_mask {M : Nat} (h : 295147905179352825856 &&& M = 295147905179352825856) (s : State) (x0) :
    State.mask M { s with nbErrs := x0 } = State.mask M s := by
  simp only [State.mask, State.bit_of_land h (i := 68) (by decide), if_true]

/-- An update of nbMiss. -/
theorem State.upd69_mask {M : Nat} (h : 590295810358705651712 &&& M = 590295810358705651712) (s : State) (x0) :
    State.mask M { s with nbMiss := x0 } = State.mask M s := by
  simp only [State.mask, State.bit_of_land h (i := 69) (by decide), if_true]

/-- An update of frags. -/
theorem State.upd71_mask {M : Nat} (h : 2361183241434822606848 &&& M = 2361183241434822606848) (s : State) (x0) :
    State.mask M { s with frags := x0 } = State.mask M s := by
  simp only [State.mask, State.bit_of_land h (i := 71) (by decide), if_true]

/-- An update of frags, fragId. -/
theorem State.upd71_72_mask {M : Nat} (h : 7083549724304467820544 &&& M = 7083549724304467820544) (s : State) (x0) (x1) :
    State.mask M { s with frags := x0, fragId := x1 } = State.mask M s := by
  simp only [State.mask, State.bit_of_land h (i := 71) (by decide), State.bit_of_land h (i := 72) (by decide), if_true]

/-- An update of recBad. -/
theorem State.upd73_mask {M : Nat} (h : 9444732965739290427392 &&& M = 9444732965739290427392) (s : State) (x0) :
    State.mask M { s with recBad := x0 } = State.mask M s := by
  simp only [State.mask, State.bit_of_land h (i := 73) (by decide), if_true]

/-- An update of engines. -/
theorem State.upd74_mask {M : Nat} (h : 18889465931478580854784 &&& M = 18889465931478580854784) (s : State) (x0) :
    State.mask M { s with engines := x0 } = State.mask M s := by
  simp only [State.mask, State.bit_of_land h (i := 74) (by decide), if_true]

/-- An update of lensStall. -/
theorem State.upd75_mask {M : Nat} (h : 37778931862957161709568 &&& M = 37778931862957161709568) (s : State) (x0) :
    State.mask M { s with lensStall := x0 } = State.mask M s := by
  simp only [State.mask, State.bit_of_land h (i := 75) (by decide), if_true]

/-- An update of lensWait. -/
theorem State.upd76_mask {M : Nat} (h : 75557863725914323419136 &&& M = 75557863725914323419136) (s : State) (x0) :
    State.mask M { s with lensWait := x0 } = State.mask M s := by
  simp only [State.mask, State.bit_of_land h (i := 76) (by decide), if_true]

/-- An update of lensClk. -/
theorem State.upd77_mask {M : Nat} (h : 151115727451828646838272 &&& M = 151115727451828646838272) (s : State) (x0) :
    State.mask M { s with lensClk := x0 } = State.mask M s := by
  simp only [State.mask, State.bit_of_land h (i := 77) (by decide), if_true]

/-- An update of offer. -/
theorem State.upd78_mask {M : Nat} (h : 302231454903657293676544 &&& M = 302231454903657293676544) (s : State) (x0) :
    State.mask M { s with offer := x0 } = State.mask M s := by
  simp only [State.mask, State.bit_of_land h (i := 78) (by decide), if_true]

/-- An update of held. -/
theorem State.upd79_mask {M : Nat} (h : 604462909807314587353088 &&& M = 604462909807314587353088) (s : State) (x0) :
    State.mask M { s with held := x0 } = State.mask M s := by
  simp only [State.mask, State.bit_of_land h (i := 79) (by decide), if_true]

/-- An update of held, admitId. -/
theorem State.upd79_80_mask {M : Nat} (h : 1813388729421943762059264 &&& M = 1813388729421943762059264) (s : State) (x0) (x1) :
    State.mask M { s with held := x0, admitId := x1 } = State.mask M s := by
  simp only [State.mask, State.bit_of_land h (i := 79) (by decide), State.bit_of_land h (i := 80) (by decide), if_true]

/-- An update of held, admitId, shedSeen. -/
theorem State.upd79_80_81_mask {M : Nat} (h : 4231240368651202111471616 &&& M = 4231240368651202111471616) (s : State) (x0) (x1) (x2) :
    State.mask M { s with held := x0, admitId := x1, shedSeen := x2 } = State.mask M s := by
  simp only [State.mask, State.bit_of_land h (i := 79) (by decide), State.bit_of_land h (i := 80) (by decide),
      State.bit_of_land h (i := 81) (by decide), if_true]

/-- An update of held, dmas. -/
theorem State.upd79_101_mask {M : Nat} (h : 2535301804919368610307993763840 &&& M = 2535301804919368610307993763840) (s : State) (x0) (x1) :
    State.mask M { s with held := x0, dmas := x1 } = State.mask M s := by
  simp only [State.mask, State.bit_of_land h (i := 79) (by decide), State.bit_of_land h (i := 101) (by decide), if_true]

/-- An update of shedSeen. -/
theorem State.upd81_mask {M : Nat} (h : 2417851639229258349412352 &&& M = 2417851639229258349412352) (s : State) (x0) :
    State.mask M { s with shedSeen := x0 } = State.mask M s := by
  simp only [State.mask, State.bit_of_land h (i := 81) (by decide), if_true]

/-- An update of tests. -/
theorem State.upd82_mask {M : Nat} (h : 4835703278458516698824704 &&& M = 4835703278458516698824704) (s : State) (x0) :
    State.mask M { s with tests := x0 } = State.mask M s := by
  simp only [State.mask, State.bit_of_land h (i := 82) (by decide), if_true]

/-- An update of laneFrom. -/
theorem State.upd83_mask {M : Nat} (h : 9671406556917033397649408 &&& M = 9671406556917033397649408) (s : State) (x0) :
    State.mask M { s with laneFrom := x0 } = State.mask M s := by
  simp only [State.mask, State.bit_of_land h (i := 83) (by decide), if_true]

/-- An update of laneFrom, loopFrom. -/
theorem State.upd83_92_mask {M : Nat} (h : 4961431563698438132994146304 &&& M = 4961431563698438132994146304) (s : State) (x0) (x1) :
    State.mask M { s with laneFrom := x0, loopFrom := x1 } = State.mask M s := by
  simp only [State.mask, State.bit_of_land h (i := 83) (by decide), State.bit_of_land h (i := 92) (by decide), if_true]

/-- An update of txRd. -/
theorem State.upd84_mask {M : Nat} (h : 19342813113834066795298816 &&& M = 19342813113834066795298816) (s : State) (x0) :
    State.mask M { s with txRd := x0 } = State.mask M s := by
  simp only [State.mask, State.bit_of_land h (i := 84) (by decide), if_true]

/-- An update of rxRd. -/
theorem State.upd85_mask {M : Nat} (h : 38685626227668133590597632 &&& M = 38685626227668133590597632) (s : State) (x0) :
    State.mask M { s with rxRd := x0 } = State.mask M s := by
  simp only [State.mask, State.bit_of_land h (i := 85) (by decide), if_true]

/-- An update of rxErr. -/
theorem State.upd86_mask {M : Nat} (h : 77371252455336267181195264 &&& M = 77371252455336267181195264) (s : State) (x0) :
    State.mask M { s with rxErr := x0 } = State.mask M s := by
  simp only [State.mask, State.bit_of_land h (i := 86) (by decide), if_true]

/-- An update of codeTold. -/
theorem State.upd87_mask {M : Nat} (h : 154742504910672534362390528 &&& M = 154742504910672534362390528) (s : State) (x0) :
    State.mask M { s with codeTold := x0 } = State.mask M s := by
  simp only [State.mask, State.bit_of_land h (i := 87) (by decide), if_true]

/-- An update of rxTail. -/
theorem State.upd88_mask {M : Nat} (h : 309485009821345068724781056 &&& M = 309485009821345068724781056) (s : State) (x0) :
    State.mask M { s with rxTail := x0 } = State.mask M s := by
  simp only [State.mask, State.bit_of_land h (i := 88) (by decide), if_true]

/-- An update of prbs. -/
theorem State.upd89_mask {M : Nat} (h : 618970019642690137449562112 &&& M = 618970019642690137449562112) (s : State) (x0) :
    State.mask M { s with prbs := x0 } = State.mask M s := by
  simp only [State.mask, State.bit_of_land h (i := 89) (by decide), if_true]

/-- An update of prbs, checks. -/
theorem State.upd89_90_mask {M : Nat} (h : 1856910058928070412348686336 &&& M = 1856910058928070412348686336) (s : State) (x0) (x1) :
    State.mask M { s with prbs := x0, checks := x1 } = State.mask M s := by
  simp only [State.mask, State.bit_of_land h (i := 89) (by decide), State.bit_of_land h (i := 90) (by decide), if_true]

/-- An update of checks. -/
theorem State.upd90_mask {M : Nat} (h : 1237940039285380274899124224 &&& M = 1237940039285380274899124224) (s : State) (x0) :
    State.mask M { s with checks := x0 } = State.mask M s := by
  simp only [State.mask, State.bit_of_land h (i := 90) (by decide), if_true]

/-- An update of txOff. -/
theorem State.upd91_mask {M : Nat} (h : 2475880078570760549798248448 &&& M = 2475880078570760549798248448) (s : State) (x0) :
    State.mask M { s with txOff := x0 } = State.mask M s := by
  simp only [State.mask, State.bit_of_land h (i := 91) (by decide), if_true]

/-- An update of loopFrom. -/
theorem State.upd92_mask {M : Nat} (h : 4951760157141521099596496896 &&& M = 4951760157141521099596496896) (s : State) (x0) :
    State.mask M { s with loopFrom := x0 } = State.mask M s := by
  simp only [State.mask, State.bit_of_land h (i := 92) (by decide), if_true]

/-- An update of loopTold. -/
theorem State.upd93_mask {M : Nat} (h : 9903520314283042199192993792 &&& M = 9903520314283042199192993792) (s : State) (x0) :
    State.mask M { s with loopTold := x0 } = State.mask M s := by
  simp only [State.mask, State.bit_of_land h (i := 93) (by decide), if_true]

/-- An update of es. -/
theorem State.upd94_mask {M : Nat} (h : 19807040628566084398385987584 &&& M = 19807040628566084398385987584) (s : State) (x0) :
    State.mask M { s with es := x0 } = State.mask M s := by
  simp only [State.mask, State.bit_of_land h (i := 94) (by decide), if_true]

/-- An update of sig. -/
theorem State.upd95_mask {M : Nat} (h : 39614081257132168796771975168 &&& M = 39614081257132168796771975168) (s : State) (x0) :
    State.mask M { s with sig := x0 } = State.mask M s := by
  simp only [State.mask, State.bit_of_land h (i := 95) (by decide), if_true]

/-- An update of sig, sigRun. -/
theorem State.upd95_96_mask {M : Nat} (h : 118842243771396506390315925504 &&& M = 118842243771396506390315925504) (s : State) (x0) (x1) :
    State.mask M { s with sig := x0, sigRun := x1 } = State.mask M s := by
  simp only [State.mask, State.bit_of_land h (i := 95) (by decide), State.bit_of_land h (i := 96) (by decide), if_true]

/-- An update of sig, sigRun, sigDone. -/
theorem State.upd95_96_97_mask {M : Nat} (h : 277298568799925181577403826176 &&& M = 277298568799925181577403826176) (s : State) (x0) (x1) (x2) :
    State.mask M { s with sig := x0, sigRun := x1, sigDone := x2 } = State.mask M s := by
  simp only [State.mask, State.bit_of_land h (i := 95) (by decide), State.bit_of_land h (i := 96) (by decide),
      State.bit_of_land h (i := 97) (by decide), if_true]

/-- An update of sigRun. -/
theorem State.upd96_mask {M : Nat} (h : 79228162514264337593543950336 &&& M = 79228162514264337593543950336) (s : State) (x0) :
    State.mask M { s with sigRun := x0 } = State.mask M s := by
  simp only [State.mask, State.bit_of_land h (i := 96) (by decide), if_true]

/-- An update of laneBusy. -/
theorem State.upd98_mask {M : Nat} (h : 316912650057057350374175801344 &&& M = 316912650057057350374175801344) (s : State) (x0) :
    State.mask M { s with laneBusy := x0 } = State.mask M s := by
  simp only [State.mask, State.bit_of_land h (i := 98) (by decide), if_true]

/-- An update of slipWant. -/
theorem State.upd99_mask {M : Nat} (h : 633825300114114700748351602688 &&& M = 633825300114114700748351602688) (s : State) (x0) :
    State.mask M { s with slipWant := x0 } = State.mask M s := by
  simp only [State.mask, State.bit_of_land h (i := 99) (by decide), if_true]

/-- An update of links. -/
theorem State.upd100_mask {M : Nat} (h : 1267650600228229401496703205376 &&& M = 1267650600228229401496703205376) (s : State) (x0) :
    State.mask M { s with links := x0 } = State.mask M s := by
  simp only [State.mask, State.bit_of_land h (i := 100) (by decide), if_true]

/-- An update of dmas. -/
theorem State.upd101_mask {M : Nat} (h : 2535301200456458802993406410752 &&& M = 2535301200456458802993406410752) (s : State) (x0) :
    State.mask M { s with dmas := x0 } = State.mask M s := by
  simp only [State.mask, State.bit_of_land h (i := 101) (by decide), if_true]

/-- An update of slots. -/
theorem State.upd102_mask {M : Nat} (h : 5070602400912917605986812821504 &&& M = 5070602400912917605986812821504) (s : State) (x0) :
    State.mask M { s with slots := x0 } = State.mask M s := by
  simp only [State.mask, State.bit_of_land h (i := 102) (by decide), if_true]

/-- An update of fetched. -/
theorem State.upd103_mask {M : Nat} (h : 10141204801825835211973625643008 &&& M = 10141204801825835211973625643008) (s : State) (x0) :
    State.mask M { s with fetched := x0 } = State.mask M s := by
  simp only [State.mask, State.bit_of_land h (i := 103) (by decide), if_true]

/-- An update of seats. -/
theorem State.upd104_mask {M : Nat} (h : 20282409603651670423947251286016 &&& M = 20282409603651670423947251286016) (s : State) (x0) :
    State.mask M { s with seats := x0 } = State.mask M s := by
  simp only [State.mask, State.bit_of_land h (i := 104) (by decide), if_true]

/-- An update of seatUse. -/
theorem State.upd105_mask {M : Nat} (h : 40564819207303340847894502572032 &&& M = 40564819207303340847894502572032) (s : State) (x0) :
    State.mask M { s with seatUse := x0 } = State.mask M s := by
  simp only [State.mask, State.bit_of_land h (i := 105) (by decide), if_true]

/-- An update of quiesce. -/
theorem State.upd106_mask {M : Nat} (h : 81129638414606681695789005144064 &&& M = 81129638414606681695789005144064) (s : State) (x0) :
    State.mask M { s with quiesce := x0 } = State.mask M s := by
  simp only [State.mask, State.bit_of_land h (i := 106) (by decide), if_true]

/-- An update of seatWait. -/
theorem State.upd107_mask {M : Nat} (h : 162259276829213363391578010288128 &&& M = 162259276829213363391578010288128) (s : State) (x0) :
    State.mask M { s with seatWait := x0 } = State.mask M s := by
  simp only [State.mask, State.bit_of_land h (i := 107) (by decide), if_true]

/-- An update of spillTold. -/
theorem State.upd108_mask {M : Nat} (h : 324518553658426726783156020576256 &&& M = 324518553658426726783156020576256) (s : State) (x0) :
    State.mask M { s with spillTold := x0 } = State.mask M s := by
  simp only [State.mask, State.bit_of_land h (i := 108) (by decide), if_true]

/-- An update of slipTold. -/
theorem State.upd109_mask {M : Nat} (h : 649037107316853453566312041152512 &&& M = 649037107316853453566312041152512) (s : State) (x0) :
    State.mask M { s with slipTold := x0 } = State.mask M s := by
  simp only [State.mask, State.bit_of_land h (i := 109) (by decide), if_true]

/-- An update of satHits. -/
theorem State.upd110_mask {M : Nat} (h : 1298074214633706907132624082305024 &&& M = 1298074214633706907132624082305024) (s : State) (x0) :
    State.mask M { s with satHits := x0 } = State.mask M s := by
  simp only [State.mask, State.bit_of_land h (i := 110) (by decide), if_true]

/-- An update of satHits, satGaps. -/
theorem State.upd110_111_mask {M : Nat} (h : 3894222643901120721397872246915072 &&& M = 3894222643901120721397872246915072) (s : State) (x0) (x1) :
    State.mask M { s with satHits := x0, satGaps := x1 } = State.mask M s := by
  simp only [State.mask, State.bit_of_land h (i := 110) (by decide), State.bit_of_land h (i := 111) (by decide), if_true]

/-- An update of satHits, satGaps, satFast. -/
theorem State.upd110_111_113_mask {M : Nat} (h : 14278816360970775978458864905355264 &&& M = 14278816360970775978458864905355264) (s : State) (x0) (x1) (x2) :
    State.mask M { s with satHits := x0, satGaps := x1, satFast := x2 } = State.mask M s := by
  simp only [State.mask, State.bit_of_land h (i := 110) (by decide), State.bit_of_land h (i := 111) (by decide),
      State.bit_of_land h (i := 113) (by decide), if_true]

/-- An update of satGaps. -/
theorem State.upd111_mask {M : Nat} (h : 2596148429267413814265248164610048 &&& M = 2596148429267413814265248164610048) (s : State) (x0) :
    State.mask M { s with satGaps := x0 } = State.mask M s := by
  simp only [State.mask, State.bit_of_land h (i := 111) (by decide), if_true]

/-- An update of satOut. -/
theorem State.upd112_mask {M : Nat} (h : 5192296858534827628530496329220096 &&& M = 5192296858534827628530496329220096) (s : State) (x0) :
    State.mask M { s with satOut := x0 } = State.mask M s := by
  simp only [State.mask, State.bit_of_land h (i := 112) (by decide), if_true]

/-- An update of satFast. -/
theorem State.upd113_mask {M : Nat} (h : 10384593717069655257060992658440192 &&& M = 10384593717069655257060992658440192) (s : State) (x0) :
    State.mask M { s with satFast := x0 } = State.mask M s := by
  simp only [State.mask, State.bit_of_land h (i := 113) (by decide), if_true]

/-- An update of sats. -/
theorem State.upd114_mask {M : Nat} (h : 20769187434139310514121985316880384 &&& M = 20769187434139310514121985316880384) (s : State) (x0) :
    State.mask M { s with sats := x0 } = State.mask M s := by
  simp only [State.mask, State.bit_of_land h (i := 114) (by decide), if_true]

/-- An update of passTold. -/
theorem State.upd115_mask {M : Nat} (h : 41538374868278621028243970633760768 &&& M = 41538374868278621028243970633760768) (s : State) (x0) :
    State.mask M { s with passTold := x0 } = State.mask M s := by
  simp only [State.mask, State.bit_of_land h (i := 115) (by decide), if_true]

/-- An update of hk. -/
theorem State.upd116_mask {M : Nat} (h : 83076749736557242056487941267521536 &&& M = 83076749736557242056487941267521536) (s : State) (x0) :
    State.mask M { s with hk := x0 } = State.mask M s := by
  simp only [State.mask, State.bit_of_land h (i := 116) (by decide), if_true]

/-- An update of tap. -/
theorem State.upd117_mask {M : Nat} (h : 166153499473114484112975882535043072 &&& M = 166153499473114484112975882535043072) (s : State) (x0) :
    State.mask M { s with tap := x0 } = State.mask M s := by
  simp only [State.mask, State.bit_of_land h (i := 117) (by decide), if_true]

/-- An update of pads. -/
theorem State.upd118_mask {M : Nat} (h : 332306998946228968225951765070086144 &&& M = 332306998946228968225951765070086144) (s : State) (x0) :
    State.mask M { s with pads := x0 } = State.mask M s := by
  simp only [State.mask, State.bit_of_land h (i := 118) (by decide), if_true]

/-- An update of ring. -/
theorem State.upd119_mask {M : Nat} (h : 664613997892457936451903530140172288 &&& M = 664613997892457936451903530140172288) (s : State) (x0) :
    State.mask M { s with ring := x0 } = State.mask M s := by
  simp only [State.mask, State.bit_of_land h (i := 119) (by decide), if_true]

/-- An update of tp. -/
theorem State.upd120_mask {M : Nat} (h : 1329227995784915872903807060280344576 &&& M = 1329227995784915872903807060280344576) (s : State) (x0) :
    State.mask M { s with tp := x0 } = State.mask M s := by
  simp only [State.mask, State.bit_of_land h (i := 120) (by decide), if_true]

/-- An update of tpMarks. -/
theorem State.upd121_mask {M : Nat} (h : 2658455991569831745807614120560689152 &&& M = 2658455991569831745807614120560689152) (s : State) (x0) :
    State.mask M { s with tpMarks := x0 } = State.mask M s := by
  simp only [State.mask, State.bit_of_land h (i := 121) (by decide), if_true]

/-- An update of tpLast. -/
theorem State.upd122_mask {M : Nat} (h : 5316911983139663491615228241121378304 &&& M = 5316911983139663491615228241121378304) (s : State) (x0) :
    State.mask M { s with tpLast := x0 } = State.mask M s := by
  simp only [State.mask, State.bit_of_land h (i := 122) (by decide), if_true]

end Sys2Proof.Machine
end

