-- ==== Sys2Proof/Laws/MaskOps.lean ====
section
/-! SUPPORT. What the operations of Machine/Ops.lean can change (see Laws/Mask.lean): one lemma for each. -/

set_option linter.unusedSimpArgs false
set_option maxRecDepth 2000

namespace Sys2Proof.Machine

/-- `wr` changes at most: regs. -/
theorem State.wr_mask {M : Nat} (hM : 256 &&& M = 256) (s : State) (key : Nat) (v : Word) :
    (State.wr s key v).mask M = s.mask M :=
  State.mask_mono hM (by
    unfold State.wr
    simp only [State.upd8_mask, Nat.reduceAnd, ite_self])

/-- `raise` changes at most: evtSeen, regs. -/
theorem State.raise_mask {M : Nat} (hM : 260 &&& M = 260) (s : State) (e : Ev) :
    (State.raise s e).mask M = s.mask M :=
  State.mask_mono hM (by
    unfold State.raise
    simp only [apply_ite (State.mask 260), apply_ite Prod.snd, apply_ite Prod.fst, State.wr_mask, State.upd2_mask, Nat.reduceAnd,
        ite_self])

/-- `set` changes at most: regs. -/
theorem State.set_mask {M : Nat} (hM : 256 &&& M = 256) (s : State) (f : Fld) (v : Nat) :
    (State.set s f v).mask M = s.mask M :=
  State.mask_mono hM (by
    unfold State.set
    simp only [State.wr_mask, Nat.reduceAnd, ite_self])

/-- `countBy` changes at most: evtSeen, regs. -/
theorem State.countBy_mask {M : Nat} (hM : 260 &&& M = 260) (s : State) (f : Fld) (n : Nat) :
    (State.countBy s f n).mask M = s.mask M :=
  State.mask_mono hM (by
    unfold State.countBy
    simp only [apply_ite (State.mask 260), apply_ite Prod.snd, apply_ite Prod.fst, State.raise_mask, State.set_mask,
        Nat.reduceAnd, ite_self])

/-- `count` changes at most: evtSeen, regs. -/
theorem State.count_mask {M : Nat} (hM : 260 &&& M = 260) (s : State) (f : Fld) :
    (State.count s f).mask M = s.mask M :=
  State.mask_mono hM (by
    unfold State.count
    simp only [State.countBy_mask, Nat.reduceAnd, ite_self])

/-- `countW` changes at most: evtSeen, regs. -/
theorem State.countW_mask {M : Nat} (hM : 260 &&& M = 260) (s : State) (f : Fld) (wrap : Ev) (n : optParam Nat 1) :
    (State.countW s f wrap n).mask M = s.mask M :=
  State.mask_mono hM (by
    unfold State.countW
    simp only [apply_ite (State.mask 260), apply_ite Prod.snd, apply_ite Prod.fst, State.raise_mask, State.set_mask,
        Nat.reduceAnd, ite_self])

/-- `emit` changes at most: out. -/
theorem State.emit_mask {M : Nat} (hM : 2 &&& M = 2) (s : State) (o : Output) :
    (State.emit s o).mask M = s.mask M :=
  State.mask_mono hM (by
    unfold State.emit
    simp only [State.upd1_mask, Nat.reduceAnd, ite_self])

/-- `draw` changes at most: free. -/
theorem State.draw_mask {M : Nat} (hM : 32 &&& M = 32) (s : State) :
    (State.draw s).2.mask M = s.mask M :=
  State.mask_mono hM (by
    unfold State.draw
    simp only [State.upd5_mask, Nat.reduceAnd, ite_self])

/-- `forEach` changes no more than what it is given does. -/
theorem forEach_mask {M : Nat} (hM : 0 &&& M = 0) {α : Type} (l : List α) (s : State) (f : State → α → State) (hf : ∀ t a,
    (f t a).mask M = t.mask M) :
    (forEach l s f).mask M = s.mask M := by
  induction l generalizing s with
  | nil => rfl
  | cons a l ih => exact (ih (f s a)).trans (hf s a)

/-- `fault` changes at most: regs. -/
theorem State.fault_mask {M : Nat} (hM : 256 &&& M = 256) (s : State) (pg : Nat) (cls : Nat) (detail : Nat) :
    (State.fault s pg cls detail).mask M = s.mask M :=
  State.mask_mono hM (by
    unfold State.fault
    simp only [State.wr_mask, Nat.reduceAnd, ite_self])

/-- `setPstate` changes at most: regs. -/
theorem State.setPstate_mask {M : Nat} (hM : 256 &&& M = 256) (s : State) (pg : Nat) (v : Nat) :
    (State.setPstate s pg v).mask M = s.mask M :=
  State.mask_mono hM (by
    unfold State.setPstate
    simp only [State.set_mask, Nat.reduceAnd, ite_self])

/-- `setb` changes at most: regs. -/
theorem State.setb_mask {M : Nat} (hM : 256 &&& M = 256) (s : State) (f : Fld) (b : Bool) :
    (State.setb s f b).mask M = s.mask M :=
  State.mask_mono hM (by
    unfold State.setb
    simp only [State.set_mask, Nat.reduceAnd, ite_self])

/-- `healthFaults` changes at most: evtSeen, regs. -/
theorem State.healthFaults_mask {M : Nat} (hM : 260 &&& M = 260) (s : State) (c : Nat) (k : Nat) (detail : Nat) :
    (State.healthFaults s c k detail).mask M = s.mask M :=
  State.mask_mono hM (by
    unfold State.healthFaults
    simp only [apply_ite (State.mask 260), apply_ite Prod.snd, apply_ite Prod.fst, State.countBy_mask, State.fault_mask,
        State.raise_mask, Nat.reduceAnd, ite_self])

/-- `healthFault` changes at most: evtSeen, regs. -/
theorem State.healthFault_mask {M : Nat} (hM : 260 &&& M = 260) (s : State) (c : Nat) (detail : Nat) :
    (State.healthFault s c detail).mask M = s.mask M :=
  State.mask_mono hM (by
    unfold State.healthFault
    simp only [State.healthFaults_mask, Nat.reduceAnd, ite_self])

/-- `seti` changes at most: regs. -/
theorem State.seti_mask {M : Nat} (hM : 256 &&& M = 256) (s : State) (f : Fld) (v : Int) :
    (State.seti s f v).mask M = s.mask M :=
  State.mask_mono hM (by
    unfold State.seti
    simp only [State.set_mask, Nat.reduceAnd, ite_self])

end Sys2Proof.Machine
end

