-- ==== Sys2Proof/Laws/MaskSerial.lean ====
section
/-! SUPPORT. What the operations of Machine/Serial.lean can change (see Laws/Mask.lean): one lemma for each. -/

set_option linter.unusedSimpArgs false
set_option maxRecDepth 2000

namespace Sys2Proof.Machine

/-- `prbsStart` changes at most: free, prbs. -/
theorem State.prbsStart_mask {M : Nat} (hM : 618970019642690137449562144 &&& M = 618970019642690137449562144) (s : State) (xb : Nat) :
    (State.prbsStart s xb).mask M = s.mask M :=
  State.mask_mono hM (by
    unfold State.prbsStart
    simp only [State.draw_mask, State.upd89_mask, Nat.reduceAnd, ite_self])

/-- `setTxDisp` changes at most: txRd. -/
theorem State.setTxDisp_mask {M : Nat} (hM : 19342813113834066795298816 &&& M = 19342813113834066795298816) (s : State) (xb : Nat) (rd : Bool) :
    (State.setTxDisp s xb rd).mask M = s.mask M :=
  State.mask_mono hM (by
    unfold State.setTxDisp
    simp only [State.upd84_mask, Nat.reduceAnd, ite_self])

/-- `codeStart` changes at most: txRd. -/
theorem State.codeStart_mask {M : Nat} (hM : 19342813113834066795298816 &&& M = 19342813113834066795298816) (s : State) (xb : Nat) :
    (State.codeStart s xb).mask M = s.mask M :=
  State.mask_mono hM (by
    unfold State.codeStart
    simp only [State.setTxDisp_mask, Nat.reduceAnd, ite_self])

/-- `setChecker` changes at most: checks. -/
theorem State.setChecker_mask {M : Nat} (hM : 1237940039285380274899124224 &&& M = 1237940039285380274899124224) (s : State) (xb : Nat) (c : Checker) :
    (State.setChecker s xb c).mask M = s.mask M :=
  State.mask_mono hM (by
    unfold State.setChecker
    simp only [State.upd90_mask, Nat.reduceAnd, ite_self])

/-- `esAbort` changes at most: regs, es. -/
theorem State.esAbort_mask {M : Nat} (hM : 19807040628566084398385987840 &&& M = 19807040628566084398385987840) (s : State) (xb : Nat) :
    (State.esAbort s xb).mask M = s.mask M :=
  State.mask_mono hM (by
    unfold State.esAbort
    simp only [apply_ite (State.mask 19807040628566084398385987840), apply_ite Prod.snd, apply_ite Prod.fst, State.set_mask,
        State.upd94_mask, Nat.reduceAnd, ite_self])

/-- `rxOff` changes at most: regs, es. -/
theorem State.rxOff_mask {M : Nat} (hM : 19807040628566084398385987840 &&& M = 19807040628566084398385987840) (s : State) (xb : Nat) :
    (State.rxOff s xb).mask M = s.mask M :=
  State.mask_mono hM (by
    unfold State.rxOff
    simp only [apply_ite (State.mask 19807040628566084398385987840), apply_ite Prod.snd, apply_ite Prod.fst, State.esAbort_mask,
        State.set_mask, Nat.reduceAnd, ite_self])

/-- `setRxDisp` changes at most: rxRd. -/
theorem State.setRxDisp_mask {M : Nat} (hM : 38685626227668133590597632 &&& M = 38685626227668133590597632) (s : State) (xb : Nat) (rd : Bool) :
    (State.setRxDisp s xb rd).mask M = s.mask M :=
  State.mask_mono hM (by
    unfold State.setRxDisp
    simp only [State.upd85_mask, Nat.reduceAnd, ite_self])

/-- `sendSyms` changes at most: out, txRd. -/
theorem State.sendSyms_mask {M : Nat} (hM : 19342813113834066795298818 &&& M = 19342813113834066795298818) (s : State) (xb : Nat) (ys : List LineSym) :
    (State.sendSyms s xb ys).mask M = s.mask M :=
  State.mask_mono hM (by
    unfold State.sendSyms
    simp only [apply_ite (State.mask 19342813113834066795298818), apply_ite Prod.snd, apply_ite Prod.fst, State.emit_mask,
        State.setTxDisp_mask, Nat.reduceAnd, ite_self])

end Sys2Proof.Machine
end

