-- ==== Sys2Proof/Laws/MaskClk.lean ====
section
/-! SUPPORT. What the operations of Machine/Clk.lean can change (see Laws/Mask.lean): one lemma for each. -/

set_option linter.unusedSimpArgs false
set_option maxRecDepth 2000

namespace Sys2Proof.Machine

/-- `setReady` changes at most: evtSeen, regs. -/
theorem State.setReady_mask {M : Nat} (hM : 260 &&& M = 260) (s : State) (src : Nat) (b : Bool) :
    (State.setReady s src b).mask M = s.mask M :=
  State.mask_mono hM (by
    unfold State.setReady
    simp only [apply_ite (State.mask 260), apply_ite Prod.snd, apply_ite Prod.fst, State.raise_mask, State.setb_mask,
        Nat.reduceAnd, ite_self])

/-- `unready` changes at most: evtSeen, regs, clk. -/
theorem State.unready_mask {M : Nat} (hM : 4194564 &&& M = 4194564) (s : State) (src : Nat) :
    (State.unready s src).mask M = s.mask M :=
  State.mask_mono hM (by
    unfold State.unready
    simp only [State.setReady_mask, State.upd22_mask, Nat.reduceAnd, ite_self])

/-- `refreshReadyXo` changes at most: evtSeen, regs. -/
theorem State.refreshReadyXo_mask {M : Nat} (hM : 260 &&& M = 260) (s : State) :
    (State.refreshReadyXo s).mask M = s.mask M :=
  State.mask_mono hM (by
    unfold State.refreshReadyXo
    simp only [State.setReady_mask, Nat.reduceAnd, ite_self])

/-- `clkCatchStart` changes at most: regs. -/
theorem State.clkCatchStart_mask {M : Nat} (hM : 256 &&& M = 256) (s : State) :
    (State.clkCatchStart s).mask M = s.mask M :=
  State.mask_mono hM (by
    unfold State.clkCatchStart
    simp only [apply_ite (State.mask 256), apply_ite Prod.snd, apply_ite Prod.fst, State.set_mask, Nat.reduceAnd, ite_self])

/-- `clkMoor` changes at most: regs, clk. -/
theorem State.clkMoor_mask {M : Nat} (hM : 4194560 &&& M = 4194560) (s : State) :
    (State.clkMoor s).mask M = s.mask M :=
  State.mask_mono hM (by
    unfold State.clkMoor
    simp only [apply_ite (State.mask 4194560), apply_ite Prod.snd, apply_ite Prod.fst, State.set_mask, State.upd22_mask,
        Nat.reduceAnd, ite_self])

/-- `enterCoast` changes at most: evtSeen, regs, clk. -/
theorem State.enterCoast_mask {M : Nat} (hM : 4194564 &&& M = 4194564) (s : State) :
    (State.enterCoast s).mask M = s.mask M :=
  State.mask_mono hM (by
    unfold State.enterCoast
    simp only [State.count_mask, State.raise_mask, State.set_mask, State.setPstate_mask, State.upd22_mask, Nat.reduceAnd, ite_self])

/-- `moveToXo` changes at most: regs, clk. -/
theorem State.moveToXo_mask {M : Nat} (hM : 4194560 &&& M = 4194560) (s : State) :
    (State.moveToXo s).mask M = s.mask M :=
  State.mask_mono hM (by
    unfold State.moveToXo
    simp only [apply_ite (State.mask 4194560), apply_ite Prod.snd, apply_ite Prod.fst, State.set_mask, State.upd22_mask,
        Nat.reduceAnd, ite_self])

/-- `clkWake` changes at most: evtSeen, regs, clk. -/
theorem State.clkWake_mask {M : Nat} (hM : 4194564 &&& M = 4194564) (s : State) :
    (State.clkWake s).mask M = s.mask M :=
  State.mask_mono hM (by
    unfold State.clkWake
    simp only [apply_ite (State.mask 4194564), apply_ite Prod.snd, apply_ite Prod.fst, State.enterCoast_mask,
        State.moveToXo_mask, State.set_mask, State.setPstate_mask, State.upd22_mask, Nat.reduceAnd, ite_self])

/-- `clkDisable` changes at most: regs, clk. -/
theorem State.clkDisable_mask {M : Nat} (hM : 4194560 &&& M = 4194560) (s : State) (phase : Int) :
    (State.clkDisable s phase).mask M = s.mask M :=
  State.mask_mono hM (by
    unfold State.clkDisable
    simp only [apply_ite (State.mask 4194560), apply_ite Prod.snd, apply_ite Prod.fst, State.moveToXo_mask, State.set_mask,
        State.setPstate_mask, State.seti_mask, State.upd22_mask, Nat.reduceAnd, ite_self])

/-- `clkSwitch` changes at most: evtSeen, regs, clk. -/
theorem State.clkSwitch_mask {M : Nat} (hM : 4194564 &&& M = 4194564) (s : State) (src : Nat) (phase : Int) :
    (State.clkSwitch s src phase).mask M = s.mask M :=
  State.mask_mono hM (by
    unfold State.clkSwitch
    simp only [apply_ite (State.mask 4194564), apply_ite Prod.snd, apply_ite Prod.fst, State.enterCoast_mask, State.set_mask,
        State.setPstate_mask, State.seti_mask, State.upd22_mask, Nat.reduceAnd, ite_self])

/-- `followXo` changes at most: regs, clk. -/
theorem State.followXo_mask {M : Nat} (hM : 4194560 &&& M = 4194560) (s : State) :
    (State.followXo s).mask M = s.mask M :=
  State.mask_mono hM (by
    unfold State.followXo
    simp only [apply_ite (State.mask 4194560), apply_ite Prod.snd, apply_ite Prod.fst, State.moveToXo_mask, State.upd22_mask,
        Nat.reduceAnd, ite_self])

/-- `clkApplied` changes at most: evtSeen, regs, clk. -/
theorem State.clkApplied_mask {M : Nat} (hM : 4194564 &&& M = 4194564) (s0 : State) (s : State) (es : List Staged) (phase : Int) :
    (State.clkApplied s0 s es phase).mask M = s.mask M :=
  State.mask_mono hM (by
    unfold State.clkApplied
    simp only [apply_ite (State.mask 4194564), apply_ite Prod.snd, apply_ite Prod.fst, State.clkDisable_mask,
        State.clkSwitch_mask, State.followXo_mask, State.refreshReadyXo_mask, State.set_mask, State.setPstate_mask,
        Nat.reduceAnd, ite_self]
    repeat' split
    all_goals (try simp only [apply_ite (State.mask 4194564), apply_ite Prod.snd, apply_ite Prod.fst, State.clkDisable_mask,
        State.clkSwitch_mask, State.followXo_mask, State.refreshReadyXo_mask, State.set_mask, State.setPstate_mask,
        Nat.reduceAnd, ite_self]))

/-- `clkRelock` changes at most: evtSeen, regs. -/
theorem State.clkRelock_mask {M : Nat} (hM : 260 &&& M = 260) (s0 : State) (s : State) :
    (State.clkRelock s0 s).mask M = s.mask M :=
  State.mask_mono hM (by
    unfold State.clkRelock
    repeat' split
    all_goals simp only [State.raise_mask, State.set_mask, State.setPstate_mask, Nat.reduceAnd, ite_self])

/-- `loseSource` changes at most: evtSeen, regs, clk. -/
theorem State.loseSource_mask {M : Nat} (hM : 4194564 &&& M = 4194564) (s : State) (cause : Nat) :
    (State.loseSource s cause).mask M = s.mask M :=
  State.mask_mono hM (by
    unfold State.loseSource
    simp only [apply_ite (State.mask 4194564), apply_ite Prod.snd, apply_ite Prod.fst, State.enterCoast_mask, State.fault_mask,
        State.healthFault_mask, State.raise_mask, State.set_mask, Nat.reduceAnd, ite_self])

/-- `clkLaneLost` changes at most: evtSeen, regs, clk. -/
theorem State.clkLaneLost_mask {M : Nat} (hM : 4194564 &&& M = 4194564) (s : State) (l : PaceLane) (cause : Nat) :
    (State.clkLaneLost s l cause).mask M = s.mask M :=
  State.mask_mono hM (by
    unfold State.clkLaneLost
    simp only [apply_ite (State.mask 4194564), apply_ite Prod.snd, apply_ite Prod.fst, State.loseSource_mask, State.unready_mask,
        Nat.reduceAnd, ite_self])

/-- `moveDone` changes at most: regs, clk. -/
theorem State.moveDone_mask {M : Nat} (hM : 4194560 &&& M = 4194560) (s : State) :
    (State.moveDone s).mask M = s.mask M :=
  State.mask_mono hM (by
    unfold State.moveDone
    simp only [apply_ite (State.mask 4194560), apply_ite Prod.snd, apply_ite Prod.fst, State.set_mask, State.upd22_mask,
        Nat.reduceAnd, ite_self])

/-- `clkTick` changes at most: evtSeen, regs, clk. -/
theorem State.clkTick_mask {M : Nat} (hM : 4194564 &&& M = 4194564) (s : State) :
    (State.clkTick s).mask M = s.mask M :=
  State.mask_mono hM (by
    unfold State.clkTick
    repeat' split
    all_goals (try simp only [apply_ite (State.mask 4194564), apply_ite Prod.snd, apply_ite Prod.fst, State.count_mask,
        State.moveDone_mask, Nat.reduceAnd, ite_self]))

/-- `gateOne` changes at most: evtSeen, regs, clk. -/
theorem State.gateOne_mask {M : Nat} (hM : 4194564 &&& M = 4194564) (s : State) (src : Nat) (g : GateCount) :
    (State.gateOne s src g).mask M = s.mask M :=
  State.mask_mono hM (by
    unfold State.gateOne
    simp only [apply_ite (State.mask 4194564), apply_ite Prod.snd, apply_ite Prod.fst, State.loseSource_mask,
        State.refreshReadyXo_mask, State.set_mask, State.setReady_mask, State.upd22_mask, Nat.reduceAnd, ite_self])

/-- `doFreqGate` changes at most: evtSeen, regs, clk. -/
theorem State.doFreqGate_mask {M : Nat} (hM : 4194564 &&& M = 4194564) (s : State) (a : GateCount) (b : GateCount) (c : GateCount) (x : GateCount) :
    (State.doFreqGate s a b c x).mask M = s.mask M :=
  State.mask_mono hM (by
    unfold State.doFreqGate
    simp only [apply_ite (State.mask 4194564), apply_ite Prod.snd, apply_ite Prod.fst, State.gateOne_mask, Nat.reduceAnd, ite_self])

/-- `doRampDone` changes at most: regs, clk. -/
theorem State.doRampDone_mask {M : Nat} (hM : 4194560 &&& M = 4194560) (s : State) :
    (State.doRampDone s).mask M = s.mask M :=
  State.mask_mono hM (by
    unfold State.doRampDone
    simp only [apply_ite (State.mask 4194560), apply_ite Prod.snd, apply_ite Prod.fst, State.moveDone_mask, State.setPstate_mask,
        State.upd22_mask, Nat.reduceAnd, ite_self])

/-- `doRelocked` changes at most: evtSeen, regs. -/
theorem State.doRelocked_mask {M : Nat} (hM : 260 &&& M = 260) (s : State) :
    (State.doRelocked s).mask M = s.mask M :=
  State.mask_mono hM (by
    unfold State.doRelocked
    simp only [apply_ite (State.mask 260), apply_ite Prod.snd, apply_ite Prod.fst, State.raise_mask, State.set_mask,
        State.setPstate_mask, Nat.reduceAnd, ite_self])

/-- `doXoFault` changes at most: evtSeen, regs, clk. -/
theorem State.doXoFault_mask {M : Nat} (hM : 4194564 &&& M = 4194564) (s : State) :
    (State.doXoFault s).mask M = s.mask M :=
  State.mask_mono hM (by
    unfold State.doXoFault
    simp only [apply_ite (State.mask 4194564), apply_ite Prod.snd, apply_ite Prod.fst, State.fault_mask, State.loseSource_mask,
        State.raise_mask, State.setReady_mask, State.upd22_mask, Nat.reduceAnd, ite_self])

/-- `doSourceLost` changes at most: evtSeen, regs, clk. -/
theorem State.doSourceLost_mask {M : Nat} (hM : 4194564 &&& M = 4194564) (s : State) (cause : Nat) :
    (State.doSourceLost s cause).mask M = s.mask M :=
  State.mask_mono hM (by
    unfold State.doSourceLost
    simp only [apply_ite (State.mask 4194564), apply_ite Prod.snd, apply_ite Prod.fst, State.doXoFault_mask,
        State.loseSource_mask, State.unready_mask, Nat.reduceAnd, ite_self])

end Sys2Proof.Machine
end

