-- ==== Sys2Proof/Laws/MaskTime.lean ====
section
/-! SUPPORT. What the operations of Machine/Time.lean can change (see Laws/Mask.lean): one lemma for each. -/

set_option linter.unusedSimpArgs false
set_option maxRecDepth 2000

namespace Sys2Proof.Machine

/-- `capRearm` changes at most: regs. -/
theorem State.capRearm_mask {M : Nat} (hM : 256 &&& M = 256) (s : State) (n : Nat) (d : Word) :
    (State.capRearm s n d).mask M = s.mask M :=
  State.mask_mono hM (by
    unfold State.capRearm
    simp only [apply_ite (State.mask 256), apply_ite Prod.snd, apply_ite Prod.fst, State.set_mask, Nat.reduceAnd, ite_self])

/-- `capture` changes at most: evtSeen, regs. -/
theorem State.capture_mask {M : Nat} (hM : 260 &&& M = 260) (s : State) (n : Nat) (t : Nat) :
    (State.capture s n t).mask M = s.mask M :=
  State.mask_mono hM (by
    unfold State.capture
    simp only [apply_ite (State.mask 260), apply_ite Prod.snd, apply_ite Prod.fst, State.count_mask, State.set_mask,
        Nat.reduceAnd, ite_self])

/-- `fireAt` changes at most: evtSeen, fired, regs. -/
theorem State.fireAt_mask {M : Nat} (hM : 268 &&& M = 268) (s : State) (src : Nat) (cc : Nat) (t : Nat) :
    (State.fireAt s src cc t).mask M = s.mask M :=
  State.mask_mono hM (by
    unfold State.fireAt
    repeat' (first
      | with_reducible rfl
      | (simp only [apply_ite (State.mask 268), apply_ite Prod.snd, apply_ite Prod.fst, State.capture_mask, forEach_mask,
          State.upd3_mask, Nat.reduceAnd, ite_self]; done)
      | with_reducible refine (forEach_mask (by decide) _ _ _ (fun t a => ?_)).trans ?_
      | split
      | (simp only [apply_ite (State.mask 268), apply_ite Prod.snd, apply_ite Prod.fst, State.capture_mask, State.upd3_mask,
          Nat.reduceAnd, ite_self])))

/-- `cmpDo` changes at most: evtSeen, fired, regs. -/
theorem State.cmpDo_mask {M : Nat} (hM : 268 &&& M = 268) (s : State) (n : Nat) (cc : Nat) (t : Nat) (late : Bool) :
    (State.cmpDo s n cc t late).mask M = s.mask M :=
  State.mask_mono hM (by
    unfold State.cmpDo
    simp only [apply_ite (State.mask 268), apply_ite Prod.snd, apply_ite Prod.fst, State.fireAt_mask, State.raise_mask,
        State.set_mask, Nat.reduceAnd, ite_self])

/-- `cmpArm` changes at most: evtSeen, fired, regs. -/
theorem State.cmpArm_mask {M : Nat} (hM : 268 &&& M = 268) (s : State) (n : Nat) (d : Word) :
    (State.cmpArm s n d).mask M = s.mask M :=
  State.mask_mono hM (by
    unfold State.cmpArm
    simp only [apply_ite (State.mask 268), apply_ite Prod.snd, apply_ite Prod.fst, State.cmpDo_mask, State.set_mask,
        Nat.reduceAnd, ite_self])

/-- `fire` changes at most: evtSeen, fired, regs. -/
theorem State.fire_mask {M : Nat} (hM : 268 &&& M = 268) (s : State) (src : Nat) :
    (State.fire s src).mask M = s.mask M :=
  State.mask_mono hM (by
    unfold State.fire
    simp only [State.fireAt_mask, Nat.reduceAnd, ite_self])

/-- `fireFree` changes at most: evtSeen, fired, free, regs. -/
theorem State.fireFree_mask {M : Nat} (hM : 300 &&& M = 300) (s : State) (src : Nat) :
    (State.fireFree s src).mask M = s.mask M :=
  State.mask_mono hM (by
    unfold State.fireFree
    simp only [State.draw_mask, State.fireAt_mask, Nat.reduceAnd, ite_self])

/-- `spoilExchange` changes at most: time. -/
theorem State.spoilExchange_mask {M : Nat} (hM : 8388608 &&& M = 8388608) (s : State) :
    (State.spoilExchange s).mask M = s.mask M :=
  State.mask_mono hM (by
    unfold State.spoilExchange
    repeat' split
    all_goals simp only [State.upd23_mask, Nat.reduceAnd, ite_self])

/-- `addHubTime` changes at most: time. -/
theorem State.addHubTime_mask {M : Nat} (hM : 8388608 &&& M = 8388608) (s : State) (d : Int) :
    (State.addHubTime s d).mask M = s.mask M :=
  State.mask_mono hM (by
    unfold State.addHubTime
    simp only [State.upd23_mask, Nat.reduceAnd, ite_self])

/-- `markIrregular` changes at most: time. -/
theorem State.markIrregular_mask {M : Nat} (hM : 8388608 &&& M = 8388608) (s : State) :
    (State.markIrregular s).mask M = s.mask M :=
  State.mask_mono hM (by
    unfold State.markIrregular
    simp only [State.upd23_mask, Nat.reduceAnd, ite_self])

/-- `putAlign` changes at most: time. -/
theorem State.putAlign_mask {M : Nat} (hM : 8388608 &&& M = 8388608) (s : State) (a : Option (Nat × Nat)) :
    (State.putAlign s a).mask M = s.mask M :=
  State.mask_mono hM (by
    unfold State.putAlign
    simp only [State.markIrregular_mask, State.upd23_mask, Nat.reduceAnd, ite_self])

/-- `alignHold` changes at most: time. -/
theorem State.alignHold_mask {M : Nat} (hM : 8388608 &&& M = 8388608) (s : State) :
    (State.alignHold s).mask M = s.mask M :=
  State.mask_mono hM (by
    unfold State.alignHold
    simp only [apply_ite (State.mask 8388608), apply_ite Prod.snd, apply_ite Prod.fst, State.putAlign_mask, State.upd23_mask,
        Nat.reduceAnd, ite_self])

/-- `startResync` changes at most: regs, time. -/
theorem State.startResync_mask {M : Nat} (hM : 8388864 &&& M = 8388864) (s : State) :
    (State.startResync s).mask M = s.mask M :=
  State.mask_mono hM (by
    unfold State.startResync
    simp only [apply_ite (State.mask 8388864), apply_ite Prod.snd, apply_ite Prod.fst, State.set_mask, State.upd23_mask,
        Nat.reduceAnd, ite_self])

/-- `applyAlign` changes at most: evtSeen, regs, clk, time. -/
theorem State.applyAlign_mask {M : Nat} (hM : 12583172 &&& M = 12583172) (s : State) (k : Nat) (ph : Nat) :
    (State.applyAlign s k ph).mask M = s.mask M :=
  State.mask_mono hM (by
    unfold State.applyAlign
    simp only [apply_ite (State.mask 12583172), apply_ite Prod.snd, apply_ite Prod.fst, State.putAlign_mask, State.raise_mask,
        State.startResync_mask, State.upd22_mask, State.upd23_mask, Nat.reduceAnd, ite_self])

/-- `nameResync` changes at most: regs, time. -/
theorem State.nameResync_mask {M : Nat} (hM : 8388864 &&& M = 8388864) (s : State) (own : BitVec 64) (c : BitVec 64) :
    (State.nameResync s own c).mask M = s.mask M :=
  State.mask_mono hM (by
    unfold State.nameResync
    simp only [State.set_mask, State.upd23_mask, Nat.reduceAnd, ite_self])

/-- `wakeDecide` changes at most: evtSeen, free, regs, time. -/
theorem State.wakeDecide_mask {M : Nat} (hM : 8388900 &&& M = 8388900) (s : State) (serve : Option (BitVec 64 × BitVec 64)) :
    (State.wakeDecide s serve).mask M = s.mask M :=
  State.mask_mono hM (by
    unfold State.wakeDecide
    repeat' split
    all_goals (try simp only [apply_ite (State.mask 8388900), apply_ite Prod.snd, apply_ite Prod.fst, State.draw_mask,
        State.nameResync_mask, State.putAlign_mask, State.raise_mask, State.set_mask, State.startResync_mask, State.upd23_mask,
        Nat.reduceAnd, ite_self]))

/-- `wakeAlign` changes at most: evtSeen, free, regs, time. -/
theorem State.wakeAlign_mask {M : Nat} (hM : 8388900 &&& M = 8388900) (s : State) (k : Nat) (ph : Nat) :
    (State.wakeAlign s k ph).mask M = s.mask M :=
  State.mask_mono hM (by
    unfold State.wakeAlign
    repeat' split
    all_goals simp only [State.wakeDecide_mask, State.upd23_mask, Nat.reduceAnd, ite_self])

/-- `aligned` changes at most: evtSeen, free, regs, clk, time. -/
theorem State.aligned_mask {M : Nat} (hM : 12583204 &&& M = 12583204) (s : State) (d : Int) (lane : Nat) :
    (State.aligned s d lane).mask M = s.mask M :=
  State.mask_mono hM (by
    unfold State.aligned
    repeat' split
    all_goals (try simp only [apply_ite (State.mask 12583204), apply_ite Prod.snd, apply_ite Prod.fst, State.applyAlign_mask,
        State.fault_mask, State.wakeAlign_mask, Nat.reduceAnd, ite_self]))

/-- `putUnsigned` changes at most: free, regs. -/
theorem State.putUnsigned_mask {M : Nat} (hM : 288 &&& M = 288) (s : State) (f : Fld) (v : Int) :
    (State.putUnsigned s f v).mask M = s.mask M :=
  State.mask_mono hM (by
    unfold State.putUnsigned
    simp only [apply_ite (State.mask 288), apply_ite Prod.snd, apply_ite Prod.fst, State.draw_mask, State.set_mask,
        Nat.reduceAnd, ite_self])

/-- `cableLen` changes at most: free, regs. -/
theorem State.cableLen_mask {M : Nat} (hM : 288 &&& M = 288) (s : State) (p : Nat) (mean : Int) :
    (State.cableLen s p mean).mask M = s.mask M :=
  State.mask_mono hM (by
    unfold State.cableLen
    simp only [State.putUnsigned_mask, Nat.reduceAnd, ite_self])

/-- `cmpLate` changes at most: evtSeen, fired, regs. -/
theorem State.cmpLate_mask {M : Nat} (hM : 268 &&& M = 268) (s : State) (mode : Nat) (d : Int) :
    (State.cmpLate s mode d).mask M = s.mask M :=
  State.mask_mono hM (by
    unfold State.cmpLate
    repeat' (first
      | with_reducible rfl
      | (simp only [apply_ite (State.mask 268), apply_ite Prod.snd, apply_ite Prod.fst, State.cmpDo_mask, forEach_mask,
          Nat.reduceAnd, ite_self]; done)
      | with_reducible refine (forEach_mask (by decide) _ _ _ (fun t a => ?_)).trans ?_
      | split
      | (simp only [apply_ite (State.mask 268), apply_ite Prod.snd, apply_ite Prod.fst, State.cmpDo_mask, Nat.reduceAnd,
          ite_self])))

/-- `timeCatch` changes at most: evtSeen, fired, regs, time. -/
theorem State.timeCatch_mask {M : Nat} (hM : 8388876 &&& M = 8388876) (s : State) :
    (State.timeCatch s).mask M = s.mask M :=
  State.mask_mono hM (by
    unfold State.timeCatch
    repeat' split
    all_goals simp only [State.addHubTime_mask, State.cmpLate_mask, State.count_mask, State.raise_mask, State.upd23_mask,
        Nat.reduceAnd, ite_self])

/-- `putSigned` changes at most: free, regs. -/
theorem State.putSigned_mask {M : Nat} (hM : 288 &&& M = 288) (s : State) (f : Fld) (v : Int) :
    (State.putSigned s f v).mask M = s.mask M :=
  State.mask_mono hM (by
    unfold State.putSigned
    simp only [apply_ite (State.mask 288), apply_ite Prod.snd, apply_ite Prod.fst, State.draw_mask, State.set_mask,
        State.seti_mask, Nat.reduceAnd, ite_self])

/-- `servo` changes at most: regs, time. -/
theorem State.servo_mask {M : Nat} (hM : 8388864 &&& M = 8388864) (s : State) (offset : Int) :
    (State.servo s offset).mask M = s.mask M :=
  State.mask_mono hM (by
    unfold State.servo
    simp only [apply_ite (State.mask 8388864), apply_ite Prod.snd, apply_ite Prod.fst, State.set_mask, State.seti_mask,
        State.upd23_mask, Nat.reduceAnd, ite_self])

/-- `completeExchange` changes at most: evtSeen, free, regs, clk, time. -/
theorem State.completeExchange_mask {M : Nat} (hM : 12583204 &&& M = 12583204) (s : State) (e : Exchange) (t3 : Int) (t4 : Int) :
    (State.completeExchange s e t3 t4).mask M = s.mask M :=
  State.mask_mono hM (by
    unfold State.completeExchange
    simp only [State.aligned_mask, State.cableLen_mask, State.countW_mask, State.putSigned_mask, State.putUnsigned_mask,
        State.raise_mask, State.servo_mask, State.upd23_mask, Nat.reduceAnd, ite_self])

/-- `endHold` changes at most: evtSeen, regs. -/
theorem State.endHold_mask {M : Nat} (hM : 260 &&& M = 260) (s : State) :
    (State.endHold s).mask M = s.mask M :=
  State.mask_mono hM (by
    unfold State.endHold
    simp only [apply_ite (State.mask 260), apply_ite Prod.snd, apply_ite Prod.fst, State.raise_mask, State.set_mask,
        Nat.reduceAnd, ite_self])

/-- `doAnnounce` changes at most: evtSeen, free, regs, time. -/
theorem State.doAnnounce_mask {M : Nat} (hM : 8388900 &&& M = 8388900) (s : State) (c : BitVec 64) (inSlot : Bool) :
    (State.doAnnounce s c inSlot).mask M = s.mask M :=
  State.mask_mono hM (by
    unfold State.doAnnounce
    simp only [apply_ite (State.mask 8388900), apply_ite Prod.snd, apply_ite Prod.fst, State.count_mask, State.endHold_mask,
        State.nameResync_mask, State.raise_mask, State.wakeDecide_mask, State.upd23_mask, Nat.reduceAnd, ite_self]
    repeat' split
    all_goals (try simp only [apply_ite (State.mask 8388900), apply_ite Prod.snd, apply_ite Prod.fst, State.count_mask,
        State.endHold_mask, State.nameResync_mask, State.raise_mask, State.wakeDecide_mask, State.upd23_mask, Nat.reduceAnd,
        ite_self]))

/-- `doCmpFire` changes at most: evtSeen, fired, regs. -/
theorem State.doCmpFire_mask {M : Nat} (hM : 268 &&& M = 268) (s : State) (n : Nat) :
    (State.doCmpFire s n).mask M = s.mask M :=
  State.mask_mono hM (by
    unfold State.doCmpFire
    repeat' split
    all_goals simp only [State.cmpDo_mask, Nat.reduceAnd, ite_self])

/-- `orbitTick` changes at most: evtSeen, fired, regs. -/
theorem State.orbitTick_mask {M : Nat} (hM : 268 &&& M = 268) (s : State) :
    (State.orbitTick s).mask M = s.mask M :=
  State.mask_mono hM (by
    unfold State.orbitTick
    simp only [apply_ite (State.mask 268), apply_ite Prod.snd, apply_ite Prod.fst, State.fire_mask, State.set_mask,
        Nat.reduceAnd, ite_self])

/-- `timeTick` changes at most: evtSeen, fired, regs, time. -/
theorem State.timeTick_mask {M : Nat} (hM : 8388876 &&& M = 8388876) (s : State) :
    (State.timeTick s).mask M = s.mask M :=
  State.mask_mono hM (by
    unfold State.timeTick
    simp only [State.addHubTime_mask, State.orbitTick_mask, State.set_mask, State.upd23_mask, Nat.reduceAnd, ite_self])

/-- `hubStamp` changes at most: free. -/
theorem State.hubStamp_mask {M : Nat} (hM : 32 &&& M = 32) (s : State) (phase : Nat) (sign : Int) :
    (State.hubStamp s phase sign).2.mask M = s.mask M :=
  State.mask_mono hM (by
    unfold State.hubStamp
    simp only [apply_ite (State.mask 32), apply_ite Prod.snd, apply_ite Prod.fst, State.draw_mask, Nat.reduceAnd, ite_self])

/-- `loseExchange` changes at most: evtSeen, regs, time. -/
theorem State.loseExchange_mask {M : Nat} (hM : 8388868 &&& M = 8388868) (s : State) :
    (State.loseExchange s).mask M = s.mask M :=
  State.mask_mono hM (by
    unfold State.loseExchange
    repeat' split
    all_goals simp only [State.count_mask, State.fault_mask, State.upd23_mask, Nat.reduceAnd, ite_self])

/-- `doDelayResp` changes at most: evtSeen, free, regs, clk, time. -/
theorem State.doDelayResp_mask {M : Nat} (hM : 12583204 &&& M = 12583204) (s : State) (lane : PaceLane) (seq : Byte) (t4 : TimeStamp) :
    (State.doDelayResp s lane seq t4).mask M = s.mask M :=
  State.mask_mono hM (by
    unfold State.doDelayResp
    repeat' split
    all_goals simp only [State.completeExchange_mask, State.loseExchange_mask, Nat.reduceAnd, ite_self])

/-- `doExchangeTimeout` changes at most: evtSeen, regs, time. -/
theorem State.doExchangeTimeout_mask {M : Nat} (hM : 8388868 &&& M = 8388868) (s : State) :
    (State.doExchangeTimeout s).mask M = s.mask M :=
  State.mask_mono hM (by
    unfold State.doExchangeTimeout
    repeat' split
    all_goals simp only [State.loseExchange_mask, State.raise_mask, Nat.reduceAnd, ite_self])

/-- `doOrbitComma` changes at most: evtSeen, regs, time. -/
theorem State.doOrbitComma_mask {M : Nat} (hM : 8388868 &&& M = 8388868) (s : State) (lane : PaceLane) (skew : Option Int) :
    (State.doOrbitComma s lane skew).mask M = s.mask M :=
  State.mask_mono hM (by
    unfold State.doOrbitComma
    repeat' split
    all_goals (try simp only [apply_ite (State.mask 8388868), apply_ite Prod.snd, apply_ite Prod.fst, State.count_mask,
        State.raise_mask, State.set_mask, State.setb_mask, State.seti_mask, State.upd23_mask, Nat.reduceAnd, ite_self]))

/-- `doSync` changes at most: evtSeen, free, regs, time. -/
theorem State.doSync_mask {M : Nat} (hM : 8388900 &&& M = 8388900) (s : State) (t1 : TimeStamp) (phase : Nat) :
    (State.doSync s t1 phase).mask M = s.mask M :=
  State.mask_mono hM (by
    unfold State.doSync
    simp only [apply_ite (State.mask 8388900), apply_ite Prod.snd, apply_ite Prod.fst, State.hubStamp_mask,
        State.loseExchange_mask, State.upd23_mask, Nat.reduceAnd, ite_self])

end Sys2Proof.Machine
end

