-- ==== Sys2Proof/Laws/MaskPace.lean ====
section
/-! SUPPORT. What the operations of Machine/Pace.lean can change (see Laws/Mask.lean): one lemma for each. -/

set_option linter.unusedSimpArgs false
set_option maxRecDepth 2000

namespace Sys2Proof.Machine

/-- `sendControl` changes at most: out, pace. -/
theorem State.sendControl_mask {M : Nat} (hM : 16777218 &&& M = 16777218) (s : State) (bytes : List Byte) :
    (State.sendControl s bytes).mask M = s.mask M :=
  State.mask_mono hM (by
    unfold State.sendControl
    simp only [State.emit_mask, State.upd24_mask, Nat.reduceAnd, ite_self])

/-- `switchTo` changes at most: evtSeen, regs, time. -/
theorem State.switchTo_mask {M : Nat} (hM : 8388868 &&& M = 8388868) (s : State) (l : PaceLane) :
    (State.switchTo s l).mask M = s.mask M :=
  State.mask_mono hM (by
    unfold State.switchTo
    simp only [State.count_mask, State.raise_mask, State.set_mask, State.spoilExchange_mask, Nat.reduceAnd, ite_self])

/-- `endOutage` changes at most: evtSeen, regs, time, pace. -/
theorem State.endOutage_mask {M : Nat} (hM : 25166084 &&& M = 25166084) (s : State) :
    (State.endOutage s).mask M = s.mask M :=
  State.mask_mono hM (by
    unfold State.endOutage
    simp only [apply_ite (State.mask 25166084), apply_ite Prod.snd, apply_ite Prod.fst, State.set_mask, State.switchTo_mask,
        State.upd24_mask, Nat.reduceAnd, ite_self])

/-- `updGap` changes at most: pace. -/
theorem State.updGap_mask {M : Nat} (hM : 16777216 &&& M = 16777216) (s : State) (l : PaceLane) (f : Gap → Gap) :
    (State.updGap s l f).mask M = s.mask M :=
  State.mask_mono hM (by
    unfold State.updGap
    repeat' split
    all_goals simp only [State.upd24_mask, Nat.reduceAnd, ite_self])

/-- `blindLabels` changes at most: regs. -/
theorem State.blindLabels_mask {M : Nat} (hM : 256 &&& M = 256) (s : State) (first : BitVec 64) (last : BitVec 64) (new : Bool) :
    (State.blindLabels s first last new).mask M = s.mask M :=
  State.mask_mono hM (by
    unfold State.blindLabels
    simp only [apply_ite (State.mask 256), apply_ite Prod.snd, apply_ite Prod.fst, State.set_mask, Nat.reduceAnd, ite_self])

/-- `openOutage` changes at most: evtSeen, regs, pace. -/
theorem State.openOutage_mask {M : Nat} (hM : 16777476 &&& M = 16777476) (s : State) (c : Nat) :
    (State.openOutage s c).mask M = s.mask M :=
  State.mask_mono hM (by
    unfold State.openOutage
    simp only [apply_ite (State.mask 16777476), apply_ite Prod.snd, apply_ite Prod.fst, State.blindLabels_mask,
        State.countBy_mask, State.raise_mask, State.upd24_mask, Nat.reduceAnd, ite_self])

/-- `blindTick` changes at most: evtSeen, regs, pace. -/
theorem State.blindTick_mask {M : Nat} (hM : 16777476 &&& M = 16777476) (s : State) :
    (State.blindTick s).mask M = s.mask M :=
  State.mask_mono hM (by
    unfold State.blindTick
    simp only [apply_ite (State.mask 16777476), apply_ite Prod.snd, apply_ite Prod.fst, State.blindLabels_mask, State.count_mask,
        State.openOutage_mask, State.upd24_mask, Nat.reduceAnd, ite_self])

/-- `refuseCommand` changes at most: evtSeen, regs. -/
theorem State.refuseCommand_mask {M : Nat} (hM : 260 &&& M = 260) (s : State) :
    (State.refuseCommand s).mask M = s.mask M :=
  State.mask_mono hM (by
    unfold State.refuseCommand
    simp only [State.count_mask, State.raise_mask, Nat.reduceAnd, ite_self])

/-- `forgetSkew` changes at most: regs. -/
theorem State.forgetSkew_mask {M : Nat} (hM : 256 &&& M = 256) (s : State) :
    (State.forgetSkew s).mask M = s.mask M :=
  State.mask_mono hM (by
    unfold State.forgetSkew
    simp only [State.set_mask, Nat.reduceAnd, ite_self])

/-- `startOutage` changes at most: evtSeen, regs, pace. -/
theorem State.startOutage_mask {M : Nat} (hM : 16777476 &&& M = 16777476) (s : State) (c : Nat) :
    (State.startOutage s c).mask M = s.mask M :=
  State.mask_mono hM (by
    unfold State.startOutage
    simp only [apply_ite (State.mask 16777476), apply_ite Prod.snd, apply_ite Prod.fst, State.openOutage_mask, State.upd24_mask,
        Nat.reduceAnd, ite_self])

/-- `dataLost` changes at most: evtSeen, regs, time, pace. -/
theorem State.dataLost_mask {M : Nat} (hM : 25166084 &&& M = 25166084) (s : State) (c : Nat) :
    (State.dataLost s c).mask M = s.mask M :=
  State.mask_mono hM (by
    unfold State.dataLost
    simp only [apply_ite (State.mask 25166084), apply_ite Prod.snd, apply_ite Prod.fst, State.fault_mask, State.raise_mask,
        State.startOutage_mask, State.switchTo_mask, Nat.reduceAnd, ite_self])

/-- `paceLost` changes at most: evtSeen, regs, clk, time, pace. -/
theorem State.paceLost_mask {M : Nat} (hM : 29360388 &&& M = 29360388) (s : State) (l : PaceLane) (cause : Nat) (c : Nat) (host : Bool) :
    (State.paceLost s l cause c host).mask M = s.mask M :=
  State.mask_mono hM (by
    unfold State.paceLost
    simp only [apply_ite (State.mask 29360388), apply_ite Prod.snd, apply_ite Prod.fst, State.clkLaneLost_mask,
        State.dataLost_mask, State.fault_mask, State.healthFault_mask, State.raise_mask, State.updGap_mask, Nat.reduceAnd,
        ite_self])

/-- `paceDisabled` changes at most: evtSeen, regs, clk, time, pace. -/
theorem State.paceDisabled_mask {M : Nat} (hM : 29360388 &&& M = 29360388) (s : State) (l : PaceLane) (st : Nat) :
    (State.paceDisabled s l st).mask M = s.mask M :=
  State.mask_mono hM (by
    unfold State.paceDisabled
    simp only [apply_ite (State.mask 29360388), apply_ite Prod.snd, apply_ite Prod.fst, State.dataLost_mask, State.paceLost_mask,
        Nat.reduceAnd, ite_self])

/-- `paceRxOff` changes at most: regs, es. -/
theorem State.paceRxOff_mask {M : Nat} (hM : 19807040628566084398385987840 &&& M = 19807040628566084398385987840) (s : State) (l : PaceLane) :
    (State.paceRxOff s l).mask M = s.mask M :=
  State.mask_mono hM (by
    unfold State.paceRxOff
    simp only [State.rxOff_mask, Nat.reduceAnd, ite_self])

/-- `paceEnable` changes at most: regs, txRd, es. -/
theorem State.paceEnable_mask {M : Nat} (hM : 19826383441679918465181286656 &&& M = 19826383441679918465181286656) (s : State) (l : PaceLane) (was : Bool) :
    (State.paceEnable s l was).mask M = s.mask M :=
  State.mask_mono hM (by
    unfold State.paceEnable
    simp only [apply_ite (State.mask 19826383441679918465181286656), apply_ite Prod.snd, apply_ite Prod.fst,
        State.codeStart_mask, State.paceRxOff_mask, State.setPstate_mask, Nat.reduceAnd, ite_self])

/-- `paceEnables` changes at most: evtSeen, regs, clk, time, pace, txRd, es. -/
theorem State.paceEnables_mask {M : Nat} (hM : 19826383441679918465210646788 &&& M = 19826383441679918465210646788) (s : State) (s0 : State) :
    (State.paceEnables s s0).mask M = s.mask M :=
  State.mask_mono hM (by
    unfold State.paceEnables
    simp only [apply_ite (State.mask 19826383441679918465210646788), apply_ite Prod.snd, apply_ite Prod.fst,
        State.forgetSkew_mask, State.paceDisabled_mask, State.paceEnable_mask, Nat.reduceAnd, ite_self])

/-- `paceRevert` changes at most: evtSeen, regs, time. -/
theorem State.paceRevert_mask {M : Nat} (hM : 8388868 &&& M = 8388868) (s : State) :
    (State.paceRevert s).mask M = s.mask M :=
  State.mask_mono hM (by
    unfold State.paceRevert
    simp only [apply_ite (State.mask 8388868), apply_ite Prod.snd, apply_ite Prod.fst, State.switchTo_mask, Nat.reduceAnd,
        ite_self])

/-- `countBad` changes at most: evtSeen, regs. -/
theorem State.countBad_mask {M : Nat} (hM : 260 &&& M = 260) (s : State) (cnt : Nat → Fld) (ev : Option (Nat → Ev)) (a : Bool) (b : Bool) :
    (State.countBad s cnt ev a b).mask M = s.mask M :=
  State.mask_mono hM (by
    unfold State.countBad
    repeat' split
    all_goals (try simp only [apply_ite (State.mask 260), apply_ite Prod.snd, apply_ite Prod.fst, State.count_mask,
        State.raise_mask, Nat.reduceAnd, ite_self]))

/-- `countRepair` changes at most: evtSeen, regs. -/
theorem State.countRepair_mask {M : Nat} (hM : 260 &&& M = 260) (s : State) :
    (State.countRepair s).mask M = s.mask M :=
  State.mask_mono hM (by
    unfold State.countRepair
    simp only [State.count_mask, State.healthFault_mask, Nat.reduceAnd, ite_self])

/-- `doCommandDiscard` changes at most: evtSeen, regs. -/
theorem State.doCommandDiscard_mask {M : Nat} (hM : 260 &&& M = 260) (s : State) (a : Option (Byte × Byte)) (b : Option (Byte × Byte)) :
    (State.doCommandDiscard s a b).mask M = s.mask M :=
  State.mask_mono hM (by
    unfold State.doCommandDiscard
    repeat' split
    all_goals simp only [State.countBad_mask, State.countRepair_mask, Nat.reduceAnd, ite_self])

/-- `doDelayReq` changes at most: out, free, time. -/
theorem State.doDelayReq_mask {M : Nat} (hM : 8388642 &&& M = 8388642) (s : State) :
    (State.doDelayReq s).mask M = s.mask M :=
  State.mask_mono hM (by
    unfold State.doDelayReq
    repeat' split
    all_goals simp only [State.emit_mask, State.hubStamp_mask, State.upd23_mask, Nat.reduceAnd, ite_self])

/-- `doFrameDiscard` changes at most: evtSeen, regs. -/
theorem State.doFrameDiscard_mask {M : Nat} (hM : 260 &&& M = 260) (s : State) (l : PaceLane) :
    (State.doFrameDiscard s l).mask M = s.mask M :=
  State.mask_mono hM (by
    unfold State.doFrameDiscard
    simp only [apply_ite (State.mask 260), apply_ite Prod.snd, apply_ite Prod.fst, State.count_mask, State.raise_mask,
        Nat.reduceAnd, ite_self])

/-- `doLinkInfo` changes at most: regs. -/
theorem State.doLinkInfo_mask {M : Nat} (hM : 256 &&& M = 256) (s : State) (l : PaceLane) (v : Byte) :
    (State.doLinkInfo s l v).mask M = s.mask M :=
  State.mask_mono hM (by
    unfold State.doLinkInfo
    simp only [apply_ite (State.mask 256), apply_ite Prod.snd, apply_ite Prod.fst, State.set_mask, Nat.reduceAnd, ite_self])

/-- `doOrbitStart` changes at most: evtSeen, regs, time, pace. -/
theorem State.doOrbitStart_mask {M : Nat} (hM : 25166084 &&& M = 25166084) (s : State) (l : PaceLane) (skew : Option Int) :
    (State.doOrbitStart s l skew).mask M = s.mask M :=
  State.mask_mono hM (by
    unfold State.doOrbitStart
    simp only [State.doOrbitComma_mask, State.endOutage_mask, Nat.reduceAnd, ite_self])

/-- `doPaceAligned` changes at most: regs. -/
theorem State.doPaceAligned_mask {M : Nat} (hM : 256 &&& M = 256) (s : State) (l : PaceLane) :
    (State.doPaceAligned s l).mask M = s.mask M :=
  State.mask_mono hM (by
    unfold State.doPaceAligned
    simp only [apply_ite (State.mask 256), apply_ite Prod.snd, apply_ite Prod.fst, State.setPstate_mask, Nat.reduceAnd, ite_self])

/-- `fourCommas` changes at most: evtSeen, regs. -/
theorem State.fourCommas_mask {M : Nat} (hM : 260 &&& M = 260) (s : State) (l : PaceLane) :
    (State.fourCommas s l).mask M = s.mask M :=
  State.mask_mono hM (by
    unfold State.fourCommas
    simp only [State.countBy_mask, Nat.reduceAnd, ite_self])

/-- `doPaceDown` changes at most: evtSeen, regs, clk, time, pace. -/
theorem State.doPaceDown_mask {M : Nat} (hM : 29360388 &&& M = 29360388) (s : State) (l : PaceLane) (cause : DownCause) :
    (State.doPaceDown s l cause).mask M = s.mask M :=
  State.mask_mono hM (by
    unfold State.doPaceDown
    repeat' split
    all_goals (try simp only [apply_ite (State.mask 29360388), apply_ite Prod.snd, apply_ite Prod.fst, State.fourCommas_mask,
        State.paceLost_mask, State.setPstate_mask, Nat.reduceAnd, ite_self]))

/-- `doPaceSignal` changes at most: regs. -/
theorem State.doPaceSignal_mask {M : Nat} (hM : 256 &&& M = 256) (s : State) (l : PaceLane) :
    (State.doPaceSignal s l).mask M = s.mask M :=
  State.mask_mono hM (by
    unfold State.doPaceSignal
    simp only [apply_ite (State.mask 256), apply_ite Prod.snd, apply_ite Prod.fst, State.setPstate_mask, Nat.reduceAnd, ite_self])

/-- `sendLinkInfo` changes at most: out, free, pace. -/
theorem State.sendLinkInfo_mask {M : Nat} (hM : 16777250 &&& M = 16777250) (s : State) :
    (State.sendLinkInfo s).mask M = s.mask M :=
  State.mask_mono hM (by
    unfold State.sendLinkInfo
    simp only [State.draw_mask, State.sendControl_mask, Nat.reduceAnd, ite_self])

/-- `doPaceUp` changes at most: out, evtSeen, free, regs, time, pace. -/
theorem State.doPaceUp_mask {M : Nat} (hM : 25166118 &&& M = 25166118) (s : State) (l : PaceLane) :
    (State.doPaceUp s l).mask M = s.mask M :=
  State.mask_mono hM (by
    unfold State.doPaceUp
    simp only [apply_ite (State.mask 25166118), apply_ite Prod.snd, apply_ite Prod.fst, State.endOutage_mask, State.raise_mask,
        State.sendLinkInfo_mask, State.setPstate_mask, State.updGap_mask, State.upd24_mask, Nat.reduceAnd, ite_self])

/-- `fastCommand` changes, beside what it is given: evtSeen, fired, regs. -/
theorem State.fastCommand_mask {M : Nat} (hM : 268 &&& M = 268) (s : State) (code : Nat) (arg : Nat) (a : LaneCopy) (b : LaneCopy) (act : State → State) (hf : ∀ t, (act t).mask M = t.mask M) :
    (State.fastCommand s code arg a b act).mask M = s.mask M := by
  unfold State.fastCommand
  repeat' (first
    | with_reducible rfl
    | split
    | (simp only [apply_ite (State.mask M), hf, State.count_mask (State.land_trans (by decide : 260 &&& 268 = 260) hM),
        State.countBad_mask (State.land_trans (by decide : 260 &&& 268 = 260) hM),
        State.countRepair_mask (State.land_trans (by decide : 260 &&& 268 = 260) hM),
        State.fire_mask (State.land_trans (by decide : 268 &&& 268 = 268) hM),
        State.set_mask (State.land_trans (by decide : 256 &&& 268 = 256) hM), ite_self]))

/-- `frameFrom` changes, beside what it is given: evtSeen, regs. -/
theorem State.frameFrom_mask {M : Nat} (hM : 260 &&& M = 260) (s : State) (rep : Bool) (act : State → State) (hf : ∀ t,
    (act t).mask M = t.mask M) :
    (State.frameFrom s rep act).mask M = s.mask M := by
  unfold State.frameFrom
  repeat' (first
    | with_reducible rfl
    | split
    | (simp only [apply_ite (State.mask M), hf, State.countRepair_mask (State.land_trans (by decide : 260 &&& 260 = 260) hM),
        ite_self]))

end Sys2Proof.Machine
end

