-- ==== Sys2Proof/Laws/MaskBank.lean ====
section
/-! SUPPORT. What the operations of Machine/Bank.lean can change (see Laws/Mask.lean): one lemma for each. -/

set_option linter.unusedSimpArgs false
set_option maxRecDepth 2000

namespace Sys2Proof.Machine

/-- `dacCode` changes at most: free. -/
theorem State.dacCode_mask {M : Nat} (hM : 32 &&& M = 32) (s : State) (b : Nat) :
    (State.dacCode s b).2.mask M = s.mask M :=
  State.mask_mono hM (by
    unfold State.dacCode
    simp only [apply_ite (State.mask 32), apply_ite Prod.snd, apply_ite Prod.fst, State.draw_mask, Nat.reduceAnd, ite_self])

/-- `setBank` changes at most: banks. -/
theorem State.setBank_mask {M : Nat} (hM : 268435456 &&& M = 268435456) (s : State) (b : Nat) (k : BankCal) :
    (State.setBank s b k).mask M = s.mask M :=
  State.mask_mono hM (by
    unfold State.setBank
    simp only [State.upd28_mask, Nat.reduceAnd, ite_self])

/-- `tapCatch` changes at most: evtSeen, regs. -/
theorem State.tapCatch_mask {M : Nat} (hM : 260 &&& M = 260) (s0 : State) (s : State) :
    (State.tapCatch s0 s).mask M = s.mask M :=
  State.mask_mono hM (by
    unfold State.tapCatch
    repeat' (first
      | with_reducible rfl
      | (simp only [apply_ite (State.mask 260), apply_ite Prod.snd, apply_ite Prod.fst, State.raise_mask, forEach_mask,
          Nat.reduceAnd, ite_self]; done)
      | with_reducible refine (forEach_mask (by decide) _ _ _ (fun t a => ?_)).trans ?_
      | split
      | (simp only [apply_ite (State.mask 260), apply_ite Prod.snd, apply_ite Prod.fst, State.raise_mask, Nat.reduceAnd,
          ite_self])))

/-- `applyTrimTgt` changes at most: evtSeen, regs. -/
theorem State.applyTrimTgt_mask {M : Nat} (hM : 260 &&& M = 260) (s : State) (pg : Nat) (key : Nat) (d : Word) :
    (State.applyTrimTgt s pg key d).mask M = s.mask M :=
  State.mask_mono hM (by
    unfold State.applyTrimTgt
    simp only [apply_ite (State.mask 260), apply_ite Prod.snd, apply_ite Prod.fst, State.raise_mask, State.seti_mask,
        Nat.reduceAnd, ite_self])

/-- `countOvr` changes at most: evtSeen, regs. -/
theorem State.countOvr_mask {M : Nat} (hM : 260 &&& M = 260) (s : State) (n : Nat) :
    (State.countOvr s n).mask M = s.mask M :=
  State.mask_mono hM (by
    unfold State.countOvr
    repeat' (first
      | with_reducible rfl
      | (simp only [apply_ite (State.mask 260), apply_ite Prod.snd, apply_ite Prod.fst, State.count_mask, forEach_mask,
          Nat.reduceAnd, ite_self]; done)
      | with_reducible refine (forEach_mask (by decide) _ _ _ (fun t a => ?_)).trans ?_
      | split
      | (simp only [apply_ite (State.mask 260), apply_ite Prod.snd, apply_ite Prod.fst, State.count_mask, Nat.reduceAnd,
          ite_self])))

/-- `compareTake` changes at most: banks. -/
theorem State.compareTake_mask {M : Nat} (hM : 268435456 &&& M = 268435456) (s : State) (ws : List (Nat × Nat × BitVec 16)) (b : Nat) :
    (State.compareTake s ws b).mask M = s.mask M :=
  State.mask_mono hM (by
    unfold State.compareTake
    simp only [apply_ite (State.mask 268435456), apply_ite Prod.snd, apply_ite Prod.fst, State.setBank_mask, Nat.reduceAnd,
        ite_self])

/-- `deliverWords` changes at most: words. -/
theorem State.deliverWords_mask {M : Nat} (hM : 4294967296 &&& M = 4294967296) (s : State) (ws : List (Nat × Nat × BitVec 16)) (n : Nat) (b : Nat) :
    (State.deliverWords s ws n b).mask M = s.mask M :=
  State.mask_mono hM (by
    unfold State.deliverWords
    repeat' (first
      | with_reducible rfl
      | (simp only [apply_ite (State.mask 4294967296), apply_ite Prod.snd, apply_ite Prod.fst, forEach_mask, State.upd32_mask,
          Nat.reduceAnd, ite_self]; done)
      | with_reducible refine (forEach_mask (by decide) _ _ _ (fun t a => ?_)).trans ?_
      | split
      | (simp only [apply_ite (State.mask 4294967296), apply_ite Prod.snd, apply_ite Prod.fst, State.upd32_mask, Nat.reduceAnd,
          ite_self])))

/-- `monitors` changes at most: banks. -/
theorem State.monitors_mask {M : Nat} (hM : 268435456 &&& M = 268435456) (s : State) (ws : List (Nat × Nat × BitVec 16)) (n : Nat) (b : Nat) :
    (State.monitors s ws n b).mask M = s.mask M :=
  State.mask_mono hM (by
    unfold State.monitors
    simp only [apply_ite (State.mask 268435456), apply_ite Prod.snd, apply_ite Prod.fst, State.setBank_mask, Nat.reduceAnd,
        ite_self])

/-- `makeWord` changes at most: free. -/
theorem State.makeWord_mask {M : Nat} (hM : 32 &&& M = 32) (s : State) (ins : List SliceSample) (overs : List (Nat × Nat)) (n : Nat) (b : Nat) (i : Nat) (sl : Nat) (p : Nat) :
    (State.makeWord s ins overs n b i sl p).2.mask M = s.mask M :=
  State.mask_mono hM (by
    unfold State.makeWord
    simp only [apply_ite (State.mask 32), apply_ite Prod.snd, apply_ite Prod.fst, State.draw_mask, Nat.reduceAnd, ite_self])

/-- `sliceWords` changes at most: free. -/
theorem State.sliceWords_mask {M : Nat} (hM : 32 &&& M = 32) (s : State) (ins : List SliceSample) (overs : List (Nat × Nat)) (n : Nat) (b : Nat) :
    (State.sliceWords s ins overs n b).2.mask M = s.mask M :=
  State.mask_mono hM (by
    unfold State.sliceWords
    exact State.foldl_keep (fun r : List (Nat × Nat × BitVec 16) × State => r.2.mask 32) _ _ _
      (fun r c => State.makeWord_mask (by decide) r.2 ins overs n b _ _ _))

/-- `sampleBank` changes at most: free, banks, words. -/
theorem State.sampleBank_mask {M : Nat} (hM : 4563402784 &&& M = 4563402784) (s : State) (ins : List SliceSample) (overs : List (Nat × Nat)) (n : Nat) (b : Nat) :
    (State.sampleBank s ins overs n b).mask M = s.mask M :=
  State.mask_mono hM (by
    unfold State.sampleBank
    simp only [State.compareTake_mask, State.deliverWords_mask, State.monitors_mask, State.sliceWords_mask, Nat.reduceAnd,
        ite_self])

/-- `setCalTarget` changes at most: trimCal. -/
theorem State.setCalTarget_mask {M : Nat} (hM : 1073741824 &&& M = 1073741824) (s : State) (t : CalTarget) :
    (State.setCalTarget s t).mask M = s.mask M :=
  State.mask_mono hM (by
    unfold State.setCalTarget
    simp only [State.upd30_mask, Nat.reduceAnd, ite_self])

/-- `walkSlice` changes at most: evtSeen, regs, trimCur. -/
theorem State.walkSlice_mask {M : Nat} (hM : 536871172 &&& M = 536871172) (s : State) (b : Nat) (sl : Nat) :
    (State.walkSlice s b sl).mask M = s.mask M :=
  State.mask_mono hM (by
    unfold State.walkSlice
    repeat' (first
      | with_reducible rfl
      | (simp only [apply_ite (State.mask 536871172), apply_ite Prod.snd, apply_ite Prod.fst, State.raise_mask, forEach_mask,
          State.upd29_mask, Nat.reduceAnd, ite_self]; done)
      | with_reducible refine (forEach_mask (by decide) _ _ _ (fun t a => ?_)).trans ?_
      | split
      | (simp only [apply_ite (State.mask 536871172), apply_ite Prod.snd, apply_ite Prod.fst, State.raise_mask, State.upd29_mask,
          Nat.reduceAnd, ite_self])))

/-- `bankTick` changes at most: evtSeen, free, regs, banks, trimCur, trimCal, overs, words. -/
theorem State.bankTick_mask {M : Nat} (hM : 8321499428 &&& M = 8321499428) (s : State) (i : TickIn) (n : Nat) :
    (State.bankTick s i n).mask M = s.mask M :=
  State.mask_mono hM (by
    unfold State.bankTick
    repeat' (first
      | with_reducible rfl
      | (simp only [apply_ite (State.mask 8321499428), apply_ite Prod.snd, apply_ite Prod.fst, State.countOvr_mask,
          State.sampleBank_mask, State.setCalTarget_mask, State.walkSlice_mask, forEach_mask, State.upd31_mask,
          State.upd31_32_mask, Nat.reduceAnd, ite_self]; done)
      | with_reducible refine (forEach_mask (by decide) _ _ _ (fun t a => ?_)).trans ?_
      | split
      | (simp only [apply_ite (State.mask 8321499428), apply_ite Prod.snd, apply_ite Prod.fst, State.countOvr_mask,
          State.sampleBank_mask, State.setCalTarget_mask, State.walkSlice_mask, State.upd31_mask, State.upd31_32_mask,
          Nat.reduceAnd, ite_self])))

end Sys2Proof.Machine
end

