-- ==== Sys2Proof/Laws/MaskPrism.lean ====
section
/-! SUPPORT. What the operations of Machine/Prism.lean can change (see Laws/Mask.lean): one lemma for each. -/

set_option linter.unusedSimpArgs false
set_option maxRecDepth 2000

namespace Sys2Proof.Machine

/-- `coefWrite` changes at most: evtSeen, regs, badTaps. -/
theorem State.coefWrite_mask {M : Nat} (hM : 4398046511364 &&& M = 4398046511364) (s : State) (d : Word) :
    (State.coefWrite s d).mask M = s.mask M :=
  State.mask_mono hM (by
    unfold State.coefWrite
    simp only [apply_ite (State.mask 4398046511364), apply_ite Prod.snd, apply_ite Prod.fst, State.count_mask, State.raise_mask,
        State.set_mask, State.upd42_mask, Nat.reduceAnd, ite_self])

/-- `fadeDrop` changes at most: fadeQ. -/
theorem State.fadeDrop_mask {M : Nat} (hM : 1099511627776 &&& M = 1099511627776) (s : State) (c : Nat) :
    (State.fadeDrop s c).mask M = s.mask M :=
  State.mask_mono hM (by
    unfold State.fadeDrop
    simp only [State.upd40_mask, Nat.reduceAnd, ite_self])

/-- `fadesBank` changes at most: evtSeen, regs, fades, fadeQ. -/
theorem State.fadesBank_mask {M : Nat} (hM : 1374389534980 &&& M = 1374389534980) (s : State) (b : Nat) (a2 : Nat) :
    (State.fadesBank s b a2).mask M = s.mask M :=
  State.mask_mono hM (by
    induction a2 generalizing s with
    | zero => rfl
    | succ k ih =>
      unfold State.fadesBank
      split
      · rfl
      · dsimp only
        split
        · rw [ih]; simp only [apply_ite (State.mask 1374389534980), apply_ite Prod.snd, apply_ite Prod.fst, State.count_mask,
            State.fadeDrop_mask, State.fault_mask, State.raise_mask, State.set_mask, State.upd38_mask, State.upd40_mask,
            Nat.reduceAnd, ite_self]
        · repeat' split
          all_goals (try rw [ih])
          all_goals simp only [apply_ite (State.mask 1374389534980), apply_ite Prod.snd, apply_ite Prod.fst, State.count_mask,
              State.fadeDrop_mask, State.fault_mask, State.raise_mask, State.set_mask, State.upd38_mask, State.upd40_mask,
              Nat.reduceAnd, ite_self])

/-- `fadesCatch` changes at most: evtSeen, regs, fades, fadeQ. -/
theorem State.fadesCatch_mask {M : Nat} (hM : 1374389534980 &&& M = 1374389534980) (s : State) :
    (State.fadesCatch s).mask M = s.mask M :=
  State.mask_mono hM (by
    unfold State.fadesCatch
    repeat' (first
      | with_reducible rfl
      | (simp only [apply_ite (State.mask 1374389534980), apply_ite Prod.snd, apply_ite Prod.fst, State.fadesBank_mask,
          forEach_mask, State.upd40_mask, Nat.reduceAnd, ite_self]; done)
      | with_reducible refine (forEach_mask (by decide) _ _ _ (fun t a => ?_)).trans ?_
      | split
      | (simp only [apply_ite (State.mask 1374389534980), apply_ite Prod.snd, apply_ite Prod.fst, State.fadesBank_mask,
          State.upd40_mask, Nat.reduceAnd, ite_self])))

/-- `setProf` changes at most: profiles. -/
theorem State.setProf_mask {M : Nat} (hM : 2199023255552 &&& M = 2199023255552) (s : State) (p : Nat) (st : Nat) (len : Nat) :
    (State.setProf s p st len).mask M = s.mask M :=
  State.mask_mono hM (by
    unfold State.setProf
    simp only [State.upd41_mask, Nat.reduceAnd, ite_self])

/-- `commitOne` changes at most: evtSeen, regs, profiles. -/
theorem State.commitOne_mask {M : Nat} (hM : 2199023255812 &&& M = 2199023255812) (s : State) (w : Word) :
    (State.commitOne s w).mask M = s.mask M :=
  State.mask_mono hM (by
    unfold State.commitOne
    simp only [apply_ite (State.mask 2199023255812), apply_ite Prod.snd, apply_ite Prod.fst, State.raise_mask,
        State.setProf_mask, Nat.reduceAnd, ite_self])

/-- `pcoefApplied` changes at most: evtSeen, regs, profiles. -/
theorem State.pcoefApplied_mask {M : Nat} (hM : 2199023255812 &&& M = 2199023255812) (s : State) (es : List Staged) :
    (State.pcoefApplied s es).mask M = s.mask M :=
  State.mask_mono hM (by
    unfold State.pcoefApplied
    repeat' (first
      | with_reducible rfl
      | (simp only [apply_ite (State.mask 2199023255812), apply_ite Prod.snd, apply_ite Prod.fst, State.commitOne_mask,
          forEach_mask, Nat.reduceAnd, ite_self]; done)
      | with_reducible refine (forEach_mask (by decide) _ _ _ (fun t a => ?_)).trans ?_
      | split
      | (simp only [apply_ite (State.mask 2199023255812), apply_ite Prod.snd, apply_ite Prod.fst, State.commitOne_mask,
          Nat.reduceAnd, ite_self])))

/-- `prismApplied` changes at most: fadeQ. -/
theorem State.prismApplied_mask {M : Nat} (hM : 1099511627776 &&& M = 1099511627776) (s : State) (es : List Staged) :
    (State.prismApplied s es).mask M = s.mask M :=
  State.mask_mono hM (by
    unfold State.prismApplied
    simp only [State.upd40_mask, Nat.reduceAnd, ite_self])

/-- `baseline` changes at most: evtSeen, regs, vals. -/
theorem State.baseline_mask {M : Nat} (hM : 8589934852 &&& M = 8589934852) (s : State) (n : Nat) (q : Nat) (c : Nat) (w : BitVec 16) :
    (State.baseline s n q c w).mask M = s.mask M :=
  State.mask_mono hM (by
    unfold State.baseline
    simp only [apply_ite (State.mask 8589934852), apply_ite Prod.snd, apply_ite Prod.fst, State.count_mask, State.upd33_mask,
        Nat.reduceAnd, ite_self])

/-- `fadesEnd` changes at most: evtSeen, regs, fades. -/
theorem State.fadesEnd_mask {M : Nat} (hM : 274877907204 &&& M = 274877907204) (s : State) :
    (State.fadesEnd s).mask M = s.mask M :=
  State.mask_mono hM (by
    unfold State.fadesEnd
    repeat' (first
      | with_reducible rfl
      | (simp only [apply_ite (State.mask 274877907204), apply_ite Prod.snd, apply_ite Prod.fst, State.countW_mask,
          State.raise_mask, State.set_mask, forEach_mask, State.upd38_mask, Nat.reduceAnd, ite_self]; done)
      | with_reducible refine (forEach_mask (by decide) _ _ _ (fun t a => ?_)).trans ?_
      | split
      | (simp only [apply_ite (State.mask 274877907204), apply_ite Prod.snd, apply_ite Prod.fst, State.countW_mask,
          State.raise_mask, State.set_mask, State.upd38_mask, Nat.reduceAnd, ite_self])))

/-- `pcoefRefused` changes at most: evtSeen, regs. -/
theorem State.pcoefRefused_mask {M : Nat} (hM : 260 &&& M = 260) (s : State) (cause : Nat) (p : Nat) :
    (State.pcoefRefused s cause p).mask M = s.mask M :=
  State.mask_mono hM (by
    unfold State.pcoefRefused
    simp only [State.fault_mask, State.raise_mask, State.set_mask, Nat.reduceAnd, ite_self])

/-- `releasesEnd` changes at most: evtSeen, regs, profiles. -/
theorem State.releasesEnd_mask {M : Nat} (hM : 2199023255812 &&& M = 2199023255812) (s0 : State) (s : State) :
    (State.releasesEnd s0 s).mask M = s.mask M :=
  State.mask_mono hM (by
    unfold State.releasesEnd
    repeat' (first
      | with_reducible rfl
      | (simp only [apply_ite (State.mask 2199023255812), apply_ite Prod.snd, apply_ite Prod.fst, State.pcoefRefused_mask,
          State.raise_mask, State.setProf_mask, forEach_mask, Nat.reduceAnd, ite_self]; done)
      | with_reducible refine (forEach_mask (by decide) _ _ _ (fun t a => ?_)).trans ?_
      | split
      | (simp only [apply_ite (State.mask 2199023255812), apply_ite Prod.snd, apply_ite Prod.fst, State.pcoefRefused_mask,
          State.raise_mask, State.setProf_mask, Nat.reduceAnd, ite_self])))

/-- `prismReset` changes at most: fades, fadeQ. -/
theorem State.prismReset_mask {M : Nat} (hM : 1374389534720 &&& M = 1374389534720) (s : State) :
    (State.prismReset s).mask M = s.mask M :=
  State.mask_mono hM (by
    unfold State.prismReset
    simp only [State.upd38_mask, State.upd38_40_mask, Nat.reduceAnd, ite_self])

/-- `prismRefused` changes at most: evtSeen, regs. -/
theorem State.prismRefused_mask {M : Nat} (hM : 260 &&& M = 260) (s : State) (cause : Nat) (c : Nat) :
    (State.prismRefused s cause c).mask M = s.mask M :=
  State.mask_mono hM (by
    unfold State.prismRefused
    simp only [apply_ite (State.mask 260), apply_ite Prod.snd, apply_ite Prod.fst, State.count_mask, State.fault_mask,
        State.raise_mask, State.set_mask, Nat.reduceAnd, ite_self])

/-- `doCoefEcc` changes at most: evtSeen, regs, badTaps. -/
theorem State.doCoefEcc_mask {M : Nat} (hM : 4398046511364 &&& M = 4398046511364) (s : State) (p : Nat) (k : Nat) :
    (State.doCoefEcc s p k).mask M = s.mask M :=
  State.mask_mono hM (by
    unfold State.doCoefEcc
    simp only [apply_ite (State.mask 4398046511364), apply_ite Prod.snd, apply_ite Prod.fst, State.count_mask, State.fault_mask,
        State.healthFault_mask, State.raise_mask, State.upd42_mask, Nat.reduceAnd, ite_self])

/-- `prismTick` changes at most: evtSeen, regs, vals, pouts. -/
theorem State.prismTick_mask {M : Nat} (hM : 25769804036 &&& M = 25769804036) (s : State) (n : Nat) :
    (State.prismTick s n).mask M = s.mask M :=
  State.mask_mono hM (by
    unfold State.prismTick
    repeat' (first
      | with_reducible rfl
      | (simp only [apply_ite (State.mask 25769804036), apply_ite Prod.snd, apply_ite Prod.fst, State.baseline_mask,
          State.count_mask, forEach_mask, State.upd33_mask, State.upd33_34_mask, State.upd34_mask, Nat.reduceAnd, ite_self]; done)
      | with_reducible refine (forEach_mask (by decide) _ _ _ (fun t a => ?_)).trans ?_
      | split
      | (simp only [apply_ite (State.mask 25769804036), apply_ite Prod.snd, apply_ite Prod.fst, State.baseline_mask,
          State.count_mask, State.upd33_mask, State.upd33_34_mask, State.upd34_mask, Nat.reduceAnd, ite_self])))

end Sys2Proof.Machine
end

