-- ==== Sys2Proof/Laws/MaskRsmp.lean ====
section
/-! SUPPORT. What the operations of Machine/Rsmp.lean can change (see Laws/Mask.lean): one lemma for each. -/

set_option linter.unusedSimpArgs false
set_option maxRecDepth 2000

namespace Sys2Proof.Machine

/-- `mark` changes at most: marks. -/
theorem State.mark_mask {M : Nat} (hM : 17592186044416 &&& M = 17592186044416) (s : State) (c : Option Nat) :
    (State.mark s c).mask M = s.mask M :=
  State.mask_mono hM (by
    unfold State.mark
    simp only [State.upd44_mask, Nat.reduceAnd, ite_self])

/-- `record` changes at most: evtSeen, regs, records. -/
theorem State.record_mask {M : Nat} (hM : 140737488355588 &&& M = 140737488355588) (s : State) (cause : Nat) (chan : Nat) (new : Nat) (step : Int) :
    (State.record s cause chan new step).mask M = s.mask M :=
  State.mask_mono hM (by
    unfold State.record
    simp only [apply_ite (State.mask 140737488355588), apply_ite Prod.snd, apply_ite Prod.fst, State.countW_mask,
        State.raise_mask, State.upd47_mask, Nat.reduceAnd, ite_self])

/-- `rsmpApplied` changes at most: evtSeen, regs, marks, records. -/
theorem State.rsmpApplied_mask {M : Nat} (hM : 158329674400004 &&& M = 158329674400004) (s0 : State) (s : State) (es : List Staged) :
    (State.rsmpApplied s0 s es).mask M = s.mask M :=
  State.mask_mono hM (by
    unfold State.rsmpApplied
    repeat' (first
      | with_reducible rfl
      | (simp only [apply_ite (State.mask 158329674400004), apply_ite Prod.snd, apply_ite Prod.fst, State.mark_mask,
          State.raise_mask, State.record_mask, State.set_mask, forEach_mask, Nat.reduceAnd, ite_self]; done)
      | with_reducible refine (forEach_mask (by decide) _ _ _ (fun t a => ?_)).trans ?_
      | split
      | (simp only [apply_ite (State.mask 158329674400004), apply_ite Prod.snd, apply_ite Prod.fst, State.mark_mask,
          State.raise_mask, State.record_mask, State.set_mask, Nat.reduceAnd, ite_self])))

/-- `rsmpToggled` changes at most: evtSeen, regs, marks, records, hist, histClr. -/
theorem State.rsmpToggled_mask {M : Nat} (hM : 1002754604531972 &&& M = 1002754604531972) (s0 : State) (s : State) :
    (State.rsmpToggled s0 s).mask M = s.mask M :=
  State.mask_mono hM (by
    unfold State.rsmpToggled
    simp only [apply_ite (State.mask 1002754604531972), apply_ite Prod.snd, apply_ite Prod.fst, State.mark_mask,
        State.record_mask, State.upd48_mask, State.upd48_49_mask, Nat.reduceAnd, ite_self])

/-- `histClean` changes at most: hist, histClr. -/
theorem State.histClean_mask {M : Nat} (hM : 844424930131968 &&& M = 844424930131968) (s : State) (c : Nat) :
    (State.histClean s c).mask M = s.mask M :=
  State.mask_mono hM (by
    unfold State.histClean
    simp only [State.upd48_mask, State.upd48_49_mask, Nat.reduceAnd, ite_self])

/-- `servoChan` changes at most: evtSeen, regs, marks, records, hist, histClr, servoN. -/
theorem State.servoChan_mask {M : Nat} (hM : 2128654511374596 &&& M = 2128654511374596) (s : State) (c : Nat) (host : Bool) :
    (State.servoChan s c host).mask M = s.mask M :=
  State.mask_mono hM (by
    unfold State.servoChan
    simp only [apply_ite (State.mask 2128654511374596), apply_ite Prod.snd, apply_ite Prod.fst, State.count_mask,
        State.countW_mask, State.histClean_mask, State.mark_mask, State.raise_mask, State.record_mask, State.set_mask,
        State.seti_mask, State.upd50_mask, Nat.reduceAnd, ite_self])

/-- `servoCatch` changes at most: evtSeen, regs, marks, records, hist, histClr, servoN. -/
theorem State.servoCatch_mask {M : Nat} (hM : 2128654511374596 &&& M = 2128654511374596) (s : State) (host : List Nat) :
    (State.servoCatch s host).mask M = s.mask M :=
  State.mask_mono hM (by
    unfold State.servoCatch
    repeat' (first
      | with_reducible rfl
      | (simp only [apply_ite (State.mask 2128654511374596), apply_ite Prod.snd, apply_ite Prod.fst, State.servoChan_mask,
          forEach_mask, State.upd50_mask, Nat.reduceAnd, ite_self]; done)
      | with_reducible refine (forEach_mask (by decide) _ _ _ (fun t a => ?_)).trans ?_
      | split
      | (simp only [apply_ite (State.mask 2128654511374596), apply_ite Prod.snd, apply_ite Prod.fst, State.servoChan_mask,
          State.upd50_mask, Nat.reduceAnd, ite_self])))

/-- `restream` changes at most: segs. -/
theorem State.restream_mask {M : Nat} (hM : 8796093022208 &&& M = 8796093022208) (s : State) (c : Nat) :
    (State.restream s c).mask M = s.mask M :=
  State.mask_mono hM (by
    unfold State.restream
    simp only [State.upd43_mask, Nat.reduceAnd, ite_self])

/-- `streamsCatch` changes at most: segs, marks, rateCr, hist, histClr. -/
theorem State.streamsCatch_mask {M : Nat} (hM : 905997581287424 &&& M = 905997581287424) (s0 : State) (s : State) (resync : Bool) :
    (State.streamsCatch s0 s resync).mask M = s.mask M :=
  State.mask_mono hM (by
    unfold State.streamsCatch
    repeat' (first
      | with_reducible rfl
      | (simp only [apply_ite (State.mask 905997581287424), apply_ite Prod.snd, apply_ite Prod.fst, State.mark_mask,
          State.restream_mask, forEach_mask, State.upd45_mask, State.upd45_48_mask, State.upd45_48_49_mask, Nat.reduceAnd,
          ite_self]; done)
      | with_reducible refine (forEach_mask (by decide) _ _ _ (fun t a => ?_)).trans ?_
      | split
      | (simp only [apply_ite (State.mask 905997581287424), apply_ite Prod.snd, apply_ite Prod.fst, State.mark_mask,
          State.restream_mask, State.upd45_mask, State.upd45_48_mask, State.upd45_48_49_mask, Nat.reduceAnd, ite_self])))

/-- `wakePrune` changes at most: wake. -/
theorem State.wakePrune_mask {M : Nat} (hM : 2251799813685248 &&& M = 2251799813685248) (s : State) :
    (State.wakePrune s).mask M = s.mask M :=
  State.mask_mono hM (by
    unfold State.wakePrune
    simp only [State.upd51_mask, Nat.reduceAnd, ite_self])

/-- `rsmpRefused` changes at most: evtSeen, regs. -/
theorem State.rsmpRefused_mask {M : Nat} (hM : 260 &&& M = 260) (s : State) (cause : Nat) :
    (State.rsmpRefused s cause).mask M = s.mask M :=
  State.mask_mono hM (by
    unfold State.rsmpRefused
    simp only [State.fault_mask, State.raise_mask, State.set_mask, Nat.reduceAnd, ite_self])

/-- `resample` changes at most: free. -/
theorem State.resample_mask {M : Nat} (hM : 32 &&& M = 32) (s : State) (n : Nat) (c : Nat) (i : Nat) :
    (State.resample s n c i).2.2.mask M = s.mask M :=
  State.mask_mono hM (by
    unfold State.resample
    simp only [apply_ite (State.mask 32), apply_ite Prod.snd, apply_ite Prod.fst, State.draw_mask, Nat.reduceAnd, ite_self]
    repeat' split
    all_goals (try simp only [apply_ite (State.mask 32), apply_ite Prod.snd, apply_ite Prod.fst, State.draw_mask, Nat.reduceAnd,
        ite_self]))

/-- `wakeHeal` changes at most: wakeBad. -/
theorem State.wakeHeal_mask {M : Nat} (hM : 4503599627370496 &&& M = 4503599627370496) (s : State) (m : Nat) :
    (State.wakeHeal s m).mask M = s.mask M :=
  State.mask_mono hM (by
    unfold State.wakeHeal
    simp only [State.upd52_mask, Nat.reduceAnd, ite_self])

/-- `rsmpTick` changes at most: evtSeen, free, regs, wake, wakeBad. -/
theorem State.rsmpTick_mask {M : Nat} (hM : 6755399441056036 &&& M = 6755399441056036) (s : State) (n : Nat) :
    (State.rsmpTick s n).mask M = s.mask M :=
  State.mask_mono hM (by
    unfold State.rsmpTick
    repeat' (first
      | with_reducible rfl
      | (simp only [apply_ite (State.mask 6755399441056036), apply_ite Prod.snd, apply_ite Prod.fst, State.count_mask,
          State.resample_mask, State.wakeHeal_mask, forEach_mask, State.upd51_mask, Nat.reduceAnd, ite_self]; done)
      | with_reducible refine (forEach_mask (by decide) _ _ _ (fun t a => ?_)).trans ?_
      | split
      | (simp only [apply_ite (State.mask 6755399441056036), apply_ite Prod.snd, apply_ite Prod.fst, State.count_mask,
          State.resample_mask, State.wakeHeal_mask, State.upd51_mask, Nat.reduceAnd, ite_self])))

/-- `histAdd` changes at most: hist. -/
theorem State.histAdd_mask {M : Nat} (hM : 281474976710656 &&& M = 281474976710656) (s : State) (c : Nat) (tau : Int) :
    (State.histAdd s c tau).mask M = s.mask M :=
  State.mask_mono hM (by
    unfold State.histAdd
    simp only [State.upd48_mask, Nat.reduceAnd, ite_self])

end Sys2Proof.Machine
end

