-- ==== Sys2Proof/Laws/MaskAcq.lean ====
section
/-! SUPPORT. What the operations of Machine/Acq.lean can change (see Laws/Mask.lean): one lemma for each. -/

set_option linter.unusedSimpArgs false
set_option maxRecDepth 2000

namespace Sys2Proof.Machine

/-- `acqCatch` changes at most: evtSeen, regs, autoCnt, autoDue. -/
theorem State.acqCatch_mask {M : Nat} (hM : 55340232221128655108 &&& M = 55340232221128655108) (s : State) :
    (State.acqCatch s).mask M = s.mask M :=
  State.mask_mono hM (by
    unfold State.acqCatch
    simp only [apply_ite (State.mask 55340232221128655108), apply_ite Prod.snd, apply_ite Prod.fst, State.raise_mask,
        State.set_mask, State.setb_mask, State.upd64_mask, State.upd64_65_mask, Nat.reduceAnd, ite_self])

/-- `acqRefused` changes at most: evtSeen, regs. -/
theorem State.acqRefused_mask {M : Nat} (hM : 260 &&& M = 260) (s : State) (cause : Nat) (t : Nat) :
    (State.acqRefused s cause t).mask M = s.mask M :=
  State.mask_mono hM (by
    unfold State.acqRefused
    simp only [apply_ite (State.mask 260), apply_ite Prod.snd, apply_ite Prod.fst, State.fault_mask, State.raise_mask,
        State.set_mask, Nat.reduceAnd, ite_self])

/-- `nbEnter` changes at most: regs, nbSt, nbMsg, nbErrs, nbMiss. -/
theorem State.nbEnter_mask {M : Nat} (hM : 1106804644422573097216 &&& M = 1106804644422573097216) (s : State) (j : Nat) (st : Nat) :
    (State.nbEnter s j st).mask M = s.mask M :=
  State.mask_mono hM (by
    unfold State.nbEnter
    simp only [State.set_mask, State.upd66_mask, State.upd66_67_mask, State.upd66_67_68_mask, State.upd66_67_68_69_mask,
        Nat.reduceAnd, ite_self])

/-- `nbSilent` changes at most: regs. -/
theorem State.nbSilent_mask {M : Nat} (hM : 256 &&& M = 256) (s : State) (j : Nat) :
    (State.nbSilent s j).mask M = s.mask M :=
  State.mask_mono hM (by
    unfold State.nbSilent
    simp only [State.set_mask, Nat.reduceAnd, ite_self])

/-- `neighCatch` changes at most: regs, nbSt, nbMsg, nbErrs, nbMiss. -/
theorem State.neighCatch_mask {M : Nat} (hM : 1106804644422573097216 &&& M = 1106804644422573097216) (s : State) :
    (State.neighCatch s).mask M = s.mask M :=
  State.mask_mono hM (by
    unfold State.neighCatch
    repeat' (first
      | with_reducible rfl
      | (simp only [apply_ite (State.mask 1106804644422573097216), apply_ite Prod.snd, apply_ite Prod.fst, State.nbEnter_mask,
          State.nbSilent_mask, forEach_mask, Nat.reduceAnd, ite_self]; done)
      | with_reducible refine (forEach_mask (by decide) _ _ _ (fun t a => ?_)).trans ?_
      | split
      | (simp only [apply_ite (State.mask 1106804644422573097216), apply_ite Prod.snd, apply_ite Prod.fst, State.nbEnter_mask,
          State.nbSilent_mask, Nat.reduceAnd, ite_self])))

/-- `hitsPrune` changes at most: hits, nbHits. -/
theorem State.hitsPrune_mask {M : Nat} (hM : 1729382256910270464 &&& M = 1729382256910270464) (s : State) :
    (State.hitsPrune s).mask M = s.mask M :=
  State.mask_mono hM (by
    unfold State.hitsPrune
    simp only [State.upd59_mask, State.upd59_60_mask, Nat.reduceAnd, ite_self])

/-- `neighSend` changes at most: out. -/
theorem State.neighSend_mask {M : Nat} (hM : 2 &&& M = 2) (s : State) :
    (State.neighSend s).mask M = s.mask M :=
  State.mask_mono hM (by
    unfold State.neighSend
    repeat' (first
      | with_reducible rfl
      | (simp only [apply_ite (State.mask 2), apply_ite Prod.snd, apply_ite Prod.fst, State.emit_mask, forEach_mask,
          Nat.reduceAnd, ite_self]; done)
      | with_reducible refine (forEach_mask (by decide) _ _ _ (fun t a => ?_)).trans ?_
      | split
      | (simp only [apply_ite (State.mask 2), apply_ite Prod.snd, apply_ite Prod.fst, State.emit_mask, Nat.reduceAnd, ite_self])))

/-- `localRefused` changes at most: evtSeen, regs. -/
theorem State.localRefused_mask {M : Nat} (hM : 260 &&& M = 260) (s : State) (pg : Nat) (ev : Ev) :
    (State.localRefused s pg ev).mask M = s.mask M :=
  State.mask_mono hM (by
    unfold State.localRefused
    simp only [State.fault_mask, State.raise_mask, Nat.reduceAnd, ite_self])

/-- `copyAccept` changes at most: satFast. -/
theorem State.copyAccept_mask {M : Nat} (hM : 10384593717069655257060992658440192 &&& M = 10384593717069655257060992658440192) (s : State) (type : Nat) :
    (State.copyAccept s type).mask M = s.mask M :=
  State.mask_mono hM (by
    unfold State.copyAccept
    repeat' (first
      | with_reducible rfl
      | (simp only [apply_ite (State.mask 10384593717069655257060992658440192), apply_ite Prod.snd, apply_ite Prod.fst,
          forEach_mask, State.upd113_mask, Nat.reduceAnd, ite_self]; done)
      | with_reducible refine (forEach_mask (by decide) _ _ _ (fun t a => ?_)).trans ?_
      | split
      | (simp only [apply_ite (State.mask 10384593717069655257060992658440192), apply_ite Prod.snd, apply_ite Prod.fst,
          State.upd113_mask, Nat.reduceAnd, ite_self])))

/-- `takeNumber` changes at most: evNo. -/
theorem State.takeNumber_mask {M : Nat} (hM : 18014398509481984 &&& M = 18014398509481984) (s : State) :
    (State.takeNumber s).2.mask M = s.mask M :=
  State.mask_mono hM (by
    unfold State.takeNumber
    simp only [State.upd54_mask, Nat.reduceAnd, ite_self])

/-- `enqueue` changes at most: evtSeen, regs, accQ, evNo, autoCnt. -/
theorem State.enqueue_mask {M : Nat} (hM : 18473765671473774852 &&& M = 18473765671473774852) (s : State) (src : Nat) (type : Nat) (acc : Int) (anchor : Int) (startT : Option Int) (fine : Nat) :
    (State.enqueue s src type acc anchor startT fine).mask M = s.mask M :=
  State.mask_mono hM (by
    unfold State.enqueue
    simp only [apply_ite (State.mask 18473765671473774852), apply_ite Prod.snd, apply_ite Prod.fst, State.count_mask,
        State.countW_mask, State.fault_mask, State.raise_mask, State.set_mask, State.takeNumber_mask, State.upd53_mask,
        State.upd53_64_mask, Nat.reduceAnd, ite_self])

/-- `localTrigger` changes at most: evtSeen, regs, accQ, evNo, presc, autoCnt. -/
theorem State.localTrigger_mask {M : Nat} (hM : 18761996047625486596 &&& M = 18761996047625486596) (s : State) (src : Nat) (type : Nat) (p : Option Nat) (acc : Int) (anchor : Int) (startT : Option Int) (fine : Nat) :
    (State.localTrigger s src type p acc anchor startT fine).2.mask M = s.mask M :=
  State.mask_mono hM (by
    unfold State.localTrigger
    simp only [apply_ite (State.mask 18761996047625486596), apply_ite Prod.snd, apply_ite Prod.fst, State.count_mask,
        State.enqueue_mask, State.upd58_mask, Nat.reduceAnd, ite_self])

/-- `startEnter` changes at most: evtSeen, regs, accQ, evNo, presc, autoCnt. -/
theorem State.startEnter_mask {M : Nat} (hM : 18761996047625486596 &&& M = 18761996047625486596) (s : State) (n : Nat) (cr : Nat) (fine : Nat) :
    (State.startEnter s n cr fine).mask M = s.mask M :=
  State.mask_mono hM (by
    unfold State.startEnter
    simp only [State.localTrigger_mask, Nat.reduceAnd, ite_self])

/-- `startDue` changes at most: evtSeen, regs, accQ, evNo, startQ, presc, autoCnt. -/
theorem State.startDue_mask {M : Nat} (hM : 18834053641663414532 &&& M = 18834053641663414532) (s : State) :
    (State.startDue s).mask M = s.mask M :=
  State.mask_mono hM (by
    unfold State.startDue
    repeat' (first
      | with_reducible rfl
      | (simp only [apply_ite (State.mask 18834053641663414532), apply_ite Prod.snd, apply_ite Prod.fst, State.startEnter_mask,
          forEach_mask, State.upd56_mask, Nat.reduceAnd, ite_self]; done)
      | with_reducible refine (forEach_mask (by decide) _ _ _ (fun t a => ?_)).trans ?_
      | split
      | (simp only [apply_ite (State.mask 18834053641663414532), apply_ite Prod.snd, apply_ite Prod.fst, State.startEnter_mask,
          State.upd56_mask, Nat.reduceAnd, ite_self])))

/-- `easyAccept` changes at most: evtSeen, regs, pace, easyBroken. -/
theorem State.easyAccept_mask {M : Nat} (hM : 1180591620717428080900 &&& M = 1180591620717428080900) (s : State) (m : BitVec 64) :
    (State.easyAccept s m).mask M = s.mask M :=
  State.mask_mono hM (by
    unfold State.easyAccept
    repeat' split
    all_goals (try simp only [apply_ite (State.mask 1180591620717428080900), apply_ite Prod.snd, apply_ite Prod.fst,
        State.count_mask, State.raise_mask, State.upd24_mask, State.upd24_70_mask, Nat.reduceAnd, ite_self]))

/-- `paceAccept` changes at most: evtSeen, fired, regs, pace, accQ, evNo, autoCnt, easyBroken, satFast. -/
theorem State.paceAccept_mask {M : Nat} (hM : 10384593717070854322447381560295692 &&& M = 10384593717070854322447381560295692) (s : State) (t : Nat) :
    (State.paceAccept s t).mask M = s.mask M :=
  State.mask_mono hM (by
    unfold State.paceAccept
    simp only [apply_ite (State.mask 10384593717070854322447381560295692), apply_ite Prod.snd, apply_ite Prod.fst,
        State.copyAccept_mask, State.count_mask, State.countW_mask, State.easyAccept_mask, State.enqueue_mask, State.fire_mask,
        State.takeNumber_mask, Nat.reduceAnd, ite_self])

/-- `trigLost` changes at most: evtSeen, regs, pace. -/
theorem State.trigLost_mask {M : Nat} (hM : 16777476 &&& M = 16777476) (s : State) (a : Bool) (b : Bool) :
    (State.trigLost s a b).mask M = s.mask M :=
  State.mask_mono hM (by
    unfold State.trigLost
    simp only [apply_ite (State.mask 16777476), apply_ite Prod.snd, apply_ite Prod.fst, State.count_mask, State.countBad_mask,
        State.raise_mask, State.upd24_mask, Nat.reduceAnd, ite_self])

/-- `takeAccept` changes at most: evtSeen, fired, regs, pace, accQ, evNo, autoCnt, easyBroken, satFast. -/
theorem State.takeAccept_mask {M : Nat} (hM : 10384593717070854322447381560295692 &&& M = 10384593717070854322447381560295692) (s : State) (a : Option Byte) (b : Option Byte) :
    (State.takeAccept s a b).mask M = s.mask M :=
  State.mask_mono hM (by
    unfold State.takeAccept
    repeat' split
    all_goals (try simp only [apply_ite (State.mask 10384593717070854322447381560295692), apply_ite Prod.snd, apply_ite Prod.fst,
        State.count_mask, State.countRepair_mask, State.paceAccept_mask, State.takeNumber_mask, State.trigLost_mask,
        Nat.reduceAnd, ite_self]))

/-- `doAccept` changes at most: evtSeen, fired, regs, pace, accQ, evNo, startQ, presc, autoCnt, easyBroken, satFast. -/
theorem State.doAccept_mask {M : Nat} (hM : 10384593717070854682735351749935372 &&& M = 10384593717070854682735351749935372) (s : State) (a : Option Byte) (b : Option Byte) :
    (State.doAccept s a b).mask M = s.mask M :=
  State.mask_mono hM (by
    unfold State.doAccept
    simp only [apply_ite (State.mask 10384593717070854682735351749935372), apply_ite Prod.snd, apply_ite Prod.fst,
        State.startDue_mask, State.takeAccept_mask, Nat.reduceAnd, ite_self])

/-- `doAutoTrigger` changes at most: evtSeen, fired, regs, accQ, evNo, startQ, presc, autoCnt, autoDue. -/
theorem State.doAutoTrigger_mask {M : Nat} (hM : 55727541789082517772 &&& M = 55727541789082517772) (s : State) :
    (State.doAutoTrigger s).mask M = s.mask M :=
  State.mask_mono hM (by
    unfold State.doAutoTrigger
    simp only [apply_ite (State.mask 55727541789082517772), apply_ite Prod.snd, apply_ite Prod.fst, State.count_mask,
        State.fire_mask, State.localTrigger_mask, State.raise_mask, State.startDue_mask, State.upd64_mask, State.upd64_65_mask,
        Nat.reduceAnd, ite_self])

/-- `selfTick` changes at most: evtSeen, regs, hits. -/
theorem State.selfTick_mask {M : Nat} (hM : 576460752303423748 &&& M = 576460752303423748) (s : State) (n : Nat) :
    (State.selfTick s n).mask M = s.mask M :=
  State.mask_mono hM (by
    unfold State.selfTick
    simp only [apply_ite (State.mask 576460752303423748), apply_ite Prod.snd, apply_ite Prod.fst, State.count_mask,
        State.countBy_mask, State.upd59_mask, Nat.reduceAnd, ite_self])

/-- `reachResync` changes at most: evtSeen, regs. -/
theorem State.reachResync_mask {M : Nat} (hM : 260 &&& M = 260) (s : State) :
    (State.reachResync s).mask M = s.mask M :=
  State.mask_mono hM (by
    unfold State.reachResync
    simp only [apply_ite (State.mask 260), apply_ite Prod.snd, apply_ite Prod.fst, State.raise_mask, State.set_mask,
        Nat.reduceAnd, ite_self])

/-- `neighResync` changes at most: regs, nbSt, nbMsg, nbErrs, nbMiss. -/
theorem State.neighResync_mask {M : Nat} (hM : 1106804644422573097216 &&& M = 1106804644422573097216) (s : State) :
    (State.neighResync s).mask M = s.mask M :=
  State.mask_mono hM (by
    unfold State.neighResync
    repeat' (first
      | with_reducible rfl
      | (simp only [apply_ite (State.mask 1106804644422573097216), apply_ite Prod.snd, apply_ite Prod.fst, State.nbEnter_mask,
          State.nbSilent_mask, State.set_mask, forEach_mask, Nat.reduceAnd, ite_self]; done)
      | with_reducible refine (forEach_mask (by decide) _ _ _ (fun t a => ?_)).trans ?_
      | split
      | (simp only [apply_ite (State.mask 1106804644422573097216), apply_ite Prod.snd, apply_ite Prod.fst, State.nbEnter_mask,
          State.nbSilent_mask, State.set_mask, Nat.reduceAnd, ite_self])))

/-- `nbCable` changes at most: free, regs. -/
theorem State.nbCable_mask {M : Nat} (hM : 288 &&& M = 288) (s : State) (j : Nat) :
    (State.nbCable s j).mask M = s.mask M :=
  State.mask_mono hM (by
    unfold State.nbCable
    simp only [apply_ite (State.mask 288), apply_ite Prod.snd, apply_ite Prod.fst, State.putUnsigned_mask, Nat.reduceAnd, ite_self])

/-- `doNeighCatch` changes at most: evtSeen, free, regs, nbSt, nbMsg, nbErrs, nbMiss. -/
theorem State.doNeighCatch_mask {M : Nat} (hM : 1106804644422573097252 &&& M = 1106804644422573097252) (s : State) (j : Nat) (delay : Nat) :
    (State.doNeighCatch s j delay).mask M = s.mask M :=
  State.mask_mono hM (by
    unfold State.doNeighCatch
    simp only [apply_ite (State.mask 1106804644422573097252), apply_ite Prod.snd, apply_ite Prod.fst, State.fault_mask,
        State.nbCable_mask, State.nbEnter_mask, State.raise_mask, State.set_mask, Nat.reduceAnd, ite_self])

/-- `nbDown` changes at most: evtSeen, regs, nbSt, nbMsg, nbErrs, nbMiss. -/
theorem State.nbDown_mask {M : Nat} (hM : 1106804644422573097220 &&& M = 1106804644422573097220) (s : State) (j : Nat) :
    (State.nbDown s j).mask M = s.mask M :=
  State.mask_mono hM (by
    unfold State.nbDown
    simp only [State.nbEnter_mask, State.nbSilent_mask, State.raise_mask, Nat.reduceAnd, ite_self])

/-- `doNeighDown` changes at most: evtSeen, regs, nbSt, nbMsg, nbErrs, nbMiss. -/
theorem State.doNeighDown_mask {M : Nat} (hM : 1106804644422573097220 &&& M = 1106804644422573097220) (s : State) (j : Nat) :
    (State.doNeighDown s j).mask M = s.mask M :=
  State.mask_mono hM (by
    unfold State.doNeighDown
    simp only [apply_ite (State.mask 1106804644422573097220), apply_ite Prod.snd, apply_ite Prod.fst, State.nbDown_mask,
        Nat.reduceAnd, ite_self])

/-- `doNeighTimeout` changes at most: evtSeen, regs, nbSt, nbMsg, nbErrs, nbMiss. -/
theorem State.doNeighTimeout_mask {M : Nat} (hM : 1106804644422573097220 &&& M = 1106804644422573097220) (s : State) (j : Nat) :
    (State.doNeighTimeout s j).mask M = s.mask M :=
  State.mask_mono hM (by
    unfold State.doNeighTimeout
    simp only [apply_ite (State.mask 1106804644422573097220), apply_ite Prod.snd, apply_ite Prod.fst, State.count_mask,
        State.nbEnter_mask, Nat.reduceAnd, ite_self])

/-- `doNeighTrained` changes at most: regs, nbSt, nbMsg, nbErrs, nbMiss. -/
theorem State.doNeighTrained_mask {M : Nat} (hM : 1106804644422573097216 &&& M = 1106804644422573097216) (s : State) (j : Nat) :
    (State.doNeighTrained s j).mask M = s.mask M :=
  State.mask_mono hM (by
    unfold State.doNeighTrained
    simp only [apply_ite (State.mask 1106804644422573097216), apply_ite Prod.snd, apply_ite Prod.fst, State.nbEnter_mask,
        Nat.reduceAnd, ite_self])

/-- `nbAux` changes at most: free, regs, nbMsg. -/
theorem State.nbAux_mask {M : Nat} (hM : 147573952589676413216 &&& M = 147573952589676413216) (s : State) (j : Nat) (k : Nat) (b : Bool) :
    (State.nbAux s j k b).mask M = s.mask M :=
  State.mask_mono hM (by
    unfold State.nbAux
    simp only [apply_ite (State.mask 147573952589676413216), apply_ite Prod.snd, apply_ite Prod.fst, State.nbCable_mask,
        State.set_mask, State.upd67_mask, Nat.reduceAnd, ite_self]
    repeat' split
    all_goals (try simp only [apply_ite (State.mask 147573952589676413216), apply_ite Prod.snd, apply_ite Prod.fst,
        State.nbCable_mask, State.set_mask, State.upd67_mask, Nat.reduceAnd, ite_self]))

/-- `nbCatchSeen` changes at most: evtSeen, regs, nbSt, nbMsg, nbErrs, nbMiss. -/
theorem State.nbCatchSeen_mask {M : Nat} (hM : 1106804644422573097220 &&& M = 1106804644422573097220) (s : State) (j : Nat) (there : Bool) :
    (State.nbCatchSeen s j there).mask M = s.mask M :=
  State.mask_mono hM (by
    unfold State.nbCatchSeen
    simp only [apply_ite (State.mask 1106804644422573097220), apply_ite Prod.snd, apply_ite Prod.fst, State.nbDown_mask,
        State.upd69_mask, Nat.reduceAnd, ite_self])

/-- `nbParity` changes at most: evtSeen, regs, nbSt, nbMsg, nbErrs, nbMiss. -/
theorem State.nbParity_mask {M : Nat} (hM : 1106804644422573097220 &&& M = 1106804644422573097220) (s : State) (j : Nat) (c : Nat) :
    (State.nbParity s j c).mask M = s.mask M :=
  State.mask_mono hM (by
    unfold State.nbParity
    repeat' (first
      | with_reducible rfl
      | (simp only [State.upd67_68_mask, apply_ite (State.mask 1106804644422573097220), apply_ite Prod.snd, apply_ite Prod.fst,
          State.count_mask, State.nbCatchSeen_mask, State.nbDown_mask, State.nbSilent_mask, State.raise_mask, State.upd67_mask,
          State.upd68_mask, Nat.reduceAnd, ite_self]; done)
      | split
      | (simp only [State.upd67_68_mask, apply_ite (State.mask 1106804644422573097220), apply_ite Prod.snd, apply_ite Prod.fst,
          State.count_mask, State.nbCatchSeen_mask, State.nbDown_mask, State.nbSilent_mask, State.raise_mask, State.upd67_mask,
          State.upd68_mask, Nat.reduceAnd, ite_self])))

/-- `doNeighWord` changes at most: evtSeen, free, regs, nbHits, nbSt, nbMsg, nbErrs, nbMiss. -/
theorem State.doNeighWord_mask {M : Nat} (hM : 1107957565927179944228 &&& M = 1107957565927179944228) (s : State) (j : Nat) (w : Byte) :
    (State.doNeighWord s j w).mask M = s.mask M :=
  State.mask_mono hM (by
    unfold State.doNeighWord
    simp only [apply_ite (State.mask 1107957565927179944228), apply_ite Prod.snd, apply_ite Prod.fst, State.nbAux_mask,
        State.nbCatchSeen_mask, State.nbParity_mask, State.setb_mask, State.upd60_mask, Nat.reduceAnd, ite_self])

/-- `doSelfTrigger` changes at most: evtSeen, fired, regs, accQ, evNo, startQ, presc, selfLast, selfSeen, coincTold, autoCnt. -/
theorem State.doSelfTrigger_mask {M : Nat} (hM : 34974954706159272204 &&& M = 34974954706159272204) (s : State) :
    (State.doSelfTrigger s).mask M = s.mask M :=
  State.mask_mono hM (by
    unfold State.doSelfTrigger
    simp only [apply_ite (State.mask 34974954706159272204), apply_ite Prod.snd, apply_ite Prod.fst, State.count_mask,
        State.countW_mask, State.fire_mask, State.localTrigger_mask, State.raise_mask, State.startDue_mask, State.upd61_mask,
        State.upd62_mask, State.upd63_mask, Nat.reduceAnd, ite_self])

/-- `doStartEdge` changes at most: evtSeen, fired, regs, startQ, startLast. -/
theorem State.doStartEdge_mask {M : Nat} (hM : 216172782113784076 &&& M = 216172782113784076) (s : State) (n : Nat) (fine : Nat) (stampable : Bool) :
    (State.doStartEdge s n fine stampable).mask M = s.mask M :=
  State.mask_mono hM (by
    unfold State.doStartEdge
    repeat' (first
      | with_reducible rfl
      | (simp only [State.upd56_57_mask, apply_ite (State.mask 216172782113784076), apply_ite Prod.snd, apply_ite Prod.fst,
          State.count_mask, State.countW_mask, State.fireAt_mask, State.raise_mask, State.set_mask, State.upd56_mask,
          State.upd57_mask, Nat.reduceAnd, ite_self]; done)
      | split
      | (simp only [State.upd56_57_mask, apply_ite (State.mask 216172782113784076), apply_ite Prod.snd, apply_ite Prod.fst,
          State.count_mask, State.countW_mask, State.fireAt_mask, State.raise_mask, State.set_mask, State.upd56_mask,
          State.upd57_mask, Nat.reduceAnd, ite_self])))

end Sys2Proof.Machine
end

