-- ==== Sys2Proof/Laws/MaskCal.lean ====
section
/-! SUPPORT. What the operations of Machine/Cal.lean can change (see Laws/Mask.lean): one lemma for each. -/

set_option linter.unusedSimpArgs false
set_option maxRecDepth 2000

namespace Sys2Proof.Machine

/-- `refuseNow` changes at most: evtSeen, regs. -/
theorem State.refuseNow_mask {M : Nat} (hM : 260 &&& M = 260) (s : State) :
    (State.refuseNow s).mask M = s.mask M :=
  State.mask_mono hM (by
    unfold State.refuseNow
    simp only [State.count_mask, State.raise_mask, Nat.reduceAnd, ite_self])

/-- `calNow` changes at most: evtSeen, regs, banks. -/
theorem State.calNow_mask {M : Nat} (hM : 268435716 &&& M = 268435716) (s : State) (d : Word) :
    (State.calNow s d).mask M = s.mask M :=
  State.mask_mono hM (by
    unfold State.calNow
    simp only [apply_ite (State.mask 268435716), apply_ite Prod.snd, apply_ite Prod.fst, State.refuseNow_mask,
        State.setBank_mask, Nat.reduceAnd, ite_self])

/-- `enterSpare` changes at most: banks. -/
theorem State.enterSpare_mask {M : Nat} (hM : 268435456 &&& M = 268435456) (s : State) (b : Nat) (st : Nat) :
    (State.enterSpare s b st).mask M = s.mask M :=
  State.mask_mono hM (by
    unfold State.enterSpare
    simp only [State.setBank_mask, Nat.reduceAnd, ite_self])

/-- `assign` changes at most: evtSeen, regs, banks. -/
theorem State.assign_mask {M : Nat} (hM : 268435716 &&& M = 268435716) (s : State) (b : Nat) :
    (State.assign s b).mask M = s.mask M :=
  State.mask_mono hM (by
    unfold State.assign
    simp only [apply_ite (State.mask 268435716), apply_ite Prod.snd, apply_ite Prod.fst, State.enterSpare_mask, State.fault_mask,
        State.raise_mask, State.setBank_mask, Nat.reduceAnd, ite_self]
    repeat' split
    all_goals (try simp only [apply_ite (State.mask 268435716), apply_ite Prod.snd, apply_ite Prod.fst, State.enterSpare_mask,
        State.fault_mask, State.raise_mask, State.setBank_mask, Nat.reduceAnd, ite_self]))

/-- `idleStroke` changes at most: banks. -/
theorem State.idleStroke_mask {M : Nat} (hM : 268435456 &&& M = 268435456) (s : State) (b : Nat) :
    (State.idleStroke s b).mask M = s.mask M :=
  State.mask_mono hM (by
    unfold State.idleStroke
    simp only [apply_ite (State.mask 268435456), apply_ite Prod.snd, apply_ite Prod.fst, State.setBank_mask, Nat.reduceAnd,
        ite_self]
    repeat' split
    all_goals (try simp only [apply_ite (State.mask 268435456), apply_ite Prod.snd, apply_ite Prod.fst, State.setBank_mask,
        Nat.reduceAnd, ite_self]))

/-- `dropNow` changes at most: evtSeen, regs, banks. -/
theorem State.dropNow_mask {M : Nat} (hM : 268435716 &&& M = 268435716) (s : State) (b : Nat) (a2 : Nat) :
    (State.dropNow s b a2).mask M = s.mask M :=
  State.mask_mono hM (by
    induction a2 generalizing s with
    | zero => rfl
    | succ k ih =>
      unfold State.dropNow
      split
      · rfl
      · split
        · rfl
        · rw [ih]; simp only [apply_ite (State.mask 268435716), apply_ite Prod.snd, apply_ite Prod.fst, State.refuseNow_mask,
            State.setBank_mask, Nat.reduceAnd, ite_self])

/-- `rotUpdate` changes at most: evtSeen, regs, banks. -/
theorem State.rotUpdate_mask {M : Nat} (hM : 268435716 &&& M = 268435716) (s : State) (b : Nat) :
    (State.rotUpdate s b).mask M = s.mask M :=
  State.mask_mono hM (by
    unfold State.rotUpdate
    simp only [apply_ite (State.mask 268435716), apply_ite Prod.snd, apply_ite Prod.fst, State.raise_mask, State.setBank_mask,
        Nat.reduceAnd, ite_self])

/-- `startSelftest` changes at most: banks. -/
theorem State.startSelftest_mask {M : Nat} (hM : 268435456 &&& M = 268435456) (s : State) (b : Nat) :
    (State.startSelftest s b).mask M = s.mask M :=
  State.mask_mono hM (by
    unfold State.startSelftest
    simp only [State.enterSpare_mask, State.setBank_mask, Nat.reduceAnd, ite_self])

/-- `setHealth` changes at most: evtSeen, regs, banks. -/
theorem State.setHealth_mask {M : Nat} (hM : 268435716 &&& M = 268435716) (s : State) (b : Nat) (sl : Nat) (h : Nat) :
    (State.setHealth s b sl h).mask M = s.mask M :=
  State.mask_mono hM (by
    unfold State.setHealth
    simp only [apply_ite (State.mask 268435716), apply_ite Prod.snd, apply_ite Prod.fst, State.fault_mask, State.raise_mask,
        State.setBank_mask, Nat.reduceAnd, ite_self])

/-- `failSlice` changes at most: evtSeen, regs, banks. -/
theorem State.failSlice_mask {M : Nat} (hM : 268435716 &&& M = 268435716) (s : State) (b : Nat) (sl : Nat) :
    (State.failSlice s b sl).mask M = s.mask M :=
  State.mask_mono hM (by
    unfold State.failSlice
    simp only [apply_ite (State.mask 268435716), apply_ite Prod.snd, apply_ite Prod.fst, State.setHealth_mask, Nat.reduceAnd,
        ite_self])

/-- `startSlot` changes at most: evtSeen, regs, banks. -/
theorem State.startSlot_mask {M : Nat} (hM : 268435716 &&& M = 268435716) (s : State) (b : Nat) (i : Nat) (now : Bool) :
    (State.startSlot s b i now).mask M = s.mask M :=
  State.mask_mono hM (by
    unfold State.startSlot
    simp only [apply_ite (State.mask 268435716), apply_ite Prod.snd, apply_ite Prod.fst, State.enterSpare_mask,
        State.failSlice_mask, State.set_mask, State.setBank_mask, Nat.reduceAnd, ite_self])

/-- `spareNext` changes at most: evtSeen, regs, banks. -/
theorem State.spareNext_mask {M : Nat} (hM : 268435716 &&& M = 268435716) (s : State) (b : Nat) :
    (State.spareNext s b).mask M = s.mask M :=
  State.mask_mono hM (by
    unfold State.spareNext
    simp only [apply_ite (State.mask 268435716), apply_ite Prod.snd, apply_ite Prod.fst, State.setBank_mask,
        State.startSelftest_mask, State.startSlot_mask, Nat.reduceAnd, ite_self]
    repeat' split
    all_goals (try simp only [apply_ite (State.mask 268435716), apply_ite Prod.snd, apply_ite Prod.fst, State.setBank_mask,
        State.startSelftest_mask, State.startSlot_mask, Nat.reduceAnd, ite_self]))

/-- `settleBank` changes at most: evtSeen, regs, banks. -/
theorem State.settleBank_mask {M : Nat} (hM : 268435716 &&& M = 268435716) (s : State) (b : Nat) :
    (State.settleBank s b).mask M = s.mask M :=
  State.mask_mono hM (by
    unfold State.settleBank
    simp only [apply_ite (State.mask 268435716), apply_ite Prod.snd, apply_ite Prod.fst, State.assign_mask, State.dropNow_mask,
        State.rotUpdate_mask, State.spareNext_mask, Nat.reduceAnd, ite_self])

/-- `idleRest` changes at most: banks. -/
theorem State.idleRest_mask {M : Nat} (hM : 268435456 &&& M = 268435456) (s : State) (b : Nat) :
    (State.idleRest s b).mask M = s.mask M :=
  State.mask_mono hM (by
    unfold State.idleRest
    simp only [State.setBank_mask, Nat.reduceAnd, ite_self])

/-- `judgeOverlap` changes at most: evtSeen, regs, banks. -/
theorem State.judgeOverlap_mask {M : Nat} (hM : 268435716 &&& M = 268435716) (s : State) (b : Nat) :
    (State.judgeOverlap s b).mask M = s.mask M :=
  State.mask_mono hM (by
    unfold State.judgeOverlap
    simp only [apply_ite (State.mask 268435716), apply_ite Prod.snd, apply_ite Prod.fst, State.count_mask, State.fault_mask,
        State.healthFault_mask, State.raise_mask, State.setBank_mask, Nat.reduceAnd, ite_self]
    repeat' split
    all_goals (try simp only [apply_ite (State.mask 268435716), apply_ite Prod.snd, apply_ite Prod.fst, State.count_mask,
        State.fault_mask, State.healthFault_mask, State.raise_mask, State.setBank_mask, Nat.reduceAnd, ite_self]))

/-- `overlapResult` changes at most: evtSeen, regs, banks. -/
theorem State.overlapResult_mask {M : Nat} (hM : 268435716 &&& M = 268435716) (s : State) (b : Nat) :
    (State.overlapResult s b).2.mask M = s.mask M :=
  State.mask_mono hM (by
    unfold State.overlapResult
    simp only [apply_ite (State.mask 268435716), apply_ite Prod.snd, apply_ite Prod.fst, State.judgeOverlap_mask, Nat.reduceAnd,
        ite_self])

/-- `passSlice` changes at most: evtSeen, regs, banks. -/
theorem State.passSlice_mask {M : Nat} (hM : 268435716 &&& M = 268435716) (s : State) (b : Nat) (sl : Nat) :
    (State.passSlice s b sl).mask M = s.mask M :=
  State.mask_mono hM (by
    unfold State.passSlice
    simp only [apply_ite (State.mask 268435716), apply_ite Prod.snd, apply_ite Prod.fst, State.setHealth_mask, Nat.reduceAnd,
        ite_self])

/-- `slotPhase` changes at most: evtSeen, regs, banks. -/
theorem State.slotPhase_mask {M : Nat} (hM : 268435716 &&& M = 268435716) (s : State) (b : Nat) :
    (State.slotPhase s b).mask M = s.mask M :=
  State.mask_mono hM (by
    unfold State.slotPhase
    simp only [apply_ite (State.mask 268435716), apply_ite Prod.snd, apply_ite Prod.fst, State.count_mask, State.enterSpare_mask,
        State.failSlice_mask, State.idleRest_mask, State.overlapResult_mask, State.passSlice_mask, State.raise_mask,
        State.setBank_mask, Nat.reduceAnd, ite_self])

/-- `restPowerDown` changes at most: banks. -/
theorem State.restPowerDown_mask {M : Nat} (hM : 268435456 &&& M = 268435456) (s : State) (b : Nat) (i : Nat) :
    (State.restPowerDown s b i).mask M = s.mask M :=
  State.mask_mono hM (by
    unfold State.restPowerDown
    simp only [apply_ite (State.mask 268435456), apply_ite Prod.snd, apply_ite Prod.fst, State.enterSpare_mask,
        State.setBank_mask, Nat.reduceAnd, ite_self])

/-- `slotPowerDown` changes at most: banks. -/
theorem State.slotPowerDown_mask {M : Nat} (hM : 268435456 &&& M = 268435456) (s : State) (b : Nat) :
    (State.slotPowerDown s b).mask M = s.mask M :=
  State.mask_mono hM (by
    unfold State.slotPowerDown
    repeat' (first
      | with_reducible rfl
      | (simp only [apply_ite (State.mask 268435456), apply_ite Prod.snd, apply_ite Prod.fst, State.enterSpare_mask,
          State.restPowerDown_mask, State.setBank_mask, forEach_mask, Nat.reduceAnd, ite_self]; done)
      | with_reducible refine (forEach_mask (by decide) _ _ _ (fun t a => ?_)).trans ?_
      | split
      | (simp only [apply_ite (State.mask 268435456), apply_ite Prod.snd, apply_ite Prod.fst, State.enterSpare_mask,
          State.restPowerDown_mask, State.setBank_mask, Nat.reduceAnd, ite_self])))

/-- `startPowerup` changes at most: banks. -/
theorem State.startPowerup_mask {M : Nat} (hM : 268435456 &&& M = 268435456) (s : State) (b : Nat) :
    (State.startPowerup s b).mask M = s.mask M :=
  State.mask_mono hM (by
    unfold State.startPowerup
    simp only [State.setBank_mask, Nat.reduceAnd, ite_self])

/-- `calCatch` changes at most: evtSeen, regs, banks. -/
theorem State.calCatch_mask {M : Nat} (hM : 268435716 &&& M = 268435716) (s0 : State) (s : State) (b : Nat) :
    (State.calCatch s0 s b).mask M = s.mask M :=
  State.mask_mono hM (by
    unfold State.calCatch
    simp only [apply_ite (State.mask 268435716), apply_ite Prod.snd, apply_ite Prod.fst, State.assign_mask,
        State.idleStroke_mask, State.setBank_mask, State.settleBank_mask, State.slotPhase_mask, State.slotPowerDown_mask,
        State.startPowerup_mask, Nat.reduceAnd, ite_self])

/-- `calMoor` changes at most: banks. -/
theorem State.calMoor_mask {M : Nat} (hM : 268435456 &&& M = 268435456) (s : State) (b : Nat) :
    (State.calMoor s b).mask M = s.mask M :=
  State.mask_mono hM (by
    unfold State.calMoor
    simp only [State.setBank_mask, Nat.reduceAnd, ite_self])

/-- `calPageReset` changes at most: banks. -/
theorem State.calPageReset_mask {M : Nat} (hM : 268435456 &&& M = 268435456) (s : State) :
    (State.calPageReset s).mask M = s.mask M :=
  State.mask_mono hM (by
    unfold State.calPageReset
    simp only [State.upd28_mask, Nat.reduceAnd, ite_self])

/-- `calWake` changes at most: banks. -/
theorem State.calWake_mask {M : Nat} (hM : 268435456 &&& M = 268435456) (s : State) (b : Nat) :
    (State.calWake s b).mask M = s.mask M :=
  State.mask_mono hM (by
    unfold State.calWake
    simp only [apply_ite (State.mask 268435456), apply_ite Prod.snd, apply_ite Prod.fst, State.setBank_mask, Nat.reduceAnd,
        ite_self])

/-- `doCompare` changes at most: evtSeen, regs, banks. -/
theorem State.doCompare_mask {M : Nat} (hM : 268435716 &&& M = 268435716) (s : State) (b : Nat) (pairs : Nat) :
    (State.doCompare s b pairs).mask M = s.mask M :=
  State.mask_mono hM (by
    unfold State.doCompare
    simp only [apply_ite (State.mask 268435716), apply_ite Prod.snd, apply_ite Prod.fst, State.judgeOverlap_mask, Nat.reduceAnd,
        ite_self])

/-- `endPowerup` changes at most: evtSeen, regs, banks. -/
theorem State.endPowerup_mask {M : Nat} (hM : 268435716 &&& M = 268435716) (s : State) (b : Nat) :
    (State.endPowerup s b).mask M = s.mask M :=
  State.mask_mono hM (by
    unfold State.endPowerup
    simp only [apply_ite (State.mask 268435716), apply_ite Prod.snd, apply_ite Prod.fst, State.assign_mask, State.fault_mask,
        State.raise_mask, State.setBank_mask, Nat.reduceAnd, ite_self])

/-- `powerupStep` changes at most: evtSeen, regs, banks. -/
theorem State.powerupStep_mask {M : Nat} (hM : 268435716 &&& M = 268435716) (s : State) (b : Nat) (failed : List Nat) :
    (State.powerupStep s b failed).mask M = s.mask M :=
  State.mask_mono hM (by
    unfold State.powerupStep
    simp only [apply_ite (State.mask 268435716), apply_ite Prod.snd, apply_ite Prod.fst, State.endPowerup_mask,
        State.setBank_mask, Nat.reduceAnd, ite_self])

/-- `selftestStep` changes at most: banks. -/
theorem State.selftestStep_mask {M : Nat} (hM : 268435456 &&& M = 268435456) (s : State) (b : Nat) (failed : List Nat) :
    (State.selftestStep s b failed).mask M = s.mask M :=
  State.mask_mono hM (by
    unfold State.selftestStep
    simp only [apply_ite (State.mask 268435456), apply_ite Prod.snd, apply_ite Prod.fst, State.setBank_mask, Nat.reduceAnd,
        ite_self])

/-- `doPuStep` changes at most: evtSeen, regs, banks. -/
theorem State.doPuStep_mask {M : Nat} (hM : 268435716 &&& M = 268435716) (s : State) (b : Nat) (failed : List Nat) :
    (State.doPuStep s b failed).mask M = s.mask M :=
  State.mask_mono hM (by
    unfold State.doPuStep
    simp only [apply_ite (State.mask 268435716), apply_ite Prod.snd, apply_ite Prod.fst, State.powerupStep_mask,
        State.selftestStep_mask, Nat.reduceAnd, ite_self])

/-- `doSpareSelftest` changes at most: evtSeen, regs, banks. -/
theorem State.doSpareSelftest_mask {M : Nat} (hM : 268435716 &&& M = 268435716) (s : State) (b : Nat) (pass : Bool) :
    (State.doSpareSelftest s b pass).mask M = s.mask M :=
  State.mask_mono hM (by
    unfold State.doSpareSelftest
    simp only [apply_ite (State.mask 268435716), apply_ite Prod.snd, apply_ite Prod.fst, State.count_mask, State.enterSpare_mask,
        State.failSlice_mask, State.passSlice_mask, State.raise_mask, State.refuseNow_mask, State.setBank_mask,
        State.settleBank_mask, Nat.reduceAnd, ite_self]
    repeat' split
    all_goals (try simp only [apply_ite (State.mask 268435716), apply_ite Prod.snd, apply_ite Prod.fst, State.count_mask,
        State.enterSpare_mask, State.failSlice_mask, State.passSlice_mask, State.raise_mask, State.refuseNow_mask,
        State.setBank_mask, State.settleBank_mask, Nat.reduceAnd, ite_self]))

/-- `doStuck` changes at most: evtSeen, regs, banks, words. -/
theorem State.doStuck_mask {M : Nat} (hM : 4563403012 &&& M = 4563403012) (s : State) (b : Nat) (sl : Nat) :
    (State.doStuck s b sl).mask M = s.mask M :=
  State.mask_mono hM (by
    unfold State.doStuck
    repeat' (first
      | with_reducible rfl
      | split
      | (simp only [apply_ite (State.mask 4563403012), apply_ite Prod.snd, apply_ite Prod.fst, State.count_mask,
          State.fault_mask, State.healthFault_mask, State.raise_mask, State.set_mask, State.setBank_mask, State.setHealth_mask,
          State.upd32_mask, Nat.reduceAnd, ite_self]; done)
      | (simp only [State.upd32_mask, apply_ite (State.mask 4563403012), apply_ite Prod.snd, apply_ite Prod.fst,
          State.count_mask, State.fault_mask, State.healthFault_mask, State.raise_mask, State.set_mask, State.setBank_mask,
          State.setHealth_mask, State.upd32_mask, Nat.reduceAnd, ite_self]; done)
      | dsimp only))

end Sys2Proof.Machine
end

