-- ==== Sys2Proof/Laws/MaskCox.lean ====
section
/-! SUPPORT. What the operations of Machine/Cox.lean can change (see Laws/Mask.lean): one lemma for each. -/

set_option linter.unusedSimpArgs false
set_option maxRecDepth 2000

namespace Sys2Proof.Machine

/-- `coxCatchEnd` changes at most: free, regs. -/
theorem State.coxCatchEnd_mask {M : Nat} (hM : 288 &&& M = 288) (s : State) :
    (State.coxCatchEnd s).mask M = s.mask M :=
  State.mask_mono hM (by
    unfold State.coxCatchEnd
    simp only [apply_ite (State.mask 288), apply_ite Prod.snd, apply_ite Prod.fst, State.draw_mask, State.set_mask,
        Nat.reduceAnd, ite_self])

/-- `coxApplied` changes at most: regs, cox. -/
theorem State.coxApplied_mask {M : Nat} (hM : 134217984 &&& M = 134217984) (s : State) :
    (State.coxApplied s).mask M = s.mask M :=
  State.mask_mono hM (by
    unfold State.coxApplied
    simp only [State.set_mask, State.upd27_mask, Nat.reduceAnd, ite_self])

/-- `setTcu` changes at most: tcuA, tcuB. -/
theorem State.setTcu_mask {M : Nat} (hM : 100663296 &&& M = 100663296) (s : State) (u : Unit2) (t : Tcu) :
    (State.setTcu s u t).mask M = s.mask M :=
  State.mask_mono hM (by
    unfold State.setTcu
    repeat' split
    all_goals simp only [State.upd25_mask, State.upd26_mask, Nat.reduceAnd, ite_self])

/-- `beginSelftest` changes at most: regs, tcuA, tcuB. -/
theorem State.beginSelftest_mask {M : Nat} (hM : 100663552 &&& M = 100663552) (s : State) (u : Unit2) :
    (State.beginSelftest s u).mask M = s.mask M :=
  State.mask_mono hM (by
    unfold State.beginSelftest
    simp only [State.setPstate_mask, State.setTcu_mask, Nat.reduceAnd, ite_self])

/-- `tcuApplied` changes at most: regs, tcuA, tcuB. -/
theorem State.tcuApplied_mask {M : Nat} (hM : 100663552 &&& M = 100663552) (s : State) (u : Unit2) :
    (State.tcuApplied s u).mask M = s.mask M :=
  State.mask_mono hM (by
    unfold State.tcuApplied
    simp only [apply_ite (State.mask 100663552), apply_ite Prod.snd, apply_ite Prod.fst, State.beginSelftest_mask,
        State.set_mask, Nat.reduceAnd, ite_self])

/-- `becomeUnfit` changes at most: evtSeen, regs, tcuA, tcuB. -/
theorem State.becomeUnfit_mask {M : Nat} (hM : 100663556 &&& M = 100663556) (s : State) (u : Unit2) (cause : Nat) :
    (State.becomeUnfit s u cause).mask M = s.mask M :=
  State.mask_mono hM (by
    unfold State.becomeUnfit
    simp only [State.fault_mask, State.raise_mask, State.set_mask, State.setPstate_mask, State.setTcu_mask, Nat.reduceAnd,
        ite_self])

/-- `swapUnits` changes at most: evtSeen, regs, tcuA, tcuB. -/
theorem State.swapUnits_mask {M : Nat} (hM : 100663556 &&& M = 100663556) (s : State) :
    (State.swapUnits s).mask M = s.mask M :=
  State.mask_mono hM (by
    unfold State.swapUnits
    simp only [State.beginSelftest_mask, State.count_mask, State.raise_mask, State.set_mask, State.setPstate_mask, Nat.reduceAnd,
        ite_self])

/-- `coxSwap` changes at most: evtSeen, regs, tcuA, tcuB. -/
theorem State.coxSwap_mask {M : Nat} (hM : 100663556 &&& M = 100663556) (s : State) :
    (State.coxSwap s).mask M = s.mask M :=
  State.mask_mono hM (by
    unfold State.coxSwap
    simp only [State.set_mask, State.swapUnits_mask, Nat.reduceAnd, ite_self])

/-- `expose` changes at most: evtSeen, regs. -/
theorem State.expose_mask {M : Nat} (hM : 260 &&& M = 260) (s : State) (first : BitVec 64) (last : BitVec 64) :
    (State.expose s first last).mask M = s.mask M :=
  State.mask_mono hM (by
    unfold State.expose
    simp only [State.fault_mask, State.raise_mask, State.set_mask, Nat.reduceAnd, ite_self])

/-- `finishReseed` changes at most: evtSeen, regs, tcuA, tcuB, cox. -/
theorem State.finishReseed_mask {M : Nat} (hM : 234881284 &&& M = 234881284) (s : State) (u : Unit2) :
    (State.finishReseed s u).mask M = s.mask M :=
  State.mask_mono hM (by
    unfold State.finishReseed
    simp only [apply_ite (State.mask 234881284), apply_ite Prod.snd, apply_ite Prod.fst, State.count_mask, State.setPstate_mask,
        State.setTcu_mask, State.upd27_mask, Nat.reduceAnd, ite_self])

/-- `startDueSelftest` changes at most: regs, tcuA, tcuB. -/
theorem State.startDueSelftest_mask {M : Nat} (hM : 100663552 &&& M = 100663552) (s : State) (u : Unit2) :
    (State.startDueSelftest s u).mask M = s.mask M :=
  State.mask_mono hM (by
    unfold State.startDueSelftest
    simp only [apply_ite (State.mask 100663552), apply_ite Prod.snd, apply_ite Prod.fst, State.beginSelftest_mask, Nat.reduceAnd,
        ite_self])

/-- `coxDecides` changes at most: evtSeen, regs, tcuA, tcuB, cox. -/
theorem State.coxDecides_mask {M : Nat} (hM : 234881284 &&& M = 234881284) (s : State) (last : BitVec 64) :
    (State.coxDecides s last).mask M = s.mask M :=
  State.mask_mono hM (by
    unfold State.coxDecides
    simp only [apply_ite (State.mask 234881284), apply_ite Prod.snd, apply_ite Prod.fst, State.becomeUnfit_mask,
        State.count_mask, State.coxSwap_mask, State.expose_mask, State.finishReseed_mask, State.raise_mask, State.setPstate_mask,
        State.startDueSelftest_mask, State.upd27_mask, Nat.reduceAnd, ite_self]
    repeat' split
    all_goals (try simp only [apply_ite (State.mask 234881284), apply_ite Prod.snd, apply_ite Prod.fst, State.becomeUnfit_mask,
        State.count_mask, State.coxSwap_mask, State.expose_mask, State.finishReseed_mask, State.raise_mask, State.setPstate_mask,
        State.startDueSelftest_mask, State.upd27_mask, Nat.reduceAnd, ite_self]))

/-- `coxHost` changes at most: evtSeen, regs, tcuA, tcuB, cox. -/
theorem State.coxHost_mask {M : Nat} (hM : 234881284 &&& M = 234881284) (s : State) :
    (State.coxHost s).mask M = s.mask M :=
  State.mask_mono hM (by
    unfold State.coxHost
    simp only [apply_ite (State.mask 234881284), apply_ite Prod.snd, apply_ite Prod.fst, State.count_mask, State.coxSwap_mask,
        State.raise_mask, State.set_mask, State.swapUnits_mask, State.upd27_mask, Nat.reduceAnd, ite_self])

/-- `coxTick` changes at most: free, regs. -/
theorem State.coxTick_mask {M : Nat} (hM : 288 &&& M = 288) (s : State) :
    (State.coxTick s).mask M = s.mask M :=
  State.mask_mono hM (by
    unfold State.coxTick
    simp only [State.draw_mask, State.set_mask, Nat.reduceAnd, ite_self])

/-- `selfCheck` changes at most: evtSeen, regs, tcuA, tcuB. -/
theorem State.selfCheck_mask {M : Nat} (hM : 100663556 &&& M = 100663556) (s : State) (u : Unit2) :
    (State.selfCheck s u).mask M = s.mask M :=
  State.mask_mono hM (by
    unfold State.selfCheck
    simp only [State.count_mask, State.setTcu_mask, Nat.reduceAnd, ite_self])

/-- `digestsDiffer` changes at most: free, regs. -/
theorem State.digestsDiffer_mask {M : Nat} (hM : 288 &&& M = 288) (s : State) :
    (State.digestsDiffer s).mask M = s.mask M :=
  State.mask_mono hM (by
    unfold State.digestsDiffer
    simp only [State.draw_mask, State.set_mask, Nat.reduceAnd, ite_self])

/-- `doMemtestFail` changes at most: evtSeen, regs, tcuA, tcuB, cox. -/
theorem State.doMemtestFail_mask {M : Nat} (hM : 234881284 &&& M = 234881284) (s : State) (u : Unit2) :
    (State.doMemtestFail s u).mask M = s.mask M :=
  State.mask_mono hM (by
    unfold State.doMemtestFail
    simp only [apply_ite (State.mask 234881284), apply_ite Prod.snd, apply_ite Prod.fst, State.becomeUnfit_mask,
        State.upd27_mask, Nat.reduceAnd, ite_self])

/-- `doMemtestPass` changes at most: evtSeen, regs, tcuA, tcuB. -/
theorem State.doMemtestPass_mask {M : Nat} (hM : 100663556 &&& M = 100663556) (s : State) (u : Unit2) :
    (State.doMemtestPass s u).mask M = s.mask M :=
  State.mask_mono hM (by
    unfold State.doMemtestPass
    simp only [apply_ite (State.mask 100663556), apply_ite Prod.snd, apply_ite Prod.fst, State.countW_mask, State.setTcu_mask,
        Nat.reduceAnd, ite_self])

/-- `doMismatch` changes at most: evtSeen, free, regs, tcuA, tcuB, cox. -/
theorem State.doMismatch_mask {M : Nat} (hM : 234881316 &&& M = 234881316) (s : State) (f : MismatchFacts) :
    (State.doMismatch s f).mask M = s.mask M :=
  State.mask_mono hM (by
    unfold State.doMismatch
    simp only [apply_ite (State.mask 234881316), apply_ite Prod.snd, apply_ite Prod.fst, State.beginSelftest_mask,
        State.count_mask, State.digestsDiffer_mask, State.healthFault_mask, State.raise_mask, State.set_mask, State.upd27_mask,
        Nat.reduceAnd, ite_self]
    repeat' split
    all_goals (try simp only [apply_ite (State.mask 234881316), apply_ite Prod.snd, apply_ite Prod.fst, State.beginSelftest_mask,
        State.count_mask, State.digestsDiffer_mask, State.healthFault_mask, State.raise_mask, State.set_mask, State.upd27_mask,
        Nat.reduceAnd, ite_self]))

/-- `doScrubSbe` changes at most: evtSeen, regs. -/
theorem State.doScrubSbe_mask {M : Nat} (hM : 260 &&& M = 260) (s : State) :
    (State.doScrubSbe s).mask M = s.mask M :=
  State.mask_mono hM (by
    unfold State.doScrubSbe
    simp only [apply_ite (State.mask 260), apply_ite Prod.snd, apply_ite Prod.fst, State.count_mask, State.healthFault_mask,
        Nat.reduceAnd, ite_self])

/-- `doSelftestEnd` changes at most: evtSeen, regs, tcuA, tcuB. -/
theorem State.doSelftestEnd_mask {M : Nat} (hM : 100663556 &&& M = 100663556) (s : State) (u : Unit2) (pass : Bool) :
    (State.doSelftestEnd s u pass).mask M = s.mask M :=
  State.mask_mono hM (by
    unfold State.doSelftestEnd
    repeat' split
    all_goals simp only [State.becomeUnfit_mask, State.raise_mask, State.setPstate_mask, State.setTcu_mask, Nat.reduceAnd,
        ite_self])

/-- `doTemp` changes at most: evtSeen, regs. -/
theorem State.doTemp_mask {M : Nat} (hM : 260 &&& M = 260) (s : State) (n : Nat) (hot : Bool) :
    (State.doTemp s n hot).mask M = s.mask M :=
  State.mask_mono hM (by
    unfold State.doTemp
    simp only [apply_ite (State.mask 260), apply_ite Prod.snd, apply_ite Prod.fst, State.healthFault_mask, State.raise_mask,
        State.set_mask, Nat.reduceAnd, ite_self])

/-- `doVote` changes at most: evtSeen, regs, cox. -/
theorem State.doVote_mask {M : Nat} (hM : 134217988 &&& M = 134217988) (s : State) :
    (State.doVote s).mask M = s.mask M :=
  State.mask_mono hM (by
    unfold State.doVote
    simp only [apply_ite (State.mask 134217988), apply_ite Prod.snd, apply_ite Prod.fst, State.count_mask,
        State.healthFault_mask, State.raise_mask, State.upd27_mask, Nat.reduceAnd, ite_self])

end Sys2Proof.Machine
end

