-- ==== Sys2Proof/Laws/MaskFrag.lean ====
section
/-! SUPPORT. What the operations of Machine/Frag.lean can change (see Laws/Mask.lean): one lemma for each. -/

set_option linter.unusedSimpArgs false
set_option maxRecDepth 2000

namespace Sys2Proof.Machine

/-- `someClock` changes at most: free. -/
theorem State.someClock_mask {M : Nat} (hM : 32 &&& M = 32) (s : State) :
    (State.someClock s).2.mask M = s.mask M :=
  State.mask_mono hM (by
    unfold State.someClock
    simp only [State.draw_mask, Nat.reduceAnd, ite_self])

/-- `lensClock` changes at most: free, lensClk. -/
theorem State.lensClock_mask {M : Nat} (hM : 151115727451828646838304 &&& M = 151115727451828646838304) (s : State) :
    (State.lensClock s).2.mask M = s.mask M :=
  State.mask_mono hM (by
    unfold State.lensClock
    simp only [State.someClock_mask, State.upd77_mask, Nat.reduceAnd, ite_self])

/-- `updBank` changes at most: frags. -/
theorem State.updBank_mask {M : Nat} (hM : 2361183241434822606848 &&& M = 2361183241434822606848) (s : State) (id : Nat) (k : Nat) (f : BankPart → BankPart) :
    (State.updBank s id k f).mask M = s.mask M :=
  State.mask_mono hM (by
    unfold State.updBank
    simp only [State.upd71_mask, Nat.reduceAnd, ite_self])

/-- `lensFlush` changes at most: frags, engines. -/
theorem State.lensFlush_mask {M : Nat} (hM : 21250649172913403461632 &&& M = 21250649172913403461632) (s : State) (now : Nat) :
    (State.lensFlush s now).mask M = s.mask M :=
  State.mask_mono hM (by
    unfold State.lensFlush
    repeat' (first
      | with_reducible rfl
      | (simp only [apply_ite (State.mask 21250649172913403461632), apply_ite Prod.snd, apply_ite Prod.fst, State.updBank_mask,
          forEach_mask, State.upd74_mask, Nat.reduceAnd, ite_self]; done)
      | with_reducible refine (forEach_mask (by decide) _ _ _ (fun t a => ?_)).trans ?_
      | split
      | (simp only [apply_ite (State.mask 21250649172913403461632), apply_ite Prod.snd, apply_ite Prod.fst, State.updBank_mask,
          State.upd74_mask, Nat.reduceAnd, ite_self])))

/-- `doLensFlush` changes at most: free, frags, engines, lensClk. -/
theorem State.doLensFlush_mask {M : Nat} (hM : 172366376624742050299936 &&& M = 172366376624742050299936) (s : State) (d : Word) :
    (State.doLensFlush s d).mask M = s.mask M :=
  State.mask_mono hM (by
    unfold State.doLensFlush
    simp only [apply_ite (State.mask 172366376624742050299936), apply_ite Prod.snd, apply_ite Prod.fst, State.lensClock_mask,
        State.lensFlush_mask, Nat.reduceAnd, ite_self])

/-- `beginBlock` changes at most: frags, engines. -/
theorem State.beginBlock_mask {M : Nat} (hM : 21250649172913403461632 &&& M = 21250649172913403461632) (s : State) (n : Nat) (f : Frag) (k : Nat) (start : Nat) :
    (State.beginBlock s n f k start).mask M = s.mask M :=
  State.mask_mono hM (by
    unfold State.beginBlock
    repeat' split
    all_goals simp only [State.updBank_mask, State.upd74_mask, Nat.reduceAnd, ite_self])

/-- `fragRefused` changes at most: evtSeen, regs. -/
theorem State.fragRefused_mask {M : Nat} (hM : 260 &&& M = 260) (s : State) (cause : Nat) :
    (State.fragRefused s cause).mask M = s.mask M :=
  State.mask_mono hM (by
    unfold State.fragRefused
    simp only [State.fault_mask, State.raise_mask, State.set_mask, Nat.reduceAnd, ite_self])

/-- `lensEcc` changes at most: evtSeen, free, regs, engines. -/
theorem State.lensEcc_mask {M : Nat} (hM : 18889465931478580855076 &&& M = 18889465931478580855076) (s : State) (n : Nat) (dict : Bool) :
    (State.lensEcc s n dict).mask M = s.mask M :=
  State.mask_mono hM (by
    unfold State.lensEcc
    repeat' split
    all_goals simp only [State.count_mask, State.fault_mask, State.raise_mask, State.someClock_mask, State.upd74_mask,
        Nat.reduceAnd, ite_self])

/-- `lensStallTold` changes at most: evtSeen, regs, lensStall. -/
theorem State.lensStallTold_mask {M : Nat} (hM : 37778931862957161709828 &&& M = 37778931862957161709828) (s : State) :
    (State.lensStallTold s).mask M = s.mask M :=
  State.mask_mono hM (by
    unfold State.lensStallTold
    simp only [apply_ite (State.mask 37778931862957161709828), apply_ite Prod.snd, apply_ite Prod.fst, State.raise_mask,
        State.upd75_mask, Nat.reduceAnd, ite_self])

/-- `lensFreed` changes at most: evtSeen, regs, lensStall, lensWait, lensClk. -/
theorem State.lensFreed_mask {M : Nat} (hM : 264452523040700131967236 &&& M = 264452523040700131967236) (s : State) (t : Nat) :
    (State.lensFreed s t).mask M = s.mask M :=
  State.mask_mono hM (by
    unfold State.lensFreed
    simp only [apply_ite (State.mask 264452523040700131967236), apply_ite Prod.snd, apply_ite Prod.fst, State.countBy_mask,
        State.lensStallTold_mask, State.upd76_mask, State.upd77_mask, Nat.reduceAnd, ite_self]
    repeat' split
    all_goals (try simp only [apply_ite (State.mask 264452523040700131967236), apply_ite Prod.snd, apply_ite Prod.fst,
        State.countBy_mask, State.lensStallTold_mask, State.upd76_mask, State.upd77_mask, Nat.reduceAnd, ite_self]))

/-- `doBlockDone` changes at most: evtSeen, regs, frags, engines, lensStall, lensWait, lensClk. -/
theorem State.doBlockDone_mask {M : Nat} (hM : 285703172213613535428868 &&& M = 285703172213613535428868) (s : State) (n : Nat) :
    (State.doBlockDone s n).mask M = s.mask M :=
  State.mask_mono hM (by
    unfold State.doBlockDone
    simp only [apply_ite (State.mask 285703172213613535428868), apply_ite Prod.snd, apply_ite Prod.fst, State.beginBlock_mask,
        State.count_mask, State.countW_mask, State.lensFreed_mask, State.updBank_mask, State.upd74_mask, Nat.reduceAnd, ite_self]
    repeat' split
    all_goals (try simp only [apply_ite (State.mask 285703172213613535428868), apply_ite Prod.snd, apply_ite Prod.fst,
        State.beginBlock_mask, State.count_mask, State.countW_mask, State.lensFreed_mask, State.updBank_mask, State.upd74_mask,
        Nat.reduceAnd, ite_self]))

/-- `lensTick` changes at most: evtSeen, regs, lensStall, lensWait. -/
theorem State.lensTick_mask {M : Nat} (hM : 113336795588871485128964 &&& M = 113336795588871485128964) (s : State) :
    (State.lensTick s).mask M = s.mask M :=
  State.mask_mono hM (by
    unfold State.lensTick
    repeat' split
    all_goals simp only [State.countBy_mask, State.lensStallTold_mask, State.upd76_mask, Nat.reduceAnd, ite_self])

/-- `lensWaits` changes at most: evtSeen, regs, lensStall, lensWait. -/
theorem State.lensWaits_mask {M : Nat} (hM : 113336795588871485128964 &&& M = 113336795588871485128964) (s : State) (t : Nat) :
    (State.lensWaits s t).mask M = s.mask M :=
  State.mask_mono hM (by
    unfold State.lensWaits
    simp only [apply_ite (State.mask 113336795588871485128964), apply_ite Prod.snd, apply_ite Prod.fst, State.lensStallTold_mask,
        State.upd76_mask, Nat.reduceAnd, ite_self])

/-- `doEngineStart` changes at most: evtSeen, free, regs, frags, engines, lensStall, lensWait, lensClk. -/
theorem State.doEngineStart_mask {M : Nat} (hM : 285703172213613535428900 &&& M = 285703172213613535428900) (s : State) :
    (State.doEngineStart s).mask M = s.mask M :=
  State.mask_mono hM (by
    unfold State.doEngineStart
    repeat' split
    all_goals simp only [State.beginBlock_mask, State.lensClock_mask, State.lensWaits_mask, State.set_mask, Nat.reduceAnd,
        ite_self])

/-- `servoEnter` changes at most: hist. -/
theorem State.servoEnter_mask {M : Nat} (hM : 281474976710656 &&& M = 281474976710656) (s : State) (f : Frag) :
    (State.servoEnter s f).mask M = s.mask M :=
  State.mask_mono hM (by
    unfold State.servoEnter
    repeat' (first
      | with_reducible rfl
      | (simp only [apply_ite (State.mask 281474976710656), apply_ite Prod.snd, apply_ite Prod.fst, State.histAdd_mask,
          forEach_mask, Nat.reduceAnd, ite_self]; done)
      | with_reducible refine (forEach_mask (by decide) _ _ _ (fun t a => ?_)).trans ?_
      | split
      | (simp only [apply_ite (State.mask 281474976710656), apply_ite Prod.snd, apply_ite Prod.fst, State.histAdd_mask,
          Nat.reduceAnd, ite_self])))

/-- `doFragmentReadEnd` changes at most: evtSeen, free, regs, hist, accQ, frags, lensStall, lensWait, lensClk. -/
theorem State.doFragmentReadEnd_mask {M : Nat} (hM : 266813715570809186025764 &&& M = 266813715570809186025764) (s : State) :
    (State.doFragmentReadEnd s).mask M = s.mask M :=
  State.mask_mono hM (by
    unfold State.doFragmentReadEnd
    repeat' split
    all_goals simp only [State.count_mask, State.countW_mask, State.lensClock_mask, State.lensWaits_mask, State.raise_mask,
        State.servoEnter_mask, State.upd53_mask, State.upd53_71_mask, Nat.reduceAnd, ite_self])

/-- `fragRate` changes at most: free. -/
theorem State.fragRate_mask {M : Nat} (hM : 32 &&& M = 32) (s : State) (e : Entry) (cs : List Nat) :
    (State.fragRate s e cs).2.mask M = s.mask M :=
  State.mask_mono hM (by
    unfold State.fragRate
    repeat' split
    all_goals simp only [State.draw_mask, Nat.reduceAnd, ite_self])

/-- `occAdd` changes at most: regs. -/
theorem State.occAdd_mask {M : Nat} (hM : 256 &&& M = 256) (s : State) (p : Nat) (cell : Nat) :
    (State.occAdd s p cell).mask M = s.mask M :=
  State.mask_mono hM (by
    unfold State.occAdd
    simp only [State.set_mask, Nat.reduceAnd, ite_self])

/-- `occEnter` changes at most: regs. -/
theorem State.occEnter_mask {M : Nat} (hM : 256 &&& M = 256) (s : State) (t : Nat) (first : Int) :
    (State.occEnter s t first).mask M = s.mask M :=
  State.mask_mono hM (by
    unfold State.occEnter
    repeat' (first
      | with_reducible rfl
      | (simp only [apply_ite (State.mask 256), apply_ite Prod.snd, apply_ite Prod.fst, State.occAdd_mask, State.set_mask,
          forEach_mask, Nat.reduceAnd, ite_self]; done)
      | with_reducible refine (forEach_mask (by decide) _ _ _ (fun t a => ?_)).trans ?_
      | split
      | (simp only [apply_ite (State.mask 256), apply_ite Prod.snd, apply_ite Prod.fst, State.occAdd_mask, State.set_mask,
          Nat.reduceAnd, ite_self])))

/-- `takeRecords` changes at most: records, recBad. -/
theorem State.takeRecords_mask {M : Nat} (hM : 9444733106476778782720 &&& M = 9444733106476778782720) (s : State) (classA : Bool) :
    (State.takeRecords s classA).2.mask M = s.mask M :=
  State.mask_mono hM (by
    unfold State.takeRecords
    simp only [State.upd47_mask, State.upd47_73_mask, Nat.reduceAnd, ite_self])

/-- `windowEcc` changes at most: evtSeen, regs. -/
theorem State.windowEcc_mask {M : Nat} (hM : 260 &&& M = 260) (s : State) (n : Nat) :
    (State.windowEcc s n).mask M = s.mask M :=
  State.mask_mono hM (by
    unfold State.windowEcc
    simp only [apply_ite (State.mask 260), apply_ite Prod.snd, apply_ite Prod.fst, State.countBy_mask, State.raise_mask,
        Nat.reduceAnd, ite_self])

/-- `windowOverrun` changes at most: evtSeen, regs. -/
theorem State.windowOverrun_mask {M : Nat} (hM : 260 &&& M = 260) (s : State) (n : Nat) :
    (State.windowOverrun s n).mask M = s.mask M :=
  State.mask_mono hM (by
    unfold State.windowOverrun
    simp only [apply_ite (State.mask 260), apply_ite Prod.snd, apply_ite Prod.fst, State.countBy_mask, State.fault_mask,
        State.raise_mask, Nat.reduceAnd, ite_self])

/-- `startFragment` changes at most: evtSeen, free, regs, records, frags, fragId, recBad. -/
theorem State.startFragment_mask {M : Nat} (hM : 16528282830781246603556 &&& M = 16528282830781246603556) (s : State) (e : Entry) :
    (State.startFragment s e).mask M = s.mask M :=
  State.mask_mono hM (by
    unfold State.startFragment
    simp only [apply_ite (State.mask 16528282830781246603556), apply_ite Prod.snd, apply_ite Prod.fst, State.countBy_mask,
        State.fragRate_mask, State.occEnter_mask, State.raise_mask, State.takeRecords_mask, State.windowEcc_mask,
        State.windowOverrun_mask, State.upd71_mask, State.upd71_72_mask, Nat.reduceAnd, ite_self])

/-- `doFragmentStart` changes at most: evtSeen, free, regs, records, accQ, frags, fragId, recBad. -/
theorem State.doFragmentStart_mask {M : Nat} (hM : 16528291837980501344548 &&& M = 16528291837980501344548) (s : State) :
    (State.doFragmentStart s).mask M = s.mask M :=
  State.mask_mono hM (by
    unfold State.doFragmentStart
    repeat' split
    all_goals simp only [State.count_mask, State.raise_mask, State.startFragment_mask, State.upd53_mask, Nat.reduceAnd, ite_self])

end Sys2Proof.Machine
end

