-- ==== Sys2Proof/Laws/MaskHk.lean ====
section
/-! SUPPORT. What the operations of Machine/Hk.lean can change (see Laws/Mask.lean): one lemma for each. -/

set_option linter.unusedSimpArgs false
set_option maxRecDepth 2000

namespace Sys2Proof.Machine

/-- `clearFresh` changes at most: regs. -/
theorem State.clearFresh_mask {M : Nat} (hM : 256 &&& M = 256) (s : State) (r : Nat) :
    (State.clearFresh s r).mask M = s.mask M :=
  State.mask_mono hM (by
    unfold State.clearFresh
    simp only [State.set_mask, Nat.reduceAnd, ite_self])

/-- `hkTrigger` changes at most: evtSeen, regs, hk. -/
theorem State.hkTrigger_mask {M : Nat} (hM : 83076749736557242056487941267521796 &&& M = 83076749736557242056487941267521796) (s : State) (inj : Bool) :
    (State.hkTrigger s inj).mask M = s.mask M :=
  State.mask_mono hM (by
    unfold State.hkTrigger
    simp only [apply_ite (State.mask 83076749736557242056487941267521796), apply_ite Prod.snd, apply_ite Prod.fst,
        State.count_mask, State.raise_mask, State.upd116_mask, Nat.reduceAnd, ite_self])

/-- `doInjGo` changes at most: evtSeen, regs, hk. -/
theorem State.doInjGo_mask {M : Nat} (hM : 83076749736557242056487941267521796 &&& M = 83076749736557242056487941267521796) (s : State) :
    (State.doInjGo s).mask M = s.mask M :=
  State.mask_mono hM (by
    unfold State.doInjGo
    simp only [State.hkTrigger_mask, Nat.reduceAnd, ite_self])

/-- `doRegGo` changes at most: evtSeen, regs, hk. -/
theorem State.doRegGo_mask {M : Nat} (hM : 83076749736557242056487941267521796 &&& M = 83076749736557242056487941267521796) (s : State) :
    (State.doRegGo s).mask M = s.mask M :=
  State.mask_mono hM (by
    unfold State.doRegGo
    simp only [State.hkTrigger_mask, Nat.reduceAnd, ite_self])

/-- `doSelftestGo` changes at most: regs. -/
theorem State.doSelftestGo_mask {M : Nat} (hM : 256 &&& M = 256) (s : State) :
    (State.doSelftestGo s).mask M = s.mask M :=
  State.mask_mono hM (by
    unfold State.doSelftestGo
    simp only [apply_ite (State.mask 256), apply_ite Prod.snd, apply_ite Prod.fst, State.set_mask, Nat.reduceAnd, ite_self])

/-- `hkWatch` changes at most: hk. -/
theorem State.hkWatch_mask {M : Nat} (hM : 83076749736557242056487941267521536 &&& M = 83076749736557242056487941267521536) (s : State) :
    (State.hkWatch s).mask M = s.mask M :=
  State.mask_mono hM (by
    unfold State.hkWatch
    repeat' split
    all_goals simp only [State.upd116_mask, Nat.reduceAnd, ite_self])

/-- `ptStart` changes at most: out, evtSeen, fired, free, regs, hk. -/
theorem State.ptStart_mask {M : Nat} (hM : 83076749736557242056487941267521838 &&& M = 83076749736557242056487941267521838) (s : State) (n : Nat) :
    (State.ptStart s n).mask M = s.mask M :=
  State.mask_mono hM (by
    unfold State.ptStart
    simp only [apply_ite (State.mask 83076749736557242056487941267521838), apply_ite Prod.snd, apply_ite Prod.fst,
        State.emit_mask, State.fireFree_mask, State.upd116_mask, Nat.reduceAnd, ite_self])

/-- `ptStop` changes at most: out, hk. -/
theorem State.ptStop_mask {M : Nat} (hM : 83076749736557242056487941267521538 &&& M = 83076749736557242056487941267521538) (s : State) (n : Nat) :
    (State.ptStop s n).mask M = s.mask M :=
  State.mask_mono hM (by
    unfold State.ptStop
    repeat' split
    all_goals simp only [State.emit_mask, State.upd116_mask, Nat.reduceAnd, ite_self])

/-- `hkCatch` changes at most: out, evtSeen, fired, free, regs, hk. -/
theorem State.hkCatch_mask {M : Nat} (hM : 83076749736557242056487941267521838 &&& M = 83076749736557242056487941267521838) (s0 : State) (s : State) :
    (State.hkCatch s0 s).mask M = s.mask M :=
  State.mask_mono hM (by
    unfold State.hkCatch
    repeat' (first
      | with_reducible rfl
      | (simp only [apply_ite (State.mask 83076749736557242056487941267521838), apply_ite Prod.snd, apply_ite Prod.fst,
          State.hkWatch_mask, State.ptStart_mask, State.ptStop_mask, State.set_mask, forEach_mask, State.upd116_mask,
          Nat.reduceAnd, ite_self]; done)
      | with_reducible refine (forEach_mask (by decide) _ _ _ (fun t a => ?_)).trans ?_
      | split
      | (simp only [apply_ite (State.mask 83076749736557242056487941267521838), apply_ite Prod.snd, apply_ite Prod.fst,
          State.hkWatch_mask, State.ptStart_mask, State.ptStop_mask, State.set_mask, State.upd116_mask, Nat.reduceAnd, ite_self])))

/-- `entryStart` changes at most: hk. -/
theorem State.entryStart_mask {M : Nat} (hM : 83076749736557242056487941267521536 &&& M = 83076749736557242056487941267521536) (s : State) (inj : Bool) (i : Nat) :
    (State.entryStart s inj i).mask M = s.mask M :=
  State.mask_mono hM (by
    unfold State.entryStart
    simp only [State.hkWatch_mask, State.upd116_mask, Nat.reduceAnd, ite_self])

/-- `seqStart` changes at most: hk. -/
theorem State.seqStart_mask {M : Nat} (hM : 83076749736557242056487941267521536 &&& M = 83076749736557242056487941267521536) (s : State) (inj : Bool) :
    (State.seqStart s inj).mask M = s.mask M :=
  State.mask_mono hM (by
    unfold State.seqStart
    simp only [apply_ite (State.mask 83076749736557242056487941267521536), apply_ite Prod.snd, apply_ite Prod.fst,
        State.entryStart_mask, State.upd116_mask, Nat.reduceAnd, ite_self])

/-- `testStart` changes at most: regs, hk. -/
theorem State.testStart_mask {M : Nat} (hM : 83076749736557242056487941267521792 &&& M = 83076749736557242056487941267521792) (s : State) :
    (State.testStart s).mask M = s.mask M :=
  State.mask_mono hM (by
    unfold State.testStart
    simp only [State.set_mask, State.upd116_mask, Nat.reduceAnd, ite_self])

/-- `afterInjected` changes at most: regs, hk. -/
theorem State.afterInjected_mask {M : Nat} (hM : 83076749736557242056487941267521792 &&& M = 83076749736557242056487941267521792) (s : State) :
    (State.afterInjected s).mask M = s.mask M :=
  State.mask_mono hM (by
    unfold State.afterInjected
    simp only [apply_ite (State.mask 83076749736557242056487941267521792), apply_ite Prod.snd, apply_ite Prod.fst,
        State.entryStart_mask, State.seqStart_mask, State.set_mask, State.testStart_mask, Nat.reduceAnd, ite_self])

/-- `excRestart` changes at most: regs, hk. -/
theorem State.excRestart_mask {M : Nat} (hM : 83076749736557242056487941267521792 &&& M = 83076749736557242056487941267521792) (s : State) (es : List Staged) :
    (State.excRestart s es).mask M = s.mask M :=
  State.mask_mono hM (by
    unfold State.excRestart
    repeat' (first
      | with_reducible rfl
      | (simp only [apply_ite (State.mask 83076749736557242056487941267521792), apply_ite Prod.snd, apply_ite Prod.fst,
          State.set_mask, forEach_mask, State.upd116_mask, Nat.reduceAnd, ite_self]; done)
      | with_reducible refine (forEach_mask (by decide) _ _ _ (fun t a => ?_)).trans ?_
      | split
      | (simp only [apply_ite (State.mask 83076749736557242056487941267521792), apply_ite Prod.snd, apply_ite Prod.fst,
          State.set_mask, State.upd116_mask, Nat.reduceAnd, ite_self])))

/-- `hkRefused` changes at most: evtSeen, regs. -/
theorem State.hkRefused_mask {M : Nat} (hM : 260 &&& M = 260) (s : State) (cause : Nat) :
    (State.hkRefused s cause).mask M = s.mask M :=
  State.mask_mono hM (by
    unfold State.hkRefused
    simp only [State.fault_mask, State.raise_mask, State.set_mask, Nat.reduceAnd, ite_self])

/-- `hkcurveRefused` changes at most: evtSeen, regs. -/
theorem State.hkcurveRefused_mask {M : Nat} (hM : 260 &&& M = 260) (s : State) (slot : Nat) :
    (State.hkcurveRefused s slot).mask M = s.mask M :=
  State.mask_mono hM (by
    unfold State.hkcurveRefused
    simp only [State.fault_mask, State.raise_mask, Nat.reduceAnd, ite_self])

/-- `hkseqRefused` changes at most: evtSeen, free, regs. -/
theorem State.hkseqRefused_mask {M : Nat} (hM : 292 &&& M = 292) (s : State) :
    (State.hkseqRefused s).mask M = s.mask M :=
  State.mask_mono hM (by
    unfold State.hkseqRefused
    simp only [State.draw_mask, State.fault_mask, State.raise_mask, Nat.reduceAnd, ite_self])

/-- `excOne` changes at most: evtSeen, regs, hk. -/
theorem State.excOne_mask {M : Nat} (hM : 83076749736557242056487941267521796 &&& M = 83076749736557242056487941267521796) (s : State) (k : Nat) (i : Nat) :
    (State.excOne s k i).mask M = s.mask M :=
  State.mask_mono hM (by
    unfold State.excOne
    simp only [apply_ite (State.mask 83076749736557242056487941267521796), apply_ite Prod.snd, apply_ite Prod.fst,
        State.fault_mask, State.raise_mask, State.set_mask, State.upd116_mask, Nat.reduceAnd, ite_self])

/-- `doExcSample` changes at most: evtSeen, regs, hk. -/
theorem State.doExcSample_mask {M : Nat} (hM : 83076749736557242056487941267521796 &&& M = 83076749736557242056487941267521796) (s : State) (i0 : Nat) (i1 : Nat) (i2 : Nat) (i3 : Nat) :
    (State.doExcSample s i0 i1 i2 i3).mask M = s.mask M :=
  State.mask_mono hM (by
    unfold State.doExcSample
    simp only [apply_ite (State.mask 83076749736557242056487941267521796), apply_ite Prod.snd, apply_ite Prod.fst,
        State.excOne_mask, State.hkWatch_mask, Nat.reduceAnd, ite_self])

/-- `hkAbort` changes at most: evtSeen, regs. -/
theorem State.hkAbort_mask {M : Nat} (hM : 260 &&& M = 260) (s : State) :
    (State.hkAbort s).mask M = s.mask M :=
  State.mask_mono hM (by
    unfold State.hkAbort
    simp only [State.count_mask, State.raise_mask, Nat.reduceAnd, ite_self])

/-- `injectedDue` changes at most: evtSeen, regs, hk. -/
theorem State.injectedDue_mask {M : Nat} (hM : 83076749736557242056487941267521796 &&& M = 83076749736557242056487941267521796) (s : State) :
    (State.injectedDue s).mask M = s.mask M :=
  State.mask_mono hM (by
    unfold State.injectedDue
    simp only [apply_ite (State.mask 83076749736557242056487941267521796), apply_ite Prod.snd, apply_ite Prod.fst,
        State.hkAbort_mask, State.seqStart_mask, State.set_mask, State.upd116_mask, Nat.reduceAnd, ite_self])

/-- `regularDue` changes at most: hk. -/
theorem State.regularDue_mask {M : Nat} (hM : 83076749736557242056487941267521536 &&& M = 83076749736557242056487941267521536) (s : State) :
    (State.regularDue s).mask M = s.mask M :=
  State.mask_mono hM (by
    unfold State.regularDue
    simp only [apply_ite (State.mask 83076749736557242056487941267521536), apply_ite Prod.snd, apply_ite Prod.fst,
        State.seqStart_mask, State.upd116_mask, Nat.reduceAnd, ite_self])

/-- `doHkDelayEnd` changes at most: evtSeen, regs, hk. -/
theorem State.doHkDelayEnd_mask {M : Nat} (hM : 83076749736557242056487941267521796 &&& M = 83076749736557242056487941267521796) (s : State) (q : HkSeq) :
    (State.doHkDelayEnd s q).mask M = s.mask M :=
  State.mask_mono hM (by
    unfold State.doHkDelayEnd
    repeat' split
    all_goals simp only [State.injectedDue_mask, State.regularDue_mask, Nat.reduceAnd, ite_self])

/-- `evaluated` changes at most: free. -/
theorem State.evaluated_mask {M : Nat} (hM : 32 &&& M = 32) (s : State) (floor : Int) (exact_ : Bool) (tol : Nat) :
    (State.evaluated s floor exact_ tol).2.mask M = s.mask M :=
  State.mask_mono hM (by
    unfold State.evaluated
    simp only [apply_ite (State.mask 32), apply_ite Prod.snd, apply_ite Prod.fst, State.draw_mask, Nat.reduceAnd, ite_self])

/-- `hkValue` changes at most: evtSeen, free, regs. -/
theorem State.hkValue_mask {M : Nat} (hM : 292 &&& M = 292) (s : State) (e : HkEntry) (codes : List Int) (cj : Int) :
    (State.hkValue s e codes cj).2.2.mask M = s.mask M :=
  State.mask_mono hM (by
    unfold State.hkValue
    simp only [apply_ite (State.mask 292), apply_ite Prod.snd, apply_ite Prod.fst, State.count_mask, State.evaluated_mask,
        State.raise_mask, Nat.reduceAnd, ite_self]
    repeat' split
    all_goals (try simp only [apply_ite (State.mask 292), apply_ite Prod.snd, apply_ite Prod.fst, State.count_mask,
        State.evaluated_mask, State.raise_mask, Nat.reduceAnd, ite_self]))

/-- `seqEnd` changes at most: evtSeen, fired, free, regs, hk. -/
theorem State.seqEnd_mask {M : Nat} (hM : 83076749736557242056487941267521836 &&& M = 83076749736557242056487941267521836) (s : State) (inj : Bool) :
    (State.seqEnd s inj).mask M = s.mask M :=
  State.mask_mono hM (by
    unfold State.seqEnd
    simp only [apply_ite (State.mask 83076749736557242056487941267521836), apply_ite Prod.snd, apply_ite Prod.fst,
        State.afterInjected_mask, State.fireFree_mask, State.raise_mask, State.seqStart_mask, State.set_mask,
        State.testStart_mask, State.upd116_mask, Nat.reduceAnd, ite_self])

/-- `writeResult` changes at most: evtSeen, fired, free, regs. -/
theorem State.writeResult_mask {M : Nat} (hM : 300 &&& M = 300) (s : State) (e : HkEntry) (v : Int) (flags : Nat) :
    (State.writeResult s e v flags).mask M = s.mask M :=
  State.mask_mono hM (by
    unfold State.writeResult
    simp only [apply_ite (State.mask 300), apply_ite Prod.snd, apply_ite Prod.fst, State.fireFree_mask, State.raise_mask,
        State.set_mask, State.setb_mask, State.seti_mask, Nat.reduceAnd, ite_self])

/-- `doHkEntryDone` changes at most: evtSeen, fired, free, regs, hk. -/
theorem State.doHkEntryDone_mask {M : Nat} (hM : 83076749736557242056487941267521836 &&& M = 83076749736557242056487941267521836) (s : State) (codes : List Int) (cj : Int) :
    (State.doHkEntryDone s codes cj).mask M = s.mask M :=
  State.mask_mono hM (by
    unfold State.doHkEntryDone
    simp only [apply_ite (State.mask 83076749736557242056487941267521836), apply_ite Prod.snd, apply_ite Prod.fst,
        State.countW_mask, State.entryStart_mask, State.hkValue_mask, State.hkWatch_mask, State.seqEnd_mask,
        State.writeResult_mask, Nat.reduceAnd, ite_self]
    repeat' split
    all_goals (try simp only [apply_ite (State.mask 83076749736557242056487941267521836), apply_ite Prod.snd, apply_ite Prod.fst,
        State.countW_mask, State.entryStart_mask, State.hkValue_mask, State.hkWatch_mask, State.seqEnd_mask,
        State.writeResult_mask, Nat.reduceAnd, ite_self]))

/-- `doHkTestDone` changes at most: evtSeen, regs, hk. -/
theorem State.doHkTestDone_mask {M : Nat} (hM : 83076749736557242056487941267521796 &&& M = 83076749736557242056487941267521796) (s : State) (ofs1 : Int) (ofs128 : Int) (gain1 : Int) (gain2 : Int) :
    (State.doHkTestDone s ofs1 ofs128 gain1 gain2).mask M = s.mask M :=
  State.mask_mono hM (by
    unfold State.doHkTestDone
    simp only [apply_ite (State.mask 83076749736557242056487941267521796), apply_ite Prod.snd, apply_ite Prod.fst,
        State.countW_mask, State.fault_mask, State.raise_mask, State.seqStart_mask, State.set_mask, State.setb_mask,
        State.seti_mask, Nat.reduceAnd, ite_self])

/-- `doHkTestStart` changes at most: regs, hk. -/
theorem State.doHkTestStart_mask {M : Nat} (hM : 83076749736557242056487941267521792 &&& M = 83076749736557242056487941267521792) (s : State) :
    (State.doHkTestStart s).mask M = s.mask M :=
  State.mask_mono hM (by
    unfold State.doHkTestStart
    simp only [apply_ite (State.mask 83076749736557242056487941267521792), apply_ite Prod.snd, apply_ite Prod.fst,
        State.testStart_mask, Nat.reduceAnd, ite_self])

/-- `doPtPeriod` changes at most: out, evtSeen, fired, free, regs, hk. -/
theorem State.doPtPeriod_mask {M : Nat} (hM : 83076749736557242056487941267521838 &&& M = 83076749736557242056487941267521838) (s : State) (n : Nat) :
    (State.doPtPeriod s n).mask M = s.mask M :=
  State.mask_mono hM (by
    unfold State.doPtPeriod
    simp only [apply_ite (State.mask 83076749736557242056487941267521838), apply_ite Prod.snd, apply_ite Prod.fst,
        State.ptStart_mask, Nat.reduceAnd, ite_self])

/-- `hkSource` changes at most: evtSeen, regs, hk. -/
theorem State.hkSource_mask {M : Nat} (hM : 83076749736557242056487941267521796 &&& M = 83076749736557242056487941267521796) (s : State) (src : Nat) (n : Nat) :
    (State.hkSource s src n).mask M = s.mask M :=
  State.mask_mono hM (by
    unfold State.hkSource
    simp only [apply_ite (State.mask 83076749736557242056487941267521796), apply_ite Prod.snd, apply_ite Prod.fst,
        State.hkTrigger_mask, Nat.reduceAnd, ite_self])

end Sys2Proof.Machine
end

