-- ==== Sys2Proof/Laws/MaskLane.lean ====
section
/-! SUPPORT. What the operations of Machine/Lane.lean can change (see Laws/Mask.lean): one lemma for each. -/

set_option linter.unusedSimpArgs false
set_option maxRecDepth 2000

namespace Sys2Proof.Machine

/-- `esGo` changes at most: regs, es. -/
theorem State.esGo_mask {M : Nat} (hM : 19807040628566084398385987840 &&& M = 19807040628566084398385987840) (s : State) (x : Xcvr) (d : Word) :
    (State.esGo s x d).mask M = s.mask M :=
  State.mask_mono hM (by
    unfold State.esGo
    simp only [apply_ite (State.mask 19807040628566084398385987840), apply_ite Prod.snd, apply_ite Prod.fst, State.set_mask,
        State.upd94_mask, Nat.reduceAnd, ite_self])

/-- `laneOn` changes at most: regs, laneFrom, txRd. -/
theorem State.laneOn_mask {M : Nat} (hM : 29014219670751100192948480 &&& M = 29014219670751100192948480) (s : State) (n : Nat) :
    (State.laneOn s n).mask M = s.mask M :=
  State.mask_mono hM (by
    unfold State.laneOn
    simp only [State.codeStart_mask, State.setPstate_mask, State.upd83_mask, Nat.reduceAnd, ite_self])

/-- `paceTested` changes at most: pace. -/
theorem State.paceTested_mask {M : Nat} (hM : 16777216 &&& M = 16777216) (s : State) (x : Xcvr) (on : Bool) :
    (State.paceTested s x on).mask M = s.mask M :=
  State.mask_mono hM (by
    unfold State.paceTested
    repeat' split
    all_goals simp only [State.updGap_mask, Nat.reduceAnd, ite_self])

/-- `testHold` changes at most: evtSeen, regs. -/
theorem State.testHold_mask {M : Nat} (hM : 260 &&& M = 260) (s : State) (x : Xcvr) :
    (State.testHold s x).mask M = s.mask M :=
  State.mask_mono hM (by
    unfold State.testHold
    simp only [apply_ite (State.mask 260), apply_ite Prod.snd, apply_ite Prod.fst, State.raise_mask, State.set_mask,
        Nat.reduceAnd, ite_self])

/-- `testOff` changes at most: regs, prbs, checks. -/
theorem State.testOff_mask {M : Nat} (hM : 1856910058928070412348686592 &&& M = 1856910058928070412348686592) (s : State) (xb : Nat) :
    (State.testOff s xb).mask M = s.mask M :=
  State.mask_mono hM (by
    unfold State.testOff
    simp only [State.set_mask, State.upd89_mask, State.upd89_90_mask, Nat.reduceAnd, ite_self])

/-- `testOn` changes at most: free, regs, prbs, checks. -/
theorem State.testOn_mask {M : Nat} (hM : 1856910058928070412348686624 &&& M = 1856910058928070412348686624) (s : State) (xb : Nat) :
    (State.testOn s xb).mask M = s.mask M :=
  State.mask_mono hM (by
    unfold State.testOn
    simp only [State.prbsStart_mask, State.set_mask, State.setChecker_mask, Nat.reduceAnd, ite_self])

/-- `testCatch` changes at most: evtSeen, free, regs, clk, pace, tests, laneFrom, txRd, prbs, checks. -/
theorem State.testCatch_mask {M : Nat} (hM : 1890759981877280029261431076 &&& M = 1890759981877280029261431076) (s : State) (x : Xcvr) :
    (State.testCatch s x).mask M = s.mask M :=
  State.mask_mono hM (by
    unfold State.testCatch
    repeat' split
    all_goals (try simp only [apply_ite (State.mask 1890759981877280029261431076), apply_ite Prod.snd, apply_ite Prod.fst,
        State.codeStart_mask, State.laneOn_mask, State.paceTested_mask, State.set_mask, State.setPstate_mask,
        State.testHold_mask, State.testOff_mask, State.testOn_mask, State.unready_mask, State.upd82_mask, Nat.reduceAnd, ite_self]))

/-- `laneCatch` changes at most: evtSeen, free, regs, clk, time, pace, tests, laneFrom, txRd, prbs, checks, loopFrom. -/
theorem State.laneCatch_mask {M : Nat} (hM : 6842520139018801128866316580 &&& M = 6842520139018801128866316580) (s0 : State) (s : State) :
    (State.laneCatch s0 s).mask M = s.mask M :=
  State.mask_mono hM (by
    unfold State.laneCatch
    repeat' (first
      | with_reducible rfl
      | (simp only [apply_ite (State.mask 6842520139018801128866316580), apply_ite Prod.snd, apply_ite Prod.fst,
          State.endOutage_mask, State.prbsStart_mask, State.testCatch_mask, forEach_mask, State.upd92_mask, Nat.reduceAnd,
          ite_self]; done)
      | with_reducible refine (forEach_mask (by decide) _ _ _ (fun t a => ?_)).trans ?_
      | split
      | (simp only [apply_ite (State.mask 6842520139018801128866316580), apply_ite Prod.snd, apply_ite Prod.fst,
          State.endOutage_mask, State.prbsStart_mask, State.testCatch_mask, State.upd92_mask, Nat.reduceAnd, ite_self])))

/-- `laneOff` changes at most: regs, prbs, checks, es. -/
theorem State.laneOff_mask {M : Nat} (hM : 21663950687494154810734674176 &&& M = 21663950687494154810734674176) (s : State) (n : Nat) :
    (State.laneOff s n).mask M = s.mask M :=
  State.mask_mono hM (by
    unfold State.laneOff
    simp only [State.rxOff_mask, State.set_mask, State.setPstate_mask, State.testOff_mask, Nat.reduceAnd, ite_self])

/-- `laneSwitch` changes at most: regs, laneFrom, txRd, prbs, checks, txOff, es. -/
theorem State.laneSwitch_mask {M : Nat} (hM : 24168844985735666460725870848 &&& M = 24168844985735666460725870848) (s : State) :
    (State.laneSwitch s).mask M = s.mask M :=
  State.mask_mono hM (by
    unfold State.laneSwitch
    repeat' (first
      | with_reducible rfl
      | (simp only [apply_ite (State.mask 24168844985735666460725870848), apply_ite Prod.snd, apply_ite Prod.fst,
          State.laneOff_mask, State.laneOn_mask, forEach_mask, State.upd91_mask, Nat.reduceAnd, ite_self]; done)
      | with_reducible refine (forEach_mask (by decide) _ _ _ (fun t a => ?_)).trans ?_
      | split
      | (simp only [apply_ite (State.mask 24168844985735666460725870848), apply_ite Prod.snd, apply_ite Prod.fst,
          State.laneOff_mask, State.laneOn_mask, State.upd91_mask, Nat.reduceAnd, ite_self])))

/-- `sigTurn` changes at most: sig, sigRun, sigDone. -/
theorem State.sigTurn_mask {M : Nat} (hM : 277298568799925181577403826176 &&& M = 277298568799925181577403826176) (s : State) (l : PaceLane) :
    (State.sigTurn s l).mask M = s.mask M :=
  State.mask_mono hM (by
    unfold State.sigTurn
    simp only [apply_ite (State.mask 277298568799925181577403826176), apply_ite Prod.snd, apply_ite Prod.fst, State.upd95_mask,
        State.upd95_96_mask, State.upd95_96_97_mask, State.upd96_mask, Nat.reduceAnd, ite_self]
    repeat' split
    all_goals (try simp only [apply_ite (State.mask 277298568799925181577403826176), apply_ite Prod.snd, apply_ite Prod.fst,
        State.upd95_mask, State.upd95_96_mask, State.upd95_96_97_mask, State.upd96_mask, Nat.reduceAnd, ite_self]))

/-- `sigCatch` changes at most: regs, sig, sigRun, sigDone. -/
theorem State.sigCatch_mask {M : Nat} (hM : 277298568799925181577403826432 &&& M = 277298568799925181577403826432) (s : State) (last : BitVec 64) :
    (State.sigCatch s last).mask M = s.mask M :=
  State.mask_mono hM (by
    unfold State.sigCatch
    repeat' (first
      | with_reducible rfl
      | (simp only [apply_ite (State.mask 277298568799925181577403826432), apply_ite Prod.snd, apply_ite Prod.fst,
          State.set_mask, State.sigTurn_mask, forEach_mask, State.upd95_mask, Nat.reduceAnd, ite_self]; done)
      | with_reducible refine (forEach_mask (by decide) _ _ _ (fun t a => ?_)).trans ?_
      | split
      | (simp only [apply_ite (State.mask 277298568799925181577403826432), apply_ite Prod.snd, apply_ite Prod.fst,
          State.set_mask, State.sigTurn_mask, State.upd95_mask, Nat.reduceAnd, ite_self])))

/-- `doBurst` changes at most: regs, laneFrom, txRd, loopFrom. -/
theorem State.doBurst_mask {M : Nat} (hM : 4980774376812272199789445376 &&& M = 4980774376812272199789445376) (s : State) (n : Nat) :
    (State.doBurst s n).mask M = s.mask M :=
  State.mask_mono hM (by
    unfold State.doBurst
    simp only [apply_ite (State.mask 4980774376812272199789445376), apply_ite Prod.snd, apply_ite Prod.fst, State.codeStart_mask,
        State.setPstate_mask, State.upd83_mask, State.upd83_92_mask, Nat.reduceAnd, ite_self])

/-- `laneMoor` changes at most: regs, es. -/
theorem State.laneMoor_mask {M : Nat} (hM : 19807040628566084398385987840 &&& M = 19807040628566084398385987840) (s : State) :
    (State.laneMoor s).mask M = s.mask M :=
  State.mask_mono hM (by
    unfold State.laneMoor
    repeat' (first
      | with_reducible rfl
      | (simp only [apply_ite (State.mask 19807040628566084398385987840), apply_ite Prod.snd, apply_ite Prod.fst,
          State.rxOff_mask, State.setPstate_mask, forEach_mask, Nat.reduceAnd, ite_self]; done)
      | with_reducible refine (forEach_mask (by decide) _ _ _ (fun t a => ?_)).trans ?_
      | split
      | (simp only [apply_ite (State.mask 19807040628566084398385987840), apply_ite Prod.snd, apply_ite Prod.fst,
          State.rxOff_mask, State.setPstate_mask, Nat.reduceAnd, ite_self])))

/-- `laneWake` changes at most: regs, laneFrom, txRd. -/
theorem State.laneWake_mask {M : Nat} (hM : 29014219670751100192948480 &&& M = 29014219670751100192948480) (s : State) :
    (State.laneWake s).mask M = s.mask M :=
  State.mask_mono hM (by
    unfold State.laneWake
    repeat' (first
      | with_reducible rfl
      | (simp only [apply_ite (State.mask 29014219670751100192948480), apply_ite Prod.snd, apply_ite Prod.fst, State.laneOn_mask,
          forEach_mask, Nat.reduceAnd, ite_self]; done)
      | with_reducible refine (forEach_mask (by decide) _ _ _ (fun t a => ?_)).trans ?_
      | split
      | (simp only [apply_ite (State.mask 29014219670751100192948480), apply_ite Prod.snd, apply_ite Prod.fst, State.laneOn_mask,
          Nat.reduceAnd, ite_self])))

/-- `checkTick` changes at most: evtSeen, regs, checks. -/
theorem State.checkTick_mask {M : Nat} (hM : 1237940039285380274899124484 &&& M = 1237940039285380274899124484) (s : State) (x : Xcvr) (gs : List (BitVec 10)) :
    (State.checkTick s x gs).mask M = s.mask M :=
  State.mask_mono hM (by
    unfold State.checkTick
    simp only [State.countBy_mask, State.set_mask, State.setChecker_mask, Nat.reduceAnd, ite_self])

/-- `codeErrors` changes at most: evtSeen, regs, rxErr. -/
theorem State.codeErrors_mask {M : Nat} (hM : 77371252455336267181195524 &&& M = 77371252455336267181195524) (s : State) (x : Xcvr) (k : Nat) :
    (State.codeErrors s x k).mask M = s.mask M :=
  State.mask_mono hM (by
    unfold State.codeErrors
    repeat' split
    all_goals simp only [State.countBy_mask, State.healthFaults_mask, State.upd86_mask, Nat.reduceAnd, ite_self])

/-- `commaTick` changes at most: evtSeen, regs, pace. -/
theorem State.commaTick_mask {M : Nat} (hM : 16777476 &&& M = 16777476) (s : State) (l : PaceLane) (ys : List LineSym) :
    (State.commaTick s l ys).mask M = s.mask M :=
  State.mask_mono hM (by
    unfold State.commaTick
    simp only [apply_ite (State.mask 16777476), apply_ite Prod.snd, apply_ite Prod.fst, State.count_mask, State.upd24_mask,
        Nat.reduceAnd, ite_self])

/-- `doChkLock` changes at most: evtSeen, regs, checks. -/
theorem State.doChkLock_mask {M : Nat} (hM : 1237940039285380274899124484 &&& M = 1237940039285380274899124484) (s : State) (x : Xcvr) :
    (State.doChkLock s x).mask M = s.mask M :=
  State.mask_mono hM (by
    unfold State.doChkLock
    simp only [apply_ite (State.mask 1237940039285380274899124484), apply_ite Prod.snd, apply_ite Prod.fst, State.raise_mask,
        State.set_mask, State.setChecker_mask, Nat.reduceAnd, ite_self])

/-- `doChkLost` changes at most: evtSeen, regs, checks, es. -/
theorem State.doChkLost_mask {M : Nat} (hM : 21044980667851464673285112068 &&& M = 21044980667851464673285112068) (s : State) (x : Xcvr) :
    (State.doChkLost s x).mask M = s.mask M :=
  State.mask_mono hM (by
    unfold State.doChkLost
    simp only [apply_ite (State.mask 21044980667851464673285112068), apply_ite Prod.snd, apply_ite Prod.fst, State.esAbort_mask,
        State.raise_mask, State.set_mask, State.setChecker_mask, Nat.reduceAnd, ite_self])

/-- `sigAdd` changes at most: sig. -/
theorem State.sigAdd_mask {M : Nat} (hM : 39614081257132168796771975168 &&& M = 39614081257132168796771975168) (s : State) (k : Nat) (ys : List LineSym) :
    (State.sigAdd s k ys).mask M = s.mask M :=
  State.mask_mono hM (by
    unfold State.sigAdd
    simp only [State.upd95_mask, Nat.reduceAnd, ite_self])

/-- `receive` changes at most: evtSeen, regs, pace, rxRd, rxErr, rxTail, sig. -/
theorem State.receive_mask {M : Nat} (hM : 40039623145636518266285326596 &&& M = 40039623145636518266285326596) (s : State) (x : Xcvr) (gs : List (BitVec 10)) :
    (State.receive s x gs).2.mask M = s.mask M :=
  State.mask_mono hM (by
    unfold State.receive
    repeat' split
    all_goals (try simp only [apply_ite (State.mask 40039623145636518266285326596), apply_ite Prod.snd, apply_ite Prod.fst,
        State.codeErrors_mask, State.commaTick_mask, State.setRxDisp_mask, State.sigAdd_mask, State.upd88_mask, Nat.reduceAnd,
        ite_self]))

/-- `transmit` changes at most: out, txRd, sig. -/
theorem State.transmit_mask {M : Nat} (hM : 39633424070246002863567273986 &&& M = 39633424070246002863567273986) (s : State) (x : Xcvr) (ys : List LineSym) :
    (State.transmit s x ys).mask M = s.mask M :=
  State.mask_mono hM (by
    unfold State.transmit
    simp only [apply_ite (State.mask 39633424070246002863567273986), apply_ite Prod.snd, apply_ite Prod.fst, State.sendSyms_mask,
        State.sigAdd_mask, Nat.reduceAnd, ite_self])

/-- `patternTick` changes at most: out, prbs. -/
theorem State.patternTick_mask {M : Nat} (hM : 618970019642690137449562114 &&& M = 618970019642690137449562114) (s : State) (x : Xcvr) :
    (State.patternTick s x).2.mask M = s.mask M :=
  State.mask_mono hM (by
    unfold State.patternTick
    simp only [State.emit_mask, State.upd89_mask, Nat.reduceAnd, ite_self])

/-- `testTick` changes at most: out, evtSeen, regs, prbs, checks. -/
theorem State.testTick_mask {M : Nat} (hM : 1856910058928070412348686598 &&& M = 1856910058928070412348686598) (s : State) (x : Xcvr) (ts : List LaneTraffic) :
    (State.testTick s x ts).mask M = s.mask M :=
  State.mask_mono hM (by
    unfold State.testTick
    simp only [State.checkTick_mask, State.patternTick_mask, Nat.reduceAnd, ite_self])

/-- `testsTick` changes at most: out, evtSeen, regs, prbs, checks. -/
theorem State.testsTick_mask {M : Nat} (hM : 1856910058928070412348686598 &&& M = 1856910058928070412348686598) (s : State) (ts : List LaneTraffic) :
    (State.testsTick s ts).mask M = s.mask M :=
  State.mask_mono hM (by
    unfold State.testsTick
    repeat' (first
      | with_reducible rfl
      | (simp only [apply_ite (State.mask 1856910058928070412348686598), apply_ite Prod.snd, apply_ite Prod.fst,
          State.testTick_mask, forEach_mask, Nat.reduceAnd, ite_self]; done)
      | with_reducible refine (forEach_mask (by decide) _ _ _ (fun t a => ?_)).trans ?_
      | split
      | (simp only [apply_ite (State.mask 1856910058928070412348686598), apply_ite Prod.snd, apply_ite Prod.fst,
          State.testTick_mask, Nat.reduceAnd, ite_self])))

/-- `doEsDone` changes at most: evtSeen, regs, es. -/
theorem State.doEsDone_mask {M : Nat} (hM : 19807040628566084398385987844 &&& M = 19807040628566084398385987844) (s : State) (x : Xcvr) (err : Nat) :
    (State.doEsDone s x err).mask M = s.mask M :=
  State.mask_mono hM (by
    unfold State.doEsDone
    simp only [apply_ite (State.mask 19807040628566084398385987844), apply_ite Prod.snd, apply_ite Prod.fst, State.raise_mask,
        State.set_mask, State.upd94_mask, Nat.reduceAnd, ite_self]
    repeat' split
    all_goals (try simp only [apply_ite (State.mask 19807040628566084398385987844), apply_ite Prod.snd, apply_ite Prod.fst,
        State.raise_mask, State.set_mask, State.upd94_mask, Nat.reduceAnd, ite_self]))

/-- `doFeather` changes at most: evtSeen, regs. -/
theorem State.doFeather_mask {M : Nat} (hM : 260 &&& M = 260) (s : State) (n : Nat) :
    (State.doFeather s n).mask M = s.mask M :=
  State.mask_mono hM (by
    unfold State.doFeather
    simp only [apply_ite (State.mask 260), apply_ite Prod.snd, apply_ite Prod.fst, State.countW_mask, State.setPstate_mask,
        Nat.reduceAnd, ite_self])

/-- `rxLose` changes at most: evtSeen, regs, es. -/
theorem State.rxLose_mask {M : Nat} (hM : 19807040628566084398385987844 &&& M = 19807040628566084398385987844) (s : State) (x : Xcvr) (st : Nat) :
    (State.rxLose s x st).mask M = s.mask M :=
  State.mask_mono hM (by
    unfold State.rxLose
    repeat' split
    all_goals simp only [State.count_mask, State.esAbort_mask, State.fault_mask, State.raise_mask, State.set_mask, Nat.reduceAnd,
        ite_self])

/-- `doRxLost` changes at most: evtSeen, regs, es. -/
theorem State.doRxLost_mask {M : Nat} (hM : 19807040628566084398385987844 &&& M = 19807040628566084398385987844) (s : State) (x : Xcvr) (cause : DownCause) :
    (State.doRxLost s x cause).mask M = s.mask M :=
  State.mask_mono hM (by
    unfold State.doRxLost
    repeat' split
    all_goals simp only [State.rxLose_mask, Nat.reduceAnd, ite_self])

/-- `doLoopMismatch` changes at most: evtSeen, regs, loopTold. -/
theorem State.doLoopMismatch_mask {M : Nat} (hM : 9903520314283042199192994052 &&& M = 9903520314283042199192994052) (s : State) (x : Xcvr) :
    (State.doLoopMismatch s x).mask M = s.mask M :=
  State.mask_mono hM (by
    unfold State.doLoopMismatch
    repeat' split
    all_goals (try simp only [apply_ite (State.mask 9903520314283042199192994052), apply_ite Prod.snd, apply_ite Prod.fst,
        State.count_mask, State.fault_mask, State.raise_mask, State.upd93_mask, Nat.reduceAnd, ite_self]))

/-- `doRxAligned` changes at most: evtSeen, free, regs, rxRd. -/
theorem State.doRxAligned_mask {M : Nat} (hM : 38685626227668133590597924 &&& M = 38685626227668133590597924) (s : State) (x : Xcvr) (commas : Nat) :
    (State.doRxAligned s x commas).mask M = s.mask M :=
  State.mask_mono hM (by
    unfold State.doRxAligned
    simp only [apply_ite (State.mask 38685626227668133590597924), apply_ite Prod.snd, apply_ite Prod.fst, State.draw_mask,
        State.raise_mask, State.set_mask, State.setRxDisp_mask, Nat.reduceAnd, ite_self])

/-- `doSignalDetect` changes at most: regs. -/
theorem State.doSignalDetect_mask {M : Nat} (hM : 256 &&& M = 256) (s : State) (x : Xcvr) :
    (State.doSignalDetect s x).mask M = s.mask M :=
  State.mask_mono hM (by
    unfold State.doSignalDetect
    simp only [apply_ite (State.mask 256), apply_ite Prod.snd, apply_ite Prod.fst, State.set_mask, Nat.reduceAnd, ite_self])

/-- `doSignalLost` changes at most: regs. -/
theorem State.doSignalLost_mask {M : Nat} (hM : 256 &&& M = 256) (s : State) (x : Xcvr) :
    (State.doSignalLost s x).mask M = s.mask M :=
  State.mask_mono hM (by
    unfold State.doSignalLost
    simp only [apply_ite (State.mask 256), apply_ite Prod.snd, apply_ite Prod.fst, State.set_mask, Nat.reduceAnd, ite_self])

/-- `doTxPhase` changes at most: evtSeen, regs, txOff. -/
theorem State.doTxPhase_mask {M : Nat} (hM : 2475880078570760549798248708 &&& M = 2475880078570760549798248708) (s : State) (x : Xcvr) :
    (State.doTxPhase s x).mask M = s.mask M :=
  State.mask_mono hM (by
    unfold State.doTxPhase
    repeat' split
    all_goals simp only [State.fault_mask, State.raise_mask, State.upd91_mask, Nat.reduceAnd, ite_self])

/-- `laneCodeError` changes at most: evtSeen, regs, rxErr, codeTold. -/
theorem State.laneCodeError_mask {M : Nat} (hM : 232113757366008801543586052 &&& M = 232113757366008801543586052) (s : State) (x : Xcvr) :
    (State.laneCodeError s x).mask M = s.mask M :=
  State.mask_mono hM (by
    unfold State.laneCodeError
    simp only [apply_ite (State.mask 232113757366008801543586052), apply_ite Prod.snd, apply_ite Prod.fst, State.codeErrors_mask,
        State.upd87_mask, Nat.reduceAnd, ite_self])

end Sys2Proof.Machine
end

