-- ==== Sys2Proof/Laws/MaskSat.lean ====
section
/-! SUPPORT. What the operations of Machine/Sat.lean can change (see Laws/Mask.lean): one lemma for each. -/

set_option linter.unusedSimpArgs false
set_option maxRecDepth 2000

namespace Sys2Proof.Machine

/-- `doShadowForget` changes at most: regs. -/
theorem State.doShadowForget_mask {M : Nat} (hM : 256 &&& M = 256) (s : State) (d : Word) :
    (State.doShadowForget s d).mask M = s.mask M :=
  State.mask_mono hM (by
    unfold State.doShadowForget
    simp only [apply_ite (State.mask 256), apply_ite Prod.snd, apply_ite Prod.fst, State.set_mask, Nat.reduceAnd, ite_self])

/-- `updSat` changes at most: sats. -/
theorem State.updSat_mask {M : Nat} (hM : 20769187434139310514121985316880384 &&& M = 20769187434139310514121985316880384) (s : State) (p : Nat) (f : SatPort → SatPort) :
    (State.updSat s p f).mask M = s.mask M :=
  State.mask_mono hM (by
    unfold State.updSat
    simp only [State.upd114_mask, Nat.reduceAnd, ite_self])

/-- `doShadowWrite` changes at most: evtSeen, regs, sats. -/
theorem State.doShadowWrite_mask {M : Nat} (hM : 20769187434139310514121985316880644 &&& M = 20769187434139310514121985316880644) (s : State) (d : Word) :
    (State.doShadowWrite s d).mask M = s.mask M :=
  State.mask_mono hM (by
    unfold State.doShadowWrite
    simp only [apply_ite (State.mask 20769187434139310514121985316880644), apply_ite Prod.snd, apply_ite Prod.fst,
        State.count_mask, State.raise_mask, State.set_mask, State.updSat_mask, Nat.reduceAnd, ite_self])

/-- `countGap` changes at most: evtSeen, regs. -/
theorem State.countGap_mask {M : Nat} (hM : 260 &&& M = 260) (s : State) (p : Nat) (a : Int) (b : Int) :
    (State.countGap s p a b).mask M = s.mask M :=
  State.mask_mono hM (by
    unfold State.countGap
    simp only [State.countBy_mask, State.set_mask, Nat.reduceAnd, ite_self])

/-- `markGap` changes at most: satGaps. -/
theorem State.markGap_mask {M : Nat} (hM : 2596148429267413814265248164610048 &&& M = 2596148429267413814265248164610048) (s : State) (p : Nat) (a : Int) (b : Int) :
    (State.markGap s p a b).mask M = s.mask M :=
  State.mask_mono hM (by
    unfold State.markGap
    simp only [State.upd111_mask, Nat.reduceAnd, ite_self])

/-- `enterRun` changes at most: evtSeen, regs, satGaps, satOut, sats. -/
theorem State.enterRun_mask {M : Nat} (hM : 28557632721941551956917729810710788 &&& M = 28557632721941551956917729810710788) (s : State) (p : Nat) :
    (State.enterRun s p).mask M = s.mask M :=
  State.mask_mono hM (by
    unfold State.enterRun
    repeat' split
    all_goals simp only [State.countGap_mask, State.markGap_mask, State.raise_mask, State.setPstate_mask, State.updSat_mask,
        State.upd112_mask, Nat.reduceAnd, ite_self])

/-- `dropItem` changes at most: sats. -/
theorem State.dropItem_mask {M : Nat} (hM : 20769187434139310514121985316880384 &&& M = 20769187434139310514121985316880384) (s : State) (p : Nat) :
    (State.dropItem s p).mask M = s.mask M :=
  State.mask_mono hM (by
    unfold State.dropItem
    simp only [State.updSat_mask, Nat.reduceAnd, ite_self])

/-- `satPartial` changes at most: evtSeen, regs. -/
theorem State.satPartial_mask {M : Nat} (hM : 260 &&& M = 260) (s : State) (p : Nat) :
    (State.satPartial s p).mask M = s.mask M :=
  State.mask_mono hM (by
    unfold State.satPartial
    simp only [State.count_mask, State.raise_mask, Nat.reduceAnd, ite_self])

/-- `leaveRun` changes at most: evtSeen, regs, satOut, sats. -/
theorem State.leaveRun_mask {M : Nat} (hM : 25961484292674138142652481646100740 &&& M = 25961484292674138142652481646100740) (s : State) (p : Nat) (partialItem : Bool) :
    (State.leaveRun s p partialItem).mask M = s.mask M :=
  State.mask_mono hM (by
    unfold State.leaveRun
    simp only [apply_ite (State.mask 25961484292674138142652481646100740), apply_ite Prod.snd, apply_ite Prod.fst,
        State.dropItem_mask, State.satPartial_mask, State.upd112_mask, Nat.reduceAnd, ite_self])

/-- `satDisable` changes at most: evtSeen, regs, es, satOut, sats. -/
theorem State.satDisable_mask {M : Nat} (hM : 25961504099714766708736880032088324 &&& M = 25961504099714766708736880032088324) (s : State) (p : Nat) :
    (State.satDisable s p).mask M = s.mask M :=
  State.mask_mono hM (by
    unfold State.satDisable
    simp only [State.dropItem_mask, State.leaveRun_mask, State.rxOff_mask, State.setPstate_mask, State.updSat_mask,
        Nat.reduceAnd, ite_self])

/-- `sendSync` changes at most: satFast, sats. -/
theorem State.sendSync_mask {M : Nat} (hM : 31153781151208965771182977975320576 &&& M = 31153781151208965771182977975320576) (s : State) (p : Nat) :
    (State.sendSync s p).mask M = s.mask M :=
  State.mask_mono hM (by
    unfold State.sendSync
    simp only [State.updSat_mask, State.upd113_mask, Nat.reduceAnd, ite_self])

/-- `satCatch` changes at most: evtSeen, regs, txRd, es, satGaps, satOut, satFast, sats. -/
theorem State.satCatch_mask {M : Nat} (hM : 38942246265394648893897187650437380 &&& M = 38942246265394648893897187650437380) (s : State) :
    (State.satCatch s).mask M = s.mask M :=
  State.mask_mono hM (by
    unfold State.satCatch
    repeat' (first
      | with_reducible rfl
      | (simp only [apply_ite (State.mask 38942246265394648893897187650437380), apply_ite Prod.snd, apply_ite Prod.fst,
          State.codeStart_mask, State.enterRun_mask, State.satDisable_mask, State.sendSync_mask, State.setPstate_mask,
          forEach_mask, Nat.reduceAnd, ite_self]; done)
      | with_reducible refine (forEach_mask (by decide) _ _ _ (fun t a => ?_)).trans ?_
      | split
      | (simp only [apply_ite (State.mask 38942246265394648893897187650437380), apply_ite Prod.snd, apply_ite Prod.fst,
          State.codeStart_mask, State.enterRun_mask, State.satDisable_mask, State.sendSync_mask, State.setPstate_mask,
          Nat.reduceAnd, ite_self])))

/-- `enterResync` changes at most: evtSeen, regs, sats. -/
theorem State.enterResync_mask {M : Nat} (hM : 20769187434139310514121985316880644 &&& M = 20769187434139310514121985316880644) (s : State) (p : Nat) :
    (State.enterResync s p).mask M = s.mask M :=
  State.mask_mono hM (by
    unfold State.enterResync
    simp only [State.count_mask, State.setPstate_mask, State.updSat_mask, Nat.reduceAnd, ite_self])

/-- `satResyncAll` changes at most: evtSeen, regs, satOut, satFast, sats. -/
theorem State.satResyncAll_mask {M : Nat} (hM : 36346078009743793399713474304540932 &&& M = 36346078009743793399713474304540932) (s : State) :
    (State.satResyncAll s).mask M = s.mask M :=
  State.mask_mono hM (by
    unfold State.satResyncAll
    repeat' (first
      | with_reducible rfl
      | (simp only [apply_ite (State.mask 36346078009743793399713474304540932), apply_ite Prod.snd, apply_ite Prod.fst,
          State.enterResync_mask, State.leaveRun_mask, State.sendSync_mask, forEach_mask, Nat.reduceAnd, ite_self]; done)
      | with_reducible refine (forEach_mask (by decide) _ _ _ (fun t a => ?_)).trans ?_
      | split
      | (simp only [apply_ite (State.mask 36346078009743793399713474304540932), apply_ite Prod.snd, apply_ite Prod.fst,
          State.enterResync_mask, State.leaveRun_mask, State.sendSync_mask, Nat.reduceAnd, ite_self])))

/-- `makeDirty` changes at most: sats. -/
theorem State.makeDirty_mask {M : Nat} (hM : 20769187434139310514121985316880384 &&& M = 20769187434139310514121985316880384) (s : State) (p : Nat) (a : Nat) :
    (State.makeDirty s p a).mask M = s.mask M :=
  State.mask_mono hM (by
    unfold State.makeDirty
    simp only [State.updSat_mask, Nat.reduceAnd, ite_self])

/-- `servoCell` changes at most: evtSeen, regs, sats. -/
theorem State.servoCell_mask {M : Nat} (hM : 20769187434139310514121985316880644 &&& M = 20769187434139310514121985316880644) (s : State) (p : Nat) (c : Nat) (n : Nat) :
    (State.servoCell s p c n).2.mask M = s.mask M :=
  State.mask_mono hM (by
    unfold State.servoCell
    simp only [apply_ite (State.mask 20769187434139310514121985316880644), apply_ite Prod.snd, apply_ite Prod.fst,
        State.count_mask, State.countW_mask, State.makeDirty_mask, State.raise_mask, State.updSat_mask, State.wr_mask,
        Nat.reduceAnd, ite_self])

/-- `servoPort` changes at most: evtSeen, regs, sats. -/
theorem State.servoPort_mask {M : Nat} (hM : 20769187434139310514121985316880644 &&& M = 20769187434139310514121985316880644) (s : State) (p : Nat) :
    (State.servoPort s p).mask M = s.mask M :=
  State.mask_mono hM (by
    have hc : ∀ (l : List Nat) (r : Nat × State),
        (l.foldl (fun (r : Nat × State) c => r.2.servoCell p c r.1) r).2.mask 20769187434139310514121985316880644 =
          r.2.mask 20769187434139310514121985316880644 := fun l r =>
      State.foldl_keep (fun r : Nat × State => r.2.mask 20769187434139310514121985316880644) _ l r
        (fun r c => by simp only [apply_ite (State.mask 20769187434139310514121985316880644), apply_ite Prod.snd,
            apply_ite Prod.fst, State.servoCell_mask, State.set_mask, State.upd8_mask, Nat.reduceAnd, ite_self])
    unfold State.servoPort
    simp only [hc, apply_ite (State.mask 20769187434139310514121985316880644), apply_ite Prod.snd, apply_ite Prod.fst,
        State.servoCell_mask, State.set_mask, State.upd8_mask, Nat.reduceAnd, ite_self])

/-- `satServo` changes at most: evtSeen, regs, sats. -/
theorem State.satServo_mask {M : Nat} (hM : 20769187434139310514121985316880644 &&& M = 20769187434139310514121985316880644) (s : State) :
    (State.satServo s).mask M = s.mask M :=
  State.mask_mono hM (by
    unfold State.satServo
    repeat' (first
      | with_reducible rfl
      | (simp only [apply_ite (State.mask 20769187434139310514121985316880644), apply_ite Prod.snd, apply_ite Prod.fst,
          State.servoPort_mask, forEach_mask, Nat.reduceAnd, ite_self]; done)
      | with_reducible refine (forEach_mask (by decide) _ _ _ (fun t a => ?_)).trans ?_
      | split
      | (simp only [apply_ite (State.mask 20769187434139310514121985316880644), apply_ite Prod.snd, apply_ite Prod.fst,
          State.servoPort_mask, Nat.reduceAnd, ite_self])))

/-- `frameError` changes at most: evtSeen, regs. -/
theorem State.frameError_mask {M : Nat} (hM : 260 &&& M = 260) (s : State) (p : Nat) :
    (State.frameError s p).mask M = s.mask M :=
  State.mask_mono hM (by
    unfold State.frameError
    simp only [State.count_mask, State.raise_mask, Nat.reduceAnd, ite_self])

/-- `badFrame` changes at most: evtSeen, regs. -/
theorem State.badFrame_mask {M : Nat} (hM : 260 &&& M = 260) (s : State) (p : Nat) :
    (State.badFrame s p).mask M = s.mask M :=
  State.mask_mono hM (by
    unfold State.badFrame
    simp only [State.frameError_mask, State.healthFault_mask, Nat.reduceAnd, ite_self])

/-- `blockDue` changes at most: sats. -/
theorem State.blockDue_mask {M : Nat} (hM : 20769187434139310514121985316880384 &&& M = 20769187434139310514121985316880384) (s : State) (p : Nat) (b : Nat) (next : Nat) :
    (State.blockDue s p b next).mask M = s.mask M :=
  State.mask_mono hM (by
    unfold State.blockDue
    simp only [State.updSat_mask, Nat.reduceAnd, ite_self])

/-- `configSend` changes at most: sats. -/
theorem State.configSend_mask {M : Nat} (hM : 20769187434139310514121985316880384 &&& M = 20769187434139310514121985316880384) (s : State) (p : Nat) (bytes : List Byte) :
    (State.configSend s p bytes).2.mask M = s.mask M :=
  State.mask_mono hM (by
    unfold State.configSend
    simp only [State.updSat_mask, Nat.reduceAnd, ite_self])

/-- `capRequest` changes at most: sats. -/
theorem State.capRequest_mask {M : Nat} (hM : 20769187434139310514121985316880384 &&& M = 20769187434139310514121985316880384) (s : State) (p : Nat) :
    (State.capRequest s p).mask M = s.mask M :=
  State.mask_mono hM (by
    unfold State.capRequest
    simp only [State.configSend_mask, State.updSat_mask, Nat.reduceAnd, ite_self])

/-- `satstatRefused` changes at most: evtSeen, regs. -/
theorem State.satstatRefused_mask {M : Nat} (hM : 260 &&& M = 260) (s : State) (cause : Nat) :
    (State.satstatRefused s cause).mask M = s.mask M :=
  State.mask_mono hM (by
    unfold State.satstatRefused
    simp only [State.fault_mask, State.raise_mask, Nat.reduceAnd, ite_self])

/-- `compareCell` changes at most: evtSeen, regs, sats. -/
theorem State.compareCell_mask {M : Nat} (hM : 20769187434139310514121985316880644 &&& M = 20769187434139310514121985316880644) (s : State) (p : Nat) (a : Nat) (v : BitVec 16) :
    (State.compareCell s p a v).mask M = s.mask M :=
  State.mask_mono hM (by
    unfold State.compareCell
    simp only [apply_ite (State.mask 20769187434139310514121985316880644), apply_ite Prod.snd, apply_ite Prod.fst,
        State.count_mask, State.fault_mask, State.healthFault_mask, State.makeDirty_mask, State.raise_mask, State.set_mask,
        State.updSat_mask, Nat.reduceAnd, ite_self])

/-- `shadowEcc` changes at most: evtSeen, free, regs. -/
theorem State.shadowEcc_mask {M : Nat} (hM : 292 &&& M = 292) (s : State) (p : Nat) (a : Nat) :
    (State.shadowEcc s p a).mask M = s.mask M :=
  State.mask_mono hM (by
    unfold State.shadowEcc
    simp only [State.count_mask, State.draw_mask, State.fault_mask, State.raise_mask, State.set_mask, Nat.reduceAnd, ite_self])

/-- `satItemError` changes at most: evtSeen, regs, satGaps. -/
theorem State.satItemError_mask {M : Nat} (hM : 2596148429267413814265248164610308 &&& M = 2596148429267413814265248164610308) (s : State) (p : Nat) (item : SatItem) :
    (State.satItemError s p item).mask M = s.mask M :=
  State.mask_mono hM (by
    unfold State.satItemError
    repeat' split
    all_goals (try simp only [apply_ite (State.mask 2596148429267413814265248164610308), apply_ite Prod.snd, apply_ite Prod.fst,
        State.badFrame_mask, State.countGap_mask, State.healthFault_mask, State.markGap_mask, State.satPartial_mask,
        Nat.reduceAnd, ite_self]))

/-- `satSymbol` changes at most: evtSeen, regs, satGaps, sats. -/
theorem State.satSymbol_mask {M : Nat} (hM : 23365335863406724328387233481490692 &&& M = 23365335863406724328387233481490692) (s : State) (p : Nat) (y : LineSym) :
    (State.satSymbol s p y).mask M = s.mask M :=
  State.mask_mono hM (by
    unfold State.satSymbol
    simp only [apply_ite (State.mask 23365335863406724328387233481490692), apply_ite Prod.snd, apply_ite Prod.fst,
        State.dropItem_mask, State.satItemError_mask, State.updSat_mask, Nat.reduceAnd, ite_self]
    repeat' split
    all_goals (try simp only [apply_ite (State.mask 23365335863406724328387233481490692), apply_ite Prod.snd, apply_ite Prod.fst,
        State.dropItem_mask, State.satItemError_mask, State.updSat_mask, Nat.reduceAnd, ite_self]))

/-- `satStream` changes at most: evtSeen, regs, satGaps, sats. -/
theorem State.satStream_mask {M : Nat} (hM : 23365335863406724328387233481490692 &&& M = 23365335863406724328387233481490692) (s : State) (p : Nat) (ys : List LineSym) :
    (State.satStream s p ys).mask M = s.mask M :=
  State.mask_mono hM (by
    unfold State.satStream
    repeat' (first
      | with_reducible rfl
      | (simp only [apply_ite (State.mask 23365335863406724328387233481490692), apply_ite Prod.snd, apply_ite Prod.fst,
          State.dropItem_mask, State.satSymbol_mask, State.updSat_mask, forEach_mask, Nat.reduceAnd, ite_self]; done)
      | with_reducible refine (forEach_mask (by decide) _ _ _ (fun t a => ?_)).trans ?_
      | split
      | (simp only [apply_ite (State.mask 23365335863406724328387233481490692), apply_ite Prod.snd, apply_ite Prod.fst,
          State.dropItem_mask, State.satSymbol_mask, State.updSat_mask, Nat.reduceAnd, ite_self])))

/-- `satFrameOut` changes at most: out, txRd, sig, sats. -/
theorem State.satFrameOut_mask {M : Nat} (hM : 20769227067563380760124848884154370 &&& M = 20769227067563380760124848884154370) (s : State) (p : Fin 16) :
    (State.satFrameOut s p).mask M = s.mask M :=
  State.mask_mono hM (by
    unfold State.satFrameOut
    simp only [apply_ite (State.mask 20769227067563380760124848884154370), apply_ite Prod.snd, apply_ite Prod.fst,
        State.emit_mask, State.transmit_mask, State.updSat_mask, Nat.reduceAnd, ite_self])

/-- `satTick` changes at most: out, txRd, sig, satHits, satGaps, satFast, sats. -/
theorem State.satTick_mask {M : Nat} (hM : 35048043428534156738583713789509634 &&& M = 35048043428534156738583713789509634) (s : State) :
    (State.satTick s).mask M = s.mask M :=
  State.mask_mono hM (by
    unfold State.satTick
    repeat' (first
      | with_reducible rfl
      | (simp only [apply_ite (State.mask 35048043428534156738583713789509634), apply_ite Prod.snd, apply_ite Prod.fst,
          State.satFrameOut_mask, forEach_mask, State.upd110_mask, State.upd110_111_mask, State.upd110_111_113_mask,
          Nat.reduceAnd, ite_self]; done)
      | with_reducible refine (forEach_mask (by decide) _ _ _ (fun t a => ?_)).trans ?_
      | split
      | (simp only [apply_ite (State.mask 35048043428534156738583713789509634), apply_ite Prod.snd, apply_ite Prod.fst,
          State.satFrameOut_mask, State.upd110_mask, State.upd110_111_mask, State.upd110_111_113_mask, Nat.reduceAnd, ite_self])))

/-- `doItemError` changes at most: evtSeen, regs, satGaps, sats. -/
theorem State.doItemError_mask {M : Nat} (hM : 23365335863406724328387233481490692 &&& M = 23365335863406724328387233481490692) (s : State) (p : Nat) (item : SatItem) :
    (State.doItemError s p item).mask M = s.mask M :=
  State.mask_mono hM (by
    unfold State.doItemError
    simp only [State.satItemError_mask, State.updSat_mask, Nat.reduceAnd, ite_self])

/-- `doSatAligned` changes at most: evtSeen, regs, sats. -/
theorem State.doSatAligned_mask {M : Nat} (hM : 20769187434139310514121985316880644 &&& M = 20769187434139310514121985316880644) (s : State) (p : Nat) :
    (State.doSatAligned s p).mask M = s.mask M :=
  State.mask_mono hM (by
    unfold State.doSatAligned
    simp only [apply_ite (State.mask 20769187434139310514121985316880644), apply_ite Prod.snd, apply_ite Prod.fst,
        State.capRequest_mask, State.raise_mask, State.setPstate_mask, Nat.reduceAnd, ite_self])

/-- `doSatCap` changes at most: evtSeen, regs, sats. -/
theorem State.doSatCap_mask {M : Nat} (hM : 20769187434139310514121985316880644 &&& M = 20769187434139310514121985316880644) (s : State) (p : Nat) (bytes : List Byte) :
    (State.doSatCap s p bytes).mask M = s.mask M :=
  State.mask_mono hM (by
    unfold State.doSatCap
    repeat' split
    all_goals (try simp only [apply_ite (State.mask 20769187434139310514121985316880644), apply_ite Prod.snd, apply_ite Prod.fst,
        State.badFrame_mask, State.enterResync_mask, State.frameError_mask, State.set_mask, State.updSat_mask, Nat.reduceAnd,
        ite_self]))

/-- `satTimeout` changes at most: evtSeen, regs, sats. -/
theorem State.satTimeout_mask {M : Nat} (hM : 20769187434139310514121985316880644 &&& M = 20769187434139310514121985316880644) (s : State) (p : Nat) (capOnly : Bool) :
    (State.satTimeout s p capOnly).mask M = s.mask M :=
  State.mask_mono hM (by
    unfold State.satTimeout
    repeat' split
    all_goals (try simp only [apply_ite (State.mask 20769187434139310514121985316880644), apply_ite Prod.snd, apply_ite Prod.fst,
        State.capRequest_mask, State.count_mask, State.raise_mask, State.updSat_mask, Nat.reduceAnd, ite_self]))

/-- `doSatCapRetry` changes at most: evtSeen, regs, sats. -/
theorem State.doSatCapRetry_mask {M : Nat} (hM : 20769187434139310514121985316880644 &&& M = 20769187434139310514121985316880644) (s : State) (p : Nat) :
    (State.doSatCapRetry s p).mask M = s.mask M :=
  State.mask_mono hM (by
    unfold State.doSatCapRetry
    simp only [State.satTimeout_mask, Nat.reduceAnd, ite_self])

/-- `sendWord` changes at most: sats. -/
theorem State.sendWord_mask {M : Nat} (hM : 20769187434139310514121985316880384 &&& M = 20769187434139310514121985316880384) (s : State) (p : Nat) (a : Nat) :
    (State.sendWord s p a).mask M = s.mask M :=
  State.mask_mono hM (by
    unfold State.sendWord
    simp only [State.configSend_mask, State.updSat_mask, Nat.reduceAnd, ite_self])

/-- `doSatConfigSend` changes at most: sats. -/
theorem State.doSatConfigSend_mask {M : Nat} (hM : 20769187434139310514121985316880384 &&& M = 20769187434139310514121985316880384) (s : State) (p : Nat) :
    (State.doSatConfigSend s p).mask M = s.mask M :=
  State.mask_mono hM (by
    unfold State.doSatConfigSend
    simp only [apply_ite (State.mask 20769187434139310514121985316880384), apply_ite Prod.snd, apply_ite Prod.fst,
        State.configSend_mask, State.sendWord_mask, State.updSat_mask, Nat.reduceAnd, ite_self]
    repeat' split
    all_goals (try simp only [apply_ite (State.mask 20769187434139310514121985316880384), apply_ite Prod.snd, apply_ite Prod.fst,
        State.configSend_mask, State.sendWord_mask, State.updSat_mask, Nat.reduceAnd, ite_self]))

/-- `doSatHit` changes at most: evtSeen, regs, satHits, sats. -/
theorem State.doSatHit_mask {M : Nat} (hM : 22067261648773017421254609399185668 &&& M = 22067261648773017421254609399185668) (s : State) (p : Nat) (b0 : Byte) (b1 : Byte) (b2 : Byte) (b3 : Byte) :
    (State.doSatHit s p b0 b1 b2 b3).mask M = s.mask M :=
  State.mask_mono hM (by
    unfold State.doSatHit
    simp only [apply_ite (State.mask 22067261648773017421254609399185668), apply_ite Prod.snd, apply_ite Prod.fst,
        State.count_mask, State.countW_mask, State.raise_mask, State.updSat_mask, State.upd110_mask, Nat.reduceAnd, ite_self])

/-- `doSatK285` changes at most: evtSeen, regs, satOut, sats. -/
theorem State.doSatK285_mask {M : Nat} (hM : 25961484292674138142652481646100740 &&& M = 25961484292674138142652481646100740) (s : State) (p : Nat) :
    (State.doSatK285 s p).mask M = s.mask M :=
  State.mask_mono hM (by
    unfold State.doSatK285
    simp only [apply_ite (State.mask 25961484292674138142652481646100740), apply_ite Prod.snd, apply_ite Prod.fst,
        State.enterResync_mask, State.fault_mask, State.leaveRun_mask, State.raise_mask, State.set_mask, State.updSat_mask,
        Nat.reduceAnd, ite_self])

/-- `doSatLinkDown` changes at most: evtSeen, regs, satOut, sats. -/
theorem State.doSatLinkDown_mask {M : Nat} (hM : 25961484292674138142652481646100740 &&& M = 25961484292674138142652481646100740) (s : State) (p : Nat) (cause : DownCause) (partialItem : Bool) :
    (State.doSatLinkDown s p cause partialItem).mask M = s.mask M :=
  State.mask_mono hM (by
    unfold State.doSatLinkDown
    simp only [apply_ite (State.mask 25961484292674138142652481646100740), apply_ite Prod.snd, apply_ite Prod.fst,
        State.fault_mask, State.leaveRun_mask, State.raise_mask, State.setPstate_mask, Nat.reduceAnd, ite_self])

/-- `doSatReadResp` changes at most: evtSeen, regs, sats. -/
theorem State.doSatReadResp_mask {M : Nat} (hM : 20769187434139310514121985316880644 &&& M = 20769187434139310514121985316880644) (s : State) (p : Nat) (bytes : List Byte) :
    (State.doSatReadResp s p bytes).mask M = s.mask M :=
  State.mask_mono hM (by
    unfold State.doSatReadResp
    repeat' (first
      | with_reducible rfl
      | (simp only [apply_ite (State.mask 20769187434139310514121985316880644), apply_ite Prod.snd, apply_ite Prod.fst,
          State.badFrame_mask, State.compareCell_mask, State.frameError_mask, State.updSat_mask, forEach_mask, Nat.reduceAnd,
          ite_self]; done)
      | with_reducible refine (forEach_mask (by decide) _ _ _ (fun t a => ?_)).trans ?_
      | split
      | (simp only [apply_ite (State.mask 20769187434139310514121985316880644), apply_ite Prod.snd, apply_ite Prod.fst,
          State.badFrame_mask, State.compareCell_mask, State.frameError_mask, State.updSat_mask, Nat.reduceAnd, ite_self])))

/-- `doSatRespTimeout` changes at most: evtSeen, regs, sats. -/
theorem State.doSatRespTimeout_mask {M : Nat} (hM : 20769187434139310514121985316880644 &&& M = 20769187434139310514121985316880644) (s : State) (p : Nat) :
    (State.doSatRespTimeout s p).mask M = s.mask M :=
  State.mask_mono hM (by
    unfold State.doSatRespTimeout
    simp only [State.satTimeout_mask, Nat.reduceAnd, ite_self])

/-- `doSatResyncRetry` changes at most: sats. -/
theorem State.doSatResyncRetry_mask {M : Nat} (hM : 20769187434139310514121985316880384 &&& M = 20769187434139310514121985316880384) (s : State) (p : Nat) :
    (State.doSatResyncRetry s p).mask M = s.mask M :=
  State.mask_mono hM (by
    unfold State.doSatResyncRetry
    repeat' split
    all_goals simp only [State.updSat_mask, Nat.reduceAnd, ite_self])

/-- `passDone` changes at most: evtSeen, regs, passTold. -/
theorem State.passDone_mask {M : Nat} (hM : 41538374868278621028243970633761028 &&& M = 41538374868278621028243970633761028) (s : State) (p : Nat) (st : Nat) :
    (State.passDone s p st).mask M = s.mask M :=
  State.mask_mono hM (by
    unfold State.passDone
    simp only [apply_ite (State.mask 41538374868278621028243970633761028), apply_ite Prod.snd, apply_ite Prod.fst,
        State.countW_mask, State.raise_mask, State.set_mask, State.upd115_mask, Nat.reduceAnd, ite_self])

/-- `doScrubDue` changes at most: evtSeen, regs, sats, passTold. -/
theorem State.doScrubDue_mask {M : Nat} (hM : 62307562302417931542365955950641412 &&& M = 62307562302417931542365955950641412) (s : State) (p : Nat) :
    (State.doScrubDue s p).mask M = s.mask M :=
  State.mask_mono hM (by
    unfold State.doScrubDue
    simp only [apply_ite (State.mask 62307562302417931542365955950641412), apply_ite Prod.snd, apply_ite Prod.fst,
        State.blockDue_mask, State.passDone_mask, State.updSat_mask, Nat.reduceAnd, ite_self]
    repeat' split
    all_goals (try simp only [apply_ite (State.mask 62307562302417931542365955950641412), apply_ite Prod.snd, apply_ite Prod.fst,
        State.blockDue_mask, State.passDone_mask, State.updSat_mask, Nat.reduceAnd, ite_self]))

/-- `satSignalSeen` changes at most: regs. -/
theorem State.satSignalSeen_mask {M : Nat} (hM : 256 &&& M = 256) (s : State) (p : Nat) :
    (State.satSignalSeen s p).mask M = s.mask M :=
  State.mask_mono hM (by
    unfold State.satSignalSeen
    simp only [apply_ite (State.mask 256), apply_ite Prod.snd, apply_ite Prod.fst, State.setPstate_mask, Nat.reduceAnd, ite_self])

end Sys2Proof.Machine
end

