-- ==== Sys2Proof/Laws/MaskLink.lean ====
section
/-! SUPPORT. What the operations of Machine/Link.lean can change (see Laws/Mask.lean): one lemma for each. -/

set_option linter.unusedSimpArgs false
set_option maxRecDepth 2000

namespace Sys2Proof.Machine

/-- `setLink` changes at most: links. -/
theorem State.setLink_mask {M : Nat} (hM : 1267650600228229401496703205376 &&& M = 1267650600228229401496703205376) (s : State) (n : Nat) (k : Link) :
    (State.setLink s n k).mask M = s.mask M :=
  State.mask_mono hM (by
    unfold State.setLink
    simp only [State.upd100_mask, Nat.reduceAnd, ite_self])

/-- `updLink` changes at most: links. -/
theorem State.updLink_mask {M : Nat} (hM : 1267650600228229401496703205376 &&& M = 1267650600228229401496703205376) (s : State) (n : Nat) (f : Link → Link) :
    (State.updLink s n f).mask M = s.mask M :=
  State.mask_mono hM (by
    unfold State.updLink
    simp only [State.setLink_mask, Nat.reduceAnd, ite_self])

/-- `setStall` changes at most: evtSeen, regs, links. -/
theorem State.setStall_mask {M : Nat} (hM : 1267650600228229401496703205636 &&& M = 1267650600228229401496703205636) (s : State) (n : Nat) (sizes : List Nat) :
    (State.setStall s n sizes).mask M = s.mask M :=
  State.mask_mono hM (by
    unfold State.setStall
    simp only [apply_ite (State.mask 1267650600228229401496703205636), apply_ite Prod.snd, apply_ite Prod.fst, State.raise_mask,
        State.set_mask, State.updLink_mask, Nat.reduceAnd, ite_self])

/-- `freeStall` changes at most: evtSeen, regs, links. -/
theorem State.freeStall_mask {M : Nat} (hM : 1267650600228229401496703205636 &&& M = 1267650600228229401496703205636) (s : State) (n : Nat) (wanted : Bool) :
    (State.freeStall s n wanted).mask M = s.mask M :=
  State.mask_mono hM (by
    unfold State.freeStall
    simp only [apply_ite (State.mask 1267650600228229401496703205636), apply_ite Prod.snd, apply_ite Prod.fst,
        State.setStall_mask, Nat.reduceAnd, ite_self])

/-- `joinStall` changes at most: evtSeen, regs, links. -/
theorem State.joinStall_mask {M : Nat} (hM : 1267650600228229401496703205636 &&& M = 1267650600228229401496703205636) (s : State) (n : Nat) (sizes : List Nat) :
    (State.joinStall s n sizes).mask M = s.mask M :=
  State.mask_mono hM (by
    unfold State.joinStall
    simp only [apply_ite (State.mask 1267650600228229401496703205636), apply_ite Prod.snd, apply_ite Prod.fst,
        State.setStall_mask, Nat.reduceAnd, ite_self])

/-- `linkWant` changes at most: slipWant. -/
theorem State.linkWant_mask {M : Nat} (hM : 633825300114114700748351602688 &&& M = 633825300114114700748351602688) (s : State) (n : Nat) :
    (State.linkWant s n).mask M = s.mask M :=
  State.mask_mono hM (by
    unfold State.linkWant
    repeat' split
    all_goals simp only [State.upd99_mask, Nat.reduceAnd, ite_self])

/-- `mayStartIf` changes at most: evtSeen, regs, slipWant, links. -/
theorem State.mayStartIf_mask {M : Nat} (hM : 1901475900342344102245054808324 &&& M = 1901475900342344102245054808324) (s : State) (ok : Bool) (n : Nat) (sizes : List Nat) :
    (State.mayStartIf s ok n sizes).2.mask M = s.mask M :=
  State.mask_mono hM (by
    unfold State.mayStartIf
    simp only [apply_ite (State.mask 1901475900342344102245054808324), apply_ite Prod.snd, apply_ite Prod.fst,
        State.freeStall_mask, State.joinStall_mask, State.linkWant_mask, Nat.reduceAnd, ite_self])

/-- `mayStart` changes at most: evtSeen, regs, slipWant, links. -/
theorem State.mayStart_mask {M : Nat} (hM : 1901475900342344102245054808324 &&& M = 1901475900342344102245054808324) (s : State) (n : Nat) (sizes : List Nat) :
    (State.mayStart s n sizes).2.mask M = s.mask M :=
  State.mask_mono hM (by
    unfold State.mayStart
    simp only [State.mayStartIf_mask, Nat.reduceAnd, ite_self])

/-- `groupSent` changes at most: laneBusy. -/
theorem State.groupSent_mask {M : Nat} (hM : 316912650057057350374175801344 &&& M = 316912650057057350374175801344) (s : State) (n : Nat) :
    (State.groupSent s n).mask M = s.mask M :=
  State.mask_mono hM (by
    unfold State.groupSent
    simp only [State.upd98_mask, Nat.reduceAnd, ite_self])

/-- `linkSend` changes at most: out, laneBusy, slipWant, links. -/
theorem State.linkSend_mask {M : Nat} (hM : 2218388550399401452619230609410 &&& M = 2218388550399401452619230609410) (s : State) (n : Nat) (bytes : List Byte) :
    (State.linkSend s n bytes).mask M = s.mask M :=
  State.mask_mono hM (by
    unfold State.linkSend
    simp only [State.emit_mask, State.groupSent_mask, State.updLink_mask, State.upd99_mask, Nat.reduceAnd, ite_self])

/-- `showReplay` changes at most: regs. -/
theorem State.showReplay_mask {M : Nat} (hM : 256 &&& M = 256) (s : State) (n : Nat) :
    (State.showReplay s n).mask M = s.mask M :=
  State.mask_mono hM (by
    unfold State.showReplay
    simp only [State.set_mask, Nat.reduceAnd, ite_self])

/-- `sendSeq` changes at most: out, evtSeen, regs, laneBusy, slipWant, links. -/
theorem State.sendSeq_mask {M : Nat} (hM : 2218388550399401452619230609670 &&& M = 2218388550399401452619230609670) (s : State) (n : Nat) (ty : Byte) (write : Bool) (fields : List Byte) :
    (State.sendSeq s n ty write fields).2.mask M = s.mask M :=
  State.mask_mono hM (by
    unfold State.sendSeq
    simp only [State.countW_mask, State.linkSend_mask, State.set_mask, State.showReplay_mask, State.updLink_mask, Nat.reduceAnd,
        ite_self])

/-- `protoErr` changes at most: evtSeen, regs. -/
theorem State.protoErr_mask {M : Nat} (hM : 260 &&& M = 260) (s : State) (n : Nat) :
    (State.protoErr s n).mask M = s.mask M :=
  State.mask_mono hM (by
    unfold State.protoErr
    simp only [State.count_mask, State.raise_mask, Nat.reduceAnd, ite_self])

/-- `sendCtl` changes at most: out, laneBusy, slipWant, links. -/
theorem State.sendCtl_mask {M : Nat} (hM : 2218388550399401452619230609410 &&& M = 2218388550399401452619230609410) (s : State) (n : Nat) (bytes : List Byte) :
    (State.sendCtl s n bytes).mask M = s.mask M :=
  State.mask_mono hM (by
    unfold State.sendCtl
    simp only [apply_ite (State.mask 2218388550399401452619230609410), apply_ite Prod.snd, apply_ite Prod.fst,
        State.linkSend_mask, State.linkWant_mask, State.updLink_mask, Nat.reduceAnd, ite_self])

/-- `sendAck` changes at most: out, laneBusy, slipWant, links. -/
theorem State.sendAck_mask {M : Nat} (hM : 2218388550399401452619230609410 &&& M = 2218388550399401452619230609410) (s : State) (n : Nat) :
    (State.sendAck s n).mask M = s.mask M :=
  State.mask_mono hM (by
    unfold State.sendAck
    simp only [State.sendCtl_mask, State.updLink_mask, Nat.reduceAnd, ite_self])

/-- `drain.go` changes at most: out, laneBusy, slipWant, links. -/
theorem State.drain.go_mask {M : Nat} (hM : 2218388550399401452619230609410 &&& M = 2218388550399401452619230609410) (n : Nat) (a1 : List Nat) (a2 : State) :
    (State.drain.go n a1 a2).mask M = a2.mask M :=
  State.mask_mono hM (by
    induction a1 generalizing a2 with
    | nil => unfold State.drain.go; simp only [apply_ite (State.mask 2218388550399401452619230609410), apply_ite Prod.snd,
        apply_ite Prod.fst, State.linkSend_mask, State.linkWant_mask, State.updLink_mask, Nat.reduceAnd, ite_self]
    | cons q l ih =>
      unfold State.drain.go
      split
      · exact ih _
      · dsimp only
        repeat' split
        all_goals (try rw [ih])
        all_goals simp only [apply_ite (State.mask 2218388550399401452619230609410), apply_ite Prod.snd, apply_ite Prod.fst,
            State.linkSend_mask, State.linkWant_mask, State.updLink_mask, Nat.reduceAnd, ite_self])

/-- `drain` changes at most: out, laneBusy, slipWant, links. -/
theorem State.drain_mask {M : Nat} (hM : 2218388550399401452619230609410 &&& M = 2218388550399401452619230609410) (s : State) (n : Nat) :
    (State.drain s n).mask M = s.mask M :=
  State.mask_mono hM (by
    unfold State.drain
    simp only [State.drain.go_mask, Nat.reduceAnd, ite_self])

/-- `flushCtl` changes at most: out, laneBusy, slipWant, links. -/
theorem State.flushCtl_mask {M : Nat} (hM : 2218388550399401452619230609410 &&& M = 2218388550399401452619230609410) (s : State) (n : Nat) :
    (State.flushCtl s n).mask M = s.mask M :=
  State.mask_mono hM (by
    unfold State.flushCtl
    repeat' (first
      | with_reducible rfl
      | (simp only [apply_ite (State.mask 2218388550399401452619230609410), apply_ite Prod.snd, apply_ite Prod.fst,
          State.linkSend_mask, State.updLink_mask, forEach_mask, Nat.reduceAnd, ite_self]; done)
      | with_reducible refine (forEach_mask (by decide) _ _ _ (fun t a => ?_)).trans ?_
      | split
      | (simp only [apply_ite (State.mask 2218388550399401452619230609410), apply_ite Prod.snd, apply_ite Prod.fst,
          State.linkSend_mask, State.updLink_mask, Nat.reduceAnd, ite_self])))

/-- `releaseKept` changes at most: links. -/
theorem State.releaseKept_mask {M : Nat} (hM : 1267650600228229401496703205376 &&& M = 1267650600228229401496703205376) (s : State) (n : Nat) :
    (State.releaseKept s n).mask M = s.mask M :=
  State.mask_mono hM (by
    unfold State.releaseKept
    simp only [apply_ite (State.mask 1267650600228229401496703205376), apply_ite Prod.snd, apply_ite Prod.fst,
        State.updLink_mask, Nat.reduceAnd, ite_self])

/-- `resend` changes at most: out, evtSeen, regs, laneBusy, slipWant, links, slipTold. -/
theorem State.resend_mask {M : Nat} (hM : 651255495867252855018931271762182 &&& M = 651255495867252855018931271762182) (s : State) (n : Nat) :
    (State.resend s n).mask M = s.mask M :=
  State.mask_mono hM (by
    unfold State.resend
    simp only [apply_ite (State.mask 651255495867252855018931271762182), apply_ite Prod.snd, apply_ite Prod.fst,
        State.count_mask, State.drain_mask, State.raise_mask, State.updLink_mask, State.upd109_mask, Nat.reduceAnd, ite_self])

/-- `keepUnsent` changes at most: links. -/
theorem State.keepUnsent_mask {M : Nat} (hM : 1267650600228229401496703205376 &&& M = 1267650600228229401496703205376) (s : State) (n : Nat) :
    (State.keepUnsent s n).mask M = s.mask M :=
  State.mask_mono hM (by
    unfold State.keepUnsent
    simp only [apply_ite (State.mask 1267650600228229401496703205376), apply_ite Prod.snd, apply_ite Prod.fst,
        State.updLink_mask, Nat.reduceAnd, ite_self])

/-- `streamTick` changes at most: out, txRd, sig, laneBusy, links. -/
theorem State.streamTick_mask {M : Nat} (hM : 1624196674355532754734446280706 &&& M = 1624196674355532754734446280706) (s : State) (n : Nat) :
    (State.streamTick s n).mask M = s.mask M :=
  State.mask_mono hM (by
    unfold State.streamTick
    repeat' (first
      | with_reducible rfl
      | (simp only [apply_ite (State.mask 1624196674355532754734446280706), apply_ite Prod.snd, apply_ite Prod.fst,
          State.groupSent_mask, State.keepUnsent_mask, State.transmit_mask, State.updLink_mask, forEach_mask, Nat.reduceAnd,
          ite_self]; done)
      | with_reducible refine (forEach_mask (by decide) _ _ _ (fun t a => ?_)).trans ?_
      | split
      | (simp only [apply_ite (State.mask 1624196674355532754734446280706), apply_ite Prod.snd, apply_ite Prod.fst,
          State.groupSent_mask, State.keepUnsent_mask, State.transmit_mask, State.updLink_mask, Nat.reduceAnd, ite_self])))

/-- `mayRead` changes at most: evtSeen, regs, slipWant, links. -/
theorem State.mayRead_mask {M : Nat} (hM : 1901475900342344102245054808324 &&& M = 1901475900342344102245054808324) (s : State) (n : Nat) (size : Nat) :
    (State.mayRead s n size).2.mask M = s.mask M :=
  State.mask_mono hM (by
    unfold State.mayRead
    simp only [State.mayStartIf_mask, Nat.reduceAnd, ite_self])

/-- `performed` changes at most: out, regs, laneBusy, slipWant, links. -/
theorem State.performed_mask {M : Nat} (hM : 2218388550399401452619230609666 &&& M = 2218388550399401452619230609666) (s : State) (n : Nat) :
    (State.performed s n).mask M = s.mask M :=
  State.mask_mono hM (by
    unfold State.performed
    simp only [apply_ite (State.mask 2218388550399401452619230609666), apply_ite Prod.snd, apply_ite Prod.fst,
        State.sendAck_mask, State.set_mask, State.updLink_mask, Nat.reduceAnd, ite_self])

/-- `sendNak` changes at most: out, evtSeen, regs, laneBusy, slipWant, links. -/
theorem State.sendNak_mask {M : Nat} (hM : 2218388550399401452619230609670 &&& M = 2218388550399401452619230609670) (s : State) (n : Nat) :
    (State.sendNak s n).mask M = s.mask M :=
  State.mask_mono hM (by
    unfold State.sendNak
    simp only [apply_ite (State.mask 2218388550399401452619230609670), apply_ite Prod.snd, apply_ite Prod.fst, State.count_mask,
        State.sendCtl_mask, State.updLink_mask, Nat.reduceAnd, ite_self])

end Sys2Proof.Machine
end

