-- ==== Sys2Proof/Laws/MaskDerand.lean ====
section
/-! SUPPORT. What the operations of Machine/Derand.lean can change (see Laws/Mask.lean): one lemma for each. -/

set_option linter.unusedSimpArgs false
set_option maxRecDepth 2000

namespace Sys2Proof.Machine

/-- `crewSet` changes at most: regs. -/
theorem State.crewSet_mask {M : Nat} (hM : 256 &&& M = 256) (s : State) (c : Nat) (w : Nat) (lo : Nat) (n : Nat) (v : Nat) :
    (State.crewSet s c w lo n v).mask M = s.mask M :=
  State.mask_mono hM (by
    unfold State.crewSet
    simp only [State.wr_mask, Nat.reduceAnd, ite_self])

/-- `addCredits` changes at most: evtSeen, regs. -/
theorem State.addCredits_mask {M : Nat} (hM : 260 &&& M = 260) (s : State) (c : Nat) (n : Nat) :
    (State.addCredits s c n).mask M = s.mask M :=
  State.mask_mono hM (by
    unfold State.addCredits
    simp only [apply_ite (State.mask 260), apply_ite Prod.snd, apply_ite Prod.fst, State.count_mask, State.crewSet_mask,
        State.raise_mask, Nat.reduceAnd, ite_self])

/-- `setFetched` changes at most: fetched. -/
theorem State.setFetched_mask {M : Nat} (hM : 10141204801825835211973625643008 &&& M = 10141204801825835211973625643008) (s : State) (c : Nat) (l : List Desc) :
    (State.setFetched s c l).mask M = s.mask M :=
  State.mask_mono hM (by
    unfold State.setFetched
    simp only [State.upd103_mask, Nat.reduceAnd, ite_self])

/-- `setNext` changes at most: regs. -/
theorem State.setNext_mask {M : Nat} (hM : 256 &&& M = 256) (s : State) (c : Nat) (a : Nat) :
    (State.setNext s c a).mask M = s.mask M :=
  State.mask_mono hM (by
    unfold State.setNext
    simp only [State.crewSet_mask, Nat.reduceAnd, ite_self])

/-- `doCreditAdd` changes at most: evtSeen, regs. -/
theorem State.doCreditAdd_mask {M : Nat} (hM : 260 &&& M = 260) (s : State) (d : Word) :
    (State.doCreditAdd s d).mask M = s.mask M :=
  State.mask_mono hM (by
    unfold State.doCreditAdd
    simp only [State.addCredits_mask, Nat.reduceAnd, ite_self])

/-- `release` changes at most: held. -/
theorem State.release_mask {M : Nat} (hM : 604462909807314587353088 &&& M = 604462909807314587353088) (s : State) :
    (State.release s).mask M = s.mask M :=
  State.mask_mono hM (by
    unfold State.release
    simp only [State.upd79_mask, Nat.reduceAnd, ite_self])

/-- `setHead` changes at most: regs. -/
theorem State.setHead_mask {M : Nat} (hM : 256 &&& M = 256) (s : State) (c : Nat) (h : Nat) :
    (State.setHead s c h).mask M = s.mask M :=
  State.mask_mono hM (by
    unfold State.setHead
    simp only [State.crewSet_mask, Nat.reduceAnd, ite_self])

/-- `setTail` changes at most: regs. -/
theorem State.setTail_mask {M : Nat} (hM : 256 &&& M = 256) (s : State) (c : Nat) (t : Nat) :
    (State.setTail s c t).mask M = s.mask M :=
  State.mask_mono hM (by
    unfold State.setTail
    simp only [State.crewSet_mask, Nat.reduceAnd, ite_self])

/-- `letIn` changes at most: evtSeen, regs, held, admitId, shedSeen. -/
theorem State.letIn_mask {M : Nat} (hM : 4231240368651202111471876 &&& M = 4231240368651202111471876) (s : State) (h : Held) :
    (State.letIn s h).mask M = s.mask M :=
  State.mask_mono hM (by
    unfold State.letIn
    repeat' (first
      | with_reducible rfl
      | (simp only [State.upd79_80_81_mask, apply_ite (State.mask 4231240368651202111471876), apply_ite Prod.snd,
          apply_ite Prod.fst, State.countW_mask, State.set_mask, State.upd79_mask, State.upd79_80_mask, State.upd81_mask,
          Nat.reduceAnd, ite_self]; done)
      | split
      | (simp only [State.upd79_80_81_mask, apply_ite (State.mask 4231240368651202111471876), apply_ite Prod.snd,
          apply_ite Prod.fst, State.countW_mask, State.set_mask, State.upd79_mask, State.upd79_80_mask, State.upd81_mask,
          Nat.reduceAnd, ite_self])))

/-- `doDerandAdmit` changes at most: evtSeen, regs, offer, held, admitId, shedSeen. -/
theorem State.doDerandAdmit_mask {M : Nat} (hM : 4533471823554859405148420 &&& M = 4533471823554859405148420) (s : State) :
    (State.doDerandAdmit s).mask M = s.mask M :=
  State.mask_mono hM (by
    unfold State.doDerandAdmit
    repeat' split
    all_goals simp only [State.letIn_mask, State.upd78_mask, Nat.reduceAnd, ite_self])

/-- `place` changes at most: evtSeen, regs, offer, held, admitId, shedSeen. -/
theorem State.place_mask {M : Nat} (hM : 4533471823554859405148420 &&& M = 4533471823554859405148420) (s : State) (h : Held) :
    (State.place s h).mask M = s.mask M :=
  State.mask_mono hM (by
    unfold State.place
    simp only [apply_ite (State.mask 4533471823554859405148420), apply_ite Prod.snd, apply_ite Prod.fst, State.letIn_mask,
        State.upd78_mask, Nat.reduceAnd, ite_self])

/-- `shed` changes at most: evtSeen, regs, records, recBad, offer, held, admitId, shedSeen. -/
theorem State.shed_mask {M : Nat} (hM : 4542916556661336183931140 &&& M = 4542916556661336183931140) (s : State) (f : Frag) (h : Held) :
    (State.shed s f h).mask M = s.mask M :=
  State.mask_mono hM (by
    unfold State.shed
    simp only [State.countW_mask, State.place_mask, State.raise_mask, State.upd47_mask, State.upd47_73_mask,
        State.upd47_73_81_mask, Nat.reduceAnd, ite_self])

/-- `doDerandOffer` changes at most: evtSeen, regs, records, frags, recBad, offer, held, admitId, shedSeen. -/
theorem State.doDerandOffer_mask {M : Nat} (hM : 4545277739902771006537988 &&& M = 4545277739902771006537988) (s : State) :
    (State.doDerandOffer s).mask M = s.mask M :=
  State.mask_mono hM (by
    unfold State.doDerandOffer
    repeat' split
    all_goals (try simp only [apply_ite (State.mask 4545277739902771006537988), apply_ite Prod.snd, apply_ite Prod.fst,
        State.place_mask, State.shed_mask, State.upd71_mask, Nat.reduceAnd, ite_self]))

end Sys2Proof.Machine
end

