-- ==== Sys2Proof/Laws/MaskCrew.lean ====
section
/-! SUPPORT. What the operations of Machine/Crew.lean can change (see Laws/Mask.lean): one lemma for each. -/

set_option linter.unusedSimpArgs false
set_option maxRecDepth 2000

namespace Sys2Proof.Machine

/-- `abandon` changes at most: evtSeen, regs, dmas. -/
theorem State.abandon_mask {M : Nat} (hM : 2535301200456458802993406411012 &&& M = 2535301200456458802993406411012) (s : State) (n : Nat) :
    (State.abandon s n).mask M = s.mask M :=
  State.mask_mono hM (by
    unfold State.abandon
    simp only [State.count_mask, State.raise_mask, State.upd101_mask, Nat.reduceAnd, ite_self])

/-- `giveBack` changes at most: evtSeen, regs, held. -/
theorem State.giveBack_mask {M : Nat} (hM : 604462909807314587353348 &&& M = 604462909807314587353348) (s : State) (ids : List Nat) :
    (State.giveBack s ids).mask M = s.mask M :=
  State.mask_mono hM (by
    unfold State.giveBack
    simp only [apply_ite (State.mask 604462909807314587353348), apply_ite Prod.snd, apply_ite Prod.fst, State.countBy_mask,
        State.raise_mask, State.upd79_mask, Nat.reduceAnd, ite_self])

/-- `abandonRedo` changes at most: evtSeen, regs, held, links. -/
theorem State.abandonRedo_mask {M : Nat} (hM : 1267651204691139208811290558724 &&& M = 1267651204691139208811290558724) (s : State) (n : Nat) (c : Nat) :
    (State.abandonRedo s n c).mask M = s.mask M :=
  State.mask_mono hM (by
    unfold State.abandonRedo
    simp only [State.giveBack_mask, State.updLink_mask, Nat.reduceAnd, ite_self])

/-- `rewind` changes at most: evtSeen, regs, fetched. -/
theorem State.rewind_mask {M : Nat} (hM : 10141204801825835211973625643268 &&& M = 10141204801825835211973625643268) (s : State) (c : Nat) (keep : Nat) :
    (State.rewind s c keep).mask M = s.mask M :=
  State.mask_mono hM (by
    unfold State.rewind
    simp only [apply_ite (State.mask 10141204801825835211973625643268), apply_ite Prod.snd, apply_ite Prod.fst,
        State.addCredits_mask, State.setFetched_mask, State.setNext_mask, Nat.reduceAnd, ite_self]
    repeat' split
    all_goals (try simp only [apply_ite (State.mask 10141204801825835211973625643268), apply_ite Prod.snd, apply_ite Prod.fst,
        State.addCredits_mask, State.setFetched_mask, State.setNext_mask, Nat.reduceAnd, ite_self]))

/-- `spill` changes at most: evtSeen, regs, fetched, seats, spillTold. -/
theorem State.spill_mask {M : Nat} (hM : 354942168063904232419076897505540 &&& M = 354942168063904232419076897505540) (s : State) (k : Nat) (c : Nat) :
    (State.spill s k c).mask M = s.mask M :=
  State.mask_mono hM (by
    unfold State.spill
    simp only [apply_ite (State.mask 354942168063904232419076897505540), apply_ite Prod.snd, apply_ite Prod.fst,
        State.count_mask, State.raise_mask, State.rewind_mask, State.upd104_mask, State.upd108_mask, Nat.reduceAnd, ite_self])

/-- `useSeat` changes at most: seatUse. -/
theorem State.useSeat_mask {M : Nat} (hM : 40564819207303340847894502572032 &&& M = 40564819207303340847894502572032) (s : State) (k : Nat) :
    (State.useSeat s k).mask M = s.mask M :=
  State.mask_mono hM (by
    unfold State.useSeat
    simp only [State.upd105_mask, Nat.reduceAnd, ite_self])

/-- `waitSeat` changes at most: evtSeen, regs, seatWait. -/
theorem State.waitSeat_mask {M : Nat} (hM : 162259276829213363391578010288388 &&& M = 162259276829213363391578010288388) (s : State) :
    (State.waitSeat s).mask M = s.mask M :=
  State.mask_mono hM (by
    unfold State.waitSeat
    simp only [apply_ite (State.mask 162259276829213363391578010288388), apply_ite Prod.snd, apply_ite Prod.fst,
        State.raise_mask, State.upd107_mask, Nat.reduceAnd, ite_self])

/-- `readBad` changes at most: evtSeen, regs. -/
theorem State.readBad_mask {M : Nat} (hM : 260 &&& M = 260) (s : State) (h : Held) (ofs : Nat) (len : Nat) (first : Bool) :
    (State.readBad s h ofs len first).mask M = s.mask M :=
  State.mask_mono hM (by
    unfold State.readBad
    simp only [apply_ite (State.mask 260), apply_ite Prod.snd, apply_ite Prod.fst, State.countBy_mask, State.fault_mask,
        State.raise_mask, Nat.reduceAnd, ite_self])

/-- `sendWrite` changes at most: out, evtSeen, regs, laneBusy, slipWant, links. -/
theorem State.sendWrite_mask {M : Nat} (hM : 2218388550399401452619230609670 &&& M = 2218388550399401452619230609670) (s : State) (n : Nat) (a : Nat) (data : List Byte) :
    (State.sendWrite s n a data).2.mask M = s.mask M :=
  State.mask_mono hM (by
    unfold State.sendWrite
    simp only [State.sendSeq_mask, Nat.reduceAnd, ite_self])

/-- `writeNext` changes at most: out, evtSeen, regs, laneBusy, slipWant, links. -/
theorem State.writeNext_mask {M : Nat} (hM : 2218388550399401452619230609670 &&& M = 2218388550399401452619230609670) (s : State) (n : Nat) (id : Nat) (c : Nat) (x : Desc) (base : Nat) (len : Nat) (sent : Nat) :
    (State.writeNext s n id c x base len sent).2.mask M = s.mask M :=
  State.mask_mono hM (by
    unfold State.writeNext
    repeat' split
    all_goals (try simp only [apply_ite (State.mask 2218388550399401452619230609670), apply_ite Prod.snd, apply_ite Prod.fst,
        State.countW_mask, State.mayStart_mask, State.readBad_mask, State.sendWrite_mask, Nat.reduceAnd, ite_self]))

/-- Where `takeSeat` answers a state, it has changed at most: evtSeen, regs, fetched, seats, seatUse, spillTold. -/
theorem State.takeSeat_mask {M : Nat} (hM : 395506987271207573266971400077572 &&& M = 395506987271207573266971400077572) (s : State) (c : Nat) (t : State) (ht : s.takeSeat c = some t) :
    t.mask M = s.mask M :=
  State.mask_mono hM (by
    unfold State.takeSeat at ht
    repeat' (first
      | (cases ht; done)
      | (injection ht with ht; subst ht; simp only [apply_ite (State.mask 395506987271207573266971400077572), State.spill_mask,
          State.useSeat_mask, State.upd104_mask, Nat.reduceAnd, ite_self]; done)
      | (simp only [Option.map_eq_some_iff] at ht; obtain ⟨_, _,
          rfl⟩ := ht; simp only [apply_ite (State.mask 395506987271207573266971400077572), State.spill_mask, State.useSeat_mask,
          State.upd104_mask, Nat.reduceAnd, ite_self]; done)
      | split at ht
      | dsimp only at ht))

/-- Where `seated` answers a state, it has changed at most: evtSeen, regs, fetched, seats, seatUse, spillTold. -/
theorem State.seated_mask {M : Nat} (hM : 395506987271207573266971400077572 &&& M = 395506987271207573266971400077572) (s : State) (c : Nat) (t : State) (ht : s.seated c = some t) :
    t.mask M = s.mask M := by
  unfold State.seated at ht
  split at ht
  · injection ht with ht; rw [ht]
  · exact State.takeSeat_mask hM s c t ht

/-- `pumpOnce` changes at most: out, evtSeen, regs, laneBusy, slipWant, links, dmas, fetched, seats, seatUse, seatWait,
spillTold. -/
theorem State.pumpOnce_mask {M : Nat} (hM : 562519953851276796914162047385862 &&& M = 562519953851276796914162047385862) (s : State) (n : Nat) :
    (State.pumpOnce s n).2.mask M = s.mask M :=
  State.mask_mono hM (by
    unfold State.pumpOnce
    repeat' (first
      | with_reducible rfl
      | split
      | (simp only [apply_ite (State.mask 562519953851276796914162047385862), apply_ite Prod.snd, apply_ite Prod.fst,
          State.spill_mask, State.updLink_mask, State.useSeat_mask, State.waitSeat_mask, State.writeNext_mask, State.upd101_mask,
          State.upd104_mask, Nat.reduceAnd, ite_self]; done)
      | exact State.seated_mask (by decide) _ _ _ (by assumption)
      | (simp only [apply_ite (State.mask 562519953851276796914162047385862), apply_ite Prod.snd, apply_ite Prod.fst,
          State.spill_mask, State.updLink_mask, State.useSeat_mask, State.waitSeat_mask, State.writeNext_mask, State.upd101_mask,
          State.upd104_mask, Nat.reduceAnd, ite_self]
         exact State.seated_mask (by decide) _ _ _ (by assumption))
      | (simp only [apply_ite (State.mask 562519953851276796914162047385862), apply_ite Prod.snd, apply_ite Prod.fst,
          State.spill_mask, State.updLink_mask, State.useSeat_mask, State.waitSeat_mask, State.writeNext_mask, State.upd101_mask,
          State.upd104_mask, Nat.reduceAnd, ite_self])
      | dsimp only))

/-- `pump.go` changes at most: out, evtSeen, regs, laneBusy, slipWant, links, dmas, fetched, seats, seatUse, seatWait,
spillTold. -/
theorem State.pump.go_mask {M : Nat} (hM : 562519953851276796914162047385862 &&& M = 562519953851276796914162047385862) (n : Nat) (a1 : Nat) (a2 : State) :
    (State.pump.go n a1 a2).mask M = a2.mask M :=
  State.mask_mono hM (by
    induction a1 generalizing a2 with
    | zero => rfl
    | succ k ih =>
      unfold State.pump.go
      dsimp only
      split
      · rw [ih]; simp only [apply_ite (State.mask 562519953851276796914162047385862), apply_ite Prod.snd, apply_ite Prod.fst,
          State.pumpOnce_mask, Nat.reduceAnd, ite_self]
      · simp only [apply_ite (State.mask 562519953851276796914162047385862), apply_ite Prod.snd, apply_ite Prod.fst,
          State.pumpOnce_mask, Nat.reduceAnd, ite_self])

/-- `pump` changes at most: out, evtSeen, regs, laneBusy, slipWant, links, dmas, fetched, seats, seatUse, seatWait, spillTold.
-/
theorem State.pump_mask {M : Nat} (hM : 562519953851276796914162047385862 &&& M = 562519953851276796914162047385862) (s : State) (n : Nat) :
    (State.pump s n).mask M = s.mask M :=
  State.mask_mono hM (by
    unfold State.pump
    simp only [State.freeStall_mask, State.pump.go_mask, Nat.reduceAnd, ite_self])

/-- `pauseChanged` changes at most: out, evtSeen, regs, laneBusy, slipWant, links, dmas, fetched, seats, seatUse, seatWait,
spillTold. -/
theorem State.pauseChanged_mask {M : Nat} (hM : 562519953851276796914162047385862 &&& M = 562519953851276796914162047385862) (s : State) :
    (State.pauseChanged s).mask M = s.mask M :=
  State.mask_mono hM (by
    unfold State.pauseChanged
    repeat' (first
      | with_reducible rfl
      | (simp only [apply_ite (State.mask 562519953851276796914162047385862), apply_ite Prod.snd, apply_ite Prod.fst,
          State.pump_mask, State.setPstate_mask, forEach_mask, Nat.reduceAnd, ite_self]; done)
      | with_reducible refine (forEach_mask (by decide) _ _ _ (fun t a => ?_)).trans ?_
      | split
      | (simp only [apply_ite (State.mask 562519953851276796914162047385862), apply_ite Prod.snd, apply_ite Prod.fst,
          State.pump_mask, State.setPstate_mask, Nat.reduceAnd, ite_self])))

/-- `crewLinkDown` changes at most: evtSeen, regs, held, links, dmas, slots, fetched. -/
theorem State.crewLinkDown_mask {M : Nat} (hM : 19014759607886350829765135433988 &&& M = 19014759607886350829765135433988) (s : State) (n : Nat) :
    (State.crewLinkDown s n).mask M = s.mask M :=
  State.mask_mono hM (by
    unfold State.crewLinkDown
    repeat' (first
      | with_reducible rfl
      | (simp only [apply_ite (State.mask 19014759607886350829765135433988), apply_ite Prod.snd, apply_ite Prod.fst,
          State.abandon_mask, State.abandonRedo_mask, State.countBy_mask, State.raise_mask, State.rewind_mask,
          State.updLink_mask, forEach_mask, State.upd101_mask, State.upd102_mask, Nat.reduceAnd, ite_self]; done)
      | with_reducible refine (forEach_mask (by decide) _ _ _ (fun t a => ?_)).trans ?_
      | split
      | (simp only [apply_ite (State.mask 19014759607886350829765135433988), apply_ite Prod.snd, apply_ite Prod.fst,
          State.abandon_mask, State.abandonRedo_mask, State.countBy_mask, State.raise_mask, State.rewind_mask,
          State.updLink_mask, State.upd101_mask, State.upd102_mask, Nat.reduceAnd, ite_self])))

/-- `crewLinkUp` changes at most: out, evtSeen, regs, laneBusy, slipWant, links, dmas, fetched, seats, seatUse, seatWait,
spillTold. -/
theorem State.crewLinkUp_mask {M : Nat} (hM : 562519953851276796914162047385862 &&& M = 562519953851276796914162047385862) (s : State) (n : Nat) :
    (State.crewLinkUp s n).mask M = s.mask M :=
  State.mask_mono hM (by
    unfold State.crewLinkUp
    simp only [apply_ite (State.mask 562519953851276796914162047385862), apply_ite Prod.snd, apply_ite Prod.fst,
        State.countBy_mask, State.pump_mask, State.raise_mask, Nat.reduceAnd, ite_self])

/-- `crewClear` changes at most: regs. -/
theorem State.crewClear_mask {M : Nat} (hM : 256 &&& M = 256) (s : State) (c : Nat) :
    (State.crewClear s c).mask M = s.mask M :=
  State.mask_mono hM (by
    unfold State.crewClear
    simp only [State.crewSet_mask, State.setHead_mask, State.setTail_mask, Nat.reduceAnd, ite_self])

/-- `cutRedo` changes at most: evtSeen, regs, held, links. -/
theorem State.cutRedo_mask {M : Nat} (hM : 1267651204691139208811290558724 &&& M = 1267651204691139208811290558724) (s : State) (n : Nat) (c : Nat) :
    (State.cutRedo s n c).mask M = s.mask M :=
  State.mask_mono hM (by
    unfold State.cutRedo
    simp only [State.giveBack_mask, State.updLink_mask, Nat.reduceAnd, ite_self])

/-- `quiesceDma` changes at most: evtSeen, regs, held, links, dmas. -/
theorem State.quiesceDma_mask {M : Nat} (hM : 3802952405147598011804696969476 &&& M = 3802952405147598011804696969476) (s : State) (c : Nat) (reset : Bool) :
    (State.quiesceDma s c reset).mask M = s.mask M :=
  State.mask_mono hM (by
    unfold State.quiesceDma
    simp only [apply_ite (State.mask 3802952405147598011804696969476), apply_ite Prod.snd, apply_ite Prod.fst,
        State.abandon_mask, State.abandonRedo_mask, State.cutRedo_mask, State.upd101_mask, Nat.reduceAnd, ite_self]
    repeat' split
    all_goals (try simp only [apply_ite (State.mask 3802952405147598011804696969476), apply_ite Prod.snd, apply_ite Prod.fst,
        State.abandon_mask, State.abandonRedo_mask, State.cutRedo_mask, State.upd101_mask, Nat.reduceAnd, ite_self]))

/-- `startQuiesce` changes at most: evtSeen, regs, held, links, dmas, fetched, quiesce. -/
theorem State.startQuiesce_mask {M : Nat} (hM : 95073795621580114919567327756548 &&& M = 95073795621580114919567327756548) (s : State) (c : Nat) (reset : Bool) :
    (State.startQuiesce s c reset).mask M = s.mask M :=
  State.mask_mono hM (by
    unfold State.startQuiesce
    simp only [State.crewSet_mask, State.quiesceDma_mask, State.rewind_mask, State.upd106_mask, Nat.reduceAnd, ite_self])

/-- `crewCommand` changes at most: evtSeen, regs, held, links, dmas, fetched, quiesce. -/
theorem State.crewCommand_mask {M : Nat} (hM : 95073795621580114919567327756548 &&& M = 95073795621580114919567327756548) (s : State) (c : Nat) (op : Nat) :
    (State.crewCommand s c op).mask M = s.mask M :=
  State.mask_mono hM (by
    unfold State.crewCommand
    simp only [apply_ite (State.mask 95073795621580114919567327756548), apply_ite Prod.snd, apply_ite Prod.fst,
        State.crewClear_mask, State.crewSet_mask, State.startQuiesce_mask, Nat.reduceAnd, ite_self])

/-- `crewEntry` changes at most: evtSeen, regs, held, links, dmas, fetched, quiesce. -/
theorem State.crewEntry_mask {M : Nat} (hM : 95073795621580114919567327756548 &&& M = 95073795621580114919567327756548) (s : State) (open_ : List Nat) (e : Staged) :
    (State.crewEntry s open_ e).1.mask M = s.mask M :=
  State.mask_mono hM (by
    unfold State.crewEntry
    simp only [apply_ite (State.mask 95073795621580114919567327756548), apply_ite Prod.snd, apply_ite Prod.fst,
        State.crewCommand_mask, State.crewSet_mask, State.wr_mask, Nat.reduceAnd, ite_self])

/-- `crewSetApply` changes at most: evtSeen, regs, held, links, dmas, fetched, quiesce. -/
theorem State.crewSetApply_mask {M : Nat} (hM : 95073795621580114919567327756548 &&& M = 95073795621580114919567327756548) (s : State) (l : List Staged) :
    (State.crewSetApply s l).1.mask M = s.mask M :=
  State.mask_mono hM (by
    unfold State.crewSetApply
    exact State.foldl_keep (fun r : State × List (Nat × Nat) × List Nat => r.1.mask 95073795621580114919567327756548) _ _ _
      (fun r c => State.crewEntry_mask (by decide) _ _ _))

/-- `crewPageReset` changes at most: evtSeen, regs, held, links, dmas, fetched, quiesce. -/
theorem State.crewPageReset_mask {M : Nat} (hM : 95073795621580114919567327756548 &&& M = 95073795621580114919567327756548) (s : State) :
    (State.crewPageReset s).mask M = s.mask M :=
  State.mask_mono hM (by
    unfold State.crewPageReset
    repeat' (first
      | with_reducible rfl
      | (simp only [apply_ite (State.mask 95073795621580114919567327756548), apply_ite Prod.snd, apply_ite Prod.fst,
          State.crewCommand_mask, forEach_mask, Nat.reduceAnd, ite_self]; done)
      | with_reducible refine (forEach_mask (by decide) _ _ _ (fun t a => ?_)).trans ?_
      | split
      | (simp only [apply_ite (State.mask 95073795621580114919567327756548), apply_ite Prod.snd, apply_ite Prod.fst,
          State.crewCommand_mask, Nat.reduceAnd, ite_self])))

/-- `crewRefused` changes at most: evtSeen, regs. -/
theorem State.crewRefused_mask {M : Nat} (hM : 260 &&& M = 260) (s : State) (cause : Nat) (crew : Nat) :
    (State.crewRefused s cause crew).mask M = s.mask M :=
  State.mask_mono hM (by
    unfold State.crewRefused
    simp only [State.fault_mask, State.raise_mask, State.set_mask, Nat.reduceAnd, ite_self])

/-- `sendStatus` changes at most: out, evtSeen, regs, laneBusy, slipWant, links. -/
theorem State.sendStatus_mask {M : Nat} (hM : 2218388550399401452619230609670 &&& M = 2218388550399401452619230609670) (s : State) (n : Nat) (id : Nat) (c : Nat) (x : Desc) (base : Nat) (bytes : Nat) (bits : Nat) :
    (State.sendStatus s n id c x base bytes bits).mask M = s.mask M :=
  State.mask_mono hM (by
    unfold State.sendStatus
    simp only [apply_ite (State.mask 2218388550399401452619230609670), apply_ite Prod.snd, apply_ite Prod.fst, State.count_mask,
        State.sendSeq_mask, State.sendWrite_mask, State.updLink_mask, Nat.reduceAnd, ite_self])

/-- `takeDesc` changes at most: dmas, fetched. -/
theorem State.takeDesc_mask {M : Nat} (hM : 12676506002282294014967032053760 &&& M = 12676506002282294014967032053760) (s : State) (n : Nat) :
    (State.takeDesc s n).mask M = s.mask M :=
  State.mask_mono hM (by
    unfold State.takeDesc
    repeat' split
    all_goals simp only [State.setFetched_mask, State.upd101_mask, Nat.reduceAnd, ite_self])

/-- `completePart` changes at most: out, evtSeen, regs, held, laneBusy, slipWant, links, dmas, fetched, seats, seatUse,
seatWait, spillTold. -/
theorem State.completePart_mask {M : Nat} (hM : 562519954455739706721476634738950 &&& M = 562519954455739706721476634738950) (s : State) (n : Nat) (d : Dma) (x : Desc) :
    (State.completePart s n d x).mask M = s.mask M :=
  State.mask_mono hM (by
    unfold State.completePart
    simp only [apply_ite (State.mask 562519954455739706721476634738950), apply_ite Prod.snd, apply_ite Prod.fst,
        State.abandon_mask, State.countW_mask, State.pump_mask, State.sendStatus_mask, State.setHead_mask, State.takeDesc_mask,
        State.upd79_mask, State.upd79_101_mask, State.upd101_mask, Nat.reduceAnd, ite_self])

/-- `seatTick` changes at most: evtSeen, regs, seatWait. -/
theorem State.seatTick_mask {M : Nat} (hM : 162259276829213363391578010288388 &&& M = 162259276829213363391578010288388) (s : State) :
    (State.seatTick s).mask M = s.mask M :=
  State.mask_mono hM (by
    unfold State.seatTick
    simp only [apply_ite (State.mask 162259276829213363391578010288388), apply_ite Prod.snd, apply_ite Prod.fst,
        State.countBy_mask, State.upd107_mask, Nat.reduceAnd, ite_self])

/-- `crewTick` changes at most: evtSeen, regs, seatWait. -/
theorem State.crewTick_mask {M : Nat} (hM : 162259276829213363391578010288388 &&& M = 162259276829213363391578010288388) (s : State) :
    (State.crewTick s).mask M = s.mask M :=
  State.mask_mono hM (by
    unfold State.crewTick
    simp only [apply_ite (State.mask 162259276829213363391578010288388), apply_ite Prod.snd, apply_ite Prod.fst,
        State.countBy_mask, State.seatTick_mask, Nat.reduceAnd, ite_self])

/-- `descFail` changes at most: evtSeen, regs, held, links, dmas, fetched, quiesce. -/
theorem State.descFail_mask {M : Nat} (hM : 95073795621580114919567327756548 &&& M = 95073795621580114919567327756548) (s : State) (c : Nat) (kind : Nat) :
    (State.descFail s c kind).mask M = s.mask M :=
  State.mask_mono hM (by
    unfold State.descFail
    simp only [State.count_mask, State.fault_mask, State.raise_mask, State.set_mask, State.startQuiesce_mask, Nat.reduceAnd,
        ite_self])

/-- `doDescComplete` changes at most: out, evtSeen, regs, held, laneBusy, slipWant, links, dmas, fetched, seats, seatUse,
seatWait, spillTold. -/
theorem State.doDescComplete_mask {M : Nat} (hM : 562519954455739706721476634738950 &&& M = 562519954455739706721476634738950) (s : State) (n : Nat) :
    (State.doDescComplete s n).mask M = s.mask M :=
  State.mask_mono hM (by
    unfold State.doDescComplete
    repeat' (first
      | with_reducible rfl
      | split
      | (simp only [apply_ite (State.mask 562519954455739706721476634738950), apply_ite Prod.snd, apply_ite Prod.fst,
          State.completePart_mask, State.mayStart_mask, State.pump_mask, State.sendStatus_mask, State.spill_mask,
          State.updLink_mask, State.useSeat_mask, State.waitSeat_mask, State.upd104_mask, Nat.reduceAnd, ite_self]; done)
      | exact State.seated_mask (by decide) _ _ _ (by assumption)
      | (simp only [apply_ite (State.mask 562519954455739706721476634738950), apply_ite Prod.snd, apply_ite Prod.fst,
          State.completePart_mask, State.mayStart_mask, State.pump_mask, State.sendStatus_mask, State.spill_mask,
          State.updLink_mask, State.useSeat_mask, State.waitSeat_mask, State.upd104_mask, Nat.reduceAnd, ite_self]
         exact State.seated_mask (by decide) _ _ _ (by assumption))
      | (simp only [apply_ite (State.mask 562519954455739706721476634738950), apply_ite Prod.snd, apply_ite Prod.fst,
          State.completePart_mask, State.mayStart_mask, State.pump_mask, State.sendStatus_mask, State.spill_mask,
          State.updLink_mask, State.useSeat_mask, State.waitSeat_mask, State.upd104_mask, Nat.reduceAnd, ite_self])
      | dsimp only))

/-- `doDescFetch` changes at most: out, evtSeen, regs, laneBusy, slipWant, links, slots, fetched, seats, seatUse, seatWait,
spillTold. -/
theorem State.doDescFetch_mask {M : Nat} (hM : 565055255051733255717155453796614 &&& M = 565055255051733255717155453796614) (s : State) (n : Nat) (c : Nat) :
    (State.doDescFetch s n c).mask M = s.mask M :=
  State.mask_mono hM (by
    unfold State.doDescFetch
    simp only [apply_ite (State.mask 565055255051733255717155453796614), apply_ite Prod.snd, apply_ite Prod.fst,
        State.countW_mask, State.crewSet_mask, State.mayRead_mask, State.sendSeq_mask, State.spill_mask, State.useSeat_mask,
        State.waitSeat_mask, State.upd102_mask, State.upd104_mask, Nat.reduceAnd, ite_self]
    repeat' split
    all_goals first
      | rfl
      | (simp only [apply_ite (State.mask 565055255051733255717155453796614), apply_ite Prod.snd, apply_ite Prod.fst,
          State.countW_mask, State.crewSet_mask, State.mayRead_mask, State.sendSeq_mask, State.spill_mask, State.useSeat_mask,
          State.waitSeat_mask, State.upd102_mask, State.upd104_mask, Nat.reduceAnd, ite_self]; done)
      | (rename_i heq; simp only [State.takeSeat_mask (M := 565055255051733255717155453796614) (by decide) _ _ _ heq,
          apply_ite (State.mask 565055255051733255717155453796614), apply_ite Prod.snd, apply_ite Prod.fst, State.countW_mask,
          State.crewSet_mask, State.mayRead_mask, State.sendSeq_mask, State.spill_mask, State.useSeat_mask, State.waitSeat_mask,
          State.upd102_mask, State.upd104_mask, Nat.reduceAnd, ite_self]; done))

/-- `doQuiesceEnd` changes at most: evtSeen, regs, slots, quiesce. -/
theorem State.doQuiesceEnd_mask {M : Nat} (hM : 86200240815519599301775817965828 &&& M = 86200240815519599301775817965828) (s : State) (c : Nat) :
    (State.doQuiesceEnd s c).mask M = s.mask M :=
  State.mask_mono hM (by
    unfold State.doQuiesceEnd
    simp only [apply_ite (State.mask 86200240815519599301775817965828), apply_ite Prod.snd, apply_ite Prod.fst, State.count_mask,
        State.crewClear_mask, State.crewSet_mask, State.raise_mask, State.upd102_mask, State.upd106_mask, Nat.reduceAnd, ite_self])

/-- `doReadTimeout` changes at most: evtSeen, regs, slots, fetched. -/
theorem State.doReadTimeout_mask {M : Nat} (hM : 15211807202738752817960438464772 &&& M = 15211807202738752817960438464772) (s : State) (n : Nat) (i : Nat) :
    (State.doReadTimeout s n i).mask M = s.mask M :=
  State.mask_mono hM (by
    unfold State.doReadTimeout
    repeat' split
    all_goals simp only [State.count_mask, State.raise_mask, State.rewind_mask, State.upd102_mask, Nat.reduceAnd, ite_self])

/-- `readDone` changes at most: out, evtSeen, regs, held, laneBusy, slipWant, links, dmas, slots, fetched, seats, seatUse,
quiesce, seatWait, spillTold. -/
theorem State.readDone_mask {M : Nat} (hM : 648720195271259306023252452704518 &&& M = 648720195271259306023252452704518) (s : State) (n : Nat) (tag : Word) (status : Byte) (data : List Byte) :
    (State.readDone s n tag status data).mask M = s.mask M :=
  State.mask_mono hM (by
    unfold State.readDone
    simp only [apply_ite (State.mask 648720195271259306023252452704518), apply_ite Prod.snd, apply_ite Prod.fst,
        State.count_mask, State.crewSet_mask, State.descFail_mask, State.protoErr_mask, State.pump_mask, State.raise_mask,
        State.setFetched_mask, State.setNext_mask, State.takeDesc_mask, State.upd102_mask, Nat.reduceAnd, ite_self]
    repeat' split
    all_goals (try simp only [apply_ite (State.mask 648720195271259306023252452704518), apply_ite Prod.snd, apply_ite Prod.fst,
        State.count_mask, State.crewSet_mask, State.descFail_mask, State.protoErr_mask, State.pump_mask, State.raise_mask,
        State.setFetched_mask, State.setNext_mask, State.takeDesc_mask, State.upd102_mask, Nat.reduceAnd, ite_self]))

/-- `doStationPaused` changes at most: evtSeen, regs. -/
theorem State.doStationPaused_mask {M : Nat} (hM : 260 &&& M = 260) (s : State) (n : Nat) :
    (State.doStationPaused s n).mask M = s.mask M :=
  State.mask_mono hM (by
    unfold State.doStationPaused
    simp only [apply_ite (State.mask 260), apply_ite Prod.snd, apply_ite Prod.fst, State.raise_mask, State.setPstate_mask,
        Nat.reduceAnd, ite_self])

/-- `doStationSelect` changes at most: out, evtSeen, regs, laneBusy, slipWant, links, dmas, fetched, seats, seatUse, seatWait,
spillTold. -/
theorem State.doStationSelect_mask {M : Nat} (hM : 562519953851276796914162047385862 &&& M = 562519953851276796914162047385862) (s : State) (n : Nat) :
    (State.doStationSelect s n).mask M = s.mask M :=
  State.mask_mono hM (by
    unfold State.doStationSelect
    repeat' (first
      | with_reducible rfl
      | split
      | (simp only [apply_ite (State.mask 562519953851276796914162047385862), apply_ite Prod.snd, apply_ite Prod.fst,
          State.count_mask, State.pump_mask, State.spill_mask, State.takeDesc_mask, State.useSeat_mask, State.waitSeat_mask,
          State.upd101_mask, State.upd104_mask, Nat.reduceAnd, ite_self]; done)
      | exact State.takeSeat_mask (by decide) _ _ _ (by assumption)
      | (simp only [apply_ite (State.mask 562519953851276796914162047385862), apply_ite Prod.snd, apply_ite Prod.fst,
          State.count_mask, State.pump_mask, State.spill_mask, State.takeDesc_mask, State.useSeat_mask, State.waitSeat_mask,
          State.upd101_mask, State.upd104_mask, Nat.reduceAnd, ite_self])
      | dsimp only))

end Sys2Proof.Machine
end

