-- ==== Sys2Proof/Laws/MaskSlip.lean ====
section
/-! SUPPORT. What the operations of Machine/Slip.lean can change (see Laws/Mask.lean): one lemma for each. -/

set_option linter.unusedSimpArgs false
set_option maxRecDepth 2000

namespace Sys2Proof.Machine

/-- `acked` changes at most: regs, held, links. -/
theorem State.acked_mask {M : Nat} (hM : 1267651204691139208811290558720 &&& M = 1267651204691139208811290558720) (s : State) (n : Nat) (seq : Nat) (left : Nat) :
    (State.acked s n seq left).mask M = s.mask M :=
  State.mask_mono hM (by
    unfold State.acked
    simp only [State.release_mask, State.set_mask, State.setLink_mask, State.showReplay_mask, Nat.reduceAnd, ite_self])

/-- `peerMap` changes at most: regs, links. -/
theorem State.peerMap_mask {M : Nat} (hM : 1267650600228229401496703205632 &&& M = 1267650600228229401496703205632) (s : State) (n : Nat) (map : Byte) :
    (State.peerMap s n map).mask M = s.mask M :=
  State.mask_mono hM (by
    unfold State.peerMap
    simp only [apply_ite (State.mask 1267650600228229401496703205632), apply_ite Prod.snd, apply_ite Prod.fst, State.set_mask,
        State.setb_mask, State.updLink_mask, Nat.reduceAnd, ite_self])

/-- `ackReceived` changes at most: evtSeen, regs, held, links. -/
theorem State.ackReceived_mask {M : Nat} (hM : 1267651204691139208811290558724 &&& M = 1267651204691139208811290558724) (s : State) (n : Nat) (seq : Nat) (map : Byte) :
    (State.ackReceived s n seq map).2.mask M = s.mask M :=
  State.mask_mono hM (by
    unfold State.ackReceived
    simp only [apply_ite (State.mask 1267651204691139208811290558724), apply_ite Prod.snd, apply_ite Prod.fst, State.acked_mask,
        State.peerMap_mask, State.protoErr_mask, Nat.reduceAnd, ite_self])

/-- `capTell` changes at most: evtSeen, regs, links. -/
theorem State.capTell_mask {M : Nat} (hM : 1267650600228229401496703205636 &&& M = 1267650600228229401496703205636) (s : State) (n : Nat) :
    (State.capTell s n).mask M = s.mask M :=
  State.mask_mono hM (by
    unfold State.capTell
    simp only [apply_ite (State.mask 1267650600228229401496703205636), apply_ite Prod.snd, apply_ite Prod.fst, State.fault_mask,
        State.raise_mask, State.updLink_mask, Nat.reduceAnd, ite_self])

/-- `linkClear` changes at most: regs, slipWant, links. -/
theorem State.linkClear_mask {M : Nat} (hM : 1901475900342344102245054808320 &&& M = 1901475900342344102245054808320) (s : State) (n : Nat) :
    (State.linkClear s n).mask M = s.mask M :=
  State.mask_mono hM (by
    unfold State.linkClear
    simp only [State.set_mask, State.showReplay_mask, State.updLink_mask, State.upd99_mask, Nat.reduceAnd, ite_self])

/-- `linkLeave` changes at most: evtSeen, regs, held, slipWant, links, dmas, slots, fetched. -/
theorem State.linkLeave_mask {M : Nat} (hM : 19648584908000465530513487036676 &&& M = 19648584908000465530513487036676) (s : State) (n : Nat) (st : Nat) :
    (State.linkLeave s n st).mask M = s.mask M :=
  State.mask_mono hM (by
    unfold State.linkLeave
    simp only [apply_ite (State.mask 19648584908000465530513487036676), apply_ite Prod.snd, apply_ite Prod.fst,
        State.crewLinkDown_mask, State.linkClear_mask, State.set_mask, Nat.reduceAnd, ite_self])

/-- `linkDisable` changes at most: evtSeen, regs, held, slipWant, links, dmas, slots, fetched. -/
theorem State.linkDisable_mask {M : Nat} (hM : 19648584908000465530513487036676 &&& M = 19648584908000465530513487036676) (s : State) (n : Nat) :
    (State.linkDisable s n).mask M = s.mask M :=
  State.mask_mono hM (by
    unfold State.linkDisable
    simp only [apply_ite (State.mask 19648584908000465530513487036676), apply_ite Prod.snd, apply_ite Prod.fst, State.fault_mask,
        State.linkLeave_mask, Nat.reduceAnd, ite_self])

/-- `linkDown` changes at most: evtSeen, regs, held, slipWant, links, dmas, slots, fetched. -/
theorem State.linkDown_mask {M : Nat} (hM : 19648584908000465530513487036676 &&& M = 19648584908000465530513487036676) (s : State) (n : Nat) :
    (State.linkDown s n).mask M = s.mask M :=
  State.mask_mono hM (by
    unfold State.linkDown
    simp only [State.count_mask, State.fault_mask, State.linkLeave_mask, State.raise_mask, Nat.reduceAnd, ite_self])

/-- `replayFrom` changes at most: out, evtSeen, regs, held, laneBusy, slipWant, links, dmas, slots, fetched, slipTold. -/
theorem State.replayFrom_mask {M : Nat} (hM : 669002604874910976447199703990534 &&& M = 669002604874910976447199703990534) (s : State) (n : Nat) :
    (State.replayFrom s n).mask M = s.mask M :=
  State.mask_mono hM (by
    unfold State.replayFrom
    repeat' split
    all_goals (try simp only [apply_ite (State.mask 669002604874910976447199703990534), apply_ite Prod.snd, apply_ite Prod.fst,
        State.linkDown_mask, State.resend_mask, State.updLink_mask, Nat.reduceAnd, ite_self]))

/-- `linkGo` changes at most: out, evtSeen, regs, held, laneBusy, slipWant, links, dmas, slots, fetched, seats, seatUse,
seatWait, spillTold, slipTold. -/
theorem State.linkGo_mask {M : Nat} (hM : 1216627664173506077893775488712966 &&& M = 1216627664173506077893775488712966) (s : State) (n : Nat) :
    (State.linkGo s n).mask M = s.mask M :=
  State.mask_mono hM (by
    unfold State.linkGo
    simp only [apply_ite (State.mask 1216627664173506077893775488712966), apply_ite Prod.snd, apply_ite Prod.fst,
        State.drain_mask, State.flushCtl_mask, State.pump_mask, State.releaseKept_mask, State.replayFrom_mask, Nat.reduceAnd,
        ite_self])

/-- `linkUp` changes at most: out, evtSeen, free, regs, laneBusy, slipWant, links, dmas, fetched, seats, seatUse, seatWait,
spillTold. -/
theorem State.linkUp_mask {M : Nat} (hM : 562519953851276796914162047385894 &&& M = 562519953851276796914162047385894) (s : State) (n : Nat) :
    (State.linkUp s n).mask M = s.mask M :=
  State.mask_mono hM (by
    unfold State.linkUp
    simp only [State.crewLinkUp_mask, State.draw_mask, State.raise_mask, State.set_mask, State.showReplay_mask,
        State.updLink_mask, Nat.reduceAnd, ite_self])

/-- `linkUpIfTwo` changes at most: out, evtSeen, free, regs, held, laneBusy, slipWant, links, dmas, slots, fetched, seats,
seatUse, seatWait, spillTold. -/
theorem State.linkUpIfTwo_mask {M : Nat} (hM : 567590556856652624327463447560486 &&& M = 567590556856652624327463447560486) (s : State) (n : Nat) :
    (State.linkUpIfTwo s n).mask M = s.mask M :=
  State.mask_mono hM (by
    unfold State.linkUpIfTwo
    simp only [apply_ite (State.mask 567590556856652624327463447560486), apply_ite Prod.snd, apply_ite Prod.fst,
        State.linkDown_mask, State.linkUp_mask, Nat.reduceAnd, ite_self])

/-- `regroup` changes at most: out, evtSeen, regs, held, laneBusy, slipWant, links, dmas, slots, fetched, slipTold. -/
theorem State.regroup_mask {M : Nat} (hM : 669002604874910976447199703990534 &&& M = 669002604874910976447199703990534) (s : State) (n : Nat) :
    (State.regroup s n).mask M = s.mask M :=
  State.mask_mono hM (by
    unfold State.regroup
    simp only [apply_ite (State.mask 669002604874910976447199703990534), apply_ite Prod.snd, apply_ite Prod.fst,
        State.count_mask, State.fault_mask, State.linkDown_mask, State.raise_mask, State.resend_mask, State.set_mask,
        State.updLink_mask, Nat.reduceAnd, ite_self])

/-- `slipCatchOne` changes at most: out, evtSeen, free, regs, held, laneBusy, slipWant, links, dmas, slots, fetched, seats,
seatUse, seatWait, spillTold, slipTold. -/
theorem State.slipCatchOne_mask {M : Nat} (hM : 1216627664173506077893775488712998 &&& M = 1216627664173506077893775488712998) (s : State) (n : Nat) :
    (State.slipCatchOne s n).mask M = s.mask M :=
  State.mask_mono hM (by
    unfold State.slipCatchOne
    simp only [apply_ite (State.mask 1216627664173506077893775488712998), apply_ite Prod.snd, apply_ite Prod.fst,
        State.capTell_mask, State.emit_mask, State.linkDisable_mask, State.linkGo_mask, State.linkUpIfTwo_mask,
        State.regroup_mask, State.set_mask, State.updLink_mask, Nat.reduceAnd, ite_self])

/-- `slipCatch` changes at most: out, evtSeen, free, regs, held, laneBusy, slipWant, links, dmas, slots, fetched, seats,
seatUse, seatWait, spillTold, slipTold. -/
theorem State.slipCatch_mask {M : Nat} (hM : 1216627664173506077893775488712998 &&& M = 1216627664173506077893775488712998) (s0 : State) (s : State) :
    (State.slipCatch s0 s).mask M = s.mask M :=
  State.mask_mono hM (by
    unfold State.slipCatch
    repeat' (first
      | with_reducible rfl
      | (simp only [apply_ite (State.mask 1216627664173506077893775488712998), apply_ite Prod.snd, apply_ite Prod.fst,
          State.sendAck_mask, State.slipCatchOne_mask, forEach_mask, Nat.reduceAnd, ite_self]; done)
      | with_reducible refine (forEach_mask (by decide) _ _ _ (fun t a => ?_)).trans ?_
      | split
      | (simp only [apply_ite (State.mask 1216627664173506077893775488712998), apply_ite Prod.snd, apply_ite Prod.fst,
          State.sendAck_mask, State.slipCatchOne_mask, Nat.reduceAnd, ite_self])))

/-- `slipGo` changes at most: out, evtSeen, regs, held, laneBusy, slipWant, links, dmas, slots, fetched, seats, seatUse,
seatWait, spillTold, slipTold. -/
theorem State.slipGo_mask {M : Nat} (hM : 1216627664173506077893775488712966 &&& M = 1216627664173506077893775488712966) (s : State) :
    (State.slipGo s).mask M = s.mask M :=
  State.mask_mono hM (by
    unfold State.slipGo
    repeat' (first
      | with_reducible rfl
      | (simp only [apply_ite (State.mask 1216627664173506077893775488712966), apply_ite Prod.snd, apply_ite Prod.fst,
          State.linkGo_mask, forEach_mask, Nat.reduceAnd, ite_self]; done)
      | with_reducible refine (forEach_mask (by decide) _ _ _ (fun t a => ?_)).trans ?_
      | split
      | (simp only [apply_ite (State.mask 1216627664173506077893775488712966), apply_ite Prod.snd, apply_ite Prod.fst,
          State.linkGo_mask, Nat.reduceAnd, ite_self])))

/-- `slipMoor` changes at most: evtSeen, regs, held, slipWant, links, dmas, slots, fetched. -/
theorem State.slipMoor_mask {M : Nat} (hM : 19648584908000465530513487036676 &&& M = 19648584908000465530513487036676) (s : State) :
    (State.slipMoor s).mask M = s.mask M :=
  State.mask_mono hM (by
    unfold State.slipMoor
    repeat' (first
      | with_reducible rfl
      | (simp only [apply_ite (State.mask 19648584908000465530513487036676), apply_ite Prod.snd, apply_ite Prod.fst,
          State.linkLeave_mask, forEach_mask, Nat.reduceAnd, ite_self]; done)
      | with_reducible refine (forEach_mask (by decide) _ _ _ (fun t a => ?_)).trans ?_
      | split
      | (simp only [apply_ite (State.mask 19648584908000465530513487036676), apply_ite Prod.snd, apply_ite Prod.fst,
          State.linkLeave_mask, Nat.reduceAnd, ite_self])))

/-- `slipPageReset` changes at most: evtSeen, regs, held, slipWant, links, dmas, slots, fetched. -/
theorem State.slipPageReset_mask {M : Nat} (hM : 19648584908000465530513487036676 &&& M = 19648584908000465530513487036676) (s : State) (n : Nat) :
    (State.slipPageReset s n).mask M = s.mask M :=
  State.mask_mono hM (by
    unfold State.slipPageReset
    simp only [State.linkDisable_mask, Nat.reduceAnd, ite_self])

/-- `doAckTimer` changes at most: out, laneBusy, slipWant, links. -/
theorem State.doAckTimer_mask {M : Nat} (hM : 2218388550399401452619230609410 &&& M = 2218388550399401452619230609410) (s : State) (n : Nat) :
    (State.doAckTimer s n).mask M = s.mask M :=
  State.mask_mono hM (by
    unfold State.doAckTimer
    repeat' split
    all_goals simp only [State.sendAck_mask, Nat.reduceAnd, ite_self])

/-- `doCapsTimeout` changes at most: evtSeen, regs, held, slipWant, links, dmas, slots, fetched. -/
theorem State.doCapsTimeout_mask {M : Nat} (hM : 19648584908000465530513487036676 &&& M = 19648584908000465530513487036676) (s : State) (n : Nat) :
    (State.doCapsTimeout s n).mask M = s.mask M :=
  State.mask_mono hM (by
    unfold State.doCapsTimeout
    simp only [apply_ite (State.mask 19648584908000465530513487036676), apply_ite Prod.snd, apply_ite Prod.fst,
        State.linkLeave_mask, Nat.reduceAnd, ite_self])

/-- `loseLane` changes at most: evtSeen, regs, links. -/
theorem State.loseLane_mask {M : Nat} (hM : 1267650600228229401496703205636 &&& M = 1267650600228229401496703205636) (s : State) (n : Nat) (p : Nat) :
    (State.loseLane s n p).mask M = s.mask M :=
  State.mask_mono hM (by
    unfold State.loseLane
    simp only [apply_ite (State.mask 1267650600228229401496703205636), apply_ite Prod.snd, apply_ite Prod.fst,
        State.healthFault_mask, State.updLink_mask, Nat.reduceAnd, ite_self])

/-- `mapChanged` changes at most: out, evtSeen, regs, held, laneBusy, slipWant, links, dmas, slots, fetched. -/
theorem State.mapChanged_mask {M : Nat} (hM : 19965497558057522880887662838022 &&& M = 19965497558057522880887662838022) (s : State) (n : Nat) (old : Nat) :
    (State.mapChanged s n old).mask M = s.mask M :=
  State.mask_mono hM (by
    unfold State.mapChanged
    simp only [apply_ite (State.mask 19965497558057522880887662838022), apply_ite Prod.snd, apply_ite Prod.fst,
        State.linkDown_mask, State.sendAck_mask, Nat.reduceAnd, ite_self])

/-- `regain` changes at most: links. -/
theorem State.regain_mask {M : Nat} (hM : 1267650600228229401496703205376 &&& M = 1267650600228229401496703205376) (s : State) (n : Nat) (ms : List (Option MarkerIn)) (out_ : List Nat) :
    (State.regain s n ms out_).mask M = s.mask M :=
  State.mask_mono hM (by
    unfold State.regain
    simp only [State.updLink_mask, Nat.reduceAnd, ite_self])

/-- `markerLanes` changes at most: out, evtSeen, regs, held, laneBusy, slipWant, links, dmas, slots, fetched. -/
theorem State.markerLanes_mask {M : Nat} (hM : 19965497558057522880887662838022 &&& M = 19965497558057522880887662838022) (s : State) (n : Nat) (ms : List (Option MarkerIn)) :
    (State.markerLanes s n ms).mask M = s.mask M :=
  State.mask_mono hM (by
    unfold State.markerLanes
    repeat' (first
      | with_reducible rfl
      | (simp only [apply_ite (State.mask 19965497558057522880887662838022), apply_ite Prod.snd, apply_ite Prod.fst,
          State.loseLane_mask, State.mapChanged_mask, State.regain_mask, forEach_mask, Nat.reduceAnd, ite_self]; done)
      | with_reducible refine (forEach_mask (by decide) _ _ _ (fun t a => ?_)).trans ?_
      | split
      | (simp only [apply_ite (State.mask 19965497558057522880887662838022), apply_ite Prod.snd, apply_ite Prod.fst,
          State.loseLane_mask, State.mapChanged_mask, State.regain_mask, Nat.reduceAnd, ite_self])))

/-- `doCatchMarker` changes at most: out, evtSeen, regs, held, laneBusy, slipWant, links, dmas, slots, fetched. -/
theorem State.doCatchMarker_mask {M : Nat} (hM : 19965497558057522880887662838022 &&& M = 19965497558057522880887662838022) (s : State) (n : Nat) (ms : List (Option MarkerIn)) :
    (State.doCatchMarker s n ms).mask M = s.mask M :=
  State.mask_mono hM (by
    unfold State.doCatchMarker
    simp only [apply_ite (State.mask 19965497558057522880887662838022), apply_ite Prod.snd, apply_ite Prod.fst,
        State.linkDown_mask, State.markerLanes_mask, State.peerMap_mask, State.protoErr_mask, State.set_mask, State.updLink_mask,
        Nat.reduceAnd, ite_self]
    repeat' split
    all_goals (try simp only [apply_ite (State.mask 19965497558057522880887662838022), apply_ite Prod.snd, apply_ite Prod.fst,
        State.linkDown_mask, State.markerLanes_mask, State.peerMap_mask, State.protoErr_mask, State.set_mask, State.updLink_mask,
        Nat.reduceAnd, ite_self]))

/-- `slipTick` changes at most: out, evtSeen, regs, txRd, sig, laneBusy, links. -/
theorem State.slipTick_mask {M : Nat} (hM : 1624196674355532754734446280966 &&& M = 1624196674355532754734446280966) (s : State) :
    (State.slipTick s).mask M = s.mask M :=
  State.mask_mono hM (by
    unfold State.slipTick
    repeat' (first
      | with_reducible rfl
      | (simp only [apply_ite (State.mask 1624196674355532754734446280966), apply_ite Prod.snd, apply_ite Prod.fst,
          State.countBy_mask, State.streamTick_mask, State.updLink_mask, forEach_mask, Nat.reduceAnd, ite_self]; done)
      | with_reducible refine (forEach_mask (by decide) _ _ _ (fun t a => ?_)).trans ?_
      | split
      | (simp only [apply_ite (State.mask 1624196674355532754734446280966), apply_ite Prod.snd, apply_ite Prod.fst,
          State.countBy_mask, State.streamTick_mask, State.updLink_mask, Nat.reduceAnd, ite_self])))

/-- `doLaneRxLost` changes at most: out, evtSeen, regs, held, es, laneBusy, slipWant, links, dmas, slots, fetched. -/
theorem State.doLaneRxLost_mask {M : Nat} (hM : 19985304598686088965286048825606 &&& M = 19985304598686088965286048825606) (s : State) (x : Xcvr) (cause : DownCause) :
    (State.doLaneRxLost s x cause).mask M = s.mask M :=
  State.mask_mono hM (by
    unfold State.doLaneRxLost
    repeat' split
    all_goals (try simp only [apply_ite (State.mask 19985304598686088965286048825606), apply_ite Prod.snd, apply_ite Prod.fst,
        State.doRxLost_mask, State.loseLane_mask, State.mapChanged_mask, Nat.reduceAnd, ite_self]))

/-- `doReplayTimeout` changes at most: out, evtSeen, regs, held, laneBusy, slipWant, links, dmas, slots, fetched, seats,
seatUse, seatWait, spillTold, slipTold. -/
theorem State.doReplayTimeout_mask {M : Nat} (hM : 1216627664173506077893775488712966 &&& M = 1216627664173506077893775488712966) (s : State) (n : Nat) :
    (State.doReplayTimeout s n).mask M = s.mask M :=
  State.mask_mono hM (by
    unfold State.doReplayTimeout
    simp only [apply_ite (State.mask 1216627664173506077893775488712966), apply_ite Prod.snd, apply_ite Prod.fst,
        State.linkGo_mask, State.replayFrom_mask, Nat.reduceAnd, ite_self])

/-- `doSlipAck` changes at most: out, evtSeen, regs, held, laneBusy, slipWant, links, dmas, slots, fetched, seats, seatUse,
seatWait, spillTold, slipTold. -/
theorem State.doSlipAck_mask {M : Nat} (hM : 1216627664173506077893775488712966 &&& M = 1216627664173506077893775488712966) (s : State) (n : Nat) (seq : Nat) (map : Byte) :
    (State.doSlipAck s n seq map).mask M = s.mask M :=
  State.mask_mono hM (by
    unfold State.doSlipAck
    simp only [apply_ite (State.mask 1216627664173506077893775488712966), apply_ite Prod.snd, apply_ite Prod.fst,
        State.ackReceived_mask, State.linkGo_mask, Nat.reduceAnd, ite_self])

/-- `doSlipCap` changes at most: evtSeen, regs, held, slipWant, links, dmas, slots, fetched. -/
theorem State.doSlipCap_mask {M : Nat} (hM : 19648584908000465530513487036676 &&& M = 19648584908000465530513487036676) (s : State) (n : Nat) (version : Nat) (beats : Nat) (maxpl : Nat) (maxReads : Nat) (id : Nat) (station : Nat) :
    (State.doSlipCap s n version beats maxpl maxReads id station).mask M = s.mask M :=
  State.mask_mono hM (by
    unfold State.doSlipCap
    simp only [apply_ite (State.mask 19648584908000465530513487036676), apply_ite Prod.snd, apply_ite Prod.fst,
        State.capTell_mask, State.linkDown_mask, State.set_mask, State.updLink_mask, Nat.reduceAnd, ite_self])

/-- `doSlipCapSend` changes at most: out, laneBusy, slipWant, links. -/
theorem State.doSlipCapSend_mask {M : Nat} (hM : 2218388550399401452619230609410 &&& M = 2218388550399401452619230609410) (s : State) (n : Nat) :
    (State.doSlipCapSend s n).mask M = s.mask M :=
  State.mask_mono hM (by
    unfold State.doSlipCapSend
    simp only [apply_ite (State.mask 2218388550399401452619230609410), apply_ite Prod.snd, apply_ite Prod.fst,
        State.sendCtl_mask, State.updLink_mask, Nat.reduceAnd, ite_self])

/-- `sequenced` changes, beside what it is given: out, evtSeen, regs, held, laneBusy, slipWant, links, dmas, slots, fetched,
seats, seatUse, seatWait, spillTold, slipTold. -/
theorem State.sequenced_mask {M : Nat} (hM : 1216627664173506077893775488712966 &&& M = 1216627664173506077893775488712966) (s : State) (n : Nat) (seq : Nat) (act : State → State) (hf : ∀ t, (act t).mask M = t.mask M) :
    (State.sequenced s n seq act).mask M = s.mask M := by
  unfold State.sequenced
  repeat' (first
    | with_reducible rfl
    | split
    | (simp only [apply_ite (State.mask M), hf,
        State.linkGo_mask (State.land_trans (by decide : 1216627664173506077893775488712966 &&& 1216627664173506077893775488712966 = 1216627664173506077893775488712966) hM), State.performed_mask (State.land_trans (by decide : 2218388550399401452619230609666 &&& 1216627664173506077893775488712966 = 2218388550399401452619230609666) hM), State.sendAck_mask (State.land_trans (by decide : 2218388550399401452619230609410 &&& 1216627664173506077893775488712966 = 2218388550399401452619230609410) hM), State.sendNak_mask (State.land_trans (by decide : 2218388550399401452619230609670 &&& 1216627664173506077893775488712966 = 2218388550399401452619230609670) hM), ite_self]))

/-- `doSlipCompl` changes at most: out, evtSeen, regs, held, laneBusy, slipWant, links, dmas, slots, fetched, seats, seatUse,
quiesce, seatWait, spillTold, slipTold. -/
theorem State.doSlipCompl_mask {M : Nat} (hM : 1297757302588112759589564493857030 &&& M = 1297757302588112759589564493857030) (s : State) (n : Nat) (seq : Nat) (tag : Word) (status : Byte) (data : List Byte) :
    (State.doSlipCompl s n seq tag status data).mask M = s.mask M :=
  State.mask_mono hM (by
    exact State.sequenced_mask (by decide) _ _ _ _ (fun t => State.readDone_mask (by decide) _ _ _ _ _))

/-- `doSlipCredit` changes at most: out, evtSeen, regs, held, laneBusy, slipWant, links, dmas, slots, fetched, seats, seatUse,
seatWait, spillTold, slipTold. -/
theorem State.doSlipCredit_mask {M : Nat} (hM : 1216627664173506077893775488712966 &&& M = 1216627664173506077893775488712966) (s : State) (n : Nat) (seq : Nat) (crew : Nat) (tailValid : Bool) (count : Nat) (tail : Nat) :
    (State.doSlipCredit s n seq crew tailValid count tail).mask M = s.mask M :=
  State.mask_mono hM (by
    refine State.sequenced_mask (by decide) _ _ _ _ (fun t => ?_)
    simp only [apply_ite (State.mask 1216627664173506077893775488712966), apply_ite Prod.snd, apply_ite Prod.fst,
        State.addCredits_mask, State.setTail_mask, Nat.reduceAnd, ite_self])

/-- `doSlipDamaged` changes at most: out, evtSeen, regs, laneBusy, slipWant, links. -/
theorem State.doSlipDamaged_mask {M : Nat} (hM : 2218388550399401452619230609670 &&& M = 2218388550399401452619230609670) (s : State) (n : Nat) (why : SlipDamage) :
    (State.doSlipDamaged s n why).mask M = s.mask M :=
  State.mask_mono hM (by
    unfold State.doSlipDamaged
    repeat' split
    all_goals (try simp only [apply_ite (State.mask 2218388550399401452619230609670), apply_ite Prod.snd, apply_ite Prod.fst,
        State.count_mask, State.healthFault_mask, State.protoErr_mask, State.sendNak_mask, Nat.reduceAnd, ite_self]))

/-- `doSlipLaneLost` changes at most: out, evtSeen, regs, held, laneBusy, slipWant, links, dmas, slots, fetched. -/
theorem State.doSlipLaneLost_mask {M : Nat} (hM : 19965497558057522880887662838022 &&& M = 19965497558057522880887662838022) (s : State) (n : Nat) (p : Nat) :
    (State.doSlipLaneLost s n p).mask M = s.mask M :=
  State.mask_mono hM (by
    unfold State.doSlipLaneLost
    simp only [apply_ite (State.mask 19965497558057522880887662838022), apply_ite Prod.snd, apply_ite Prod.fst,
        State.loseLane_mask, State.mapChanged_mask, Nat.reduceAnd, ite_self])

/-- `doSlipNak` changes at most: out, evtSeen, regs, held, laneBusy, slipWant, links, dmas, slots, fetched, seats, seatUse,
seatWait, spillTold, slipTold. -/
theorem State.doSlipNak_mask {M : Nat} (hM : 1216627664173506077893775488712966 &&& M = 1216627664173506077893775488712966) (s : State) (n : Nat) (seq : Nat) (map : Byte) :
    (State.doSlipNak s n seq map).mask M = s.mask M :=
  State.mask_mono hM (by
    unfold State.doSlipNak
    simp only [apply_ite (State.mask 1216627664173506077893775488712966), apply_ite Prod.snd, apply_ite Prod.fst,
        State.ackReceived_mask, State.healthFault_mask, State.linkGo_mask, State.replayFrom_mask, Nat.reduceAnd, ite_self]
    repeat' split
    all_goals (try simp only [apply_ite (State.mask 1216627664173506077893775488712966), apply_ite Prod.snd, apply_ite Prod.fst,
        State.ackReceived_mask, State.healthFault_mask, State.linkGo_mask, State.replayFrom_mask, Nat.reduceAnd, ite_self]))

end Sys2Proof.Machine
end

