-- ==== Sys2Proof/Laws/MaskTprim.lean ====
section
/-! SUPPORT. What the operations of Machine/Tprim.lean can change (see Laws/Mask.lean): one lemma for each. -/

set_option linter.unusedSimpArgs false
set_option maxRecDepth 2000

namespace Sys2Proof.Machine

/-- `tprimCatch` changes at most: evtSeen, regs, tpMarks. -/
theorem State.tprimCatch_mask {M : Nat} (hM : 2658455991569831745807614120560689412 &&& M = 2658455991569831745807614120560689412) (s0 : State) (s : State) (applied : Bool) :
    (State.tprimCatch s0 s applied).mask M = s.mask M :=
  State.mask_mono hM (by
    unfold State.tprimCatch
    simp only [apply_ite (State.mask 2658455991569831745807614120560689412), apply_ite Prod.snd, apply_ite Prod.fst,
        State.countBy_mask, State.raise_mask, State.upd121_mask, Nat.reduceAnd, ite_self])

/-- `tprimRefused` changes at most: evtSeen, regs. -/
theorem State.tprimRefused_mask {M : Nat} (hM : 260 &&& M = 260) (s : State) (cause : Nat) :
    (State.tprimRefused s cause).mask M = s.mask M :=
  State.mask_mono hM (by
    unfold State.tprimRefused
    simp only [State.fault_mask, State.raise_mask, State.set_mask, Nat.reduceAnd, ite_self])

/-- `trigSend` changes at most: out, txRd, sig. -/
theorem State.trigSend_mask {M : Nat} (hM : 39633424070246002863567273986 &&& M = 39633424070246002863567273986) (s : State) (k : Fin 8) (comma : Byte) (bytes : List Byte) :
    (State.trigSend s k comma bytes).mask M = s.mask M :=
  State.mask_mono hM (by
    unfold State.trigSend
    simp only [apply_ite (State.mask 39633424070246002863567273986), apply_ite Prod.snd, apply_ite Prod.fst, State.emit_mask,
        State.transmit_mask, Nat.reduceAnd, ite_self])

/-- `tpLeave` changes at most: out, evtSeen, regs, txRd, sig, tpLast. -/
theorem State.tpLeave_mask {M : Nat} (hM : 5316912022773087561861231104688652550 &&& M = 5316912022773087561861231104688652550) (s : State) (t : Nat) :
    (State.tpLeave s t).mask M = s.mask M :=
  State.mask_mono hM (by
    unfold State.tpLeave
    repeat' (first
      | with_reducible rfl
      | (simp only [apply_ite (State.mask 5316912022773087561861231104688652550), apply_ite Prod.snd, apply_ite Prod.fst,
          State.countW_mask, State.trigSend_mask, forEach_mask, State.upd122_mask, Nat.reduceAnd, ite_self]; done)
      | with_reducible refine (forEach_mask (by decide) _ _ _ (fun t a => ?_)).trans ?_
      | split
      | (simp only [apply_ite (State.mask 5316912022773087561861231104688652550), apply_ite Prod.snd, apply_ite Prod.fst,
          State.countW_mask, State.trigSend_mask, State.upd122_mask, Nat.reduceAnd, ite_self])))

/-- `tpRecord` changes at most: evtSeen, regs, tp. -/
theorem State.tpRecord_mask {M : Nat} (hM : 1329227995784915872903807060280344836 &&& M = 1329227995784915872903807060280344836) (s : State) (n : Nat) :
    (State.tpRecord s n).mask M = s.mask M :=
  State.mask_mono hM (by
    unfold State.tpRecord
    simp only [apply_ite (State.mask 1329227995784915872903807060280344836), apply_ite Prod.snd, apply_ite Prod.fst,
        State.count_mask, State.countBy_mask, State.raise_mask, State.upd120_mask, Nat.reduceAnd, ite_self])

/-- `tprimTick` changes at most: out, evtSeen, regs, txRd, sig, tp, tpLast. -/
theorem State.tprimTick_mask {M : Nat} (hM : 6646140018558003434765038164968997126 &&& M = 6646140018558003434765038164968997126) (s : State) (t : Nat) :
    (State.tprimTick s t).mask M = s.mask M :=
  State.mask_mono hM (by
    unfold State.tprimTick
    simp only [apply_ite (State.mask 6646140018558003434765038164968997126), apply_ite Prod.snd, apply_ite Prod.fst,
        State.tpLeave_mask, State.tpRecord_mask, Nat.reduceAnd, ite_self])

end Sys2Proof.Machine
end

