-- ==== Sys2Proof/Laws/MaskViews.lean ====
section
/-! SUPPORT. What the operations of Machine/Views.lean can change (see Laws/Mask.lean): one lemma for each. -/

set_option linter.unusedSimpArgs false
set_option maxRecDepth 2000

namespace Sys2Proof.Machine

/-- `awakeView` changes at most: free. -/
theorem State.awakeView_mask {M : Nat} (hM : 32 &&& M = 32) (s : State) (w : Word) :
    (State.awakeView s w).2.mask M = s.mask M :=
  State.mask_mono hM (by
    unfold State.awakeView
    simp only [apply_ite (State.mask 32), apply_ite Prod.snd, apply_ite Prod.fst, State.draw_mask, Nat.reduceAnd, ite_self])

/-- `tdacView` changes at most: free. -/
theorem State.tdacView_mask {M : Nat} (hM : 32 &&& M = 32) (s : State) (b : Nat) :
    (State.tdacView s b).2.mask M = s.mask M :=
  State.mask_mono hM (by
    unfold State.tdacView
    simp only [State.dacCode_mask, Nat.reduceAnd, ite_self])

/-- `liveWord` changes at most: free. -/
theorem State.liveWord_mask {M : Nat} (hM : 32 &&& M = 32) (s : State) (a : Nat) :
    (State.liveWord s a).2.mask M = s.mask M :=
  State.mask_mono hM (by
    unfold State.liveWord
    repeat' split
    all_goals (try simp only [apply_ite (State.mask 32), apply_ite Prod.snd, apply_ite Prod.fst, State.awakeView_mask,
        State.tdacView_mask, Nat.reduceAnd, ite_self]))

end Sys2Proof.Machine
end

