-- ==== Sys2Proof/Laws/MaskMgmt.lean ====
section
/-! SUPPORT. What the operations of Machine/Mgmt.lean can change (see Laws/Mask.lean): one lemma for each. -/

set_option linter.unusedSimpArgs false
set_option maxRecDepth 2000

namespace Sys2Proof.Machine

/-- `paceAnswer` changes at most: out, pace. -/
theorem State.paceAnswer_mask {M : Nat} (hM : 16777218 &&& M = 16777218) (s : State) (seq : Byte) (bytes : List Byte) :
    (State.paceAnswer s seq bytes).mask M = s.mask M :=
  State.mask_mono hM (by
    unfold State.paceAnswer
    simp only [State.sendControl_mask, State.upd24_mask, Nat.reduceAnd, ite_self])

/-- `ringOwn` changes at most: out, ring. -/
theorem State.ringOwn_mask {M : Nat} (hM : 664613997892457936451903530140172290 &&& M = 664613997892457936451903530140172290) (s : State) (f : RingFrame) :
    (State.ringOwn s f).mask M = s.mask M :=
  State.mask_mono hM (by
    unfold State.ringOwn
    simp only [State.emit_mask, State.upd119_mask, Nat.reduceAnd, ite_self])

/-- `ringAnswer` changes at most: out, ring. -/
theorem State.ringAnswer_mask {M : Nat} (hM : 664613997892457936451903530140172290 &&& M = 664613997892457936451903530140172290) (s : State) (f : RingFrame) (status : Nat) (d : Word) :
    (State.ringAnswer s f status d).mask M = s.mask M :=
  State.mask_mono hM (by
    unfold State.ringAnswer
    simp only [State.ringOwn_mask, Nat.reduceAnd, ite_self])

/-- `answer` changes at most: out, evtSeen, regs, pace, ring. -/
theorem State.answer_mask {M : Nat} (hM : 664613997892457936451903530156949766 &&& M = 664613997892457936451903530156949766) (s : State) (r : ArbReq) (status : Nat) (d : Word) :
    (State.answer s r status d).mask M = s.mask M :=
  State.mask_mono hM (by
    unfold State.answer
    repeat' split
    all_goals simp only [State.countW_mask, State.emit_mask, State.paceAnswer_mask, State.ringAnswer_mask, Nat.reduceAnd, ite_self])

/-- `hold` changes at most: holdC, holdG. -/
theorem State.hold_mask {M : Nat} (hM : 12288 &&& M = 12288) (s : State) (p : Port) (a : Nat) (m : Word) (w : Word) :
    (State.hold s p a m w).mask M = s.mask M :=
  State.mask_mono hM (by
    unfold State.hold
    repeat' split
    all_goals simp only [State.upd12_mask, State.upd13_mask, Nat.reduceAnd, ite_self])

/-- `holdGroup` changes at most: free, holdC, holdG. -/
theorem State.holdGroup_mask {M : Nat} (hM : 12320 &&& M = 12320) (s : State) (p : Port) (first : Nat) (g : List Nat) :
    (State.holdGroup s p first g).mask M = s.mask M :=
  State.mask_mono hM (by
    unfold State.holdGroup
    repeat' (first
      | with_reducible rfl
      | (simp only [apply_ite (State.mask 12320), apply_ite Prod.snd, apply_ite Prod.fst, State.hold_mask, State.liveWord_mask,
          forEach_mask, Nat.reduceAnd, ite_self]; done)
      | with_reducible refine (forEach_mask (by decide) _ _ _ (fun t a => ?_)).trans ?_
      | split
      | (simp only [apply_ite (State.mask 12320), apply_ite Prod.snd, apply_ite Prod.fst, State.hold_mask, State.liveWord_mask,
          Nat.reduceAnd, ite_self])))

/-- `performRead` changes at most: free, regs, holdC, holdG. -/
theorem State.performRead_mask {M : Nat} (hM : 12576 &&& M = 12576) (s : State) (p : Port) (a : Nat) :
    (State.performRead s p a).2.mask M = s.mask M :=
  State.mask_mono hM (by
    unfold State.performRead
    repeat' split
    all_goals simp only [State.clearFresh_mask, State.holdGroup_mask, State.liveWord_mask, Nat.reduceAnd, ite_self])

/-- `writeEvtClear` changes at most: evtSeen, regs. -/
theorem State.writeEvtClear_mask {M : Nat} (hM : 260 &&& M = 260) (s : State) (pg : Nat) (d : Word) :
    (State.writeEvtClear s pg d).2.mask M = s.mask M :=
  State.mask_mono hM (by
    unfold State.writeEvtClear
    simp only [apply_ite (State.mask 260), apply_ite Prod.snd, apply_ite Prod.fst, State.count_mask, State.wr_mask,
        Nat.reduceAnd, ite_self])

/-- `bitsCleared` changes at most: regs. -/
theorem State.bitsCleared_mask {M : Nat} (hM : 256 &&& M = 256) (s : State) (a : Nat) :
    (State.bitsCleared s a).mask M = s.mask M :=
  State.mask_mono hM (by
    unfold State.bitsCleared
    repeat' split
    all_goals simp only [State.set_mask, Nat.reduceAnd, ite_self])

/-- `selErr` changes at most: evtSeen, regs. -/
theorem State.selErr_mask {M : Nat} (hM : 260 &&& M = 260) (s : State) (pg : Nat) :
    (State.selErr s pg).mask M = s.mask M :=
  State.mask_mono hM (by
    unfold State.selErr
    simp only [apply_ite (State.mask 260), apply_ite Prod.snd, apply_ite Prod.fst, State.fault_mask, State.raise_mask,
        Nat.reduceAnd, ite_self])

/-- `lockedWrite` changes at most: evtSeen, regs. -/
theorem State.lockedWrite_mask {M : Nat} (hM : 260 &&& M = 260) (s : State) :
    (State.lockedWrite s).mask M = s.mask M :=
  State.mask_mono hM (by
    unfold State.lockedWrite
    simp only [State.count_mask, State.raise_mask, Nat.reduceAnd, ite_self])

/-- `setUnlock` changes at most: unlockC, unlockG. -/
theorem State.setUnlock_mask {M : Nat} (hM : 196608 &&& M = 196608) (s : State) (p : Port) (b : Bool) :
    (State.setUnlock s p b).mask M = s.mask M :=
  State.mask_mono hM (by
    unfold State.setUnlock
    repeat' split
    all_goals simp only [State.upd16_mask, State.upd17_mask, Nat.reduceAnd, ite_self])

/-- `stage` changes at most: evtSeen, regs, staged, ovf. -/
theorem State.stage_mask {M : Nat} (hM : 49412 &&& M = 49412) (s : State) (pg : Nat) (key : Nat) (mask : Word) (d : Word) :
    (State.stage s pg key mask d).2.mask M = s.mask M :=
  State.mask_mono hM (by
    unfold State.stage
    simp only [apply_ite (State.mask 49412), apply_ite Prod.snd, apply_ite Prod.fst, State.raise_mask, State.upd14_mask,
        State.upd15_mask, Nat.reduceAnd, ite_self])

/-- `stageBuffered` changes at most: evtSeen, regs, staged, ovf, unlockC, unlockG. -/
theorem State.stageBuffered_mask {M : Nat} (hM : 246020 &&& M = 246020) (s : State) (p : Port) (pg : Nat) (key : Nat) (mask : Word) (d : Word) (keyed : Bool) :
    (State.stageBuffered s p pg key mask d keyed).2.mask M = s.mask M :=
  State.mask_mono hM (by
    unfold State.stageBuffered
    simp only [apply_ite (State.mask 246020), apply_ite Prod.snd, apply_ite Prod.fst, State.lockedWrite_mask,
        State.setUnlock_mask, State.stage_mask, Nat.reduceAnd, ite_self])

/-- `writeFields` changes at most: evtSeen, regs, staged, ovf, unlockC, unlockG. -/
theorem State.writeFields_mask {M : Nat} (hM : 246020 &&& M = 246020) (s : State) (p : Port) (a : Nat) (d : Word) :
    (State.writeFields s p a d).2.mask M = s.mask M :=
  State.mask_mono hM (by
    unfold State.writeFields
    simp only [apply_ite (State.mask 246020), apply_ite Prod.snd, apply_ite Prod.fst, State.bitsCleared_mask,
        State.capRearm_mask, State.selErr_mask, State.stageBuffered_mask, State.wr_mask, Nat.reduceAnd, ite_self]
    repeat' split
    all_goals (try simp only [apply_ite (State.mask 246020), apply_ite Prod.snd, apply_ite Prod.fst, State.bitsCleared_mask,
        State.capRearm_mask, State.selErr_mask, State.stageBuffered_mask, State.wr_mask, Nat.reduceAnd, ite_self]))

/-- `writePageCtl` changes at most: out, evtSeen, regs, staged, ovf, unlockC, unlockG, laneBusy, slipWant, links, dmas, fetched,
seats, seatUse, seatWait, spillTold. -/
theorem State.writePageCtl_mask {M : Nat} (hM : 562519953851276796914162047631622 &&& M = 562519953851276796914162047631622) (s : State) (p : Port) (pg : Nat) (d : Word) :
    (State.writePageCtl s p pg d).2.mask M = s.mask M :=
  State.mask_mono hM (by
    unfold State.writePageCtl
    simp only [apply_ite (State.mask 562519953851276796914162047631622), apply_ite Prod.snd, apply_ite Prod.fst,
        State.lockedWrite_mask, State.pauseChanged_mask, State.set_mask, State.setUnlock_mask, State.setb_mask, State.stage_mask,
        Nat.reduceAnd, ite_self])

/-- `writeCoef` changes at most: evtSeen, regs, badTaps. -/
theorem State.writeCoef_mask {M : Nat} (hM : 4398046511364 &&& M = 4398046511364) (s : State) (d : Word) :
    (State.writeCoef s d).2.mask M = s.mask M :=
  State.mask_mono hM (by
    unfold State.writeCoef
    simp only [State.coefWrite_mask, Nat.reduceAnd, ite_self])

/-- `writeHkGo` changes at most: evtSeen, regs, hk. -/
theorem State.writeHkGo_mask {M : Nat} (hM : 83076749736557242056487941267521796 &&& M = 83076749736557242056487941267521796) (s : State) (d : Word) :
    (State.writeHkGo s d).mask M = s.mask M :=
  State.mask_mono hM (by
    unfold State.writeHkGo
    simp only [apply_ite (State.mask 83076749736557242056487941267521796), apply_ite Prod.snd, apply_ite Prod.fst,
        State.doInjGo_mask, State.doRegGo_mask, State.doSelftestGo_mask, Nat.reduceAnd, ite_self])

/-- `writeShadow` changes at most: evtSeen, regs, sats. -/
theorem State.writeShadow_mask {M : Nat} (hM : 20769187434139310514121985316880644 &&& M = 20769187434139310514121985316880644) (s : State) (d : Word) :
    (State.writeShadow s d).2.mask M = s.mask M :=
  State.mask_mono hM (by
    unfold State.writeShadow
    simp only [State.doShadowWrite_mask, Nat.reduceAnd, ite_self])

/-- `writeUnlock` changes at most: evtSeen, regs, unlockC, unlockG. -/
theorem State.writeUnlock_mask {M : Nat} (hM : 196868 &&& M = 196868) (s : State) (p : Port) (d : Word) :
    (State.writeUnlock s p d).mask M = s.mask M :=
  State.mask_mono hM (by
    unfold State.writeUnlock
    simp only [apply_ite (State.mask 196868), apply_ite Prod.snd, apply_ite Prod.fst, State.count_mask, State.raise_mask,
        State.setUnlock_mask, Nat.reduceAnd, ite_self])

/-- Where `writeSpecial` answers a state, it has changed at most: evtSeen, fired, free, regs, unlockC, unlockG, snapReq, banks,
    badTaps, frags, engines, lensClk, es, sats, hk. -/
theorem State.writeSpecial_mask {M : Nat} (hM : 103845956977909547513323465336095020 &&& M = 103845956977909547513323465336095020) (s : State) (p : Port) (a : Nat) (d : Word)
    (t : Nat × State) (ht : s.writeSpecial p a d = some t) : t.2.mask M = s.mask M :=
  State.mask_mono hM (by
    revert ht
    unfold State.writeSpecial
    repeat' split
    all_goals
      intro ht
      first
      | (cases ht; done)
      | (cases ht; simp only [apply_ite (State.mask 103845956977909547513323465336095020), State.calNow_mask, State.cmpArm_mask,
          State.doCreditAdd_mask, State.doLensFlush_mask, State.doShadowForget_mask, State.esGo_mask, State.writeCoef_mask,
          State.writeHkGo_mask, State.writeShadow_mask, State.writeUnlock_mask, State.upd18_mask, Nat.reduceAnd, ite_self]; done))

/-- `performWrite` changes at most: out, evtSeen, fired, free, regs, staged, ovf, unlockC, unlockG, snapReq, banks, badTaps,
frags, engines, lensClk, es, laneBusy, slipWant, links, dmas, fetched, seats, seatUse, seatWait, spillTold, sats, hk. -/
theorem State.performWrite_mask {M : Nat} (hM : 104408476931760824310237627383529774 &&& M = 104408476931760824310237627383529774) (s : State) (p : Port) (a : Nat) (d : Word) :
    (State.performWrite s p a d).2.mask M = s.mask M :=
  State.mask_mono hM (by
    unfold State.performWrite
    repeat' split
    all_goals first
      | rfl
      | (simp only [apply_ite (State.mask 104408476931760824310237627383529774), apply_ite Prod.snd, apply_ite Prod.fst,
          State.calNow_mask, State.cmpArm_mask, State.doCreditAdd_mask, State.doLensFlush_mask, State.doShadowForget_mask,
          State.esGo_mask, State.writeCoef_mask, State.writeEvtClear_mask, State.writeFields_mask, State.writeHkGo_mask,
          State.writePageCtl_mask, State.writeShadow_mask, State.writeUnlock_mask, State.upd18_mask, Nat.reduceAnd, ite_self]; done)
      | exact State.writeSpecial_mask (by decide) _ _ _ _ _ (by assumption))

/-- `serve` changes at most: out, evtSeen, fired, free, regs, holdC, holdG, staged, ovf, unlockC, unlockG, snapReq, served,
pace, banks, badTaps, frags, engines, lensClk, es, laneBusy, slipWant, links, dmas, fetched, seats, seatUse, seatWait,
spillTold, sats, hk, ring. -/
theorem State.serve_mask {M : Nat} (hM : 769022474824218760762141157542588718 &&& M = 769022474824218760762141157542588718) (s : State) (r : ArbReq) :
    (State.serve s r).mask M = s.mask M :=
  State.mask_mono hM (by
    unfold State.serve
    repeat' split
    all_goals simp only [State.answer_mask, State.performRead_mask, State.performWrite_mask, State.sendControl_mask,
        State.writeUnlock_mask, State.upd21_mask, Nat.reduceAnd, ite_self])

/-- `setWaiting` changes at most: arbC, arbG. -/
theorem State.setWaiting_mask {M : Nat} (hM : 1572864 &&& M = 1572864) (s : State) (p : Port) (l : List ArbReq) :
    (State.setWaiting s p l).mask M = s.mask M :=
  State.mask_mono hM (by
    unfold State.setWaiting
    repeat' split
    all_goals simp only [State.upd19_mask, State.upd20_mask, Nat.reduceAnd, ite_self])

/-- `access` changes at most: out, evtSeen, fired, free, regs, holdC, holdG, staged, ovf, unlockC, unlockG, snapReq, arbC, arbG,
served, time, pace, banks, badTaps, frags, engines, lensClk, es, laneBusy, slipWant, links, dmas, fetched, seats, seatUse,
seatWait, spillTold, sats, hk, ring. -/
theorem State.access_mask {M : Nat} (hM : 769022474824218760762141157552550190 &&& M = 769022474824218760762141157552550190) (s : State) (r : ArbReq) :
    (State.access s r).mask M = s.mask M :=
  State.mask_mono hM (by
    unfold State.access
    simp only [apply_ite (State.mask 769022474824218760762141157552550190), apply_ite Prod.snd, apply_ite Prod.fst,
        State.count_mask, State.serve_mask, State.setWaiting_mask, Nat.reduceAnd, ite_self])

/-- `hostWrite` changes at most: out, evtSeen, fired, free, regs, holdC, holdG, staged, ovf, unlockC, unlockG, snapReq, arbC,
arbG, served, time, pace, banks, badTaps, frags, engines, lensClk, es, laneBusy, slipWant, links, dmas, fetched, seats, seatUse,
seatWait, spillTold, sats, hk, ring. -/
theorem State.hostWrite_mask {M : Nat} (hM : 769022474824218760762141157552550190 &&& M = 769022474824218760762141157552550190) (s : State) (p : Port) (a : Nat) (d : Word) :
    (State.hostWrite s p a d).mask M = s.mask M :=
  State.mask_mono hM (by
    unfold State.hostWrite
    simp only [apply_ite (State.mask 769022474824218760762141157552550190), apply_ite Prod.snd, apply_ite Prod.fst,
        State.access_mask, Nat.reduceAnd, ite_self])

/-- `hostSet` changes at most: out, evtSeen, fired, free, regs, holdC, holdG, staged, ovf, unlockC, unlockG, snapReq, arbC,
arbG, served, time, pace, banks, badTaps, frags, engines, lensClk, es, laneBusy, slipWant, links, dmas, fetched, seats, seatUse,
seatWait, spillTold, sats, hk, ring. -/
theorem State.hostSet_mask {M : Nat} (hM : 769022474824218760762141157552550190 &&& M = 769022474824218760762141157552550190) (s : State) (p : Port) (a : Nat) (d : Word) :
    (State.hostSet s p a d).mask M = s.mask M :=
  State.mask_mono hM (by
    unfold State.hostSet
    simp only [State.hostWrite_mask, Nat.reduceAnd, ite_self])

/-- `doPageReset` changes at most: out, evtSeen, fired, free, regs, holdC, holdG, staged, ovf, unlockC, unlockG, snapReq, arbC,
arbG, served, time, pace, banks, badTaps, frags, engines, lensClk, es, laneBusy, slipWant, links, dmas, fetched, seats, seatUse,
seatWait, spillTold, sats, hk, ring. -/
theorem State.doPageReset_mask {M : Nat} (hM : 769022474824218760762141157552550190 &&& M = 769022474824218760762141157552550190) (s : State) (p : Port) (pg : Nat) :
    (State.doPageReset s p pg).mask M = s.mask M :=
  State.mask_mono hM (by
    unfold State.doPageReset
    simp only [State.hostSet_mask, Nat.reduceAnd, ite_self])

/-- `hostRead` changes at most: out, evtSeen, fired, free, regs, holdC, holdG, staged, ovf, unlockC, unlockG, snapReq, arbC,
arbG, served, time, pace, banks, badTaps, frags, engines, lensClk, es, laneBusy, slipWant, links, dmas, fetched, seats, seatUse,
seatWait, spillTold, sats, hk, ring. -/
theorem State.hostRead_mask {M : Nat} (hM : 769022474824218760762141157552550190 &&& M = 769022474824218760762141157552550190) (s : State) (p : Port) (a : Nat) :
    (State.hostRead s p a).mask M = s.mask M :=
  State.mask_mono hM (by
    unfold State.hostRead
    simp only [apply_ite (State.mask 769022474824218760762141157552550190), apply_ite Prod.snd, apply_ite Prod.fst,
        State.access_mask, Nat.reduceAnd, ite_self])

/-- `paceRequest` changes at most: out, evtSeen, fired, free, regs, holdC, holdG, staged, ovf, unlockC, unlockG, snapReq, arbC,
arbG, served, time, pace, banks, badTaps, frags, engines, lensClk, es, laneBusy, slipWant, links, dmas, fetched, seats, seatUse,
seatWait, spillTold, sats, hk, ring. -/
theorem State.paceRequest_mask {M : Nat} (hM : 769022474824218760762141157552550190 &&& M = 769022474824218760762141157552550190) (s : State) (seq : Byte) (a : RegAddr) (d : Option Word) :
    (State.paceRequest s seq a d).mask M = s.mask M :=
  State.mask_mono hM (by
    unfold State.paceRequest
    simp only [apply_ite (State.mask 769022474824218760762141157552550190), apply_ite Prod.snd, apply_ite Prod.fst,
        State.access_mask, Nat.reduceAnd, ite_self])

end Sys2Proof.Machine
end

