-- ==== Sys2Proof/Laws/MaskRing.lean ====
section
/-! SUPPORT. What the operations of Machine/Ring.lean can change (see Laws/Mask.lean): one lemma for each. -/

set_option linter.unusedSimpArgs false
set_option maxRecDepth 2000

namespace Sys2Proof.Machine

/-- `becomeNumbered` changes at most: evtSeen, regs. -/
theorem State.becomeNumbered_mask {M : Nat} (hM : 260 &&& M = 260) (s : State) :
    (State.becomeNumbered s).mask M = s.mask M :=
  State.mask_mono hM (by
    unfold State.becomeNumbered
    simp only [apply_ite (State.mask 260), apply_ite Prod.snd, apply_ite Prod.fst, State.raise_mask, State.set_mask,
        Nat.reduceAnd, ite_self])

/-- `bypassChange` changes at most: evtSeen, regs, ring. -/
theorem State.bypassChange_mask {M : Nat} (hM : 664613997892457936451903530140172548 &&& M = 664613997892457936451903530140172548) (s : State) (open_ : Bool) :
    (State.bypassChange s open_).mask M = s.mask M :=
  State.mask_mono hM (by
    unfold State.bypassChange
    simp only [State.count_mask, State.raise_mask, State.setb_mask, State.upd119_mask, Nat.reduceAnd, ite_self])

/-- `ringCatch` changes at most: evtSeen, regs, ring. -/
theorem State.ringCatch_mask {M : Nat} (hM : 664613997892457936451903530140172548 &&& M = 664613997892457936451903530140172548) (s : State) (written : Bool) :
    (State.ringCatch s written).mask M = s.mask M :=
  State.mask_mono hM (by
    unfold State.ringCatch
    simp only [apply_ite (State.mask 664613997892457936451903530140172548), apply_ite Prod.snd, apply_ite Prod.fst,
        State.becomeNumbered_mask, State.set_mask, State.upd119_mask, Nat.reduceAnd, ite_self]
    repeat' split
    all_goals (try simp only [apply_ite (State.mask 664613997892457936451903530140172548), apply_ite Prod.snd,
        apply_ite Prod.fst, State.becomeNumbered_mask, State.set_mask, State.upd119_mask, Nat.reduceAnd, ite_self]))

/-- `doBypassClose` changes at most: evtSeen, regs, ring. -/
theorem State.doBypassClose_mask {M : Nat} (hM : 664613997892457936451903530140172548 &&& M = 664613997892457936451903530140172548) (s : State) :
    (State.doBypassClose s).mask M = s.mask M :=
  State.mask_mono hM (by
    unfold State.doBypassClose
    simp only [apply_ite (State.mask 664613997892457936451903530140172548), apply_ite Prod.snd, apply_ite Prod.fst,
        State.bypassChange_mask, Nat.reduceAnd, ite_self])

/-- `doBypassOpen` changes at most: evtSeen, regs, ring. -/
theorem State.doBypassOpen_mask {M : Nat} (hM : 664613997892457936451903530140172548 &&& M = 664613997892457936451903530140172548) (s : State) :
    (State.doBypassOpen s).mask M = s.mask M :=
  State.mask_mono hM (by
    unfold State.doBypassOpen
    simp only [apply_ite (State.mask 664613997892457936451903530140172548), apply_ite Prod.snd, apply_ite Prod.fst,
        State.bypassChange_mask, Nat.reduceAnd, ite_self])

/-- `ringClock` changes at most: ring. -/
theorem State.ringClock_mask {M : Nat} (hM : 664613997892457936451903530140172288 &&& M = 664613997892457936451903530140172288) (s : State) :
    (State.ringClock s).mask M = s.mask M :=
  State.mask_mono hM (by
    unfold State.ringClock
    simp only [State.upd119_mask, Nat.reduceAnd, ite_self])

/-- `ringCrc` changes at most: evtSeen, regs. -/
theorem State.ringCrc_mask {M : Nat} (hM : 260 &&& M = 260) (s : State) (f : RingFrame) :
    (State.ringCrc s f).mask M = s.mask M :=
  State.mask_mono hM (by
    unfold State.ringCrc
    simp only [apply_ite (State.mask 260), apply_ite Prod.snd, apply_ite Prod.fst, State.count_mask, State.raise_mask,
        Nat.reduceAnd, ite_self])

/-- `ringForward` changes at most: out. -/
theorem State.ringForward_mask {M : Nat} (hM : 2 &&& M = 2) (s : State) (f : RingFrame) :
    (State.ringForward s f).mask M = s.mask M :=
  State.mask_mono hM (by
    unfold State.ringForward
    simp only [State.emit_mask, Nat.reduceAnd, ite_self])

/-- `ringProto` changes at most: evtSeen, regs. -/
theorem State.ringProto_mask {M : Nat} (hM : 260 &&& M = 260) (s : State) :
    (State.ringProto s).mask M = s.mask M :=
  State.mask_mono hM (by
    unfold State.ringProto
    simp only [State.count_mask, Nat.reduceAnd, ite_self])

/-- `doHelloForward` changes at most: out, evtSeen, regs. -/
theorem State.doHelloForward_mask {M : Nat} (hM : 262 &&& M = 262) (s : State) (f : RingFrame) :
    (State.doHelloForward s f).mask M = s.mask M :=
  State.mask_mono hM (by
    unfold State.doHelloForward
    simp only [apply_ite (State.mask 262), apply_ite Prod.snd, apply_ite Prod.fst, State.ringCrc_mask, State.ringForward_mask,
        State.ringProto_mask, Nat.reduceAnd, ite_self])

/-- `doHelloSend` changes at most: out, ring. -/
theorem State.doHelloSend_mask {M : Nat} (hM : 664613997892457936451903530140172290 &&& M = 664613997892457936451903530140172290) (s : State) :
    (State.doHelloSend s).mask M = s.mask M :=
  State.mask_mono hM (by
    unfold State.doHelloSend
    simp only [apply_ite (State.mask 664613997892457936451903530140172290), apply_ite Prod.snd, apply_ite Prod.fst,
        State.ringOwn_mask, State.upd119_mask, Nat.reduceAnd, ite_self])

/-- `ringRequest` changes at most: out, evtSeen, fired, free, regs, holdC, holdG, staged, ovf, unlockC, unlockG, snapReq, arbC,
arbG, served, time, pace, banks, badTaps, frags, engines, lensClk, es, laneBusy, slipWant, links, dmas, fetched, seats, seatUse,
seatWait, spillTold, sats, hk, ring. -/
theorem State.ringRequest_mask {M : Nat} (hM : 769022474824218760762141157552550190 &&& M = 769022474824218760762141157552550190) (s : State) (f : RingFrame) (r : ArbReq) (cast : Bool) :
    (State.ringRequest s f r cast).mask M = s.mask M :=
  State.mask_mono hM (by
    unfold State.ringRequest
    simp only [apply_ite (State.mask 769022474824218760762141157552550190), apply_ite Prod.snd, apply_ite Prod.fst,
        State.access_mask, State.ringCrc_mask, State.ringForward_mask, Nat.reduceAnd, ite_self])

/-- `doKeyedWrite` changes at most: out, evtSeen, fired, free, regs, holdC, holdG, staged, ovf, unlockC, unlockG, snapReq, arbC,
arbG, served, time, pace, banks, badTaps, frags, engines, lensClk, es, laneBusy, slipWant, links, dmas, fetched, seats, seatUse,
seatWait, spillTold, sats, hk, ring. -/
theorem State.doKeyedWrite_mask {M : Nat} (hM : 769022474824218760762141157552550190 &&& M = 769022474824218760762141157552550190) (s : State) (f : RingFrame) :
    (State.doKeyedWrite s f).mask M = s.mask M :=
  State.mask_mono hM (by
    unfold State.doKeyedWrite
    simp only [apply_ite (State.mask 769022474824218760762141157552550190), apply_ite Prod.snd, apply_ite Prod.fst,
        State.ringRequest_mask, Nat.reduceAnd, ite_self])

/-- `doRingBadOp` changes at most: out, evtSeen, regs. -/
theorem State.doRingBadOp_mask {M : Nat} (hM : 262 &&& M = 262) (s : State) (f : RingFrame) :
    (State.doRingBadOp s f).mask M = s.mask M :=
  State.mask_mono hM (by
    unfold State.doRingBadOp
    simp only [apply_ite (State.mask 262), apply_ite Prod.snd, apply_ite Prod.fst, State.ringCrc_mask, State.ringForward_mask,
        State.ringProto_mask, Nat.reduceAnd, ite_self])

/-- `doRingPass` changes at most: out, evtSeen, regs. -/
theorem State.doRingPass_mask {M : Nat} (hM : 262 &&& M = 262) (s : State) (f : RingFrame) :
    (State.doRingPass s f).mask M = s.mask M :=
  State.mask_mono hM (by
    unfold State.doRingPass
    simp only [apply_ite (State.mask 262), apply_ite Prod.snd, apply_ite Prod.fst, State.ringCrc_mask, State.ringForward_mask,
        Nat.reduceAnd, ite_self])

/-- `ringComplete` changes at most: out, evtSeen, regs. -/
theorem State.ringComplete_mask {M : Nat} (hM : 262 &&& M = 262) (s : State) (c : RingChar) :
    (State.ringComplete s c).mask M = s.mask M :=
  State.mask_mono hM (by
    unfold State.ringComplete
    repeat' split
    all_goals simp only [State.doRingPass_mask, Nat.reduceAnd, ite_self])

/-- `ringFrameEnd` changes at most: ring. -/
theorem State.ringFrameEnd_mask {M : Nat} (hM : 664613997892457936451903530140172288 &&& M = 664613997892457936451903530140172288) (s : State) (c : RingChar) :
    (State.ringFrameEnd s c).mask M = s.mask M :=
  State.mask_mono hM (by
    unfold State.ringFrameEnd
    repeat' split
    all_goals simp only [State.upd119_mask, Nat.reduceAnd, ite_self])

/-- `ringAborted` changes at most: evtSeen, regs. -/
theorem State.ringAborted_mask {M : Nat} (hM : 260 &&& M = 260) (s : State) :
    (State.ringAborted s).mask M = s.mask M :=
  State.mask_mono hM (by
    unfold State.ringAborted
    simp only [State.count_mask, State.raise_mask, Nat.reduceAnd, ite_self])

/-- `ringHeard` changes at most: evtSeen, regs, ring. -/
theorem State.ringHeard_mask {M : Nat} (hM : 664613997892457936451903530140172548 &&& M = 664613997892457936451903530140172548) (s : State) (c : RingChar) :
    (State.ringHeard s c).mask M = s.mask M :=
  State.mask_mono hM (by
    unfold State.ringHeard
    repeat' split
    all_goals (try simp only [apply_ite (State.mask 664613997892457936451903530140172548), apply_ite Prod.snd,
        apply_ite Prod.fst, State.ringAborted_mask, State.ringProto_mask, State.upd119_mask, Nat.reduceAnd, ite_self]))

/-- `ringPlace` changes at most: ring. -/
theorem State.ringPlace_mask {M : Nat} (hM : 664613997892457936451903530140172288 &&& M = 664613997892457936451903530140172288) (s : State) (c : RingChar) :
    (State.ringPlace s c).mask M = s.mask M :=
  State.mask_mono hM (by
    unfold State.ringPlace
    repeat' split
    all_goals simp only [State.upd119_mask, Nat.reduceAnd, ite_self])

/-- `ringOverflow` changes at most: evtSeen, regs, ring. -/
theorem State.ringOverflow_mask {M : Nat} (hM : 664613997892457936451903530140172548 &&& M = 664613997892457936451903530140172548) (s : State) (c : RingChar) :
    (State.ringOverflow s c).mask M = s.mask M :=
  State.mask_mono hM (by
    unfold State.ringOverflow
    simp only [apply_ite (State.mask 664613997892457936451903530140172548), apply_ite Prod.snd, apply_ite Prod.fst,
        State.count_mask, State.fault_mask, State.raise_mask, State.upd119_mask, Nat.reduceAnd, ite_self])

/-- `ringPush` changes at most: evtSeen, regs, ring. -/
theorem State.ringPush_mask {M : Nat} (hM : 664613997892457936451903530140172548 &&& M = 664613997892457936451903530140172548) (s : State) (c : RingChar) :
    (State.ringPush s c).mask M = s.mask M :=
  State.mask_mono hM (by
    unfold State.ringPush
    simp only [apply_ite (State.mask 664613997892457936451903530140172548), apply_ite Prod.snd, apply_ite Prod.fst,
        State.ringOverflow_mask, State.set_mask, State.upd119_mask, Nat.reduceAnd, ite_self])

/-- `ringValid` changes at most: ring. -/
theorem State.ringValid_mask {M : Nat} (hM : 664613997892457936451903530140172288 &&& M = 664613997892457936451903530140172288) (s : State) (c : RingChar) :
    (State.ringValid s c).mask M = s.mask M :=
  State.mask_mono hM (by
    unfold State.ringValid
    simp only [State.upd119_mask, Nat.reduceAnd, ite_self])

/-- `ringRx` changes at most: out, evtSeen, regs, ring. -/
theorem State.ringRx_mask {M : Nat} (hM : 664613997892457936451903530140172550 &&& M = 664613997892457936451903530140172550) (s : State) (c : RingChar) :
    (State.ringRx s c).mask M = s.mask M :=
  State.mask_mono hM (by
    unfold State.ringRx
    simp only [State.ringComplete_mask, State.ringFrameEnd_mask, State.ringHeard_mask, State.ringPlace_mask, State.ringPush_mask,
        State.ringValid_mask, Nat.reduceAnd, ite_self])

/-- `ringDelete` changes at most: evtSeen, regs, ring. -/
theorem State.ringDelete_mask {M : Nat} (hM : 664613997892457936451903530140172548 &&& M = 664613997892457936451903530140172548) (s : State) :
    (State.ringDelete s).mask M = s.mask M :=
  State.mask_mono hM (by
    unfold State.ringDelete
    repeat' split
    all_goals simp only [State.countW_mask, State.upd119_mask, Nat.reduceAnd, ite_self])

/-- `ringIdle` changes at most: ring. -/
theorem State.ringIdle_mask {M : Nat} (hM : 664613997892457936451903530140172288 &&& M = 664613997892457936451903530140172288) (s : State) :
    (State.ringIdle s).mask M = s.mask M :=
  State.mask_mono hM (by
    unfold State.ringIdle
    simp only [State.upd119_mask, Nat.reduceAnd, ite_self])

/-- `ringPop` changes at most: ring. -/
theorem State.ringPop_mask {M : Nat} (hM : 664613997892457936451903530140172288 &&& M = 664613997892457936451903530140172288) (s : State) (c : RingChar) (rest : List RingChar) :
    (State.ringPop s c rest).mask M = s.mask M :=
  State.mask_mono hM (by
    unfold State.ringPop
    simp only [State.upd119_mask, Nat.reduceAnd, ite_self])

/-- `ringGap` changes at most: evtSeen, regs, ring. -/
theorem State.ringGap_mask {M : Nat} (hM : 664613997892457936451903530140172548 &&& M = 664613997892457936451903530140172548) (s : State) :
    (State.ringGap s).mask M = s.mask M :=
  State.mask_mono hM (by
    unfold State.ringGap
    repeat' split
    all_goals simp only [State.countW_mask, State.ringIdle_mask, State.ringPop_mask, Nat.reduceAnd, ite_self])

/-- `ringTx` changes at most: out, evtSeen, regs, ring. -/
theorem State.ringTx_mask {M : Nat} (hM : 664613997892457936451903530140172550 &&& M = 664613997892457936451903530140172550) (s : State) :
    (State.ringTx s).mask M = s.mask M :=
  State.mask_mono hM (by
    unfold State.ringTx
    repeat' split
    all_goals simp only [State.emit_mask, State.ringAborted_mask, State.ringDelete_mask, State.ringGap_mask, State.ringPop_mask,
        State.upd119_mask, Nat.reduceAnd, ite_self])

/-- `ringSlots` changes at most: out, evtSeen, regs, ring. -/
theorem State.ringSlots_mask {M : Nat} (hM : 664613997892457936451903530140172550 &&& M = 664613997892457936451903530140172550) (s : State) (l : List RingSlot) :
    (State.ringSlots s l).mask M = s.mask M :=
  State.mask_mono hM (by
    unfold State.ringSlots
    refine State.foldl_keep (State.mask 664613997892457936451903530140172550) _ _ _ (fun r c => ?_)
    cases c
    · exact State.ringRx_mask (by decide) _ _
    · exact State.ringTx_mask (by decide) _)

/-- `doRingFramePass` changes at most: out, evtSeen, regs, ring. -/
theorem State.doRingFramePass_mask {M : Nat} (hM : 664613997892457936451903530140172550 &&& M = 664613997892457936451903530140172550) (s : State) (l : List RingSlot) (f : Option RingFrame) :
    (State.doRingFramePass s l f).mask M = s.mask M :=
  State.mask_mono hM (by
    unfold State.doRingFramePass
    repeat' split
    all_goals simp only [State.doRingPass_mask, State.ringSlots_mask, Nat.reduceAnd, ite_self])

/-- `doRingFraming` changes at most: evtSeen, regs, ring. -/
theorem State.doRingFraming_mask {M : Nat} (hM : 664613997892457936451903530140172548 &&& M = 664613997892457936451903530140172548) (s : State) (inFrame : Bool) :
    (State.doRingFraming s inFrame).mask M = s.mask M :=
  State.mask_mono hM (by
    unfold State.doRingFraming
    simp only [apply_ite (State.mask 664613997892457936451903530140172548), apply_ite Prod.snd, apply_ite Prod.fst,
        State.count_mask, State.raise_mask, State.ringProto_mask, State.ringPush_mask, State.ringValid_mask, State.upd119_mask,
        Nat.reduceAnd, ite_self])

/-- `doRingRead` changes at most: out, evtSeen, fired, free, regs, holdC, holdG, staged, ovf, unlockC, unlockG, snapReq, arbC,
arbG, served, time, pace, banks, badTaps, frags, engines, lensClk, es, laneBusy, slipWant, links, dmas, fetched, seats, seatUse,
seatWait, spillTold, sats, hk, ring. -/
theorem State.doRingRead_mask {M : Nat} (hM : 769022474824218760762141157552550190 &&& M = 769022474824218760762141157552550190) (s : State) (f : RingFrame) :
    (State.doRingRead s f).mask M = s.mask M :=
  State.mask_mono hM (by
    unfold State.doRingRead
    simp only [apply_ite (State.mask 769022474824218760762141157552550190), apply_ite Prod.snd, apply_ite Prod.fst,
        State.ringRequest_mask, Nat.reduceAnd, ite_self])

/-- `ringResetFrame` changes at most: out, evtSeen, regs, ring. -/
theorem State.ringResetFrame_mask {M : Nat} (hM : 664613997892457936451903530140172550 &&& M = 664613997892457936451903530140172550) (s : State) (f : RingFrame) :
    (State.ringResetFrame s f).2.mask M = s.mask M :=
  State.mask_mono hM (by
    unfold State.ringResetFrame
    simp only [apply_ite (State.mask 664613997892457936451903530140172550), apply_ite Prod.snd, apply_ite Prod.fst,
        State.countW_mask, State.ringAnswer_mask, State.ringCrc_mask, State.ringForward_mask, Nat.reduceAnd, ite_self])

/-- `doRingWrite` changes at most: out, evtSeen, fired, free, regs, holdC, holdG, staged, ovf, unlockC, unlockG, snapReq, arbC,
arbG, served, time, pace, banks, badTaps, frags, engines, lensClk, es, laneBusy, slipWant, links, dmas, fetched, seats, seatUse,
seatWait, spillTold, sats, hk, ring. -/
theorem State.doRingWrite_mask {M : Nat} (hM : 769022474824218760762141157552550190 &&& M = 769022474824218760762141157552550190) (s : State) (f : RingFrame) :
    (State.doRingWrite s f).mask M = s.mask M :=
  State.mask_mono hM (by
    unfold State.doRingWrite
    simp only [apply_ite (State.mask 769022474824218760762141157552550190), apply_ite Prod.snd, apply_ite Prod.fst,
        State.ringRequest_mask, Nat.reduceAnd, ite_self])

/-- `walkKeep` changes at most: evtSeen, regs, ring. -/
theorem State.walkKeep_mask {M : Nat} (hM : 664613997892457936451903530140172548 &&& M = 664613997892457936451903530140172548) (s : State) (f : RingFrame) :
    (State.walkKeep s f).mask M = s.mask M :=
  State.mask_mono hM (by
    unfold State.walkKeep
    simp only [apply_ite (State.mask 664613997892457936451903530140172548), apply_ite Prod.snd, apply_ite Prod.fst,
        State.countW_mask, State.raise_mask, State.set_mask, State.setb_mask, State.upd119_mask, Nat.reduceAnd, ite_self])

/-- `doRollCall` changes at most: out, evtSeen, regs, ring. -/
theorem State.doRollCall_mask {M : Nat} (hM : 664613997892457936451903530140172550 &&& M = 664613997892457936451903530140172550) (s : State) (f : RingFrame) :
    (State.doRollCall s f).mask M = s.mask M :=
  State.mask_mono hM (by
    unfold State.doRollCall
    simp only [apply_ite (State.mask 664613997892457936451903530140172550), apply_ite Prod.snd, apply_ite Prod.fst,
        State.ringCrc_mask, State.ringForward_mask, State.walkKeep_mask, Nat.reduceAnd, ite_self])

end Sys2Proof.Machine
end

