-- ==== Sys2Proof/Laws/MaskApply.lean ====
section
/-! SUPPORT. What the operations of Machine/Apply.lean can change (see Laws/Mask.lean): one lemma for each. -/

set_option linter.unusedSimpArgs false
set_option maxRecDepth 2000

namespace Sys2Proof.Machine

/-- `appliedEffect` changes at most: evtSeen, regs, tcuA, tcuB, cox, fadeQ, profiles, hk. -/
theorem State.appliedEffect_mask {M : Nat} (hM : 83076749736557242056491240037286148 &&& M = 83076749736557242056491240037286148) (s : State) (pg : Nat) (es : List Staged) :
    (State.appliedEffect s pg es).mask M = s.mask M :=
  State.mask_mono hM (by
    unfold State.appliedEffect
    repeat' split
    all_goals simp only [State.coxApplied_mask, State.excRestart_mask, State.pcoefApplied_mask, State.prismApplied_mask,
        State.tcuApplied_mask, Nat.reduceAnd, ite_self])

/-- `applyEntry` changes at most: evtSeen, regs. -/
theorem State.applyEntry_mask {M : Nat} (hM : 260 &&& M = 260) (s : State) (e : Staged) :
    (State.applyEntry s e).mask M = s.mask M :=
  State.mask_mono hM (by
    unfold State.applyEntry
    simp only [apply_ite (State.mask 260), apply_ite Prod.snd, apply_ite Prod.fst, State.applyTrimTgt_mask, State.wr_mask,
        Nat.reduceAnd, ite_self])

/-- `applyEntries` changes at most: evtSeen, regs. -/
theorem State.applyEntries_mask {M : Nat} (hM : 260 &&& M = 260) (s : State) (es : List Staged) :
    (State.applyEntries s es).mask M = s.mask M :=
  State.mask_mono hM (by
    unfold State.applyEntries
    repeat' (first
      | with_reducible rfl
      | (simp only [apply_ite (State.mask 260), apply_ite Prod.snd, apply_ite Prod.fst, State.applyEntry_mask, forEach_mask,
          Nat.reduceAnd, ite_self]; done)
      | with_reducible refine (forEach_mask (by decide) _ _ _ (fun t a => ?_)).trans ?_
      | split
      | (simp only [apply_ite (State.mask 260), apply_ite Prod.snd, apply_ite Prod.fst, State.applyEntry_mask, Nat.reduceAnd,
          ite_self])))

/-- `markApplied` changes at most: evtSeen, regs. -/
theorem State.markApplied_mask {M : Nat} (hM : 260 &&& M = 260) (s : State) (pg : Nat) :
    (State.markApplied s pg).mask M = s.mask M :=
  State.mask_mono hM (by
    unfold State.markApplied
    simp only [State.raise_mask, State.set_mask, Nat.reduceAnd, ite_self])

/-- `resetEffect` changes at most: out, evtSeen, regs, unlockC, unlockG, time, banks, fades, fadeQ, accQ, held, laneBusy,
slipWant, links, dmas, slots, fetched, seats, seatUse, quiesce, seatWait, spillTold, ring. -/
theorem State.resetEffect_mask {M : Nat} (hM : 665262718087729195766935356514173190 &&& M = 665262718087729195766935356514173190) (s : State) (pg : Nat) :
    (State.resetEffect s pg).mask M = s.mask M :=
  State.mask_mono hM (by
    unfold State.resetEffect
    repeat' (first
      | with_reducible rfl
      | (simp only [apply_ite (State.mask 665262718087729195766935356514173190), apply_ite Prod.snd, apply_ite Prod.fst,
          State.calPageReset_mask, State.crewPageReset_mask, State.pauseChanged_mask, State.prismReset_mask, State.set_mask,
          State.slipPageReset_mask, forEach_mask, State.upd16_mask, State.upd16_17_mask, State.upd23_mask, State.upd53_mask,
          State.upd119_mask, Nat.reduceAnd, ite_self]; done)
      | with_reducible refine (forEach_mask (by decide) _ _ _ (fun t a => ?_)).trans ?_
      | split
      | (simp only [apply_ite (State.mask 665262718087729195766935356514173190), apply_ite Prod.snd, apply_ite Prod.fst,
          State.calPageReset_mask, State.crewPageReset_mask, State.pauseChanged_mask, State.prismReset_mask, State.set_mask,
          State.slipPageReset_mask, State.upd16_mask, State.upd16_17_mask, State.upd23_mask, State.upd53_mask, State.upd119_mask,
          Nat.reduceAnd, ite_self])))

/-- `pageReset` changes at most: out, evtSeen, regs, snap, staged, ovf, unlockC, unlockG, time, banks, fades, fadeQ, accQ, held,
laneBusy, slipWant, links, dmas, slots, fetched, seats, seatUse, quiesce, seatWait, spillTold, ring. -/
theorem State.pageReset_mask {M : Nat} (hM : 665262718087729195766935356514224390 &&& M = 665262718087729195766935356514224390) (s : State) (fresh : Bool) (pg : Nat) :
    (State.pageReset s fresh pg).mask M = s.mask M :=
  State.mask_mono hM (by
    unfold State.pageReset
    repeat' (first
      | with_reducible rfl
      | (simp only [apply_ite (State.mask 665262718087729195766935356514224390), apply_ite Prod.snd, apply_ite Prod.fst,
          State.raise_mask, State.resetEffect_mask, forEach_mask, State.upd2_mask, State.upd2_8_mask, State.upd2_8_11_mask,
          State.upd2_8_11_14_mask, State.upd2_8_11_14_15_mask, Nat.reduceAnd, ite_self]; done)
      | with_reducible refine (forEach_mask (by decide) _ _ _ (fun t a => ?_)).trans ?_
      | split
      | (simp only [apply_ite (State.mask 665262718087729195766935356514224390), apply_ite Prod.snd, apply_ite Prod.fst,
          State.raise_mask, State.resetEffect_mask, State.upd2_mask, State.upd2_8_mask, State.upd2_8_11_mask,
          State.upd2_8_11_14_mask, State.upd2_8_11_14_15_mask, Nat.reduceAnd, ite_self])))

/-- `coxRefused` changes at most: evtSeen, regs. -/
theorem State.coxRefused_mask {M : Nat} (hM : 260 &&& M = 260) (s : State) (cause : Nat) :
    (State.coxRefused s cause).mask M = s.mask M :=
  State.mask_mono hM (by
    unfold State.coxRefused
    simp only [State.fault_mask, State.raise_mask, State.set_mask, Nat.reduceAnd, ite_self])

/-- Where `clkRefused` answers a state, it has changed at most: evtSeen, regs. -/
theorem State.clkRefused_mask {M : Nat} (hM : 260 &&& M = 260) (s0 cand s : State) (es : List Staged) (t : State) (ht : State.clkRefused s0 cand s es = some t) :
    t.mask M = s.mask M :=
  State.mask_mono hM (by
    unfold State.clkRefused at ht
    simp only [Option.ite_none_right_eq_some, Option.some.injEq] at ht
    obtain ⟨_, rfl⟩ := ht
    simp only [apply_ite (State.mask 260), State.count_mask, State.raise_mask, Nat.reduceAnd, ite_self])

/-- Where `timeRefused` answers a state, it has changed at most: evtSeen, free, regs. -/
theorem State.timeRefused_mask {M : Nat} (hM : 292 &&& M = 292) (es : List Staged) (s : State) (t : State) (ht : State.timeRefused es s = some t) :
    t.mask M = s.mask M :=
  State.mask_mono hM (by
    unfold State.timeRefused at ht
    repeat' (first
      | (cases ht; done)
      | (injection ht with ht; subst ht; simp only [apply_ite (State.mask 292), State.draw_mask, State.fault_mask,
          State.raise_mask, Nat.reduceAnd, ite_self]; done)
      | (simp only [Option.map_eq_some_iff] at ht; obtain ⟨_, _, rfl⟩ := ht; simp only [apply_ite (State.mask 292),
          State.draw_mask, State.fault_mask, State.raise_mask, Nat.reduceAnd, ite_self]; done)
      | split at ht
      | dsimp only at ht))

/-- Where `refuse` answers a state, it has changed at most: evtSeen, free, regs, profiles, held, links, dmas, fetched, quiesce. -/
theorem State.refuse_mask {M : Nat} (hM : 95073795621580114921766351012132 &&& M = 95073795621580114921766351012132) (s0 s : State) (swapped : Bool) (pg : Nat) (es : List Staged) (t : State) (ht : State.refuse s0 s swapped pg es = some t) :
    t.mask M = s.mask M :=
  State.mask_mono hM (by
    unfold State.refuse at ht
    repeat' (first
      | (cases ht; done)
      | exact State.clkRefused_mask (by decide) _ _ _ _ _ ht
      | exact State.timeRefused_mask (by decide) _ _ _ ht
      | (injection ht with ht; subst ht; simp only [apply_ite (State.mask 95073795621580114921766351012132),
          State.acqRefused_mask, State.applyEntries_mask, State.count_mask, State.coxRefused_mask, State.crewRefused_mask,
          State.crewSetApply_mask, State.draw_mask, State.fault_mask, State.fragRefused_mask, State.hkRefused_mask,
          State.hkcurveRefused_mask, State.hkseqRefused_mask, State.localRefused_mask, State.pcoefRefused_mask,
          State.prismRefused_mask, State.raise_mask, State.rsmpRefused_mask, State.satstatRefused_mask, State.tprimRefused_mask,
          Nat.reduceAnd, ite_self]; done)
      | (simp only [Option.map_eq_some_iff] at ht; obtain ⟨_, _,
          rfl⟩ := ht; simp only [apply_ite (State.mask 95073795621580114921766351012132), State.acqRefused_mask,
          State.applyEntries_mask, State.count_mask, State.coxRefused_mask, State.crewRefused_mask, State.crewSetApply_mask,
          State.draw_mask, State.fault_mask, State.fragRefused_mask, State.hkRefused_mask, State.hkcurveRefused_mask,
          State.hkseqRefused_mask, State.localRefused_mask, State.pcoefRefused_mask, State.prismRefused_mask, State.raise_mask,
          State.rsmpRefused_mask, State.satstatRefused_mask, State.tprimRefused_mask, Nat.reduceAnd, ite_self]; done)
      | split at ht
      | dsimp only at ht))

/-- `pageCatch` changes at most: out, evtSeen, free, regs, snap, staged, ovf, unlockC, unlockG, time, tcuA, tcuB, cox, banks,
fades, fadeQ, profiles, accQ, held, laneBusy, slipWant, links, dmas, slots, fetched, seats, seatUse, quiesce, seatWait,
spillTold, hk, ring. -/
theorem State.pageCatch_mask {M : Nat} (hM : 748339467824286437823425497039882534 &&& M = 748339467824286437823425497039882534) (s0 : State) (s : State) (swapped : Bool) (pg : Nat) :
    (State.pageCatch s0 s swapped pg).1.mask M = s.mask M :=
  State.mask_mono hM (by
    unfold State.pageCatch
    repeat' (first
      | with_reducible rfl
      | split
      | (simp only [apply_ite (State.mask 748339467824286437823425497039882534), apply_ite Prod.snd, apply_ite Prod.fst,
          State.acqRefused_mask, State.appliedEffect_mask, State.applyEntries_mask, State.count_mask, State.coxRefused_mask,
          State.crewRefused_mask, State.crewSetApply_mask, State.draw_mask, State.fault_mask, State.fragRefused_mask,
          State.hkRefused_mask, State.hkcurveRefused_mask, State.hkseqRefused_mask, State.localRefused_mask,
          State.markApplied_mask, State.pageReset_mask, State.pcoefRefused_mask, State.prismRefused_mask, State.raise_mask,
          State.rsmpRefused_mask, State.satstatRefused_mask, State.tprimRefused_mask, State.upd14_mask, State.upd14_15_mask,
          Nat.reduceAnd, ite_self]; done)
      | (simp only [apply_ite (State.mask 748339467824286437823425497039882534), apply_ite Prod.snd, apply_ite Prod.fst,
          State.acqRefused_mask, State.appliedEffect_mask, State.applyEntries_mask, State.count_mask, State.coxRefused_mask,
          State.crewRefused_mask, State.crewSetApply_mask, State.draw_mask, State.fault_mask, State.fragRefused_mask,
          State.hkRefused_mask, State.hkcurveRefused_mask, State.hkseqRefused_mask, State.localRefused_mask,
          State.markApplied_mask, State.pageReset_mask, State.pcoefRefused_mask, State.prismRefused_mask, State.raise_mask,
          State.rsmpRefused_mask, State.satstatRefused_mask, State.tprimRefused_mask, State.upd14_mask, State.upd14_15_mask,
          Nat.reduceAnd, ite_self]
         exact State.refuse_mask (by decide) _ _ _ _ _ _ (by assumption))
      | dsimp only))

/-- `pagesCatch` changes at most: out, evtSeen, free, regs, snap, staged, ovf, unlockC, unlockG, time, tcuA, tcuB, cox, banks,
fades, fadeQ, profiles, accQ, held, laneBusy, slipWant, links, dmas, slots, fetched, seats, seatUse, quiesce, seatWait,
spillTold, hk, ring. -/
theorem State.pagesCatch_mask {M : Nat} (hM : 748339467824286437823425497039882534 &&& M = 748339467824286437823425497039882534) (s0 : State) (s : State) (swapped : Bool) :
    (State.pagesCatch s0 s swapped).1.mask M = s.mask M :=
  State.mask_mono hM (by
    unfold State.pagesCatch
    exact State.foldl_keep (fun r : State × List Staged => r.1.mask 748339467824286437823425497039882534) _ _ _
      (fun r c => by simp only [apply_ite (State.mask 748339467824286437823425497039882534), apply_ite Prod.snd,
          apply_ite Prod.fst, State.pageCatch_mask, Nat.reduceAnd, ite_self]))

end Sys2Proof.Machine
end

