-- ==== Sys2Proof/Laws/MaskCatch.lean ====
section
/-! SUPPORT. What the operations of Machine/Catch.lean can change (see Laws/Mask.lean): one lemma for each. -/

set_option linter.unusedSimpArgs false
set_option maxRecDepth 2000

namespace Sys2Proof.Machine

/-- `actionsCatch` changes at most: out, evtSeen, fired, free, regs, clk, time, pace, banks, fades, fadeQ, segs, marks, rateCr,
records, hist, histClr, servoN, wake, autoCnt, autoDue, nbSt, nbMsg, nbErrs, nbMiss, held, tests, laneFrom, txRd, prbs, checks,
txOff, loopFrom, es, sig, sigRun, sigDone, laneBusy, slipWant, links, dmas, slots, fetched, seats, seatUse, seatWait, spillTold,
slipTold, satGaps, satOut, satFast, sats, hk, tpMarks. -/
theorem State.actionsCatch_mask {M : Nat} (hM : 2781691901833584509386104667390345518 &&& M = 2781691901833584509386104667390345518) (s0 : State) (s : State) (applied : List Staged) (resync : Bool) :
    (State.actionsCatch s0 s applied resync).mask M = s.mask M :=
  State.mask_mono hM (by
    unfold State.actionsCatch
    repeat' (first
      | with_reducible rfl
      | (simp only [apply_ite (State.mask 2781691901833584509386104667390345518), apply_ite Prod.snd, apply_ite Prod.fst,
          State.acqCatch_mask, State.calCatch_mask, State.coxCatchEnd_mask, State.fadesCatch_mask, State.fire_mask,
          State.hkCatch_mask, State.laneCatch_mask, State.laneSwitch_mask, State.neighCatch_mask, State.rsmpApplied_mask,
          State.rsmpToggled_mask, State.satCatch_mask, State.satResyncAll_mask, State.satServo_mask, State.servoCatch_mask,
          State.sigCatch_mask, State.slipCatch_mask, State.streamsCatch_mask, State.tapCatch_mask, State.tprimCatch_mask,
          State.wakePrune_mask, forEach_mask, Nat.reduceAnd, ite_self]; done)
      | with_reducible refine (forEach_mask (by decide) _ _ _ (fun t a => ?_)).trans ?_
      | split
      | (simp only [apply_ite (State.mask 2781691901833584509386104667390345518), apply_ite Prod.snd, apply_ite Prod.fst,
          State.acqCatch_mask, State.calCatch_mask, State.coxCatchEnd_mask, State.fadesCatch_mask, State.fire_mask,
          State.hkCatch_mask, State.laneCatch_mask, State.laneSwitch_mask, State.neighCatch_mask, State.rsmpApplied_mask,
          State.rsmpToggled_mask, State.satCatch_mask, State.satResyncAll_mask, State.satServo_mask, State.servoCatch_mask,
          State.sigCatch_mask, State.slipCatch_mask, State.streamsCatch_mask, State.tapCatch_mask, State.tprimCatch_mask,
          State.wakePrune_mask, Nat.reduceAnd, ite_self])))

/-- `moorNow` changes at most: evtSeen, regs, clk, banks, held, es, slipWant, links, dmas, slots, fetched. -/
theorem State.moorNow_mask {M : Nat} (hM : 19668391948629031614912145654020 &&& M = 19668391948629031614912145654020) (s : State) :
    (State.moorNow s).mask M = s.mask M :=
  State.mask_mono hM (by
    unfold State.moorNow
    repeat' (first
      | with_reducible rfl
      | (simp only [apply_ite (State.mask 19668391948629031614912145654020), apply_ite Prod.snd, apply_ite Prod.fst,
          State.calMoor_mask, State.clkMoor_mask, State.laneMoor_mask, State.set_mask, State.slipMoor_mask, forEach_mask,
          Nat.reduceAnd, ite_self]; done)
      | with_reducible refine (forEach_mask (by decide) _ _ _ (fun t a => ?_)).trans ?_
      | split
      | (simp only [apply_ite (State.mask 19668391948629031614912145654020), apply_ite Prod.snd, apply_ite Prod.fst,
          State.calMoor_mask, State.clkMoor_mask, State.laneMoor_mask, State.set_mask, State.slipMoor_mask, Nat.reduceAnd,
          ite_self])))

/-- `moorCatch` changes at most: evtSeen, regs, clk, banks, held, es, slipWant, links, dmas, slots, fetched. -/
theorem State.moorCatch_mask {M : Nat} (hM : 19668391948629031614912145654020 &&& M = 19668391948629031614912145654020) (s : State) :
    (State.moorCatch s).mask M = s.mask M :=
  State.mask_mono hM (by
    unfold State.moorCatch
    simp only [apply_ite (State.mask 19668391948629031614912145654020), apply_ite Prod.snd, apply_ite Prod.fst,
        State.moorNow_mask, State.refuseCommand_mask, Nat.reduceAnd, ite_self])

/-- `startRun` changes at most: regs, evNo, runStart, easyBroken. -/
theorem State.startRun_mask {M : Nat} (hM : 1180645663912939749632 &&& M = 1180645663912939749632) (s : State) :
    (State.startRun s).mask M = s.mask M :=
  State.mask_mono hM (by
    unfold State.startRun
    simp only [State.set_mask, State.upd54_mask, State.upd54_55_mask, State.upd54_55_70_mask, Nat.reduceAnd, ite_self])

/-- `runCatch` changes at most: evtSeen, regs, evNo, runStart, easyBroken. -/
theorem State.runCatch_mask {M : Nat} (hM : 1180645663912939749636 &&& M = 1180645663912939749636) (s : State) :
    (State.runCatch s).mask M = s.mask M :=
  State.mask_mono hM (by
    unfold State.runCatch
    repeat' split
    all_goals simp only [State.refuseCommand_mask, State.set_mask, State.startRun_mask, Nat.reduceAnd, ite_self])

/-- `wakeUp` changes at most: evtSeen, regs, clk, time, banks, laneFrom, txRd. -/
theorem State.wakeUp_mask {M : Nat} (hM : 29014219670751100473966852 &&& M = 29014219670751100473966852) (s : State) :
    (State.wakeUp s).mask M = s.mask M :=
  State.mask_mono hM (by
    unfold State.wakeUp
    repeat' (first
      | with_reducible rfl
      | (simp only [apply_ite (State.mask 29014219670751100473966852), apply_ite Prod.snd, apply_ite Prod.fst,
          State.calWake_mask, State.clkWake_mask, State.laneWake_mask, State.set_mask, forEach_mask, State.upd23_mask,
          Nat.reduceAnd, ite_self]; done)
      | with_reducible refine (forEach_mask (by decide) _ _ _ (fun t a => ?_)).trans ?_
      | split
      | (simp only [apply_ite (State.mask 29014219670751100473966852), apply_ite Prod.snd, apply_ite Prod.fst,
          State.calWake_mask, State.clkWake_mask, State.laneWake_mask, State.set_mask, State.upd23_mask, Nat.reduceAnd, ite_self])))

/-- `wakeCatch` changes at most: evtSeen, regs, clk, time, banks, laneFrom, txRd. -/
theorem State.wakeCatch_mask {M : Nat} (hM : 29014219670751100473966852 &&& M = 29014219670751100473966852) (s : State) :
    (State.wakeCatch s).mask M = s.mask M :=
  State.mask_mono hM (by
    unfold State.wakeCatch
    simp only [apply_ite (State.mask 29014219670751100473966852), apply_ite Prod.snd, apply_ite Prod.fst, State.wakeUp_mask,
        Nat.reduceAnd, ite_self])

/-- `commandsCatch` changes at most: evtSeen, regs, clk, time, pace, banks, evNo, runStart, easyBroken, held, laneFrom, txRd,
es, slipWant, links, dmas, slots, fetched. -/
theorem State.commandsCatch_mask {M : Nat} (hM : 19668420964029348029925303517444 &&& M = 19668420964029348029925303517444) (s : State) :
    (State.commandsCatch s).mask M = s.mask M :=
  State.mask_mono hM (by
    unfold State.commandsCatch
    simp only [apply_ite (State.mask 19668420964029348029925303517444), apply_ite Prod.snd, apply_ite Prod.fst,
        State.moorCatch_mask, State.runCatch_mask, State.wakeCatch_mask, State.upd24_mask, Nat.reduceAnd, ite_self])

/-- `settingsCatch` changes at most: out, evtSeen, free, regs, snap, staged, ovf, unlockC, unlockG, clk, time, pace, tcuA, tcuB,
cox, banks, hubSegs, fades, fadeQ, profiles, accQ, held, txRd, es, laneBusy, slipWant, links, dmas, slots, fetched, seats,
seatUse, quiesce, seatWait, spillTold, hk, ring. -/
theorem State.settingsCatch_mask {M : Nat} (hM : 748339487650669879503344099681093926 &&& M = 748339487650669879503344099681093926) (s0 : State) (s : State) (swapped : Bool) (phase : Int) :
    (State.settingsCatch s0 s swapped phase).1.mask M = s.mask M :=
  State.mask_mono hM (by
    unfold State.settingsCatch
    simp only [apply_ite (State.mask 748339487650669879503344099681093926), apply_ite Prod.snd, apply_ite Prod.fst,
        State.alignHold_mask, State.clkApplied_mask, State.clkRelock_mask, State.paceEnables_mask, State.paceRevert_mask,
        State.pagesCatch_mask, State.ringCatch_mask, State.upd37_mask, Nat.reduceAnd, ite_self])

/-- `snapshotCatch` changes at most: regs, snap, snapReq. -/
theorem State.snapshotCatch_mask {M : Nat} (hM : 264448 &&& M = 264448) (s : State) :
    (State.snapshotCatch s).mask M = s.mask M :=
  State.mask_mono hM (by
    unfold State.snapshotCatch
    simp only [apply_ite (State.mask 264448), apply_ite Prod.snd, apply_ite Prod.fst, State.set_mask, State.upd11_mask,
        State.upd11_18_mask, Nat.reduceAnd, ite_self])

/-- `strokeStart` changes at most: prevRegs, time, prevFades, prevRateCr. -/
theorem State.strokeStart_mask {M : Nat} (hM : 70918508380672 &&& M = 70918508380672) (s0 : State) (s : State) :
    (State.strokeStart s0 s).mask M = s.mask M :=
  State.mask_mono hM (by
    unfold State.strokeStart
    simp only [State.markIrregular_mask, State.upd9_mask, State.upd9_23_mask, State.upd9_23_39_mask, State.upd9_23_39_46_mask,
        Nat.reduceAnd, ite_self])

/-- `catchNow` leaves alone: pending, evmq, phase, swept, strokeEnd, holdC, holdG, arbC, arbG, served, trimCur, trimCal, overs,
words, vals, pouts, stat, cnSegs, badTaps, wakeBad, startQ, startLast, presc, hits, nbHits, selfLast, selfSeen, coincTold,
frags, fragId, recBad, engines, lensStall, lensWait, lensClk, offer, admitId, shedSeen, rxRd, rxErr, codeTold, rxTail, loopTold,
satHits, passTold, tap, pads, tp, tpLast. -/
theorem State.catchNow_mask {M : Nat} (hM : 3446387029364458233174448353927744302 &&& M = 3446387029364458233174448353927744302) (s0 : State) (s : State) (phase : Int) (resync : Bool) :
    (State.catchNow s0 s phase resync).mask M = s.mask M :=
  State.mask_mono hM (by
    unfold State.catchNow
    simp only [State.actionsCatch_mask, State.clkCatchStart_mask, State.commandsCatch_mask, State.coxDecides_mask,
        State.coxHost_mask, State.fadesEnd_mask, State.neighSend_mask, State.releasesEnd_mask, State.settingsCatch_mask,
        State.snapshotCatch_mask, State.strokeStart_mask, State.timeCatch_mask, State.upd15_mask, State.upd15_16_mask,
        State.upd15_16_17_mask, Nat.reduceAnd, ite_self])

/-- `doCatch` leaves alone: pending, evmq, phase, swept, strokeEnd, holdC, holdG, arbC, arbG, served, trimCur, trimCal, overs,
words, vals, pouts, stat, cnSegs, badTaps, wakeBad, startQ, startLast, presc, hits, nbHits, selfLast, selfSeen, coincTold,
frags, fragId, recBad, engines, lensStall, lensWait, lensClk, offer, admitId, shedSeen, rxRd, rxErr, codeTold, rxTail, loopTold,
satHits, passTold, tap, pads, tp, tpLast. -/
theorem State.doCatch_mask {M : Nat} (hM : 3446387029364458233174448353927744302 &&& M = 3446387029364458233174448353927744302) (s : State) (phase : BitVec 16) :
    (State.doCatch s phase).mask M = s.mask M :=
  State.mask_mono hM (by
    unfold State.doCatch
    simp only [apply_ite (State.mask 3446387029364458233174448353927744302), apply_ite Prod.snd, apply_ite Prod.fst,
        State.catchNow_mask, Nat.reduceAnd, ite_self])

/-- `setCn` changes at most: evtSeen, fired, regs, time, cnSegs, nbSt, nbMsg, nbErrs, nbMiss. -/
theorem State.setCn_mask {M : Nat} (hM : 1106804644491300962572 &&& M = 1106804644491300962572) (s : State) (c : BitVec 64) :
    (State.setCn s c).mask M = s.mask M :=
  State.mask_mono hM (by
    unfold State.setCn
    simp only [apply_ite (State.mask 1106804644491300962572), apply_ite Prod.snd, apply_ite Prod.fst, State.cmpLate_mask,
        State.endHold_mask, State.neighResync_mask, State.raise_mask, State.set_mask, State.seti_mask, State.upd23_mask,
        State.upd23_36_mask, Nat.reduceAnd, ite_self]
    repeat' split
    all_goals (try simp only [apply_ite (State.mask 1106804644491300962572), apply_ite Prod.snd, apply_ite Prod.fst,
        State.cmpLate_mask, State.endHold_mask, State.neighResync_mask, State.raise_mask, State.set_mask, State.seti_mask,
        State.upd23_mask, State.upd23_36_mask, Nat.reduceAnd, ite_self]))

/-- `doFullResync` leaves alone: pending, evmq, phase, swept, strokeEnd, holdC, holdG, arbC, arbG, served, trimCur, trimCal,
overs, words, vals, pouts, stat, badTaps, wakeBad, startQ, startLast, presc, hits, nbHits, selfLast, selfSeen, coincTold, frags,
fragId, recBad, engines, lensStall, lensWait, lensClk, offer, admitId, shedSeen, rxRd, rxErr, codeTold, rxTail, loopTold,
satHits, passTold, tap, pads, tp, tpLast. -/
theorem State.doFullResync_mask {M : Nat} (hM : 3446387029364458233174448422647221038 &&& M = 3446387029364458233174448422647221038) (s : State) :
    (State.doFullResync s).mask M = s.mask M :=
  State.mask_mono hM (by
    unfold State.doFullResync
    repeat' split
    all_goals (try simp only [apply_ite (State.mask 3446387029364458233174448422647221038), apply_ite Prod.snd,
        apply_ite Prod.fst, State.catchNow_mask, State.draw_mask, State.reachResync_mask, State.setCn_mask, Nat.reduceAnd,
        ite_self]))

end Sys2Proof.Machine
end

