-- ==== Sys2Proof/Laws/MaskTick.lean ====
section
/-! SUPPORT. What the operations of Machine/Tick.lean can change (see Laws/Mask.lean): one lemma for each. -/

set_option linter.unusedSimpArgs false
set_option maxRecDepth 2000

namespace Sys2Proof.Machine

/-- `beginCrossing` changes at most: out, evtSeen, regs, pace, hits, nbHits, held, laneBusy, slipWant, links, dmas, slots,
fetched, seats, seatUse, seatWait, spillTold, slipTold. -/
theorem State.beginCrossing_mask {M : Nat} (hM : 1216627664173507807276032415760646 &&& M = 1216627664173507807276032415760646) (s : State) :
    (State.beginCrossing s).mask M = s.mask M :=
  State.mask_mono hM (by
    unfold State.beginCrossing
    simp only [apply_ite (State.mask 1216627664173507807276032415760646), apply_ite Prod.snd, apply_ite Prod.fst,
        State.hitsPrune_mask, State.neighSend_mask, State.slipGo_mask, State.upd24_mask, Nat.reduceAnd, ite_self])

/-- `burstsTick` changes at most: regs, laneFrom, txRd, loopFrom. -/
theorem State.burstsTick_mask {M : Nat} (hM : 4980774376812272199789445376 &&& M = 4980774376812272199789445376) (s : State) :
    (State.burstsTick s).mask M = s.mask M :=
  State.mask_mono hM (by
    unfold State.burstsTick
    repeat' (first
      | with_reducible rfl
      | (simp only [apply_ite (State.mask 4980774376812272199789445376), apply_ite Prod.snd, apply_ite Prod.fst,
          State.doBurst_mask, forEach_mask, Nat.reduceAnd, ite_self]; done)
      | with_reducible refine (forEach_mask (by decide) _ _ _ (fun t a => ?_)).trans ?_
      | split
      | (simp only [apply_ite (State.mask 4980774376812272199789445376), apply_ite Prod.snd, apply_ite Prod.fst,
          State.doBurst_mask, Nat.reduceAnd, ite_self])))

/-- `deliver` changes at most: evtSeen, regs, satGaps, sats. -/
theorem State.deliver_mask {M : Nat} (hM : 23365335863406724328387233481490692 &&& M = 23365335863406724328387233481490692) (s : State) (x : Xcvr) (ys : List LineSym) :
    (State.deliver s x ys).mask M = s.mask M :=
  State.mask_mono hM (by
    unfold State.deliver
    repeat' split
    all_goals simp only [State.satStream_mask, Nat.reduceAnd, ite_self])

/-- `late` changes no more than what it is given does. -/
theorem State.late_mask {M : Nat} (hM : 0 &&& M = 0) (s : State) (k : Nat) (f : State → Nat → State) (hf : ∀ t k,
    (f t k).mask M = t.mask M) :
    (State.late s k f).mask M = s.mask M := by
  unfold State.late
  split
  · exact hf _ _
  · rfl

/-- `receiversTick` changes at most: evtSeen, regs, pace, rxRd, rxErr, codeTold, rxTail, sig, sigRun, sigDone, satGaps, sats. -/
theorem State.receiversTick_mask {M : Nat} (hM : 23365613742259917668590814761058564 &&& M = 23365613742259917668590814761058564) (s : State) (ts : List LaneTraffic) :
    (State.receiversTick s ts).mask M = s.mask M :=
  State.mask_mono hM (by
    unfold State.receiversTick
    repeat' (first
      | with_reducible rfl
      | (simp only [apply_ite (State.mask 23365613742259917668590814761058564), apply_ite Prod.snd, apply_ite Prod.fst,
          State.deliver_mask, State.receive_mask, State.sigTurn_mask, forEach_mask, State.upd87_mask, Nat.reduceAnd,
          ite_self]; done)
      | with_reducible refine (forEach_mask (by decide) _ _ _ (fun t a => ?_)).trans ?_
      | split
      | (simp only [apply_ite (State.mask 23365613742259917668590814761058564), apply_ite Prod.snd, apply_ite Prod.fst,
          State.deliver_mask, State.receive_mask, State.sigTurn_mask, State.upd87_mask, Nat.reduceAnd, ite_self])))

/-- `returnTick` changes at most: out, pace, txRd, sig. -/
theorem State.returnTick_mask {M : Nat} (hM : 39633424070246002863584051202 &&& M = 39633424070246002863584051202) (s : State) :
    (State.returnTick s).mask M = s.mask M :=
  State.mask_mono hM (by
    unfold State.returnTick
    repeat' (first
      | with_reducible rfl
      | (simp only [apply_ite (State.mask 39633424070246002863584051202), apply_ite Prod.snd, apply_ite Prod.fst,
          State.transmit_mask, forEach_mask, State.upd24_mask, Nat.reduceAnd, ite_self]; done)
      | with_reducible refine (forEach_mask (by decide) _ _ _ (fun t a => ?_)).trans ?_
      | split
      | (simp only [apply_ite (State.mask 39633424070246002863584051202), apply_ite Prod.snd, apply_ite Prod.fst,
          State.transmit_mask, State.upd24_mask, Nat.reduceAnd, ite_self])))

/-- `linesTick` changes at most: out, evtSeen, regs, pace, laneFrom, txRd, rxRd, rxErr, codeTold, rxTail, prbs, checks,
loopFrom, sig, sigRun, sigDone, satGaps, sats. -/
theorem State.linesTick_mask {M : Nat} (hM : 23365620579944353408933426899190022 &&& M = 23365620579944353408933426899190022) (s : State) (ts : List LaneTraffic) :
    (State.linesTick s ts).mask M = s.mask M :=
  State.mask_mono hM (by
    unfold State.linesTick
    simp only [State.burstsTick_mask, State.receiversTick_mask, State.returnTick_mask, State.testsTick_mask, Nat.reduceAnd,
        ite_self])

/-- `statTick` changes at most: stat, marks. -/
theorem State.statTick_mask {M : Nat} (hM : 17626545782784 &&& M = 17626545782784) (s : State) :
    (State.statTick s).mask M = s.mask M :=
  State.mask_mono hM (by
    unfold State.statTick
    simp only [State.upd35_mask, State.upd35_44_mask, Nat.reduceAnd, ite_self])

/-- `endCrossing` changes at most: out, evtSeen, free, regs, clk, pace, banks, trimCur, trimCal, overs, words, vals, pouts,
stat, marks, wake, wakeBad, accQ, evNo, startQ, presc, hits, autoCnt, lensStall, lensWait, laneFrom, txRd, rxRd, rxErr,
codeTold, rxTail, prbs, checks, loopFrom, sig, sigRun, sigDone, laneBusy, links, seatWait, satHits, satGaps, satFast, sats, hk,
ring, tp, tpLast. -/
theorem State.endCrossing_mask {M : Nat} (hM : 7429042858905435113463573590872949030 &&& M = 7429042858905435113463573590872949030) (s : State) (i : TickIn) :
    (State.endCrossing s i).mask M = s.mask M :=
  State.mask_mono hM (by
    unfold State.endCrossing
    simp only [apply_ite (State.mask 7429042858905435113463573590872949030), apply_ite Prod.snd, apply_ite Prod.fst,
        State.bankTick_mask, State.blindTick_mask, State.clkTick_mask, State.coxTick_mask, State.crewTick_mask,
        State.hkWatch_mask, State.lensTick_mask, State.linesTick_mask, State.ringClock_mask, State.satTick_mask,
        State.slipTick_mask, State.startDue_mask, State.statTick_mask, State.tprimTick_mask, Nat.reduceAnd, ite_self,
      State.late_mask (M := 7429042858905435113463573590872949030) (by decide) _ _ _ (fun t k => State.selfTick_mask (by decide) t k),
      State.late_mask (M := 7429042858905435113463573590872949030) (by decide) _ _ _ (fun t k => State.rsmpTick_mask (by decide) t k),
      State.late_mask (M := 7429042858905435113463573590872949030) (by decide) _ _ _ (fun t k => State.prismTick_mask (by decide) t k)])

/-- `strokeOver` changes at most: strokeEnd. -/
theorem State.strokeOver_mask {M : Nat} (hM : 1024 &&& M = 1024) (s0 : State) (s : State) :
    (State.strokeOver s0 s).mask M = s.mask M :=
  State.mask_mono hM (by
    unfold State.strokeOver
    simp only [apply_ite (State.mask 1024), apply_ite Prod.snd, apply_ite Prod.fst, State.upd10_mask, Nat.reduceAnd, ite_self])

/-- `sweepTick` changes at most: free, swept. -/
theorem State.sweepTick_mask {M : Nat} (hM : 160 &&& M = 160) (s : State) :
    (State.sweepTick s).mask M = s.mask M :=
  State.mask_mono hM (by
    unfold State.sweepTick
    simp only [apply_ite (State.mask 160), apply_ite Prod.snd, apply_ite Prod.fst, State.draw_mask, State.upd7_mask,
        Nat.reduceAnd, ite_self])

/-- `doCrossingTick` leaves alone: pending, evmq, phase, prevRegs, snap, holdC, holdG, staged, ovf, unlockC, unlockG, snapReq,
arbC, arbG, served, tcuA, tcuB, cox, cnSegs, hubSegs, fades, prevFades, fadeQ, profiles, badTaps, segs, rateCr, prevRateCr,
records, hist, histClr, servoN, runStart, startLast, selfLast, selfSeen, coincTold, autoDue, nbSt, nbMsg, nbErrs, nbMiss,
easyBroken, frags, fragId, recBad, engines, lensClk, offer, admitId, shedSeen, tests, txOff, loopTold, es, quiesce, satOut,
passTold, tap, pads, tpMarks. -/
theorem State.doCrossingTick_mask {M : Nat} (hM : 7430095642729529122044245422087603630 &&& M = 7430095642729529122044245422087603630) (s : State) (i : TickIn) :
    (State.doCrossingTick s i).mask M = s.mask M :=
  State.mask_mono hM (by
    unfold State.doCrossingTick
    simp only [apply_ite (State.mask 7430095642729529122044245422087603630), apply_ite Prod.snd, apply_ite Prod.fst,
        State.beginCrossing_mask, State.endCrossing_mask, State.strokeOver_mask, State.sweepTick_mask, State.timeTick_mask,
        Nat.reduceAnd, ite_self])

/-- `returnFrame` changes at most: out, pace. -/
theorem State.returnFrame_mask {M : Nat} (hM : 16777218 &&& M = 16777218) (s : State) :
    (State.returnFrame s).mask M = s.mask M :=
  State.mask_mono hM (by
    unfold State.returnFrame
    simp only [apply_ite (State.mask 16777218), apply_ite Prod.snd, apply_ite Prod.fst, State.emit_mask, State.upd24_mask,
        Nat.reduceAnd, ite_self])

end Sys2Proof.Machine
end

