-- ==== Sys2Proof/Laws/MaskFlags.lean ====
section
/-! SUPPORT. What the operations of Machine/Flags.lean can change (see Laws/Mask.lean): one lemma for each. -/

set_option linter.unusedSimpArgs false
set_option maxRecDepth 2000

namespace Sys2Proof.Machine

/-- `begin_` changes at most: out, evtSeen, fired. -/
theorem State.begin__mask {M : Nat} (hM : 14 &&& M = 14) (s : State) :
    (State.begin_ s).mask M = s.mask M :=
  State.mask_mono hM (by
    unfold State.begin_
    simp only [State.upd1_mask, State.upd1_2_mask, State.upd1_2_3_mask, Nat.reduceAnd, ite_self])

/-- `hkStarts` changes at most: evtSeen, regs, hk. -/
theorem State.hkStarts_mask {M : Nat} (hM : 83076749736557242056487941267521796 &&& M = 83076749736557242056487941267521796) (s : State) :
    (State.hkStarts s).mask M = s.mask M :=
  State.mask_mono hM (by
    unfold State.hkStarts
    repeat' (first
      | with_reducible rfl
      | (simp only [apply_ite (State.mask 83076749736557242056487941267521796), apply_ite Prod.snd, apply_ite Prod.fst,
          State.hkSource_mask, forEach_mask, Nat.reduceAnd, ite_self]; done)
      | with_reducible refine (forEach_mask (by decide) _ _ _ (fun t a => ?_)).trans ?_
      | split
      | (simp only [apply_ite (State.mask 83076749736557242056487941267521796), apply_ite Prod.snd, apply_ite Prod.fst,
          State.hkSource_mask, Nat.reduceAnd, ite_self])))

/-- `noteFiring` changes at most: evmq, time. -/
theorem State.noteFiring_mask {M : Nat} (hM : 8388624 &&& M = 8388624) (s : State) (src : Nat) (cc : Nat) :
    (State.noteFiring s src cc).mask M = s.mask M :=
  State.mask_mono hM (by
    unfold State.noteFiring
    simp only [apply_ite (State.mask 8388624), apply_ite Prod.snd, apply_ite Prod.fst, State.upd4_mask, Nat.reduceAnd, ite_self])

/-- `noteFirings` changes at most: evmq, time. -/
theorem State.noteFirings_mask {M : Nat} (hM : 8388624 &&& M = 8388624) (s : State) :
    (State.noteFirings s).mask M = s.mask M :=
  State.mask_mono hM (by
    unfold State.noteFirings
    repeat' (first
      | with_reducible rfl
      | (simp only [apply_ite (State.mask 8388624), apply_ite Prod.snd, apply_ite Prod.fst, State.noteFiring_mask, forEach_mask,
          Nat.reduceAnd, ite_self]; done)
      | with_reducible refine (forEach_mask (by decide) _ _ _ (fun t a => ?_)).trans ?_
      | split
      | (simp only [apply_ite (State.mask 8388624), apply_ite Prod.snd, apply_ite Prod.fst, State.noteFiring_mask, Nat.reduceAnd,
          ite_self])))

/-- `healthFlags` changes at most: evtSeen, regs. -/
theorem State.healthFlags_mask {M : Nat} (hM : 260 &&& M = 260) (s : State) :
    (State.healthFlags s).mask M = s.mask M :=
  State.mask_mono hM (by
    unfold State.healthFlags
    simp only [apply_ite (State.mask 260), apply_ite Prod.snd, apply_ite Prod.fst, State.raise_mask, State.set_mask,
        Nat.reduceAnd, ite_self])

/-- `rise` changes at most: evtSeen, regs. -/
theorem State.rise_mask {M : Nat} (hM : 260 &&& M = 260) (s : State) (was : Bool) (now : Bool) (e : Ev) :
    (State.rise s was now e).mask M = s.mask M :=
  State.mask_mono hM (by
    unfold State.rise
    simp only [apply_ite (State.mask 260), apply_ite Prod.snd, apply_ite Prod.fst, State.raise_mask, Nat.reduceAnd, ite_self])

/-- `settledFlag` changes at most: evtSeen, regs. -/
theorem State.settledFlag_mask {M : Nat} (hM : 260 &&& M = 260) (s : State) :
    (State.settledFlag s).mask M = s.mask M :=
  State.mask_mono hM (by
    unfold State.settledFlag
    simp only [State.rise_mask, State.setb_mask, Nat.reduceAnd, ite_self])

/-- `strandedFlag` changes at most: evtSeen, regs, held. -/
theorem State.strandedFlag_mask {M : Nat} (hM : 604462909807314587353348 &&& M = 604462909807314587353348) (s : State) :
    (State.strandedFlag s).mask M = s.mask M :=
  State.mask_mono hM (by
    unfold State.strandedFlag
    simp only [apply_ite (State.mask 604462909807314587353348), apply_ite Prod.snd, apply_ite Prod.fst, State.raise_mask,
        State.upd79_mask, Nat.reduceAnd, ite_self])

/-- `throttleFlags` changes at most: evtSeen, regs, pace. -/
theorem State.throttleFlags_mask {M : Nat} (hM : 16777476 &&& M = 16777476) (s : State) :
    (State.throttleFlags s).mask M = s.mask M :=
  State.mask_mono hM (by
    unfold State.throttleFlags
    simp only [apply_ite (State.mask 16777476), apply_ite Prod.snd, apply_ite Prod.fst, State.count_mask, State.rise_mask,
        State.set_mask, State.setb_mask, State.upd24_mask, Nat.reduceAnd, ite_self])

/-- `watch` changes at most: evtSeen, regs, pace, held. -/
theorem State.watch_mask {M : Nat} (hM : 604462909807314604130564 &&& M = 604462909807314604130564) (s : State) :
    (State.watch s).mask M = s.mask M :=
  State.mask_mono hM (by
    unfold State.watch
    simp only [State.healthFlags_mask, State.settledFlag_mask, State.strandedFlag_mask, State.throttleFlags_mask, Nat.reduceAnd,
        ite_self])

/-- `finish` changes at most: evtSeen, evmq, regs, time, pace, held, hk. -/
theorem State.finish_mask {M : Nat} (hM : 83076749737161704966295255880040724 &&& M = 83076749737161704966295255880040724) (s : State) :
    (State.finish s).mask M = s.mask M :=
  State.mask_mono hM (by
    unfold State.finish
    simp only [apply_ite (State.mask 83076749737161704966295255880040724), apply_ite Prod.snd, apply_ite Prod.fst,
        State.hkStarts_mask, State.noteFirings_mask, State.watch_mask, Nat.reduceAnd, ite_self])

/-- `serveHead` changes at most: out, evtSeen, fired, evmq, free, regs, holdC, holdG, staged, ovf, unlockC, unlockG, snapReq,
arbC, arbG, served, time, pace, banks, badTaps, frags, engines, lensClk, held, es, laneBusy, slipWant, links, dmas, fetched,
seats, seatUse, seatWait, spillTold, sats, hk, ring. -/
theorem State.serveHead_mask {M : Nat} (hM : 769022474824823223671948472139903294 &&& M = 769022474824823223671948472139903294) (s : State) (p : Port) :
    (State.serveHead s p).mask M = s.mask M :=
  State.mask_mono hM (by
    unfold State.serveHead
    repeat' split
    all_goals simp only [State.finish_mask, State.serve_mask, State.setWaiting_mask, State.upd2_mask, State.upd2_3_mask,
        Nat.reduceAnd, ite_self])

/-- `drainArb.go` changes at most: out, evtSeen, fired, evmq, free, regs, holdC, holdG, staged, ovf, unlockC, unlockG, snapReq,
arbC, arbG, served, time, pace, banks, badTaps, frags, engines, lensClk, held, es, laneBusy, slipWant, links, dmas, fetched,
seats, seatUse, seatWait, spillTold, sats, hk, ring. -/
theorem State.drainArb.go_mask {M : Nat} (hM : 769022474824823223671948472139903294 &&& M = 769022474824823223671948472139903294) (a0 : Nat) (a1 : State) :
    (State.drainArb.go a0 a1).mask M = a1.mask M :=
  State.mask_mono hM (by
    induction a0 generalizing a1 with
    | zero => rfl
    | succ k ih =>
      unfold State.drainArb.go
      split
      · rfl
      · rw [ih]; simp only [apply_ite (State.mask 769022474824823223671948472139903294), apply_ite Prod.snd, apply_ite Prod.fst,
          State.serveHead_mask, Nat.reduceAnd, ite_self])

/-- `drainArb` changes at most: out, evtSeen, fired, evmq, free, regs, holdC, holdG, staged, ovf, unlockC, unlockG, snapReq,
arbC, arbG, served, time, pace, banks, badTaps, frags, engines, lensClk, held, es, laneBusy, slipWant, links, dmas, fetched,
seats, seatUse, seatWait, spillTold, sats, hk, ring. -/
theorem State.drainArb_mask {M : Nat} (hM : 769022474824823223671948472139903294 &&& M = 769022474824823223671948472139903294) (s : State) :
    (State.drainArb s).mask M = s.mask M :=
  State.mask_mono hM (by
    unfold State.drainArb
    simp only [State.drainArb.go_mask, Nat.reduceAnd, ite_self])

/-- `sendFrame` changes at most: out, evtSeen, regs, pace, held. -/
theorem State.sendFrame_mask {M : Nat} (hM : 604462909807314604130566 &&& M = 604462909807314604130566) (s : State) :
    (State.sendFrame s).mask M = s.mask M :=
  State.mask_mono hM (by
    unfold State.sendFrame
    simp only [apply_ite (State.mask 604462909807314604130566), apply_ite Prod.snd, apply_ite Prod.fst, State.returnFrame_mask,
        State.watch_mask, Nat.reduceAnd, ite_self])

end Sys2Proof.Machine
end

