-- ==== Sys2Proof/Laws/MaskPower.lean ====
section
/-! SUPPORT. What the operations of Machine/Power.lean can change (see Laws/Mask.lean): one lemma for each. -/

set_option linter.unusedSimpArgs false
set_option maxRecDepth 2000

namespace Sys2Proof.Machine

/-- `beginSweep` changes at most: evtSeen, phase, swept, regs, clk, time. -/
theorem State.beginSweep_mask {M : Nat} (hM : 12583364 &&& M = 12583364) (s : State) :
    (State.beginSweep s).mask M = s.mask M :=
  State.mask_mono hM (by
    unfold State.beginSweep
    simp only [State.refreshReadyXo_mask, State.set_mask, State.upd6_mask, State.upd6_7_mask, State.upd6_7_22_mask,
        State.upd6_7_22_23_mask, Nat.reduceAnd, ite_self])

/-- `boundaryScan` changes at most: out, pads. -/
theorem State.boundaryScan_mask {M : Nat} (hM : 332306998946228968225951765070086146 &&& M = 332306998946228968225951765070086146) (s : State) (i : TapInstr) (drives : Bool) (t : TapLoad) :
    (State.boundaryScan s i drives t).mask M = s.mask M :=
  State.mask_mono hM (by
    unfold State.boundaryScan
    simp only [apply_ite (State.mask 332306998946228968225951765070086146), apply_ite Prod.snd, apply_ite Prod.fst,
        State.emit_mask, State.upd118_mask, Nat.reduceAnd, ite_self])

/-- `heldUpset` changes at most: free, held. -/
theorem State.heldUpset_mask {M : Nat} (hM : 604462909807314587353120 &&& M = 604462909807314587353120) (s : State) (i : Nat) (w : Nat) :
    (State.heldUpset s i w).mask M = s.mask M :=
  State.mask_mono hM (by
    unfold State.heldUpset
    simp only [State.draw_mask, State.upd79_mask, Nat.reduceAnd, ite_self])

/-- `stagingVoid` changes at most: evtSeen, regs, frags. -/
theorem State.stagingVoid_mask {M : Nat} (hM : 2361183241434822607108 &&& M = 2361183241434822607108) (s : State) (i : Nat) :
    (State.stagingVoid s i).mask M = s.mask M :=
  State.mask_mono hM (by
    unfold State.stagingVoid
    repeat' split
    all_goals simp only [State.count_mask, State.raise_mask, State.upd71_mask, Nat.reduceAnd, ite_self])

/-- `dbeOwner` changes at most: evtSeen, free, regs, tcuA, tcuB, badTaps, wakeBad, accQ, frags, recBad, engines, held, slipWant,
links, dmas, slots, fetched, quiesce, satGaps. -/
theorem State.dbeOwner_mask {M : Nat} (hM : 2696926652620716357145400379965732 &&& M = 2696926652620716357145400379965732) (s : State) (mem : Nat) (w : Nat) :
    (State.dbeOwner s mem w).mask M = s.mask M :=
  State.mask_mono hM (by
    unfold State.dbeOwner
    simp only [apply_ite (State.mask 2696926652620716357145400379965732), apply_ite Prod.snd, apply_ite Prod.fst,
        State.descFail_mask, State.draw_mask, State.heldUpset_mask, State.lensEcc_mask, State.linkDown_mask, State.markGap_mask,
        State.selfCheck_mask, State.shadowEcc_mask, State.stagingVoid_mask, State.upd42_mask, State.upd52_mask, State.upd53_mask,
        State.upd73_mask, Nat.reduceAnd, ite_self])

/-- `doPorRelease` changes at most: phase. -/
theorem State.doPorRelease_mask {M : Nat} (hM : 64 &&& M = 64) (s : State) :
    (State.doPorRelease s).mask M = s.mask M :=
  State.mask_mono hM (by
    unfold State.doPorRelease
    simp only [apply_ite (State.mask 64), apply_ite Prod.snd, apply_ite Prod.fst, State.upd6_mask, Nat.reduceAnd, ite_self])

/-- `keepOver` leaves alone: pending, out, free, tap. -/
theorem State.keepOver_mask {M : Nat} (hM : 10467670466806212499117480599707713500 &&& M = 10467670466806212499117480599707713500) (s : State) (t : State) :
    (State.keepOver s t).mask M = s.mask M := by
  simp only [State.keepOver, State.mask, State.bit_of_land hM (i := 2) (by decide), State.bit_of_land hM (i := 3) (by decide),
      State.bit_of_land hM (i := 4) (by decide), State.bit_of_land hM (i := 6) (by decide),
      State.bit_of_land hM (i := 7) (by decide), State.bit_of_land hM (i := 8) (by decide),
      State.bit_of_land hM (i := 9) (by decide), State.bit_of_land hM (i := 10) (by decide),
      State.bit_of_land hM (i := 11) (by decide), State.bit_of_land hM (i := 12) (by decide),
      State.bit_of_land hM (i := 13) (by decide), State.bit_of_land hM (i := 14) (by decide),
      State.bit_of_land hM (i := 15) (by decide), State.bit_of_land hM (i := 16) (by decide),
      State.bit_of_land hM (i := 17) (by decide), State.bit_of_land hM (i := 18) (by decide),
      State.bit_of_land hM (i := 19) (by decide), State.bit_of_land hM (i := 20) (by decide),
      State.bit_of_land hM (i := 21) (by decide), State.bit_of_land hM (i := 22) (by decide),
      State.bit_of_land hM (i := 23) (by decide), State.bit_of_land hM (i := 24) (by decide),
      State.bit_of_land hM (i := 25) (by decide), State.bit_of_land hM (i := 26) (by decide),
      State.bit_of_land hM (i := 27) (by decide), State.bit_of_land hM (i := 28) (by decide),
      State.bit_of_land hM (i := 29) (by decide), State.bit_of_land hM (i := 30) (by decide),
      State.bit_of_land hM (i := 31) (by decide), State.bit_of_land hM (i := 32) (by decide),
      State.bit_of_land hM (i := 33) (by decide), State.bit_of_land hM (i := 34) (by decide),
      State.bit_of_land hM (i := 35) (by decide), State.bit_of_land hM (i := 36) (by decide),
      State.bit_of_land hM (i := 37) (by decide), State.bit_of_land hM (i := 38) (by decide),
      State.bit_of_land hM (i := 39) (by decide), State.bit_of_land hM (i := 40) (by decide),
      State.bit_of_land hM (i := 41) (by decide), State.bit_of_land hM (i := 42) (by decide),
      State.bit_of_land hM (i := 43) (by decide), State.bit_of_land hM (i := 44) (by decide),
      State.bit_of_land hM (i := 45) (by decide), State.bit_of_land hM (i := 46) (by decide),
      State.bit_of_land hM (i := 47) (by decide), State.bit_of_land hM (i := 48) (by decide),
      State.bit_of_land hM (i := 49) (by decide), State.bit_of_land hM (i := 50) (by decide),
      State.bit_of_land hM (i := 51) (by decide), State.bit_of_land hM (i := 52) (by decide),
      State.bit_of_land hM (i := 53) (by decide), State.bit_of_land hM (i := 54) (by decide),
      State.bit_of_land hM (i := 55) (by decide), State.bit_of_land hM (i := 56) (by decide),
      State.bit_of_land hM (i := 57) (by decide), State.bit_of_land hM (i := 58) (by decide),
      State.bit_of_land hM (i := 59) (by decide), State.bit_of_land hM (i := 60) (by decide),
      State.bit_of_land hM (i := 61) (by decide), State.bit_of_land hM (i := 62) (by decide),
      State.bit_of_land hM (i := 63) (by decide), State.bit_of_land hM (i := 64) (by decide),
      State.bit_of_land hM (i := 65) (by decide), State.bit_of_land hM (i := 66) (by decide),
      State.bit_of_land hM (i := 67) (by decide), State.bit_of_land hM (i := 68) (by decide),
      State.bit_of_land hM (i := 69) (by decide), State.bit_of_land hM (i := 70) (by decide),
      State.bit_of_land hM (i := 71) (by decide), State.bit_of_land hM (i := 72) (by decide),
      State.bit_of_land hM (i := 73) (by decide), State.bit_of_land hM (i := 74) (by decide),
      State.bit_of_land hM (i := 75) (by decide), State.bit_of_land hM (i := 76) (by decide),
      State.bit_of_land hM (i := 77) (by decide), State.bit_of_land hM (i := 78) (by decide),
      State.bit_of_land hM (i := 79) (by decide), State.bit_of_land hM (i := 80) (by decide),
      State.bit_of_land hM (i := 81) (by decide), State.bit_of_land hM (i := 82) (by decide),
      State.bit_of_land hM (i := 83) (by decide), State.bit_of_land hM (i := 84) (by decide),
      State.bit_of_land hM (i := 85) (by decide), State.bit_of_land hM (i := 86) (by decide),
      State.bit_of_land hM (i := 87) (by decide), State.bit_of_land hM (i := 88) (by decide),
      State.bit_of_land hM (i := 89) (by decide), State.bit_of_land hM (i := 90) (by decide),
      State.bit_of_land hM (i := 91) (by decide), State.bit_of_land hM (i := 92) (by decide),
      State.bit_of_land hM (i := 93) (by decide), State.bit_of_land hM (i := 94) (by decide),
      State.bit_of_land hM (i := 95) (by decide), State.bit_of_land hM (i := 96) (by decide),
      State.bit_of_land hM (i := 97) (by decide), State.bit_of_land hM (i := 98) (by decide),
      State.bit_of_land hM (i := 99) (by decide), State.bit_of_land hM (i := 100) (by decide),
      State.bit_of_land hM (i := 101) (by decide), State.bit_of_land hM (i := 102) (by decide),
      State.bit_of_land hM (i := 103) (by decide), State.bit_of_land hM (i := 104) (by decide),
      State.bit_of_land hM (i := 105) (by decide), State.bit_of_land hM (i := 106) (by decide),
      State.bit_of_land hM (i := 107) (by decide), State.bit_of_land hM (i := 108) (by decide),
      State.bit_of_land hM (i := 109) (by decide), State.bit_of_land hM (i := 110) (by decide),
      State.bit_of_land hM (i := 111) (by decide), State.bit_of_land hM (i := 112) (by decide),
      State.bit_of_land hM (i := 113) (by decide), State.bit_of_land hM (i := 114) (by decide),
      State.bit_of_land hM (i := 115) (by decide), State.bit_of_land hM (i := 116) (by decide),
      State.bit_of_land hM (i := 118) (by decide), State.bit_of_land hM (i := 119) (by decide),
      State.bit_of_land hM (i := 120) (by decide), State.bit_of_land hM (i := 121) (by decide),
      State.bit_of_land hM (i := 122) (by decide), if_true]

/-- `withCause` changes at most: regs. -/
theorem State.withCause_mask {M : Nat} (hM : 256 &&& M = 256) (s : State) (n : Nat) :
    (State.withCause s n).mask M = s.mask M :=
  State.mask_mono hM (by
    unfold State.withCause
    simp only [State.wr_mask, Nat.reduceAnd, ite_self])

/-- `doPowerOnReset` leaves alone: pending, out, free. -/
theorem State.doPowerOnReset_mask {M : Nat} (hM : 10633823966279326983230456482242756572 &&& M = 10633823966279326983230456482242756572) (s : State) :
    (State.doPowerOnReset s).mask M = s.mask M :=
  State.mask_mono hM (by
    unfold State.doPowerOnReset
    simp only [State.keepOver_mask, State.withCause_mask, State.upd6_mask, State.upd6_117_mask, Nat.reduceAnd, ite_self])

/-- `tapRelease` changes at most: tap. -/
theorem State.tapRelease_mask {M : Nat} (hM : 166153499473114484112975882535043072 &&& M = 166153499473114484112975882535043072) (s : State) :
    (State.tapRelease s).mask M = s.mask M :=
  State.mask_mono hM (by
    unfold State.tapRelease
    simp only [apply_ite (State.mask 166153499473114484112975882535043072), apply_ite Prod.snd, apply_ite Prod.fst,
        State.upd117_mask, Nat.reduceAnd, ite_self])

/-- `keepUnfit` changes at most: regs, tcuB. -/
theorem State.keepUnfit_mask {M : Nat} (hM : 67109120 &&& M = 67109120) (s : State) (t : State) :
    (State.keepUnfit s t).mask M = t.mask M :=
  State.mask_mono hM (by
    unfold State.keepUnfit
    simp only [apply_ite (State.mask 67109120), apply_ite Prod.snd, apply_ite Prod.fst, State.set_mask, State.setPstate_mask,
        State.upd26_mask, Nat.reduceAnd, ite_self])

/-- `warmReset` leaves alone: pending, out, free, tap. -/
theorem State.warmReset_mask {M : Nat} (hM : 10467670466806212499117480599707713500 &&& M = 10467670466806212499117480599707713500) (s : State) (cause : Nat) :
    (State.warmReset s cause).mask M = s.mask M :=
  State.mask_mono hM (by
    unfold State.warmReset
    simp only [apply_ite (State.mask 10467670466806212499117480599707713500), apply_ite Prod.snd, apply_ite Prod.fst,
        State.beginSweep_mask, State.keepOver_mask, State.keepUnfit_mask, State.withCause_mask, State.upd22_mask,
        State.upd22_119_mask, Nat.reduceAnd, ite_self])

/-- `doResetN` leaves alone: pending, out, free. -/
theorem State.doResetN_mask {M : Nat} (hM : 10633823966279326983230456482242756572 &&& M = 10633823966279326983230456482242756572) (s : State) (lowNs : Nat) (p : ResetPulse) :
    (State.doResetN s lowNs p).mask M = s.mask M :=
  State.mask_mono hM (by
    unfold State.doResetN
    simp only [apply_ite (State.mask 10633823966279326983230456482242756572), apply_ite Prod.snd, apply_ite Prod.fst,
        State.tapRelease_mask, State.warmReset_mask, Nat.reduceAnd, ite_self])

/-- `doRingReset` leaves alone: pending, free, tap. -/
theorem State.doRingReset_mask {M : Nat} (hM : 10467670466806212499117480599707713502 &&& M = 10467670466806212499117480599707713502) (s : State) (f : RingFrame) :
    (State.doRingReset s f).mask M = s.mask M :=
  State.mask_mono hM (by
    unfold State.doRingReset
    simp only [apply_ite (State.mask 10467670466806212499117480599707713502), apply_ite Prod.snd, apply_ite Prod.fst,
        State.ringResetFrame_mask, State.warmReset_mask, Nat.reduceAnd, ite_self])

/-- `doScrubDbe` changes at most: evtSeen, free, regs, tcuA, tcuB, badTaps, wakeBad, accQ, frags, recBad, engines, held,
slipWant, links, dmas, slots, fetched, quiesce, satGaps. -/
theorem State.doScrubDbe_mask {M : Nat} (hM : 2696926652620716357145400379965732 &&& M = 2696926652620716357145400379965732) (s : State) (h : ScrubHit) :
    (State.doScrubDbe s h).mask M = s.mask M :=
  State.mask_mono hM (by
    unfold State.doScrubDbe
    simp only [apply_ite (State.mask 2696926652620716357145400379965732), apply_ite Prod.snd, apply_ite Prod.fst,
        State.count_mask, State.dbeOwner_mask, State.healthFault_mask, State.raise_mask, State.set_mask, Nat.reduceAnd, ite_self])

/-- `railMoves` changes at most: pads. -/
theorem State.railMoves_mask {M : Nat} (hM : 332306998946228968225951765070086144 &&& M = 332306998946228968225951765070086144) (s : State) (rail : Nat) (m : RailMove) :
    (State.railMoves s rail m).mask M = s.mask M :=
  State.mask_mono hM (by
    unfold State.railMoves
    simp only [State.upd118_mask, Nat.reduceAnd, ite_self])

/-- `supplyCloses` changes at most: evtSeen, regs, ring. -/
theorem State.supplyCloses_mask {M : Nat} (hM : 664613997892457936451903530140172548 &&& M = 664613997892457936451903530140172548) (s : State) :
    (State.supplyCloses s).mask M = s.mask M :=
  State.mask_mono hM (by
    unfold State.supplyCloses
    simp only [apply_ite (State.mask 664613997892457936451903530140172548), apply_ite Prod.snd, apply_ite Prod.fst,
        State.bypassChange_mask, State.upd119_mask, Nat.reduceAnd, ite_self])

/-- `doSupply` changes at most: evtSeen, regs, pads, ring. -/
theorem State.doSupply_mask {M : Nat} (hM : 996920996838686904677855295210258692 &&& M = 996920996838686904677855295210258692) (s : State) (rail : Nat) (m : RailMove) :
    (State.doSupply s rail m).mask M = s.mask M :=
  State.mask_mono hM (by
    unfold State.doSupply
    simp only [apply_ite (State.mask 996920996838686904677855295210258692), apply_ite Prod.snd, apply_ite Prod.fst,
        State.healthFault_mask, State.railMoves_mask, State.raise_mask, State.set_mask, State.supplyCloses_mask, Nat.reduceAnd,
        ite_self])

/-- `doSweepDone` changes at most: phase, regs. -/
theorem State.doSweepDone_mask {M : Nat} (hM : 320 &&& M = 320) (s : State) :
    (State.doSweepDone s).mask M = s.mask M :=
  State.mask_mono hM (by
    unfold State.doSweepDone
    simp only [apply_ite (State.mask 320), apply_ite Prod.snd, apply_ite Prod.fst, State.set_mask, State.upd6_mask,
        Nat.reduceAnd, ite_self])

/-- `doTap` changes at most: out, tap, pads. -/
theorem State.doTap_mask {M : Nat} (hM : 498460498419343452338927647605129218 &&& M = 498460498419343452338927647605129218) (s : State) (t : TapLoad) :
    (State.doTap s t).mask M = s.mask M :=
  State.mask_mono hM (by
    unfold State.doTap
    simp only [apply_ite (State.mask 498460498419343452338927647605129218), apply_ite Prod.snd, apply_ite Prod.fst,
        State.boundaryScan_mask, State.emit_mask, State.upd117_mask, Nat.reduceAnd, ite_self]
    repeat' split
    all_goals (try simp only [apply_ite (State.mask 498460498419343452338927647605129218), apply_ite Prod.snd,
        apply_ite Prod.fst, State.boundaryScan_mask, State.emit_mask, State.upd117_mask, Nat.reduceAnd, ite_self]))

/-- `doXoStable` changes at most: evtSeen, phase, swept, regs, clk, time. -/
theorem State.doXoStable_mask {M : Nat} (hM : 12583364 &&& M = 12583364) (s : State) :
    (State.doXoStable s).mask M = s.mask M :=
  State.mask_mono hM (by
    unfold State.doXoStable
    simp only [apply_ite (State.mask 12583364), apply_ite Prod.snd, apply_ite Prod.fst, State.beginSweep_mask,
        State.refreshReadyXo_mask, State.upd22_mask, Nat.reduceAnd, ite_self])

end Sys2Proof.Machine
end

