-- ==== Sys2Proof/Laws/MaskEvm.lean ====
section
/-! SUPPORT. What the operations of Machine/Evm.lean can change (see Laws/Mask.lean): one lemma for each. -/

set_option linter.unusedSimpArgs false
set_option maxRecDepth 2000

namespace Sys2Proof.Machine

/-- `taskDo` changes at most: evtSeen, regs, snapReq, frags, engines, hk. -/
theorem State.taskDo_mask {M : Nat} (hM : 83076749736578492705660854671245572 &&& M = 83076749736578492705660854671245572) (s : State) (n : Nat) (now : Nat) :
    (State.taskDo s n now).mask M = s.mask M :=
  State.mask_mono hM (by
    unfold State.taskDo
    simp only [apply_ite (State.mask 83076749736578492705660854671245572), apply_ite Prod.snd, apply_ite Prod.fst,
        State.hkSource_mask, State.lensFlush_mask, State.upd18_mask, Nat.reduceAnd, ite_self])

/-- `doTaskFire` changes at most: evtSeen, evmq, regs, snapReq, frags, engines, hk. -/
theorem State.doTaskFire_mask {M : Nat} (hM : 83076749736578492705660854671245588 &&& M = 83076749736578492705660854671245588) (s : State) :
    (State.doTaskFire s).mask M = s.mask M :=
  State.mask_mono hM (by
    unfold State.doTaskFire
    repeat' (first
      | with_reducible rfl
      | (simp only [apply_ite (State.mask 83076749736578492705660854671245588), apply_ite Prod.snd, apply_ite Prod.fst,
          State.countBy_mask, State.taskDo_mask, forEach_mask, State.upd4_mask, Nat.reduceAnd, ite_self]; done)
      | with_reducible refine (forEach_mask (by decide) _ _ _ (fun t a => ?_)).trans ?_
      | split
      | (simp only [apply_ite (State.mask 83076749736578492705660854671245588), apply_ite Prod.snd, apply_ite Prod.fst,
          State.countBy_mask, State.taskDo_mask, State.upd4_mask, Nat.reduceAnd, ite_self])))

end Sys2Proof.Machine
end

