-- ==== Sys2Proof/Laws/MaskStep.lean ====
section
/-! SUPPORT. What the operations of Machine/Step.lean can change (see Laws/Mask.lean): one lemma for each. -/

set_option linter.unusedSimpArgs false
set_option maxRecDepth 2000

namespace Sys2Proof.Machine

/-- `withFetchWord` changes at most: pending. -/
theorem State.withFetchWord_mask {M : Nat} (hM : 1 &&& M = 1) (s : State) (nbits : Nat) (w : Nat) :
    (State.withFetchWord s nbits w).mask M = s.mask M :=
  State.mask_mono hM (by
    unfold State.withFetchWord
    repeat' split
    all_goals simp only [State.upd0_mask, Nat.reduceAnd, ite_self])

end Sys2Proof.Machine
end

