-- ==== Sys2Proof/Laws/Finish.lean ====
section
/-! SUPPORT. What the frame of every command adds to its body: the flags of every core clock, and nothing else where the command has
fired no source. -/

namespace Sys2Proof.Machine

/-- A bit of a flag word survives outside the flags. -/
theorem keeps_raise_flag {e : Ev} {ks : List Nat} (s : State) (h : (flagBits (e.page * 4096 + 0x010)).getLsbD e.bit = true)
    (hs : ∀ i, 16 ≤ i → i < 32 → (flagBits (e.page * 4096 + 0x010)).getLsbD i = true) : s.keeps (s.raise e) ks := by
  intro k _
  by_cases hk : k = e.page * 4096 + 0x010
  · subst hk; exact State.rd_raise_masked s e _ _ h hs
  · rw [State.rd_raise_of_ne s e k hk]

/-- A field inside the flags. -/
theorem keeps_set_flag {ks : List Nat} (s : State) (f : Fld) (v : Nat)
    (h : ∀ i, i < 32 → f.lo ≤ i → i < f.lo + f.w → (flagBits f.key).getLsbD i = true) : s.keeps (s.set f v) ks := by
  intro k _
  by_cases hk : k = f.key
  · subst hk
    apply BitVec.eq_of_getLsbD_eq
    intro i hi
    simp only [BitVec.getLsbD_and, BitVec.getLsbD_not, hi, decide_true, Bool.true_and]
    have : (s.set f v).rd f.key = setBits (s.rd f.key) f.lo f.w v := State.rd_wr_self s f.key _
    rw [this, getLsbD_setBits _ _ _ _ _ hi]
    split
    · rename_i hh; rw [h i hi hh.1 hh.2]; simp
    · rfl
  · rw [State.rd_set_of_ne s f v k hk]

/-- Either branch. -/
theorem keeps_ite {c : Prop} [Decidable c] {s t u : State} {ks : List Nat} (ht : s.keeps t ks) (hu : s.keeps u ks) :
    s.keeps (if c then t else u) ks := by split <;> assumption

/-- The bits of a sequence number lie in the flags of the flag pages. -/
theorem flagBits_seq (p i : Nat) (hp : p = 0x4A ∨ p = 0x06 ∨ p = 0x0C) (h : 16 ≤ i) (h' : i < 32) :
    (flagBits (p * 4096 + 0x010)).getLsbD i = true := by
  have k : ∀ j : Fin 32, 16 ≤ j.val → (flagBits (p * 4096 + 0x010)).getLsbD j.val = true := by
    rcases hp with rfl | rfl | rfl <;> decide
  exact k ⟨i, h'⟩ h

namespace State

/-- The bare state of a state whose register words have changed. -/
@[simp] theorem bare_wr (s : State) (k : Nat) (v : Word) : (s.wr k v).bare = s.bare := rfl

/-- A field set. -/
@[simp] theorem bare_set (s : State) (f : Fld) (v : Nat) : (s.set f v).bare = s.bare := rfl

/-- A signed field set. -/
@[simp] theorem bare_seti (s : State) (f : Fld) (v : Int) : (s.seti f v).bare = s.bare := rfl

/-- A one-bit field set. -/
@[simp] theorem bare_setb (s : State) (f : Fld) (v : Bool) : (s.setb f v).bare = s.bare := rfl

/-- An event raised. -/
@[simp] theorem bare_raise (s : State) (e : Ev) : (s.raise e).bare = s.bare := by
  unfold raise; simp only; rw [apply_ite State.bare]; exact ite_self _

/-- A counter. -/
@[simp] theorem bare_countBy (s : State) (f : Fld) (n : Nat) : (s.countBy f n).bare = s.bare := by
  unfold countBy
  extract_lets lim old cur new s1
  split
  · rfl
  · split
    · exact bare_raise s1 _
    · rfl

/-- A counter counting one. -/
@[simp] theorem bare_count (s : State) (f : Fld) : (s.count f).bare = s.bare := bare_countBy s f 1

/-- A counter that wraps. -/
@[simp] theorem bare_countW (s : State) (f : Fld) (e : Ev) (n : Nat) : (s.countW f e n).bare = s.bare := by
  unfold countW; simp only; split
  · rfl
  · exact bare_raise _ _

/-- A fault recorded. -/
@[simp] theorem bare_fault (s : State) (pg c d : Nat) : (s.fault pg c d).bare = s.bare := rfl

/-- Something put out. -/
@[simp] theorem bare_emit (s : State) (o : Output) : (s.emit o).bare = s.bare := rfl

/-- The clock of a command. -/
@[simp] theorem bare_begin_ (s : State) : s.begin_.bare = s.bare := rfl

/-- A flag that rises. -/
theorem bare_rise (s : State) (a b : Bool) (e : Ev) : (s.rise a b e).bare = s.bare := by
  unfold rise; split
  · exact bare_raise _ _
  · rfl

/-- An event of a flag page, where a flag rises. -/
theorem keeps_rise {e : Ev} {ks : List Nat} (s : State) (a b : Bool)
    (h : (flagBits (e.page * 4096 + 0x010)).getLsbD e.bit = true)
    (hp : e.page = 0x4A ∨ e.page = 0x06 ∨ e.page = 0x0C) : s.keeps (s.rise a b e) ks := by
  unfold rise
  exact keeps_ite (keeps_raise_flag s h (fun i => flagBits_seq _ i hp)) (keeps_refl s ks)

/-- Stranded fragments change only what is told of them. -/
theorem strandedFlag_bare (s : State) : s.strandedFlag.bare = s.bare := by
  unfold strandedFlag
  simp only
  generalize hl : s.stranded.map (·.id) = ids
  have key : ({ s with held := s.held.map (fun (h : Held) => { h with told := ids.contains h.id }) } : State).bare = s.bare := by
    simp [bare, List.map_map, Function.comp_def]
  split
  · rw [bare_raise, key]
  · exact key

/-- Stranded fragments raise an event at most. -/
theorem strandedFlag_keeps (s : State) (ks : List Nat) : s.keeps s.strandedFlag ks := by
  unfold strandedFlag
  simp only
  generalize (s.held.map _ : List Held) = l
  have h0 : s.keeps ({ s with held := l } : State) ks := keeps_of_regs ks rfl
  refine keeps_ite (keeps_trans h0 (keeps_raise_flag _ (by decide) (fun i => flagBits_seq _ i (.inl rfl)))) h0

/-- The throttle changes only what belongs to its flags. -/
theorem throttleFlags_bare (s : State) : s.throttleFlags.bare = s.bare := by
  unfold throttleFlags
  extract_lets asks queue word easy was s1 s2 s3 s4 c1 q1 s5 q2 s6
  have h4 : s4.bare = s.bare :=
    (bare_rise s3 _ _ _).trans ((bare_rise s2 _ _ _).trans ((bare_rise s1 _ _ _).trans (bare_rise s _ _ _)))
  have hc : c1.bare = s4.bare := (bare_set _ _ _).trans (bare_count _ _)
  have pc : ∀ u : State, ({ u with pace := { u.pace with nE := none } } : State).bare = u.bare := fun _ => rfl
  have pb : ∀ u : State, ({ u with pace := { u.pace with breach := false } } : State).bare = u.bare := fun _ => rfl
  have h5 : s5.bare = s4.bare := by
    by_cases h : (!was && easy) = true
    · exact (congrArg bare (if_pos h)).trans ((pb c1).trans hc)
    · exact congrArg bare (if_neg h)
  have h6 : s6.bare = s5.bare := by
    by_cases h : easy = true
    · exact congrArg bare (if_pos h)
    · exact (congrArg bare (if_neg h)).trans (pc s5)
  rw [bare_setb, bare_set, h6, h5, h4]

/-- A count of EASY. -/
theorem keeps_count_easy {ks : List Nat} (s : State) : s.keeps (s.count R.DERAND_EASY_CNT) ks := by
  unfold count countBy
  extract_lets lim old cur new s1
  have h : ∀ v, s.keeps (s.set R.DERAND_EASY_CNT v) ks := fun v => keeps_set_flag s _ v (by decide)
  split
  · exact h _
  · split
    · exact keeps_trans (h _) (keeps_raise_flag s1 (by decide) (fun i => flagBits_seq _ i (.inl rfl)))
    · exact h _

/-- The throttle writes its flags, its events and the two counters of EASY. -/
theorem throttleFlags_keeps (s : State) (ks : List Nat) : s.keeps s.throttleFlags ks := by
  unfold throttleFlags
  extract_lets asks queue word easy was s1 s2 s3 s4 c1 q1 s5 q2 s6
  have h1 : s.keeps s1 ks := keeps_rise s _ _ (by decide) (.inl rfl)
  have h2 : s1.keeps s2 ks := keeps_rise s1 _ _ (by decide) (.inl rfl)
  have h3 : s2.keeps s3 ks := keeps_rise s2 _ _ (by decide) (.inl rfl)
  have h4 : s3.keeps s4 ks := keeps_rise s3 _ _ (by decide) (.inl rfl)
  have hc : s4.keeps c1 ks := keeps_trans (keeps_count_easy s4) (keeps_set_flag _ _ _ (by decide))
  have h5 : s4.keeps s5 ks :=
    keeps_ite (keeps_trans hc (keeps_of_regs ks rfl)) (keeps_refl s4 ks)
  have h6 : s5.keeps s6 ks := keeps_ite (keeps_refl s5 ks) (keeps_of_regs ks rfl)
  have hw : s6.keeps (s6.set ⟨R.DERAND_STATUS_PRIORITY.key, 0, 4⟩ word) ks := keeps_set_flag s6 _ _ (by decide)
  have hq : (s6.set ⟨R.DERAND_STATUS_PRIORITY.key, 0, 4⟩ word).keeps
      ((s6.set ⟨R.DERAND_STATUS_PRIORITY.key, 0, 4⟩ word).setb R.ACQ_STATUS_EASY_REQ queue) ks :=
    keeps_set_flag _ _ _ (by decide)
  exact keeps_trans (keeps_trans (keeps_trans (keeps_trans (keeps_trans (keeps_trans (keeps_trans h1 h2) h3) h4) h5) h6) hw) hq

/-- HEALTH.STATUS changes no engine. -/
theorem healthFlags_bare (s : State) : s.healthFlags.bare = s.bare := by
  unfold healthFlags
  simp only
  rw [bare_set]
  split
  · exact bare_raise _ _
  · rfl

/-- HEALTH.STATUS and its event. -/
theorem healthFlags_keeps (s : State) (ks : List Nat) : s.keeps s.healthFlags ks := by
  unfold healthFlags
  simp only
  refine keeps_trans (keeps_ite (keeps_raise_flag (e := E.HEALTH_COND_LOST) s (by decide)
    (fun i => flagBits_seq _ i (.inr (.inl rfl)))) (keeps_refl s ks)) (keeps_set_flag _ _ _ (by decide))

/-- SETTLED changes no engine. -/
theorem settledFlag_bare (s : State) : s.settledFlag.bare = s.bare := by
  unfold settledFlag; simp only; rw [bare_setb, bare_rise]

/-- SETTLED and its event. -/
theorem settledFlag_keeps (s : State) (ks : List Nat) : s.keeps s.settledFlag ks := by
  unfold settledFlag
  exact keeps_trans (keeps_rise (e := E.TIME_SETTLED) s _ _ (by decide) (.inr (.inr rfl))) (keeps_set_flag _ _ _ (by decide))

/-- The flags of every core clock change nothing else. -/
theorem watch_bare (s : State) : s.watch.bare = s.bare := by
  unfold watch; rw [settledFlag_bare, healthFlags_bare, throttleFlags_bare, strandedFlag_bare]

/-- The flags of every core clock change only flag bits. -/
theorem watch_keeps (s : State) (ks : List Nat) : s.keeps s.watch ks :=
  keeps_trans (keeps_trans (keeps_trans (strandedFlag_keeps s ks) (throttleFlags_keeps _ ks)) (healthFlags_keeps _ ks))
    (settledFlag_keeps _ ks)

/-- Where no source has fired, what follows a command changes flags alone. -/
theorem finish_bare (s : State) (h : s.fired = []) : s.finish.bare = s.bare := by
  unfold finish
  split
  · rw [show s.noteFirings = s by unfold noteFirings forEach; rw [h]; rfl,
      show s.hkStarts = s by unfold hkStarts forEach; rw [h]; rfl]
    exact watch_bare s
  · rfl

/-- Where no source has fired, what follows a command keeps every other bit. -/
theorem finish_keeps (s : State) (ks : List Nat) (h : s.fired = []) : s.keeps s.finish ks := by
  unfold finish
  split
  · rw [show s.noteFirings = s by unfold noteFirings forEach; rw [h]; rfl,
      show s.hkStarts = s by unfold hkStarts forEach; rw [h]; rfl]
    exact watch_keeps s ks
  · exact keeps_refl s ks

end State

/-- A field outside the flags, read through words that are kept. -/
theorem get_of_keeps {s t : State} {ks : List Nat} (h : s.keeps t ks) (f : Fld) (hk : f.key ∉ ks)
    (hf : flagBits f.key &&& BitVec.ofNat 32 ((2 ^ f.w - 1) * 2 ^ f.lo) = 0) (hw : f.lo + f.w ≤ 32) : t.get f = s.get f := by
  have e := h f.key hk
  have : BitVec.extractLsb' f.lo f.w (t.rd f.key) = BitVec.extractLsb' f.lo f.w (s.rd f.key) := by
    apply BitVec.eq_of_getLsbD_eq
    intro i hi
    have ei := congrArg (fun x => BitVec.getLsbD x (f.lo + i)) e
    have zi := congrArg (fun x => BitVec.getLsbD x (f.lo + i)) hf
    have h32 : f.lo + i < 32 := by omega
    simp only [BitVec.getLsbD_and, BitVec.getLsbD_not, h32, decide_true, Bool.true_and, BitVec.getLsbD_ofNat,
      Nat.testBit_mul_two_pow, Nat.testBit_two_pow_sub_one] at ei zi
    have z : (flagBits f.key).getLsbD (f.lo + i) = false := by
      simpa [show f.lo + i - f.lo = i by omega, hi] using zi
    rw [BitVec.getLsbD_extractLsb', BitVec.getLsbD_extractLsb']
    simpa [hi, z] using ei
  unfold State.get bits
  rw [this]

/-- An event outside the flags, read through words that are kept. -/
theorem hasEvt_of_keeps {s t : State} {ks : List Nat} (h : s.keeps t ks) (e : Ev) (hk : e.page * 4096 + 0x010 ∉ ks)
    (hb : e.bit < 32) (hf : (flagBits (e.page * 4096 + 0x010)).getLsbD e.bit = false) : t.hasEvt e = s.hasEvt e := by
  have ei := congrArg (fun x => BitVec.getLsbD x e.bit) (h _ hk)
  simp only [BitVec.getLsbD_and, BitVec.getLsbD_not, hb, decide_true, hf, Bool.not_false, Bool.and_true] at ei
  exact ei

/-- A command answers a next state. Where its body has fired no source, that state is the body's but for the flags of every core
clock. -/
theorem perform_next (body : State → State) (s : State) (h : (body s.begin_).fired = []) :
    ∃ t, perform body s = .next t ∧ (∀ ks, (body s.begin_).keeps t ks)
      ∧ t.bare = { (body s.begin_).bare with pending := s.pending } :=
  ⟨_, rfl, fun ks => State.keeps_trans (State.finish_keeps _ ks h) (State.keeps_of_regs ks rfl), by
    have := State.finish_bare (body s.begin_) h
    show ({ (body s.begin_).finish.bare with pending := s.pending } : State) = _
    rw [this]⟩

end Sys2Proof.Machine
end

