-- ==== Sys2Proof/Laws/Fire.lean ====
section
/-! SUPPORT. What firing an event-matrix source does (R59, R95), and what follows a command that has fired one. -/

namespace Sys2Proof.Machine

/-- A fold keeps what each of its steps keeps. -/
theorem keeps_forEach {α : Type} {ks : List Nat} (l : List α) (f : State → α → State)
    (h : ∀ u : State, ∀ a ∈ l, u.keeps (f u a) ks) (s : State) : s.keeps (forEach l s f) ks := by
  unfold forEach
  induction l generalizing s with
  | nil => exact State.keeps_refl s ks
  | cons a l ih =>
    exact State.keeps_trans (h s a (List.mem_cons_self ..)) (ih (fun u b hb => h u b (List.mem_cons_of_mem _ hb)) (f s a))

/-- A fold leaves a component alone that each of its steps leaves alone. -/
theorem forEach_proj {α β : Type} (p : State → β) (l : List α) (f : State → α → State)
    (h : ∀ u : State, ∀ a ∈ l, p (f u a) = p u) (s : State) : p (forEach l s f) = p s := by
  unfold forEach
  induction l generalizing s with
  | nil => rfl
  | cons a l ih =>
    exact (ih (fun u b hb => h u b (List.mem_cons_of_mem _ hb)) (f s a)).trans (h s a (List.mem_cons_self ..))

namespace State

/-- An event changes nothing behind the registers. -/
@[simp] theorem fired_raise (s : State) (e : Ev) : (s.raise e).fired = s.fired := by
  unfold raise; simp only; rw [apply_ite State.fired]; exact ite_self _

/-- A counter fires nothing. -/
@[simp] theorem fired_countBy (s : State) (f : Fld) (n : Nat) : (s.countBy f n).fired = s.fired := by
  unfold countBy
  extract_lets lim old cur new s1
  split
  · rfl
  · split
    · exact fired_raise s1 _
    · rfl

/-- A counter fires nothing. -/
@[simp] theorem fired_count (s : State) (f : Fld) : (s.count f).fired = s.fired := fired_countBy s f 1

/-- A wrapping counter fires nothing. -/
@[simp] theorem fired_countW (s : State) (f : Fld) (e : Ev) (n : Nat) : (s.countW f e n).fired = s.fired := by
  unfold countW; simp only; split
  · rfl
  · exact fired_raise _ _

/-- Setting a field fires nothing. -/
@[simp] theorem fired_set (s : State) (f : Fld) (v : Nat) : (s.set f v).fired = s.fired := rfl

/-- The key of a capture unit's word. -/
theorem mem_captureKeys (n i : Nat) (hn : n < 8) (hi : i < 8) : 0x0C180 + 32 * n + 4 * i ∈ captureKeys := by
  unfold captureKeys
  rw [List.mem_map]
  exact ⟨8 * n + i, List.mem_range.mpr (by omega), by omega⟩

/-- A capture unit writes only its own words and, when its misses reach their maximum, an event. -/
theorem capture_keeps (s : State) (n t : Nat) (hn : n < 8) : s.keeps (s.capture n t) (evtKey 0x0C :: captureKeys) := by
  have m : ∀ i, i < 8 → 0x0C180 + 32 * n + 4 * i ∈ evtKey 0x0C :: captureKeys :=
    fun i hi => List.mem_cons_of_mem _ (mem_captureKeys n i hn hi)
  unfold capture
  split
  · refine keeps_count s _ ?_ ?_
    · have := m 7 (by omega)
      have e : (R.TIME_CAPn_MISS n).key = 0x0C180 + 32 * n + 4 * 7 := by show 0x0C19C + 32 * n = _; omega
      rw [e]; exact this
    · have e : (R.TIME_CAPn_MISS n).key / 4096 % 256 * 4096 + 0x010 = evtKey 0x0C := by
        show (0x0C19C + 32 * n) / 4096 % 256 * 4096 + 0x010 = 0x0C * 4096 + 0x010
        omega
      rw [e]; exact List.mem_cons_self ..
  · extract_lets cn sec sub s1 s2 s3
    have k : ∀ i j, j = 0x0C180 + 32 * n + 4 * i → i < 8 → j ∈ evtKey 0x0C :: captureKeys := fun i j e hi => e ▸ m i hi
    refine keeps_trans (t := s3) (keeps_trans (t := s2) (keeps_trans (t := s1) ?_ ?_) ?_) ?_
    · exact keeps_trans (keeps_set s _ _ (k 0 _ (by show 0x0C180 + 32 * n = _; omega) (by omega)))
        (keeps_set _ _ _ (k 1 _ (by show 0x0C184 + 32 * n = _; omega) (by omega)))
    · exact keeps_trans (keeps_set s1 _ _ (k 2 _ (by show 0x0C188 + 32 * n = _; omega) (by omega)))
        (keeps_set _ _ _ (k 3 _ (by show 0x0C18C + 32 * n = _; omega) (by omega)))
    · exact keeps_trans (keeps_set s2 _ _ (k 4 _ (by show 0x0C190 + 32 * n = _; omega) (by omega)))
        (keeps_set _ _ _ (k 5 _ (by show 0x0C194 + 32 * n = _; omega) (by omega)))
    · exact keeps_set s3 _ _ (k 6 _ (by show 0x0C198 + 32 * n = _; omega) (by omega))

/-- A capture unit changes nothing behind the registers. -/
theorem capture_bare (s : State) (n t : Nat) : (s.capture n t).bare = s.bare := by
  unfold capture; split
  · exact bare_count _ _
  · simp only [bare_set]

/-- A capture unit fires nothing. -/
theorem capture_fired (s : State) (n t : Nat) : (s.capture n t).fired = s.fired := by
  unfold capture; split
  · exact fired_count _ _
  · simp only [fired_set]

/-- A source that fires joins the sources of the command. -/
theorem fireAt_fired (s : State) (src cc t : Nat) : (s.fireAt src cc t).fired = s.fired ++ [(src, cc)] := by
  have h : ∀ (u : State) (c : Bool) (n : Nat), (if c = true then u.capture n t else u).fired = u.fired := by
    intro u c n; split
    · exact capture_fired u n t
    · rfl
  unfold fireAt
  simp only
  split
  · rw [forEach_proj State.fired _ _ (fun u n _ => h u _ n)]
  · rfl

/-- A source that fires reaches the capture units. -/
theorem fireAt_keeps (s : State) (src cc t : Nat) : s.keeps (s.fireAt src cc t) (evtKey 0x0C :: captureKeys) := by
  have h : ∀ (u : State) (c : Bool) (n : Nat), n ∈ List.range 8 →
      u.keeps (if c = true then u.capture n t else u) (evtKey 0x0C :: captureKeys) :=
    fun u c n hn => keeps_ite (capture_keeps u n t (List.mem_range.mp hn)) (keeps_refl u _)
  unfold fireAt
  simp only
  refine keeps_trans ?_ (keeps_of_regs _ rfl)
  split
  · exact keeps_forEach _ _ (fun u n hn => h u _ n hn) s
  · exact keeps_refl s _

/-- A source that fires changes nothing behind the registers. -/
theorem fireAt_bare (s : State) (src cc t : Nat) : (s.fireAt src cc t).bare = s.bare := by
  have h : ∀ (u : State) (c : Bool) (n : Nat), (if c = true then u.capture n t else u).bare = u.bare := by
    intro u c n; split
    · exact capture_bare u n t
    · rfl
  unfold fireAt
  simp only
  have e : ∀ u : State, ({ u with fired := u.fired ++ [(src, cc)] } : State).bare = u.bare := fun _ => rfl
  rw [e]
  split
  · exact forEach_proj State.bare _ _ (fun u n _ => h u _ n) s
  · rfl

/-- The firings on their way change nothing else. -/
theorem noteFirings_still (s : State) : s.noteFirings.still = s.still ∧ s.noteFirings.fired = s.fired
    ∧ s.noteFirings.regs = s.regs := by
  unfold noteFirings
  have h : ∀ u : State, ∀ f : Nat × Nat, (u.noteFiring f.1 f.2).still = u.still
      ∧ (u.noteFiring f.1 f.2).fired = u.fired ∧ (u.noteFiring f.1 f.2).regs = u.regs := by
    intro u f; unfold noteFiring; split <;> exact ⟨rfl, rfl, rfl⟩
  exact ⟨forEach_proj State.still _ _ (fun u f _ => (h u f).1) s, forEach_proj State.fired _ _ (fun u f _ => (h u f).2.1) s,
    forEach_proj State.regs _ _ (fun u f _ => (h u f).2.2) s⟩

/-- Sources that are neither compare units nor pulse timers start no housekeeping sequence. -/
theorem hkStarts_other (s : State) (h : ∀ f ∈ s.fired, 8 ≤ f.1 ∧ (f.1 < 0x1C ∨ 0x20 ≤ f.1)) : s.hkStarts = s := by
  unfold hkStarts forEach
  have : ∀ l : List Nat, (∀ n ∈ l, 8 ≤ n ∧ (n < 0x1C ∨ 0x20 ≤ n)) → ∀ u : State, l.foldl (fun s n =>
      if n < 8 then s.hkSource 1 n else if 0x1C ≤ n ∧ n < 0x20 then s.hkSource 2 (n - 0x1C) else s) u = u := by
    intro l
    induction l with
    | nil => intro _ _; rfl
    | cons a l ih =>
      intro hl u
      have ha := hl a (List.mem_cons_self ..)
      rw [List.foldl_cons, if_neg (by omega), if_neg (by omega)]
      exact ih (fun n hn => hl n (List.mem_cons_of_mem _ hn)) u
  refine this _ (fun n hn => ?_) s
  obtain ⟨f, hf, rfl⟩ := List.mem_map.mp hn
  exact h f hf

end State

/-- A command that has fired sources other than compare units and pulse timers: the next state is the body's but for the flags of every
core clock and the firings on their way. -/
theorem perform_next_fired (body : State → State) (s : State)
    (h : ∀ f ∈ (body s.begin_).fired, 8 ≤ f.1 ∧ (f.1 < 0x1C ∨ 0x20 ≤ f.1)) :
    ∃ t, perform body s = .next t ∧ (∀ ks, (body s.begin_).keeps t ks)
      ∧ t.still = { (body s.begin_).still with pending := s.pending } ∧ t.fired = (body s.begin_).finish.fired := by
  refine ⟨_, rfl, fun ks => ?_, ?_, rfl⟩
  · refine State.keeps_trans (t := (body s.begin_).finish) ?_ (State.keeps_of_regs ks rfl)
    unfold State.finish
    split
    · have n := State.noteFirings_still (body s.begin_)
      rw [State.hkStarts_other _ (by rw [n.2.1]; exact h)]
      exact State.keeps_trans (State.keeps_of_regs ks n.2.2) (State.watch_keeps _ ks)
    · exact State.keeps_refl _ ks
  · show ({ (body s.begin_).finish.still with pending := s.pending } : State) = _
    have : (body s.begin_).finish.still = (body s.begin_).still := by
      unfold State.finish
      split
      · have n := State.noteFirings_still (body s.begin_)
        rw [State.hkStarts_other _ (by rw [n.2.1]; exact h)]
        unfold State.still at n ⊢
        rw [State.watch_bare]; exact n.1
      · rfl
    rw [this]

end Sys2Proof.Machine
end

