-- ==== Sys2Proof/Laws/Footprint.lean ====
section
/-! SUPPORT. From masks to footprints: states that agree under a mask agree in every component outside it, and a command's frame adds
to its body's mask what every command may change. -/

namespace Sys2Proof.Machine

/-- States that agree under a mask agree in every component outside it. -/
theorem same_of_mask {M : Nat} {s t : State} (h : t.mask M = s.mask M) :
    ∀ p : Part, M.testBit p.ctorIdx = false → Part.same s t p
  | .pending, hp => by
    have e := congrArg State.pending h
    have hp : M.testBit 0 = false := hp
    simp only [State.mask, hp] at e; exact e
  | .out, hp => by
    have e := congrArg State.out h
    have hp : M.testBit 1 = false := hp
    simp only [State.mask, hp] at e; exact e
  | .evtSeen, hp => by
    have e := congrArg State.evtSeen h
    have hp : M.testBit 2 = false := hp
    simp only [State.mask, hp] at e; exact e
  | .fired, hp => by
    have e := congrArg State.fired h
    have hp : M.testBit 3 = false := hp
    simp only [State.mask, hp] at e; exact e
  | .evmq, hp => by
    have e := congrArg State.evmq h
    have hp : M.testBit 4 = false := hp
    simp only [State.mask, hp] at e; exact e
  | .free, hp => by
    have e := congrArg State.free h
    have hp : M.testBit 5 = false := hp
    simp only [State.mask, hp] at e; exact e
  | .phase, hp => by
    have e := congrArg State.phase h
    have hp : M.testBit 6 = false := hp
    simp only [State.mask, hp] at e; exact e
  | .swept, hp => by
    have e := congrArg State.swept h
    have hp : M.testBit 7 = false := hp
    simp only [State.mask, hp] at e; exact e
  | .regs, hp => by
    have e := congrArg State.regs h
    have hp : M.testBit 8 = false := hp
    simp only [State.mask, hp] at e; exact e
  | .prevRegs, hp => by
    have e := congrArg State.prevRegs h
    have hp : M.testBit 9 = false := hp
    simp only [State.mask, hp] at e; exact e
  | .strokeEnd, hp => by
    have e := congrArg State.strokeEnd h
    have hp : M.testBit 10 = false := hp
    simp only [State.mask, hp] at e; exact e
  | .snap, hp => by
    have e := congrArg State.snap h
    have hp : M.testBit 11 = false := hp
    simp only [State.mask, hp] at e; exact e
  | .holdC, hp => by
    have e := congrArg State.holdC h
    have hp : M.testBit 12 = false := hp
    simp only [State.mask, hp] at e; exact e
  | .holdG, hp => by
    have e := congrArg State.holdG h
    have hp : M.testBit 13 = false := hp
    simp only [State.mask, hp] at e; exact e
  | .staged, hp => by
    have e := congrArg State.staged h
    have hp : M.testBit 14 = false := hp
    simp only [State.mask, hp] at e; exact e
  | .ovf, hp => by
    have e := congrArg State.ovf h
    have hp : M.testBit 15 = false := hp
    simp only [State.mask, hp] at e; exact e
  | .unlockC, hp => by
    have e := congrArg State.unlockC h
    have hp : M.testBit 16 = false := hp
    simp only [State.mask, hp] at e; exact e
  | .unlockG, hp => by
    have e := congrArg State.unlockG h
    have hp : M.testBit 17 = false := hp
    simp only [State.mask, hp] at e; exact e
  | .snapReq, hp => by
    have e := congrArg State.snapReq h
    have hp : M.testBit 18 = false := hp
    simp only [State.mask, hp] at e; exact e
  | .arbC, hp => by
    have e := congrArg State.arbC h
    have hp : M.testBit 19 = false := hp
    simp only [State.mask, hp] at e; exact e
  | .arbG, hp => by
    have e := congrArg State.arbG h
    have hp : M.testBit 20 = false := hp
    simp only [State.mask, hp] at e; exact e
  | .served, hp => by
    have e := congrArg State.served h
    have hp : M.testBit 21 = false := hp
    simp only [State.mask, hp] at e; exact e
  | .clk, hp => by
    have e := congrArg State.clk h
    have hp : M.testBit 22 = false := hp
    simp only [State.mask, hp] at e; exact e
  | .time, hp => by
    have e := congrArg State.time h
    have hp : M.testBit 23 = false := hp
    simp only [State.mask, hp] at e; exact e
  | .pace, hp => by
    have e := congrArg State.pace h
    have hp : M.testBit 24 = false := hp
    simp only [State.mask, hp] at e; exact e
  | .tcuA, hp => by
    have e := congrArg State.tcuA h
    have hp : M.testBit 25 = false := hp
    simp only [State.mask, hp] at e; exact e
  | .tcuB, hp => by
    have e := congrArg State.tcuB h
    have hp : M.testBit 26 = false := hp
    simp only [State.mask, hp] at e; exact e
  | .cox, hp => by
    have e := congrArg State.cox h
    have hp : M.testBit 27 = false := hp
    simp only [State.mask, hp] at e; exact e
  | .banks, hp => by
    have e := congrArg State.banks h
    have hp : M.testBit 28 = false := hp
    simp only [State.mask, hp] at e; exact e
  | .trimCur, hp => by
    have e := congrArg State.trimCur h
    have hp : M.testBit 29 = false := hp
    simp only [State.mask, hp] at e; exact e
  | .trimCal, hp => by
    have e := congrArg State.trimCal h
    have hp : M.testBit 30 = false := hp
    simp only [State.mask, hp] at e; exact e
  | .overs, hp => by
    have e := congrArg State.overs h
    have hp : M.testBit 31 = false := hp
    simp only [State.mask, hp] at e; exact e
  | .words, hp => by
    have e := congrArg State.words h
    have hp : M.testBit 32 = false := hp
    simp only [State.mask, hp] at e; exact e
  | .vals, hp => by
    have e := congrArg State.vals h
    have hp : M.testBit 33 = false := hp
    simp only [State.mask, hp] at e; exact e
  | .pouts, hp => by
    have e := congrArg State.pouts h
    have hp : M.testBit 34 = false := hp
    simp only [State.mask, hp] at e; exact e
  | .stat, hp => by
    have e := congrArg State.stat h
    have hp : M.testBit 35 = false := hp
    simp only [State.mask, hp] at e; exact e
  | .cnSegs, hp => by
    have e := congrArg State.cnSegs h
    have hp : M.testBit 36 = false := hp
    simp only [State.mask, hp] at e; exact e
  | .hubSegs, hp => by
    have e := congrArg State.hubSegs h
    have hp : M.testBit 37 = false := hp
    simp only [State.mask, hp] at e; exact e
  | .fades, hp => by
    have e := congrArg State.fades h
    have hp : M.testBit 38 = false := hp
    simp only [State.mask, hp] at e; exact e
  | .prevFades, hp => by
    have e := congrArg State.prevFades h
    have hp : M.testBit 39 = false := hp
    simp only [State.mask, hp] at e; exact e
  | .fadeQ, hp => by
    have e := congrArg State.fadeQ h
    have hp : M.testBit 40 = false := hp
    simp only [State.mask, hp] at e; exact e
  | .profiles, hp => by
    have e := congrArg State.profiles h
    have hp : M.testBit 41 = false := hp
    simp only [State.mask, hp] at e; exact e
  | .badTaps, hp => by
    have e := congrArg State.badTaps h
    have hp : M.testBit 42 = false := hp
    simp only [State.mask, hp] at e; exact e
  | .segs, hp => by
    have e := congrArg State.segs h
    have hp : M.testBit 43 = false := hp
    simp only [State.mask, hp] at e; exact e
  | .marks, hp => by
    have e := congrArg State.marks h
    have hp : M.testBit 44 = false := hp
    simp only [State.mask, hp] at e; exact e
  | .rateCr, hp => by
    have e := congrArg State.rateCr h
    have hp : M.testBit 45 = false := hp
    simp only [State.mask, hp] at e; exact e
  | .prevRateCr, hp => by
    have e := congrArg State.prevRateCr h
    have hp : M.testBit 46 = false := hp
    simp only [State.mask, hp] at e; exact e
  | .records, hp => by
    have e := congrArg State.records h
    have hp : M.testBit 47 = false := hp
    simp only [State.mask, hp] at e; exact e
  | .hist, hp => by
    have e := congrArg State.hist h
    have hp : M.testBit 48 = false := hp
    simp only [State.mask, hp] at e; exact e
  | .histClr, hp => by
    have e := congrArg State.histClr h
    have hp : M.testBit 49 = false := hp
    simp only [State.mask, hp] at e; exact e
  | .servoN, hp => by
    have e := congrArg State.servoN h
    have hp : M.testBit 50 = false := hp
    simp only [State.mask, hp] at e; exact e
  | .wake, hp => by
    have e := congrArg State.wake h
    have hp : M.testBit 51 = false := hp
    simp only [State.mask, hp] at e; exact e
  | .wakeBad, hp => by
    have e := congrArg State.wakeBad h
    have hp : M.testBit 52 = false := hp
    simp only [State.mask, hp] at e; exact e
  | .accQ, hp => by
    have e := congrArg State.accQ h
    have hp : M.testBit 53 = false := hp
    simp only [State.mask, hp] at e; exact e
  | .evNo, hp => by
    have e := congrArg State.evNo h
    have hp : M.testBit 54 = false := hp
    simp only [State.mask, hp] at e; exact e
  | .runStart, hp => by
    have e := congrArg State.runStart h
    have hp : M.testBit 55 = false := hp
    simp only [State.mask, hp] at e; exact e
  | .startQ, hp => by
    have e := congrArg State.startQ h
    have hp : M.testBit 56 = false := hp
    simp only [State.mask, hp] at e; exact e
  | .startLast, hp => by
    have e := congrArg State.startLast h
    have hp : M.testBit 57 = false := hp
    simp only [State.mask, hp] at e; exact e
  | .presc, hp => by
    have e := congrArg State.presc h
    have hp : M.testBit 58 = false := hp
    simp only [State.mask, hp] at e; exact e
  | .hits, hp => by
    have e := congrArg State.hits h
    have hp : M.testBit 59 = false := hp
    simp only [State.mask, hp] at e; exact e
  | .nbHits, hp => by
    have e := congrArg State.nbHits h
    have hp : M.testBit 60 = false := hp
    simp only [State.mask, hp] at e; exact e
  | .selfLast, hp => by
    have e := congrArg State.selfLast h
    have hp : M.testBit 61 = false := hp
    simp only [State.mask, hp] at e; exact e
  | .selfSeen, hp => by
    have e := congrArg State.selfSeen h
    have hp : M.testBit 62 = false := hp
    simp only [State.mask, hp] at e; exact e
  | .coincTold, hp => by
    have e := congrArg State.coincTold h
    have hp : M.testBit 63 = false := hp
    simp only [State.mask, hp] at e; exact e
  | .autoCnt, hp => by
    have e := congrArg State.autoCnt h
    have hp : M.testBit 64 = false := hp
    simp only [State.mask, hp] at e; exact e
  | .autoDue, hp => by
    have e := congrArg State.autoDue h
    have hp : M.testBit 65 = false := hp
    simp only [State.mask, hp] at e; exact e
  | .nbSt, hp => by
    have e := congrArg State.nbSt h
    have hp : M.testBit 66 = false := hp
    simp only [State.mask, hp] at e; exact e
  | .nbMsg, hp => by
    have e := congrArg State.nbMsg h
    have hp : M.testBit 67 = false := hp
    simp only [State.mask, hp] at e; exact e
  | .nbErrs, hp => by
    have e := congrArg State.nbErrs h
    have hp : M.testBit 68 = false := hp
    simp only [State.mask, hp] at e; exact e
  | .nbMiss, hp => by
    have e := congrArg State.nbMiss h
    have hp : M.testBit 69 = false := hp
    simp only [State.mask, hp] at e; exact e
  | .easyBroken, hp => by
    have e := congrArg State.easyBroken h
    have hp : M.testBit 70 = false := hp
    simp only [State.mask, hp] at e; exact e
  | .frags, hp => by
    have e := congrArg State.frags h
    have hp : M.testBit 71 = false := hp
    simp only [State.mask, hp] at e; exact e
  | .fragId, hp => by
    have e := congrArg State.fragId h
    have hp : M.testBit 72 = false := hp
    simp only [State.mask, hp] at e; exact e
  | .recBad, hp => by
    have e := congrArg State.recBad h
    have hp : M.testBit 73 = false := hp
    simp only [State.mask, hp] at e; exact e
  | .engines, hp => by
    have e := congrArg State.engines h
    have hp : M.testBit 74 = false := hp
    simp only [State.mask, hp] at e; exact e
  | .lensStall, hp => by
    have e := congrArg State.lensStall h
    have hp : M.testBit 75 = false := hp
    simp only [State.mask, hp] at e; exact e
  | .lensWait, hp => by
    have e := congrArg State.lensWait h
    have hp : M.testBit 76 = false := hp
    simp only [State.mask, hp] at e; exact e
  | .lensClk, hp => by
    have e := congrArg State.lensClk h
    have hp : M.testBit 77 = false := hp
    simp only [State.mask, hp] at e; exact e
  | .offer, hp => by
    have e := congrArg State.offer h
    have hp : M.testBit 78 = false := hp
    simp only [State.mask, hp] at e; exact e
  | .held, hp => by
    have e := congrArg State.held h
    have hp : M.testBit 79 = false := hp
    simp only [State.mask, hp] at e; exact e
  | .admitId, hp => by
    have e := congrArg State.admitId h
    have hp : M.testBit 80 = false := hp
    simp only [State.mask, hp] at e; exact e
  | .shedSeen, hp => by
    have e := congrArg State.shedSeen h
    have hp : M.testBit 81 = false := hp
    simp only [State.mask, hp] at e; exact e
  | .tests, hp => by
    have e := congrArg State.tests h
    have hp : M.testBit 82 = false := hp
    simp only [State.mask, hp] at e; exact e
  | .laneFrom, hp => by
    have e := congrArg State.laneFrom h
    have hp : M.testBit 83 = false := hp
    simp only [State.mask, hp] at e; exact e
  | .txRd, hp => by
    have e := congrArg State.txRd h
    have hp : M.testBit 84 = false := hp
    simp only [State.mask, hp] at e; exact e
  | .rxRd, hp => by
    have e := congrArg State.rxRd h
    have hp : M.testBit 85 = false := hp
    simp only [State.mask, hp] at e; exact e
  | .rxErr, hp => by
    have e := congrArg State.rxErr h
    have hp : M.testBit 86 = false := hp
    simp only [State.mask, hp] at e; exact e
  | .codeTold, hp => by
    have e := congrArg State.codeTold h
    have hp : M.testBit 87 = false := hp
    simp only [State.mask, hp] at e; exact e
  | .rxTail, hp => by
    have e := congrArg State.rxTail h
    have hp : M.testBit 88 = false := hp
    simp only [State.mask, hp] at e; exact e
  | .prbs, hp => by
    have e := congrArg State.prbs h
    have hp : M.testBit 89 = false := hp
    simp only [State.mask, hp] at e; exact e
  | .checks, hp => by
    have e := congrArg State.checks h
    have hp : M.testBit 90 = false := hp
    simp only [State.mask, hp] at e; exact e
  | .txOff, hp => by
    have e := congrArg State.txOff h
    have hp : M.testBit 91 = false := hp
    simp only [State.mask, hp] at e; exact e
  | .loopFrom, hp => by
    have e := congrArg State.loopFrom h
    have hp : M.testBit 92 = false := hp
    simp only [State.mask, hp] at e; exact e
  | .loopTold, hp => by
    have e := congrArg State.loopTold h
    have hp : M.testBit 93 = false := hp
    simp only [State.mask, hp] at e; exact e
  | .es, hp => by
    have e := congrArg State.es h
    have hp : M.testBit 94 = false := hp
    simp only [State.mask, hp] at e; exact e
  | .sig, hp => by
    have e := congrArg State.sig h
    have hp : M.testBit 95 = false := hp
    simp only [State.mask, hp] at e; exact e
  | .sigRun, hp => by
    have e := congrArg State.sigRun h
    have hp : M.testBit 96 = false := hp
    simp only [State.mask, hp] at e; exact e
  | .sigDone, hp => by
    have e := congrArg State.sigDone h
    have hp : M.testBit 97 = false := hp
    simp only [State.mask, hp] at e; exact e
  | .laneBusy, hp => by
    have e := congrArg State.laneBusy h
    have hp : M.testBit 98 = false := hp
    simp only [State.mask, hp] at e; exact e
  | .slipWant, hp => by
    have e := congrArg State.slipWant h
    have hp : M.testBit 99 = false := hp
    simp only [State.mask, hp] at e; exact e
  | .links, hp => by
    have e := congrArg State.links h
    have hp : M.testBit 100 = false := hp
    simp only [State.mask, hp] at e; exact e
  | .dmas, hp => by
    have e := congrArg State.dmas h
    have hp : M.testBit 101 = false := hp
    simp only [State.mask, hp] at e; exact e
  | .slots, hp => by
    have e := congrArg State.slots h
    have hp : M.testBit 102 = false := hp
    simp only [State.mask, hp] at e; exact e
  | .fetched, hp => by
    have e := congrArg State.fetched h
    have hp : M.testBit 103 = false := hp
    simp only [State.mask, hp] at e; exact e
  | .seats, hp => by
    have e := congrArg State.seats h
    have hp : M.testBit 104 = false := hp
    simp only [State.mask, hp] at e; exact e
  | .seatUse, hp => by
    have e := congrArg State.seatUse h
    have hp : M.testBit 105 = false := hp
    simp only [State.mask, hp] at e; exact e
  | .quiesce, hp => by
    have e := congrArg State.quiesce h
    have hp : M.testBit 106 = false := hp
    simp only [State.mask, hp] at e; exact e
  | .seatWait, hp => by
    have e := congrArg State.seatWait h
    have hp : M.testBit 107 = false := hp
    simp only [State.mask, hp] at e; exact e
  | .spillTold, hp => by
    have e := congrArg State.spillTold h
    have hp : M.testBit 108 = false := hp
    simp only [State.mask, hp] at e; exact e
  | .slipTold, hp => by
    have e := congrArg State.slipTold h
    have hp : M.testBit 109 = false := hp
    simp only [State.mask, hp] at e; exact e
  | .satHits, hp => by
    have e := congrArg State.satHits h
    have hp : M.testBit 110 = false := hp
    simp only [State.mask, hp] at e; exact e
  | .satGaps, hp => by
    have e := congrArg State.satGaps h
    have hp : M.testBit 111 = false := hp
    simp only [State.mask, hp] at e; exact e
  | .satOut, hp => by
    have e := congrArg State.satOut h
    have hp : M.testBit 112 = false := hp
    simp only [State.mask, hp] at e; exact e
  | .satFast, hp => by
    have e := congrArg State.satFast h
    have hp : M.testBit 113 = false := hp
    simp only [State.mask, hp] at e; exact e
  | .sats, hp => by
    have e := congrArg State.sats h
    have hp : M.testBit 114 = false := hp
    simp only [State.mask, hp] at e; exact e
  | .passTold, hp => by
    have e := congrArg State.passTold h
    have hp : M.testBit 115 = false := hp
    simp only [State.mask, hp] at e; exact e
  | .hk, hp => by
    have e := congrArg State.hk h
    have hp : M.testBit 116 = false := hp
    simp only [State.mask, hp] at e; exact e
  | .tap, hp => by
    have e := congrArg State.tap h
    have hp : M.testBit 117 = false := hp
    simp only [State.mask, hp] at e; exact e
  | .pads, hp => by
    have e := congrArg State.pads h
    have hp : M.testBit 118 = false := hp
    simp only [State.mask, hp] at e; exact e
  | .ring, hp => by
    have e := congrArg State.ring h
    have hp : M.testBit 119 = false := hp
    simp only [State.mask, hp] at e; exact e
  | .tp, hp => by
    have e := congrArg State.tp h
    have hp : M.testBit 120 = false := hp
    simp only [State.mask, hp] at e; exact e
  | .tpMarks, hp => by
    have e := congrArg State.tpMarks h
    have hp : M.testBit 121 = false := hp
    simp only [State.mask, hp] at e; exact e
  | .tpLast, hp => by
    have e := congrArg State.tpLast h
    have hp : M.testBit 122 = false := hp
    simp only [State.mask, hp] at e; exact e

/-- A command leaves alone what its body leaves alone, but for what every command may change. -/
theorem perform_mask {M : Nat} {body : State → State} {s t : State} (h : perform body s = .next t)
    (hb : ∀ u : State, (body u).mask M = u.mask M) (h14 : 14 &&& M = 14)
    (hfin : 83076749737161704966295255880040724 &&& M = 83076749737161704966295255880040724) (hp : M.testBit 0 = false) :
    t.mask M = s.mask M := by
  have e : (body s.begin_).finish.mask M = s.mask M :=
    (State.finish_mask hfin _).trans ((hb _).trans (State.begin__mask h14 s))
  have hq : (body s.begin_).finish.pending = s.pending := same_of_mask e .pending hp
  injection h with h
  rw [← h]
  generalize (body s.begin_).finish = x at e hq
  cases x
  cases hq
  exact e

end Sys2Proof.Machine
end

