-- ==== Sys2Proof/Laws/State.lean ====
section
/-! SUPPORT. What each update of the state leaves alone: for every field of the state one lemma for each update of register words, for
an output, for a free value drawn and for the start of a command; each holds by rfl, so that no later proof unfolds a record update. -/

namespace Sys2Proof.Machine.State

/-! A register word written. -/

@[simp] theorem wr_pending (s : State) (k : Nat) (v : Word) : (s.wr k v).pending = s.pending := rfl
@[simp] theorem wr_out (s : State) (k : Nat) (v : Word) : (s.wr k v).out = s.out := rfl
@[simp] theorem wr_evtSeen (s : State) (k : Nat) (v : Word) : (s.wr k v).evtSeen = s.evtSeen := rfl
@[simp] theorem wr_fired (s : State) (k : Nat) (v : Word) : (s.wr k v).fired = s.fired := rfl
@[simp] theorem wr_evmq (s : State) (k : Nat) (v : Word) : (s.wr k v).evmq = s.evmq := rfl
@[simp] theorem wr_free (s : State) (k : Nat) (v : Word) : (s.wr k v).free = s.free := rfl
@[simp] theorem wr_phase (s : State) (k : Nat) (v : Word) : (s.wr k v).phase = s.phase := rfl
@[simp] theorem wr_swept (s : State) (k : Nat) (v : Word) : (s.wr k v).swept = s.swept := rfl
@[simp] theorem wr_prevRegs (s : State) (k : Nat) (v : Word) : (s.wr k v).prevRegs = s.prevRegs := rfl
@[simp] theorem wr_strokeEnd (s : State) (k : Nat) (v : Word) : (s.wr k v).strokeEnd = s.strokeEnd := rfl
@[simp] theorem wr_snap (s : State) (k : Nat) (v : Word) : (s.wr k v).snap = s.snap := rfl
@[simp] theorem wr_holdC (s : State) (k : Nat) (v : Word) : (s.wr k v).holdC = s.holdC := rfl
@[simp] theorem wr_holdG (s : State) (k : Nat) (v : Word) : (s.wr k v).holdG = s.holdG := rfl
@[simp] theorem wr_staged (s : State) (k : Nat) (v : Word) : (s.wr k v).staged = s.staged := rfl
@[simp] theorem wr_ovf (s : State) (k : Nat) (v : Word) : (s.wr k v).ovf = s.ovf := rfl
@[simp] theorem wr_unlockC (s : State) (k : Nat) (v : Word) : (s.wr k v).unlockC = s.unlockC := rfl
@[simp] theorem wr_unlockG (s : State) (k : Nat) (v : Word) : (s.wr k v).unlockG = s.unlockG := rfl
@[simp] theorem wr_snapReq (s : State) (k : Nat) (v : Word) : (s.wr k v).snapReq = s.snapReq := rfl
@[simp] theorem wr_arbC (s : State) (k : Nat) (v : Word) : (s.wr k v).arbC = s.arbC := rfl
@[simp] theorem wr_arbG (s : State) (k : Nat) (v : Word) : (s.wr k v).arbG = s.arbG := rfl
@[simp] theorem wr_served (s : State) (k : Nat) (v : Word) : (s.wr k v).served = s.served := rfl
@[simp] theorem wr_clk (s : State) (k : Nat) (v : Word) : (s.wr k v).clk = s.clk := rfl
@[simp] theorem wr_time (s : State) (k : Nat) (v : Word) : (s.wr k v).time = s.time := rfl
@[simp] theorem wr_pace (s : State) (k : Nat) (v : Word) : (s.wr k v).pace = s.pace := rfl
@[simp] theorem wr_tcuA (s : State) (k : Nat) (v : Word) : (s.wr k v).tcuA = s.tcuA := rfl
@[simp] theorem wr_tcuB (s : State) (k : Nat) (v : Word) : (s.wr k v).tcuB = s.tcuB := rfl
@[simp] theorem wr_cox (s : State) (k : Nat) (v : Word) : (s.wr k v).cox = s.cox := rfl
@[simp] theorem wr_banks (s : State) (k : Nat) (v : Word) : (s.wr k v).banks = s.banks := rfl
@[simp] theorem wr_trimCur (s : State) (k : Nat) (v : Word) : (s.wr k v).trimCur = s.trimCur := rfl
@[simp] theorem wr_trimCal (s : State) (k : Nat) (v : Word) : (s.wr k v).trimCal = s.trimCal := rfl
@[simp] theorem wr_overs (s : State) (k : Nat) (v : Word) : (s.wr k v).overs = s.overs := rfl
@[simp] theorem wr_words (s : State) (k : Nat) (v : Word) : (s.wr k v).words = s.words := rfl
@[simp] theorem wr_vals (s : State) (k : Nat) (v : Word) : (s.wr k v).vals = s.vals := rfl
@[simp] theorem wr_pouts (s : State) (k : Nat) (v : Word) : (s.wr k v).pouts = s.pouts := rfl
@[simp] theorem wr_stat (s : State) (k : Nat) (v : Word) : (s.wr k v).stat = s.stat := rfl
@[simp] theorem wr_cnSegs (s : State) (k : Nat) (v : Word) : (s.wr k v).cnSegs = s.cnSegs := rfl
@[simp] theorem wr_hubSegs (s : State) (k : Nat) (v : Word) : (s.wr k v).hubSegs = s.hubSegs := rfl
@[simp] theorem wr_fades (s : State) (k : Nat) (v : Word) : (s.wr k v).fades = s.fades := rfl
@[simp] theorem wr_prevFades (s : State) (k : Nat) (v : Word) : (s.wr k v).prevFades = s.prevFades := rfl
@[simp] theorem wr_fadeQ (s : State) (k : Nat) (v : Word) : (s.wr k v).fadeQ = s.fadeQ := rfl
@[simp] theorem wr_profiles (s : State) (k : Nat) (v : Word) : (s.wr k v).profiles = s.profiles := rfl
@[simp] theorem wr_badTaps (s : State) (k : Nat) (v : Word) : (s.wr k v).badTaps = s.badTaps := rfl
@[simp] theorem wr_segs (s : State) (k : Nat) (v : Word) : (s.wr k v).segs = s.segs := rfl
@[simp] theorem wr_marks (s : State) (k : Nat) (v : Word) : (s.wr k v).marks = s.marks := rfl
@[simp] theorem wr_rateCr (s : State) (k : Nat) (v : Word) : (s.wr k v).rateCr = s.rateCr := rfl
@[simp] theorem wr_prevRateCr (s : State) (k : Nat) (v : Word) : (s.wr k v).prevRateCr = s.prevRateCr := rfl
@[simp] theorem wr_records (s : State) (k : Nat) (v : Word) : (s.wr k v).records = s.records := rfl
@[simp] theorem wr_hist (s : State) (k : Nat) (v : Word) : (s.wr k v).hist = s.hist := rfl
@[simp] theorem wr_histClr (s : State) (k : Nat) (v : Word) : (s.wr k v).histClr = s.histClr := rfl
@[simp] theorem wr_servoN (s : State) (k : Nat) (v : Word) : (s.wr k v).servoN = s.servoN := rfl
@[simp] theorem wr_wake (s : State) (k : Nat) (v : Word) : (s.wr k v).wake = s.wake := rfl
@[simp] theorem wr_wakeBad (s : State) (k : Nat) (v : Word) : (s.wr k v).wakeBad = s.wakeBad := rfl
@[simp] theorem wr_accQ (s : State) (k : Nat) (v : Word) : (s.wr k v).accQ = s.accQ := rfl
@[simp] theorem wr_evNo (s : State) (k : Nat) (v : Word) : (s.wr k v).evNo = s.evNo := rfl
@[simp] theorem wr_runStart (s : State) (k : Nat) (v : Word) : (s.wr k v).runStart = s.runStart := rfl
@[simp] theorem wr_startQ (s : State) (k : Nat) (v : Word) : (s.wr k v).startQ = s.startQ := rfl
@[simp] theorem wr_startLast (s : State) (k : Nat) (v : Word) : (s.wr k v).startLast = s.startLast := rfl
@[simp] theorem wr_presc (s : State) (k : Nat) (v : Word) : (s.wr k v).presc = s.presc := rfl
@[simp] theorem wr_hits (s : State) (k : Nat) (v : Word) : (s.wr k v).hits = s.hits := rfl
@[simp] theorem wr_nbHits (s : State) (k : Nat) (v : Word) : (s.wr k v).nbHits = s.nbHits := rfl
@[simp] theorem wr_selfLast (s : State) (k : Nat) (v : Word) : (s.wr k v).selfLast = s.selfLast := rfl
@[simp] theorem wr_selfSeen (s : State) (k : Nat) (v : Word) : (s.wr k v).selfSeen = s.selfSeen := rfl
@[simp] theorem wr_coincTold (s : State) (k : Nat) (v : Word) : (s.wr k v).coincTold = s.coincTold := rfl
@[simp] theorem wr_autoCnt (s : State) (k : Nat) (v : Word) : (s.wr k v).autoCnt = s.autoCnt := rfl
@[simp] theorem wr_autoDue (s : State) (k : Nat) (v : Word) : (s.wr k v).autoDue = s.autoDue := rfl
@[simp] theorem wr_nbSt (s : State) (k : Nat) (v : Word) : (s.wr k v).nbSt = s.nbSt := rfl
@[simp] theorem wr_nbMsg (s : State) (k : Nat) (v : Word) : (s.wr k v).nbMsg = s.nbMsg := rfl
@[simp] theorem wr_nbErrs (s : State) (k : Nat) (v : Word) : (s.wr k v).nbErrs = s.nbErrs := rfl
@[simp] theorem wr_nbMiss (s : State) (k : Nat) (v : Word) : (s.wr k v).nbMiss = s.nbMiss := rfl
@[simp] theorem wr_easyBroken (s : State) (k : Nat) (v : Word) : (s.wr k v).easyBroken = s.easyBroken := rfl
@[simp] theorem wr_frags (s : State) (k : Nat) (v : Word) : (s.wr k v).frags = s.frags := rfl
@[simp] theorem wr_fragId (s : State) (k : Nat) (v : Word) : (s.wr k v).fragId = s.fragId := rfl
@[simp] theorem wr_recBad (s : State) (k : Nat) (v : Word) : (s.wr k v).recBad = s.recBad := rfl
@[simp] theorem wr_engines (s : State) (k : Nat) (v : Word) : (s.wr k v).engines = s.engines := rfl
@[simp] theorem wr_lensStall (s : State) (k : Nat) (v : Word) : (s.wr k v).lensStall = s.lensStall := rfl
@[simp] theorem wr_lensWait (s : State) (k : Nat) (v : Word) : (s.wr k v).lensWait = s.lensWait := rfl
@[simp] theorem wr_lensClk (s : State) (k : Nat) (v : Word) : (s.wr k v).lensClk = s.lensClk := rfl
@[simp] theorem wr_offer (s : State) (k : Nat) (v : Word) : (s.wr k v).offer = s.offer := rfl
@[simp] theorem wr_held (s : State) (k : Nat) (v : Word) : (s.wr k v).held = s.held := rfl
@[simp] theorem wr_admitId (s : State) (k : Nat) (v : Word) : (s.wr k v).admitId = s.admitId := rfl
@[simp] theorem wr_shedSeen (s : State) (k : Nat) (v : Word) : (s.wr k v).shedSeen = s.shedSeen := rfl
@[simp] theorem wr_tests (s : State) (k : Nat) (v : Word) : (s.wr k v).tests = s.tests := rfl
@[simp] theorem wr_laneFrom (s : State) (k : Nat) (v : Word) : (s.wr k v).laneFrom = s.laneFrom := rfl
@[simp] theorem wr_txRd (s : State) (k : Nat) (v : Word) : (s.wr k v).txRd = s.txRd := rfl
@[simp] theorem wr_rxRd (s : State) (k : Nat) (v : Word) : (s.wr k v).rxRd = s.rxRd := rfl
@[simp] theorem wr_rxErr (s : State) (k : Nat) (v : Word) : (s.wr k v).rxErr = s.rxErr := rfl
@[simp] theorem wr_codeTold (s : State) (k : Nat) (v : Word) : (s.wr k v).codeTold = s.codeTold := rfl
@[simp] theorem wr_rxTail (s : State) (k : Nat) (v : Word) : (s.wr k v).rxTail = s.rxTail := rfl
@[simp] theorem wr_prbs (s : State) (k : Nat) (v : Word) : (s.wr k v).prbs = s.prbs := rfl
@[simp] theorem wr_checks (s : State) (k : Nat) (v : Word) : (s.wr k v).checks = s.checks := rfl
@[simp] theorem wr_txOff (s : State) (k : Nat) (v : Word) : (s.wr k v).txOff = s.txOff := rfl
@[simp] theorem wr_loopFrom (s : State) (k : Nat) (v : Word) : (s.wr k v).loopFrom = s.loopFrom := rfl
@[simp] theorem wr_loopTold (s : State) (k : Nat) (v : Word) : (s.wr k v).loopTold = s.loopTold := rfl
@[simp] theorem wr_es (s : State) (k : Nat) (v : Word) : (s.wr k v).es = s.es := rfl
@[simp] theorem wr_sig (s : State) (k : Nat) (v : Word) : (s.wr k v).sig = s.sig := rfl
@[simp] theorem wr_sigRun (s : State) (k : Nat) (v : Word) : (s.wr k v).sigRun = s.sigRun := rfl
@[simp] theorem wr_sigDone (s : State) (k : Nat) (v : Word) : (s.wr k v).sigDone = s.sigDone := rfl
@[simp] theorem wr_laneBusy (s : State) (k : Nat) (v : Word) : (s.wr k v).laneBusy = s.laneBusy := rfl
@[simp] theorem wr_slipWant (s : State) (k : Nat) (v : Word) : (s.wr k v).slipWant = s.slipWant := rfl
@[simp] theorem wr_links (s : State) (k : Nat) (v : Word) : (s.wr k v).links = s.links := rfl
@[simp] theorem wr_dmas (s : State) (k : Nat) (v : Word) : (s.wr k v).dmas = s.dmas := rfl
@[simp] theorem wr_slots (s : State) (k : Nat) (v : Word) : (s.wr k v).slots = s.slots := rfl
@[simp] theorem wr_fetched (s : State) (k : Nat) (v : Word) : (s.wr k v).fetched = s.fetched := rfl
@[simp] theorem wr_seats (s : State) (k : Nat) (v : Word) : (s.wr k v).seats = s.seats := rfl
@[simp] theorem wr_seatUse (s : State) (k : Nat) (v : Word) : (s.wr k v).seatUse = s.seatUse := rfl
@[simp] theorem wr_quiesce (s : State) (k : Nat) (v : Word) : (s.wr k v).quiesce = s.quiesce := rfl
@[simp] theorem wr_seatWait (s : State) (k : Nat) (v : Word) : (s.wr k v).seatWait = s.seatWait := rfl
@[simp] theorem wr_spillTold (s : State) (k : Nat) (v : Word) : (s.wr k v).spillTold = s.spillTold := rfl
@[simp] theorem wr_slipTold (s : State) (k : Nat) (v : Word) : (s.wr k v).slipTold = s.slipTold := rfl
@[simp] theorem wr_satHits (s : State) (k : Nat) (v : Word) : (s.wr k v).satHits = s.satHits := rfl
@[simp] theorem wr_satGaps (s : State) (k : Nat) (v : Word) : (s.wr k v).satGaps = s.satGaps := rfl
@[simp] theorem wr_satOut (s : State) (k : Nat) (v : Word) : (s.wr k v).satOut = s.satOut := rfl
@[simp] theorem wr_satFast (s : State) (k : Nat) (v : Word) : (s.wr k v).satFast = s.satFast := rfl
@[simp] theorem wr_sats (s : State) (k : Nat) (v : Word) : (s.wr k v).sats = s.sats := rfl
@[simp] theorem wr_passTold (s : State) (k : Nat) (v : Word) : (s.wr k v).passTold = s.passTold := rfl
@[simp] theorem wr_hk (s : State) (k : Nat) (v : Word) : (s.wr k v).hk = s.hk := rfl
@[simp] theorem wr_tap (s : State) (k : Nat) (v : Word) : (s.wr k v).tap = s.tap := rfl
@[simp] theorem wr_pads (s : State) (k : Nat) (v : Word) : (s.wr k v).pads = s.pads := rfl
@[simp] theorem wr_ring (s : State) (k : Nat) (v : Word) : (s.wr k v).ring = s.ring := rfl
@[simp] theorem wr_tp (s : State) (k : Nat) (v : Word) : (s.wr k v).tp = s.tp := rfl
@[simp] theorem wr_tpMarks (s : State) (k : Nat) (v : Word) : (s.wr k v).tpMarks = s.tpMarks := rfl
@[simp] theorem wr_tpLast (s : State) (k : Nat) (v : Word) : (s.wr k v).tpLast = s.tpLast := rfl

/-! A field written. -/

@[simp] theorem set_pending (s : State) (f : Fld) (v : Nat) : (s.set f v).pending = s.pending := rfl
@[simp] theorem set_out (s : State) (f : Fld) (v : Nat) : (s.set f v).out = s.out := rfl
@[simp] theorem set_evtSeen (s : State) (f : Fld) (v : Nat) : (s.set f v).evtSeen = s.evtSeen := rfl
@[simp] theorem set_fired (s : State) (f : Fld) (v : Nat) : (s.set f v).fired = s.fired := rfl
@[simp] theorem set_evmq (s : State) (f : Fld) (v : Nat) : (s.set f v).evmq = s.evmq := rfl
@[simp] theorem set_free (s : State) (f : Fld) (v : Nat) : (s.set f v).free = s.free := rfl
@[simp] theorem set_phase (s : State) (f : Fld) (v : Nat) : (s.set f v).phase = s.phase := rfl
@[simp] theorem set_swept (s : State) (f : Fld) (v : Nat) : (s.set f v).swept = s.swept := rfl
@[simp] theorem set_prevRegs (s : State) (f : Fld) (v : Nat) : (s.set f v).prevRegs = s.prevRegs := rfl
@[simp] theorem set_strokeEnd (s : State) (f : Fld) (v : Nat) : (s.set f v).strokeEnd = s.strokeEnd := rfl
@[simp] theorem set_snap (s : State) (f : Fld) (v : Nat) : (s.set f v).snap = s.snap := rfl
@[simp] theorem set_holdC (s : State) (f : Fld) (v : Nat) : (s.set f v).holdC = s.holdC := rfl
@[simp] theorem set_holdG (s : State) (f : Fld) (v : Nat) : (s.set f v).holdG = s.holdG := rfl
@[simp] theorem set_staged (s : State) (f : Fld) (v : Nat) : (s.set f v).staged = s.staged := rfl
@[simp] theorem set_ovf (s : State) (f : Fld) (v : Nat) : (s.set f v).ovf = s.ovf := rfl
@[simp] theorem set_unlockC (s : State) (f : Fld) (v : Nat) : (s.set f v).unlockC = s.unlockC := rfl
@[simp] theorem set_unlockG (s : State) (f : Fld) (v : Nat) : (s.set f v).unlockG = s.unlockG := rfl
@[simp] theorem set_snapReq (s : State) (f : Fld) (v : Nat) : (s.set f v).snapReq = s.snapReq := rfl
@[simp] theorem set_arbC (s : State) (f : Fld) (v : Nat) : (s.set f v).arbC = s.arbC := rfl
@[simp] theorem set_arbG (s : State) (f : Fld) (v : Nat) : (s.set f v).arbG = s.arbG := rfl
@[simp] theorem set_served (s : State) (f : Fld) (v : Nat) : (s.set f v).served = s.served := rfl
@[simp] theorem set_clk (s : State) (f : Fld) (v : Nat) : (s.set f v).clk = s.clk := rfl
@[simp] theorem set_time (s : State) (f : Fld) (v : Nat) : (s.set f v).time = s.time := rfl
@[simp] theorem set_pace (s : State) (f : Fld) (v : Nat) : (s.set f v).pace = s.pace := rfl
@[simp] theorem set_tcuA (s : State) (f : Fld) (v : Nat) : (s.set f v).tcuA = s.tcuA := rfl
@[simp] theorem set_tcuB (s : State) (f : Fld) (v : Nat) : (s.set f v).tcuB = s.tcuB := rfl
@[simp] theorem set_cox (s : State) (f : Fld) (v : Nat) : (s.set f v).cox = s.cox := rfl
@[simp] theorem set_banks (s : State) (f : Fld) (v : Nat) : (s.set f v).banks = s.banks := rfl
@[simp] theorem set_trimCur (s : State) (f : Fld) (v : Nat) : (s.set f v).trimCur = s.trimCur := rfl
@[simp] theorem set_trimCal (s : State) (f : Fld) (v : Nat) : (s.set f v).trimCal = s.trimCal := rfl
@[simp] theorem set_overs (s : State) (f : Fld) (v : Nat) : (s.set f v).overs = s.overs := rfl
@[simp] theorem set_words (s : State) (f : Fld) (v : Nat) : (s.set f v).words = s.words := rfl
@[simp] theorem set_vals (s : State) (f : Fld) (v : Nat) : (s.set f v).vals = s.vals := rfl
@[simp] theorem set_pouts (s : State) (f : Fld) (v : Nat) : (s.set f v).pouts = s.pouts := rfl
@[simp] theorem set_stat (s : State) (f : Fld) (v : Nat) : (s.set f v).stat = s.stat := rfl
@[simp] theorem set_cnSegs (s : State) (f : Fld) (v : Nat) : (s.set f v).cnSegs = s.cnSegs := rfl
@[simp] theorem set_hubSegs (s : State) (f : Fld) (v : Nat) : (s.set f v).hubSegs = s.hubSegs := rfl
@[simp] theorem set_fades (s : State) (f : Fld) (v : Nat) : (s.set f v).fades = s.fades := rfl
@[simp] theorem set_prevFades (s : State) (f : Fld) (v : Nat) : (s.set f v).prevFades = s.prevFades := rfl
@[simp] theorem set_fadeQ (s : State) (f : Fld) (v : Nat) : (s.set f v).fadeQ = s.fadeQ := rfl
@[simp] theorem set_profiles (s : State) (f : Fld) (v : Nat) : (s.set f v).profiles = s.profiles := rfl
@[simp] theorem set_badTaps (s : State) (f : Fld) (v : Nat) : (s.set f v).badTaps = s.badTaps := rfl
@[simp] theorem set_segs (s : State) (f : Fld) (v : Nat) : (s.set f v).segs = s.segs := rfl
@[simp] theorem set_marks (s : State) (f : Fld) (v : Nat) : (s.set f v).marks = s.marks := rfl
@[simp] theorem set_rateCr (s : State) (f : Fld) (v : Nat) : (s.set f v).rateCr = s.rateCr := rfl
@[simp] theorem set_prevRateCr (s : State) (f : Fld) (v : Nat) : (s.set f v).prevRateCr = s.prevRateCr := rfl
@[simp] theorem set_records (s : State) (f : Fld) (v : Nat) : (s.set f v).records = s.records := rfl
@[simp] theorem set_hist (s : State) (f : Fld) (v : Nat) : (s.set f v).hist = s.hist := rfl
@[simp] theorem set_histClr (s : State) (f : Fld) (v : Nat) : (s.set f v).histClr = s.histClr := rfl
@[simp] theorem set_servoN (s : State) (f : Fld) (v : Nat) : (s.set f v).servoN = s.servoN := rfl
@[simp] theorem set_wake (s : State) (f : Fld) (v : Nat) : (s.set f v).wake = s.wake := rfl
@[simp] theorem set_wakeBad (s : State) (f : Fld) (v : Nat) : (s.set f v).wakeBad = s.wakeBad := rfl
@[simp] theorem set_accQ (s : State) (f : Fld) (v : Nat) : (s.set f v).accQ = s.accQ := rfl
@[simp] theorem set_evNo (s : State) (f : Fld) (v : Nat) : (s.set f v).evNo = s.evNo := rfl
@[simp] theorem set_runStart (s : State) (f : Fld) (v : Nat) : (s.set f v).runStart = s.runStart := rfl
@[simp] theorem set_startQ (s : State) (f : Fld) (v : Nat) : (s.set f v).startQ = s.startQ := rfl
@[simp] theorem set_startLast (s : State) (f : Fld) (v : Nat) : (s.set f v).startLast = s.startLast := rfl
@[simp] theorem set_presc (s : State) (f : Fld) (v : Nat) : (s.set f v).presc = s.presc := rfl
@[simp] theorem set_hits (s : State) (f : Fld) (v : Nat) : (s.set f v).hits = s.hits := rfl
@[simp] theorem set_nbHits (s : State) (f : Fld) (v : Nat) : (s.set f v).nbHits = s.nbHits := rfl
@[simp] theorem set_selfLast (s : State) (f : Fld) (v : Nat) : (s.set f v).selfLast = s.selfLast := rfl
@[simp] theorem set_selfSeen (s : State) (f : Fld) (v : Nat) : (s.set f v).selfSeen = s.selfSeen := rfl
@[simp] theorem set_coincTold (s : State) (f : Fld) (v : Nat) : (s.set f v).coincTold = s.coincTold := rfl
@[simp] theorem set_autoCnt (s : State) (f : Fld) (v : Nat) : (s.set f v).autoCnt = s.autoCnt := rfl
@[simp] theorem set_autoDue (s : State) (f : Fld) (v : Nat) : (s.set f v).autoDue = s.autoDue := rfl
@[simp] theorem set_nbSt (s : State) (f : Fld) (v : Nat) : (s.set f v).nbSt = s.nbSt := rfl
@[simp] theorem set_nbMsg (s : State) (f : Fld) (v : Nat) : (s.set f v).nbMsg = s.nbMsg := rfl
@[simp] theorem set_nbErrs (s : State) (f : Fld) (v : Nat) : (s.set f v).nbErrs = s.nbErrs := rfl
@[simp] theorem set_nbMiss (s : State) (f : Fld) (v : Nat) : (s.set f v).nbMiss = s.nbMiss := rfl
@[simp] theorem set_easyBroken (s : State) (f : Fld) (v : Nat) : (s.set f v).easyBroken = s.easyBroken := rfl
@[simp] theorem set_frags (s : State) (f : Fld) (v : Nat) : (s.set f v).frags = s.frags := rfl
@[simp] theorem set_fragId (s : State) (f : Fld) (v : Nat) : (s.set f v).fragId = s.fragId := rfl
@[simp] theorem set_recBad (s : State) (f : Fld) (v : Nat) : (s.set f v).recBad = s.recBad := rfl
@[simp] theorem set_engines (s : State) (f : Fld) (v : Nat) : (s.set f v).engines = s.engines := rfl
@[simp] theorem set_lensStall (s : State) (f : Fld) (v : Nat) : (s.set f v).lensStall = s.lensStall := rfl
@[simp] theorem set_lensWait (s : State) (f : Fld) (v : Nat) : (s.set f v).lensWait = s.lensWait := rfl
@[simp] theorem set_lensClk (s : State) (f : Fld) (v : Nat) : (s.set f v).lensClk = s.lensClk := rfl
@[simp] theorem set_offer (s : State) (f : Fld) (v : Nat) : (s.set f v).offer = s.offer := rfl
@[simp] theorem set_held (s : State) (f : Fld) (v : Nat) : (s.set f v).held = s.held := rfl
@[simp] theorem set_admitId (s : State) (f : Fld) (v : Nat) : (s.set f v).admitId = s.admitId := rfl
@[simp] theorem set_shedSeen (s : State) (f : Fld) (v : Nat) : (s.set f v).shedSeen = s.shedSeen := rfl
@[simp] theorem set_tests (s : State) (f : Fld) (v : Nat) : (s.set f v).tests = s.tests := rfl
@[simp] theorem set_laneFrom (s : State) (f : Fld) (v : Nat) : (s.set f v).laneFrom = s.laneFrom := rfl
@[simp] theorem set_txRd (s : State) (f : Fld) (v : Nat) : (s.set f v).txRd = s.txRd := rfl
@[simp] theorem set_rxRd (s : State) (f : Fld) (v : Nat) : (s.set f v).rxRd = s.rxRd := rfl
@[simp] theorem set_rxErr (s : State) (f : Fld) (v : Nat) : (s.set f v).rxErr = s.rxErr := rfl
@[simp] theorem set_codeTold (s : State) (f : Fld) (v : Nat) : (s.set f v).codeTold = s.codeTold := rfl
@[simp] theorem set_rxTail (s : State) (f : Fld) (v : Nat) : (s.set f v).rxTail = s.rxTail := rfl
@[simp] theorem set_prbs (s : State) (f : Fld) (v : Nat) : (s.set f v).prbs = s.prbs := rfl
@[simp] theorem set_checks (s : State) (f : Fld) (v : Nat) : (s.set f v).checks = s.checks := rfl
@[simp] theorem set_txOff (s : State) (f : Fld) (v : Nat) : (s.set f v).txOff = s.txOff := rfl
@[simp] theorem set_loopFrom (s : State) (f : Fld) (v : Nat) : (s.set f v).loopFrom = s.loopFrom := rfl
@[simp] theorem set_loopTold (s : State) (f : Fld) (v : Nat) : (s.set f v).loopTold = s.loopTold := rfl
@[simp] theorem set_es (s : State) (f : Fld) (v : Nat) : (s.set f v).es = s.es := rfl
@[simp] theorem set_sig (s : State) (f : Fld) (v : Nat) : (s.set f v).sig = s.sig := rfl
@[simp] theorem set_sigRun (s : State) (f : Fld) (v : Nat) : (s.set f v).sigRun = s.sigRun := rfl
@[simp] theorem set_sigDone (s : State) (f : Fld) (v : Nat) : (s.set f v).sigDone = s.sigDone := rfl
@[simp] theorem set_laneBusy (s : State) (f : Fld) (v : Nat) : (s.set f v).laneBusy = s.laneBusy := rfl
@[simp] theorem set_slipWant (s : State) (f : Fld) (v : Nat) : (s.set f v).slipWant = s.slipWant := rfl
@[simp] theorem set_links (s : State) (f : Fld) (v : Nat) : (s.set f v).links = s.links := rfl
@[simp] theorem set_dmas (s : State) (f : Fld) (v : Nat) : (s.set f v).dmas = s.dmas := rfl
@[simp] theorem set_slots (s : State) (f : Fld) (v : Nat) : (s.set f v).slots = s.slots := rfl
@[simp] theorem set_fetched (s : State) (f : Fld) (v : Nat) : (s.set f v).fetched = s.fetched := rfl
@[simp] theorem set_seats (s : State) (f : Fld) (v : Nat) : (s.set f v).seats = s.seats := rfl
@[simp] theorem set_seatUse (s : State) (f : Fld) (v : Nat) : (s.set f v).seatUse = s.seatUse := rfl
@[simp] theorem set_quiesce (s : State) (f : Fld) (v : Nat) : (s.set f v).quiesce = s.quiesce := rfl
@[simp] theorem set_seatWait (s : State) (f : Fld) (v : Nat) : (s.set f v).seatWait = s.seatWait := rfl
@[simp] theorem set_spillTold (s : State) (f : Fld) (v : Nat) : (s.set f v).spillTold = s.spillTold := rfl
@[simp] theorem set_slipTold (s : State) (f : Fld) (v : Nat) : (s.set f v).slipTold = s.slipTold := rfl
@[simp] theorem set_satHits (s : State) (f : Fld) (v : Nat) : (s.set f v).satHits = s.satHits := rfl
@[simp] theorem set_satGaps (s : State) (f : Fld) (v : Nat) : (s.set f v).satGaps = s.satGaps := rfl
@[simp] theorem set_satOut (s : State) (f : Fld) (v : Nat) : (s.set f v).satOut = s.satOut := rfl
@[simp] theorem set_satFast (s : State) (f : Fld) (v : Nat) : (s.set f v).satFast = s.satFast := rfl
@[simp] theorem set_sats (s : State) (f : Fld) (v : Nat) : (s.set f v).sats = s.sats := rfl
@[simp] theorem set_passTold (s : State) (f : Fld) (v : Nat) : (s.set f v).passTold = s.passTold := rfl
@[simp] theorem set_hk (s : State) (f : Fld) (v : Nat) : (s.set f v).hk = s.hk := rfl
@[simp] theorem set_tap (s : State) (f : Fld) (v : Nat) : (s.set f v).tap = s.tap := rfl
@[simp] theorem set_pads (s : State) (f : Fld) (v : Nat) : (s.set f v).pads = s.pads := rfl
@[simp] theorem set_ring (s : State) (f : Fld) (v : Nat) : (s.set f v).ring = s.ring := rfl
@[simp] theorem set_tp (s : State) (f : Fld) (v : Nat) : (s.set f v).tp = s.tp := rfl
@[simp] theorem set_tpMarks (s : State) (f : Fld) (v : Nat) : (s.set f v).tpMarks = s.tpMarks := rfl
@[simp] theorem set_tpLast (s : State) (f : Fld) (v : Nat) : (s.set f v).tpLast = s.tpLast := rfl

/-! A signed field written. -/

@[simp] theorem seti_pending (s : State) (f : Fld) (v : Int) : (s.seti f v).pending = s.pending := rfl
@[simp] theorem seti_out (s : State) (f : Fld) (v : Int) : (s.seti f v).out = s.out := rfl
@[simp] theorem seti_evtSeen (s : State) (f : Fld) (v : Int) : (s.seti f v).evtSeen = s.evtSeen := rfl
@[simp] theorem seti_fired (s : State) (f : Fld) (v : Int) : (s.seti f v).fired = s.fired := rfl
@[simp] theorem seti_evmq (s : State) (f : Fld) (v : Int) : (s.seti f v).evmq = s.evmq := rfl
@[simp] theorem seti_free (s : State) (f : Fld) (v : Int) : (s.seti f v).free = s.free := rfl
@[simp] theorem seti_phase (s : State) (f : Fld) (v : Int) : (s.seti f v).phase = s.phase := rfl
@[simp] theorem seti_swept (s : State) (f : Fld) (v : Int) : (s.seti f v).swept = s.swept := rfl
@[simp] theorem seti_prevRegs (s : State) (f : Fld) (v : Int) : (s.seti f v).prevRegs = s.prevRegs := rfl
@[simp] theorem seti_strokeEnd (s : State) (f : Fld) (v : Int) : (s.seti f v).strokeEnd = s.strokeEnd := rfl
@[simp] theorem seti_snap (s : State) (f : Fld) (v : Int) : (s.seti f v).snap = s.snap := rfl
@[simp] theorem seti_holdC (s : State) (f : Fld) (v : Int) : (s.seti f v).holdC = s.holdC := rfl
@[simp] theorem seti_holdG (s : State) (f : Fld) (v : Int) : (s.seti f v).holdG = s.holdG := rfl
@[simp] theorem seti_staged (s : State) (f : Fld) (v : Int) : (s.seti f v).staged = s.staged := rfl
@[simp] theorem seti_ovf (s : State) (f : Fld) (v : Int) : (s.seti f v).ovf = s.ovf := rfl
@[simp] theorem seti_unlockC (s : State) (f : Fld) (v : Int) : (s.seti f v).unlockC = s.unlockC := rfl
@[simp] theorem seti_unlockG (s : State) (f : Fld) (v : Int) : (s.seti f v).unlockG = s.unlockG := rfl
@[simp] theorem seti_snapReq (s : State) (f : Fld) (v : Int) : (s.seti f v).snapReq = s.snapReq := rfl
@[simp] theorem seti_arbC (s : State) (f : Fld) (v : Int) : (s.seti f v).arbC = s.arbC := rfl
@[simp] theorem seti_arbG (s : State) (f : Fld) (v : Int) : (s.seti f v).arbG = s.arbG := rfl
@[simp] theorem seti_served (s : State) (f : Fld) (v : Int) : (s.seti f v).served = s.served := rfl
@[simp] theorem seti_clk (s : State) (f : Fld) (v : Int) : (s.seti f v).clk = s.clk := rfl
@[simp] theorem seti_time (s : State) (f : Fld) (v : Int) : (s.seti f v).time = s.time := rfl
@[simp] theorem seti_pace (s : State) (f : Fld) (v : Int) : (s.seti f v).pace = s.pace := rfl
@[simp] theorem seti_tcuA (s : State) (f : Fld) (v : Int) : (s.seti f v).tcuA = s.tcuA := rfl
@[simp] theorem seti_tcuB (s : State) (f : Fld) (v : Int) : (s.seti f v).tcuB = s.tcuB := rfl
@[simp] theorem seti_cox (s : State) (f : Fld) (v : Int) : (s.seti f v).cox = s.cox := rfl
@[simp] theorem seti_banks (s : State) (f : Fld) (v : Int) : (s.seti f v).banks = s.banks := rfl
@[simp] theorem seti_trimCur (s : State) (f : Fld) (v : Int) : (s.seti f v).trimCur = s.trimCur := rfl
@[simp] theorem seti_trimCal (s : State) (f : Fld) (v : Int) : (s.seti f v).trimCal = s.trimCal := rfl
@[simp] theorem seti_overs (s : State) (f : Fld) (v : Int) : (s.seti f v).overs = s.overs := rfl
@[simp] theorem seti_words (s : State) (f : Fld) (v : Int) : (s.seti f v).words = s.words := rfl
@[simp] theorem seti_vals (s : State) (f : Fld) (v : Int) : (s.seti f v).vals = s.vals := rfl
@[simp] theorem seti_pouts (s : State) (f : Fld) (v : Int) : (s.seti f v).pouts = s.pouts := rfl
@[simp] theorem seti_stat (s : State) (f : Fld) (v : Int) : (s.seti f v).stat = s.stat := rfl
@[simp] theorem seti_cnSegs (s : State) (f : Fld) (v : Int) : (s.seti f v).cnSegs = s.cnSegs := rfl
@[simp] theorem seti_hubSegs (s : State) (f : Fld) (v : Int) : (s.seti f v).hubSegs = s.hubSegs := rfl
@[simp] theorem seti_fades (s : State) (f : Fld) (v : Int) : (s.seti f v).fades = s.fades := rfl
@[simp] theorem seti_prevFades (s : State) (f : Fld) (v : Int) : (s.seti f v).prevFades = s.prevFades := rfl
@[simp] theorem seti_fadeQ (s : State) (f : Fld) (v : Int) : (s.seti f v).fadeQ = s.fadeQ := rfl
@[simp] theorem seti_profiles (s : State) (f : Fld) (v : Int) : (s.seti f v).profiles = s.profiles := rfl
@[simp] theorem seti_badTaps (s : State) (f : Fld) (v : Int) : (s.seti f v).badTaps = s.badTaps := rfl
@[simp] theorem seti_segs (s : State) (f : Fld) (v : Int) : (s.seti f v).segs = s.segs := rfl
@[simp] theorem seti_marks (s : State) (f : Fld) (v : Int) : (s.seti f v).marks = s.marks := rfl
@[simp] theorem seti_rateCr (s : State) (f : Fld) (v : Int) : (s.seti f v).rateCr = s.rateCr := rfl
@[simp] theorem seti_prevRateCr (s : State) (f : Fld) (v : Int) : (s.seti f v).prevRateCr = s.prevRateCr := rfl
@[simp] theorem seti_records (s : State) (f : Fld) (v : Int) : (s.seti f v).records = s.records := rfl
@[simp] theorem seti_hist (s : State) (f : Fld) (v : Int) : (s.seti f v).hist = s.hist := rfl
@[simp] theorem seti_histClr (s : State) (f : Fld) (v : Int) : (s.seti f v).histClr = s.histClr := rfl
@[simp] theorem seti_servoN (s : State) (f : Fld) (v : Int) : (s.seti f v).servoN = s.servoN := rfl
@[simp] theorem seti_wake (s : State) (f : Fld) (v : Int) : (s.seti f v).wake = s.wake := rfl
@[simp] theorem seti_wakeBad (s : State) (f : Fld) (v : Int) : (s.seti f v).wakeBad = s.wakeBad := rfl
@[simp] theorem seti_accQ (s : State) (f : Fld) (v : Int) : (s.seti f v).accQ = s.accQ := rfl
@[simp] theorem seti_evNo (s : State) (f : Fld) (v : Int) : (s.seti f v).evNo = s.evNo := rfl
@[simp] theorem seti_runStart (s : State) (f : Fld) (v : Int) : (s.seti f v).runStart = s.runStart := rfl
@[simp] theorem seti_startQ (s : State) (f : Fld) (v : Int) : (s.seti f v).startQ = s.startQ := rfl
@[simp] theorem seti_startLast (s : State) (f : Fld) (v : Int) : (s.seti f v).startLast = s.startLast := rfl
@[simp] theorem seti_presc (s : State) (f : Fld) (v : Int) : (s.seti f v).presc = s.presc := rfl
@[simp] theorem seti_hits (s : State) (f : Fld) (v : Int) : (s.seti f v).hits = s.hits := rfl
@[simp] theorem seti_nbHits (s : State) (f : Fld) (v : Int) : (s.seti f v).nbHits = s.nbHits := rfl
@[simp] theorem seti_selfLast (s : State) (f : Fld) (v : Int) : (s.seti f v).selfLast = s.selfLast := rfl
@[simp] theorem seti_selfSeen (s : State) (f : Fld) (v : Int) : (s.seti f v).selfSeen = s.selfSeen := rfl
@[simp] theorem seti_coincTold (s : State) (f : Fld) (v : Int) : (s.seti f v).coincTold = s.coincTold := rfl
@[simp] theorem seti_autoCnt (s : State) (f : Fld) (v : Int) : (s.seti f v).autoCnt = s.autoCnt := rfl
@[simp] theorem seti_autoDue (s : State) (f : Fld) (v : Int) : (s.seti f v).autoDue = s.autoDue := rfl
@[simp] theorem seti_nbSt (s : State) (f : Fld) (v : Int) : (s.seti f v).nbSt = s.nbSt := rfl
@[simp] theorem seti_nbMsg (s : State) (f : Fld) (v : Int) : (s.seti f v).nbMsg = s.nbMsg := rfl
@[simp] theorem seti_nbErrs (s : State) (f : Fld) (v : Int) : (s.seti f v).nbErrs = s.nbErrs := rfl
@[simp] theorem seti_nbMiss (s : State) (f : Fld) (v : Int) : (s.seti f v).nbMiss = s.nbMiss := rfl
@[simp] theorem seti_easyBroken (s : State) (f : Fld) (v : Int) : (s.seti f v).easyBroken = s.easyBroken := rfl
@[simp] theorem seti_frags (s : State) (f : Fld) (v : Int) : (s.seti f v).frags = s.frags := rfl
@[simp] theorem seti_fragId (s : State) (f : Fld) (v : Int) : (s.seti f v).fragId = s.fragId := rfl
@[simp] theorem seti_recBad (s : State) (f : Fld) (v : Int) : (s.seti f v).recBad = s.recBad := rfl
@[simp] theorem seti_engines (s : State) (f : Fld) (v : Int) : (s.seti f v).engines = s.engines := rfl
@[simp] theorem seti_lensStall (s : State) (f : Fld) (v : Int) : (s.seti f v).lensStall = s.lensStall := rfl
@[simp] theorem seti_lensWait (s : State) (f : Fld) (v : Int) : (s.seti f v).lensWait = s.lensWait := rfl
@[simp] theorem seti_lensClk (s : State) (f : Fld) (v : Int) : (s.seti f v).lensClk = s.lensClk := rfl
@[simp] theorem seti_offer (s : State) (f : Fld) (v : Int) : (s.seti f v).offer = s.offer := rfl
@[simp] theorem seti_held (s : State) (f : Fld) (v : Int) : (s.seti f v).held = s.held := rfl
@[simp] theorem seti_admitId (s : State) (f : Fld) (v : Int) : (s.seti f v).admitId = s.admitId := rfl
@[simp] theorem seti_shedSeen (s : State) (f : Fld) (v : Int) : (s.seti f v).shedSeen = s.shedSeen := rfl
@[simp] theorem seti_tests (s : State) (f : Fld) (v : Int) : (s.seti f v).tests = s.tests := rfl
@[simp] theorem seti_laneFrom (s : State) (f : Fld) (v : Int) : (s.seti f v).laneFrom = s.laneFrom := rfl
@[simp] theorem seti_txRd (s : State) (f : Fld) (v : Int) : (s.seti f v).txRd = s.txRd := rfl
@[simp] theorem seti_rxRd (s : State) (f : Fld) (v : Int) : (s.seti f v).rxRd = s.rxRd := rfl
@[simp] theorem seti_rxErr (s : State) (f : Fld) (v : Int) : (s.seti f v).rxErr = s.rxErr := rfl
@[simp] theorem seti_codeTold (s : State) (f : Fld) (v : Int) : (s.seti f v).codeTold = s.codeTold := rfl
@[simp] theorem seti_rxTail (s : State) (f : Fld) (v : Int) : (s.seti f v).rxTail = s.rxTail := rfl
@[simp] theorem seti_prbs (s : State) (f : Fld) (v : Int) : (s.seti f v).prbs = s.prbs := rfl
@[simp] theorem seti_checks (s : State) (f : Fld) (v : Int) : (s.seti f v).checks = s.checks := rfl
@[simp] theorem seti_txOff (s : State) (f : Fld) (v : Int) : (s.seti f v).txOff = s.txOff := rfl
@[simp] theorem seti_loopFrom (s : State) (f : Fld) (v : Int) : (s.seti f v).loopFrom = s.loopFrom := rfl
@[simp] theorem seti_loopTold (s : State) (f : Fld) (v : Int) : (s.seti f v).loopTold = s.loopTold := rfl
@[simp] theorem seti_es (s : State) (f : Fld) (v : Int) : (s.seti f v).es = s.es := rfl
@[simp] theorem seti_sig (s : State) (f : Fld) (v : Int) : (s.seti f v).sig = s.sig := rfl
@[simp] theorem seti_sigRun (s : State) (f : Fld) (v : Int) : (s.seti f v).sigRun = s.sigRun := rfl
@[simp] theorem seti_sigDone (s : State) (f : Fld) (v : Int) : (s.seti f v).sigDone = s.sigDone := rfl
@[simp] theorem seti_laneBusy (s : State) (f : Fld) (v : Int) : (s.seti f v).laneBusy = s.laneBusy := rfl
@[simp] theorem seti_slipWant (s : State) (f : Fld) (v : Int) : (s.seti f v).slipWant = s.slipWant := rfl
@[simp] theorem seti_links (s : State) (f : Fld) (v : Int) : (s.seti f v).links = s.links := rfl
@[simp] theorem seti_dmas (s : State) (f : Fld) (v : Int) : (s.seti f v).dmas = s.dmas := rfl
@[simp] theorem seti_slots (s : State) (f : Fld) (v : Int) : (s.seti f v).slots = s.slots := rfl
@[simp] theorem seti_fetched (s : State) (f : Fld) (v : Int) : (s.seti f v).fetched = s.fetched := rfl
@[simp] theorem seti_seats (s : State) (f : Fld) (v : Int) : (s.seti f v).seats = s.seats := rfl
@[simp] theorem seti_seatUse (s : State) (f : Fld) (v : Int) : (s.seti f v).seatUse = s.seatUse := rfl
@[simp] theorem seti_quiesce (s : State) (f : Fld) (v : Int) : (s.seti f v).quiesce = s.quiesce := rfl
@[simp] theorem seti_seatWait (s : State) (f : Fld) (v : Int) : (s.seti f v).seatWait = s.seatWait := rfl
@[simp] theorem seti_spillTold (s : State) (f : Fld) (v : Int) : (s.seti f v).spillTold = s.spillTold := rfl
@[simp] theorem seti_slipTold (s : State) (f : Fld) (v : Int) : (s.seti f v).slipTold = s.slipTold := rfl
@[simp] theorem seti_satHits (s : State) (f : Fld) (v : Int) : (s.seti f v).satHits = s.satHits := rfl
@[simp] theorem seti_satGaps (s : State) (f : Fld) (v : Int) : (s.seti f v).satGaps = s.satGaps := rfl
@[simp] theorem seti_satOut (s : State) (f : Fld) (v : Int) : (s.seti f v).satOut = s.satOut := rfl
@[simp] theorem seti_satFast (s : State) (f : Fld) (v : Int) : (s.seti f v).satFast = s.satFast := rfl
@[simp] theorem seti_sats (s : State) (f : Fld) (v : Int) : (s.seti f v).sats = s.sats := rfl
@[simp] theorem seti_passTold (s : State) (f : Fld) (v : Int) : (s.seti f v).passTold = s.passTold := rfl
@[simp] theorem seti_hk (s : State) (f : Fld) (v : Int) : (s.seti f v).hk = s.hk := rfl
@[simp] theorem seti_tap (s : State) (f : Fld) (v : Int) : (s.seti f v).tap = s.tap := rfl
@[simp] theorem seti_pads (s : State) (f : Fld) (v : Int) : (s.seti f v).pads = s.pads := rfl
@[simp] theorem seti_ring (s : State) (f : Fld) (v : Int) : (s.seti f v).ring = s.ring := rfl
@[simp] theorem seti_tp (s : State) (f : Fld) (v : Int) : (s.seti f v).tp = s.tp := rfl
@[simp] theorem seti_tpMarks (s : State) (f : Fld) (v : Int) : (s.seti f v).tpMarks = s.tpMarks := rfl
@[simp] theorem seti_tpLast (s : State) (f : Fld) (v : Int) : (s.seti f v).tpLast = s.tpLast := rfl

/-! A one-bit field written. -/

@[simp] theorem setb_pending (s : State) (f : Fld) (v : Bool) : (s.setb f v).pending = s.pending := rfl
@[simp] theorem setb_out (s : State) (f : Fld) (v : Bool) : (s.setb f v).out = s.out := rfl
@[simp] theorem setb_evtSeen (s : State) (f : Fld) (v : Bool) : (s.setb f v).evtSeen = s.evtSeen := rfl
@[simp] theorem setb_fired (s : State) (f : Fld) (v : Bool) : (s.setb f v).fired = s.fired := rfl
@[simp] theorem setb_evmq (s : State) (f : Fld) (v : Bool) : (s.setb f v).evmq = s.evmq := rfl
@[simp] theorem setb_free (s : State) (f : Fld) (v : Bool) : (s.setb f v).free = s.free := rfl
@[simp] theorem setb_phase (s : State) (f : Fld) (v : Bool) : (s.setb f v).phase = s.phase := rfl
@[simp] theorem setb_swept (s : State) (f : Fld) (v : Bool) : (s.setb f v).swept = s.swept := rfl
@[simp] theorem setb_prevRegs (s : State) (f : Fld) (v : Bool) : (s.setb f v).prevRegs = s.prevRegs := rfl
@[simp] theorem setb_strokeEnd (s : State) (f : Fld) (v : Bool) : (s.setb f v).strokeEnd = s.strokeEnd := rfl
@[simp] theorem setb_snap (s : State) (f : Fld) (v : Bool) : (s.setb f v).snap = s.snap := rfl
@[simp] theorem setb_holdC (s : State) (f : Fld) (v : Bool) : (s.setb f v).holdC = s.holdC := rfl
@[simp] theorem setb_holdG (s : State) (f : Fld) (v : Bool) : (s.setb f v).holdG = s.holdG := rfl
@[simp] theorem setb_staged (s : State) (f : Fld) (v : Bool) : (s.setb f v).staged = s.staged := rfl
@[simp] theorem setb_ovf (s : State) (f : Fld) (v : Bool) : (s.setb f v).ovf = s.ovf := rfl
@[simp] theorem setb_unlockC (s : State) (f : Fld) (v : Bool) : (s.setb f v).unlockC = s.unlockC := rfl
@[simp] theorem setb_unlockG (s : State) (f : Fld) (v : Bool) : (s.setb f v).unlockG = s.unlockG := rfl
@[simp] theorem setb_snapReq (s : State) (f : Fld) (v : Bool) : (s.setb f v).snapReq = s.snapReq := rfl
@[simp] theorem setb_arbC (s : State) (f : Fld) (v : Bool) : (s.setb f v).arbC = s.arbC := rfl
@[simp] theorem setb_arbG (s : State) (f : Fld) (v : Bool) : (s.setb f v).arbG = s.arbG := rfl
@[simp] theorem setb_served (s : State) (f : Fld) (v : Bool) : (s.setb f v).served = s.served := rfl
@[simp] theorem setb_clk (s : State) (f : Fld) (v : Bool) : (s.setb f v).clk = s.clk := rfl
@[simp] theorem setb_time (s : State) (f : Fld) (v : Bool) : (s.setb f v).time = s.time := rfl
@[simp] theorem setb_pace (s : State) (f : Fld) (v : Bool) : (s.setb f v).pace = s.pace := rfl
@[simp] theorem setb_tcuA (s : State) (f : Fld) (v : Bool) : (s.setb f v).tcuA = s.tcuA := rfl
@[simp] theorem setb_tcuB (s : State) (f : Fld) (v : Bool) : (s.setb f v).tcuB = s.tcuB := rfl
@[simp] theorem setb_cox (s : State) (f : Fld) (v : Bool) : (s.setb f v).cox = s.cox := rfl
@[simp] theorem setb_banks (s : State) (f : Fld) (v : Bool) : (s.setb f v).banks = s.banks := rfl
@[simp] theorem setb_trimCur (s : State) (f : Fld) (v : Bool) : (s.setb f v).trimCur = s.trimCur := rfl
@[simp] theorem setb_trimCal (s : State) (f : Fld) (v : Bool) : (s.setb f v).trimCal = s.trimCal := rfl
@[simp] theorem setb_overs (s : State) (f : Fld) (v : Bool) : (s.setb f v).overs = s.overs := rfl
@[simp] theorem setb_words (s : State) (f : Fld) (v : Bool) : (s.setb f v).words = s.words := rfl
@[simp] theorem setb_vals (s : State) (f : Fld) (v : Bool) : (s.setb f v).vals = s.vals := rfl
@[simp] theorem setb_pouts (s : State) (f : Fld) (v : Bool) : (s.setb f v).pouts = s.pouts := rfl
@[simp] theorem setb_stat (s : State) (f : Fld) (v : Bool) : (s.setb f v).stat = s.stat := rfl
@[simp] theorem setb_cnSegs (s : State) (f : Fld) (v : Bool) : (s.setb f v).cnSegs = s.cnSegs := rfl
@[simp] theorem setb_hubSegs (s : State) (f : Fld) (v : Bool) : (s.setb f v).hubSegs = s.hubSegs := rfl
@[simp] theorem setb_fades (s : State) (f : Fld) (v : Bool) : (s.setb f v).fades = s.fades := rfl
@[simp] theorem setb_prevFades (s : State) (f : Fld) (v : Bool) : (s.setb f v).prevFades = s.prevFades := rfl
@[simp] theorem setb_fadeQ (s : State) (f : Fld) (v : Bool) : (s.setb f v).fadeQ = s.fadeQ := rfl
@[simp] theorem setb_profiles (s : State) (f : Fld) (v : Bool) : (s.setb f v).profiles = s.profiles := rfl
@[simp] theorem setb_badTaps (s : State) (f : Fld) (v : Bool) : (s.setb f v).badTaps = s.badTaps := rfl
@[simp] theorem setb_segs (s : State) (f : Fld) (v : Bool) : (s.setb f v).segs = s.segs := rfl
@[simp] theorem setb_marks (s : State) (f : Fld) (v : Bool) : (s.setb f v).marks = s.marks := rfl
@[simp] theorem setb_rateCr (s : State) (f : Fld) (v : Bool) : (s.setb f v).rateCr = s.rateCr := rfl
@[simp] theorem setb_prevRateCr (s : State) (f : Fld) (v : Bool) : (s.setb f v).prevRateCr = s.prevRateCr := rfl
@[simp] theorem setb_records (s : State) (f : Fld) (v : Bool) : (s.setb f v).records = s.records := rfl
@[simp] theorem setb_hist (s : State) (f : Fld) (v : Bool) : (s.setb f v).hist = s.hist := rfl
@[simp] theorem setb_histClr (s : State) (f : Fld) (v : Bool) : (s.setb f v).histClr = s.histClr := rfl
@[simp] theorem setb_servoN (s : State) (f : Fld) (v : Bool) : (s.setb f v).servoN = s.servoN := rfl
@[simp] theorem setb_wake (s : State) (f : Fld) (v : Bool) : (s.setb f v).wake = s.wake := rfl
@[simp] theorem setb_wakeBad (s : State) (f : Fld) (v : Bool) : (s.setb f v).wakeBad = s.wakeBad := rfl
@[simp] theorem setb_accQ (s : State) (f : Fld) (v : Bool) : (s.setb f v).accQ = s.accQ := rfl
@[simp] theorem setb_evNo (s : State) (f : Fld) (v : Bool) : (s.setb f v).evNo = s.evNo := rfl
@[simp] theorem setb_runStart (s : State) (f : Fld) (v : Bool) : (s.setb f v).runStart = s.runStart := rfl
@[simp] theorem setb_startQ (s : State) (f : Fld) (v : Bool) : (s.setb f v).startQ = s.startQ := rfl
@[simp] theorem setb_startLast (s : State) (f : Fld) (v : Bool) : (s.setb f v).startLast = s.startLast := rfl
@[simp] theorem setb_presc (s : State) (f : Fld) (v : Bool) : (s.setb f v).presc = s.presc := rfl
@[simp] theorem setb_hits (s : State) (f : Fld) (v : Bool) : (s.setb f v).hits = s.hits := rfl
@[simp] theorem setb_nbHits (s : State) (f : Fld) (v : Bool) : (s.setb f v).nbHits = s.nbHits := rfl
@[simp] theorem setb_selfLast (s : State) (f : Fld) (v : Bool) : (s.setb f v).selfLast = s.selfLast := rfl
@[simp] theorem setb_selfSeen (s : State) (f : Fld) (v : Bool) : (s.setb f v).selfSeen = s.selfSeen := rfl
@[simp] theorem setb_coincTold (s : State) (f : Fld) (v : Bool) : (s.setb f v).coincTold = s.coincTold := rfl
@[simp] theorem setb_autoCnt (s : State) (f : Fld) (v : Bool) : (s.setb f v).autoCnt = s.autoCnt := rfl
@[simp] theorem setb_autoDue (s : State) (f : Fld) (v : Bool) : (s.setb f v).autoDue = s.autoDue := rfl
@[simp] theorem setb_nbSt (s : State) (f : Fld) (v : Bool) : (s.setb f v).nbSt = s.nbSt := rfl
@[simp] theorem setb_nbMsg (s : State) (f : Fld) (v : Bool) : (s.setb f v).nbMsg = s.nbMsg := rfl
@[simp] theorem setb_nbErrs (s : State) (f : Fld) (v : Bool) : (s.setb f v).nbErrs = s.nbErrs := rfl
@[simp] theorem setb_nbMiss (s : State) (f : Fld) (v : Bool) : (s.setb f v).nbMiss = s.nbMiss := rfl
@[simp] theorem setb_easyBroken (s : State) (f : Fld) (v : Bool) : (s.setb f v).easyBroken = s.easyBroken := rfl
@[simp] theorem setb_frags (s : State) (f : Fld) (v : Bool) : (s.setb f v).frags = s.frags := rfl
@[simp] theorem setb_fragId (s : State) (f : Fld) (v : Bool) : (s.setb f v).fragId = s.fragId := rfl
@[simp] theorem setb_recBad (s : State) (f : Fld) (v : Bool) : (s.setb f v).recBad = s.recBad := rfl
@[simp] theorem setb_engines (s : State) (f : Fld) (v : Bool) : (s.setb f v).engines = s.engines := rfl
@[simp] theorem setb_lensStall (s : State) (f : Fld) (v : Bool) : (s.setb f v).lensStall = s.lensStall := rfl
@[simp] theorem setb_lensWait (s : State) (f : Fld) (v : Bool) : (s.setb f v).lensWait = s.lensWait := rfl
@[simp] theorem setb_lensClk (s : State) (f : Fld) (v : Bool) : (s.setb f v).lensClk = s.lensClk := rfl
@[simp] theorem setb_offer (s : State) (f : Fld) (v : Bool) : (s.setb f v).offer = s.offer := rfl
@[simp] theorem setb_held (s : State) (f : Fld) (v : Bool) : (s.setb f v).held = s.held := rfl
@[simp] theorem setb_admitId (s : State) (f : Fld) (v : Bool) : (s.setb f v).admitId = s.admitId := rfl
@[simp] theorem setb_shedSeen (s : State) (f : Fld) (v : Bool) : (s.setb f v).shedSeen = s.shedSeen := rfl
@[simp] theorem setb_tests (s : State) (f : Fld) (v : Bool) : (s.setb f v).tests = s.tests := rfl
@[simp] theorem setb_laneFrom (s : State) (f : Fld) (v : Bool) : (s.setb f v).laneFrom = s.laneFrom := rfl
@[simp] theorem setb_txRd (s : State) (f : Fld) (v : Bool) : (s.setb f v).txRd = s.txRd := rfl
@[simp] theorem setb_rxRd (s : State) (f : Fld) (v : Bool) : (s.setb f v).rxRd = s.rxRd := rfl
@[simp] theorem setb_rxErr (s : State) (f : Fld) (v : Bool) : (s.setb f v).rxErr = s.rxErr := rfl
@[simp] theorem setb_codeTold (s : State) (f : Fld) (v : Bool) : (s.setb f v).codeTold = s.codeTold := rfl
@[simp] theorem setb_rxTail (s : State) (f : Fld) (v : Bool) : (s.setb f v).rxTail = s.rxTail := rfl
@[simp] theorem setb_prbs (s : State) (f : Fld) (v : Bool) : (s.setb f v).prbs = s.prbs := rfl
@[simp] theorem setb_checks (s : State) (f : Fld) (v : Bool) : (s.setb f v).checks = s.checks := rfl
@[simp] theorem setb_txOff (s : State) (f : Fld) (v : Bool) : (s.setb f v).txOff = s.txOff := rfl
@[simp] theorem setb_loopFrom (s : State) (f : Fld) (v : Bool) : (s.setb f v).loopFrom = s.loopFrom := rfl
@[simp] theorem setb_loopTold (s : State) (f : Fld) (v : Bool) : (s.setb f v).loopTold = s.loopTold := rfl
@[simp] theorem setb_es (s : State) (f : Fld) (v : Bool) : (s.setb f v).es = s.es := rfl
@[simp] theorem setb_sig (s : State) (f : Fld) (v : Bool) : (s.setb f v).sig = s.sig := rfl
@[simp] theorem setb_sigRun (s : State) (f : Fld) (v : Bool) : (s.setb f v).sigRun = s.sigRun := rfl
@[simp] theorem setb_sigDone (s : State) (f : Fld) (v : Bool) : (s.setb f v).sigDone = s.sigDone := rfl
@[simp] theorem setb_laneBusy (s : State) (f : Fld) (v : Bool) : (s.setb f v).laneBusy = s.laneBusy := rfl
@[simp] theorem setb_slipWant (s : State) (f : Fld) (v : Bool) : (s.setb f v).slipWant = s.slipWant := rfl
@[simp] theorem setb_links (s : State) (f : Fld) (v : Bool) : (s.setb f v).links = s.links := rfl
@[simp] theorem setb_dmas (s : State) (f : Fld) (v : Bool) : (s.setb f v).dmas = s.dmas := rfl
@[simp] theorem setb_slots (s : State) (f : Fld) (v : Bool) : (s.setb f v).slots = s.slots := rfl
@[simp] theorem setb_fetched (s : State) (f : Fld) (v : Bool) : (s.setb f v).fetched = s.fetched := rfl
@[simp] theorem setb_seats (s : State) (f : Fld) (v : Bool) : (s.setb f v).seats = s.seats := rfl
@[simp] theorem setb_seatUse (s : State) (f : Fld) (v : Bool) : (s.setb f v).seatUse = s.seatUse := rfl
@[simp] theorem setb_quiesce (s : State) (f : Fld) (v : Bool) : (s.setb f v).quiesce = s.quiesce := rfl
@[simp] theorem setb_seatWait (s : State) (f : Fld) (v : Bool) : (s.setb f v).seatWait = s.seatWait := rfl
@[simp] theorem setb_spillTold (s : State) (f : Fld) (v : Bool) : (s.setb f v).spillTold = s.spillTold := rfl
@[simp] theorem setb_slipTold (s : State) (f : Fld) (v : Bool) : (s.setb f v).slipTold = s.slipTold := rfl
@[simp] theorem setb_satHits (s : State) (f : Fld) (v : Bool) : (s.setb f v).satHits = s.satHits := rfl
@[simp] theorem setb_satGaps (s : State) (f : Fld) (v : Bool) : (s.setb f v).satGaps = s.satGaps := rfl
@[simp] theorem setb_satOut (s : State) (f : Fld) (v : Bool) : (s.setb f v).satOut = s.satOut := rfl
@[simp] theorem setb_satFast (s : State) (f : Fld) (v : Bool) : (s.setb f v).satFast = s.satFast := rfl
@[simp] theorem setb_sats (s : State) (f : Fld) (v : Bool) : (s.setb f v).sats = s.sats := rfl
@[simp] theorem setb_passTold (s : State) (f : Fld) (v : Bool) : (s.setb f v).passTold = s.passTold := rfl
@[simp] theorem setb_hk (s : State) (f : Fld) (v : Bool) : (s.setb f v).hk = s.hk := rfl
@[simp] theorem setb_tap (s : State) (f : Fld) (v : Bool) : (s.setb f v).tap = s.tap := rfl
@[simp] theorem setb_pads (s : State) (f : Fld) (v : Bool) : (s.setb f v).pads = s.pads := rfl
@[simp] theorem setb_ring (s : State) (f : Fld) (v : Bool) : (s.setb f v).ring = s.ring := rfl
@[simp] theorem setb_tp (s : State) (f : Fld) (v : Bool) : (s.setb f v).tp = s.tp := rfl
@[simp] theorem setb_tpMarks (s : State) (f : Fld) (v : Bool) : (s.setb f v).tpMarks = s.tpMarks := rfl
@[simp] theorem setb_tpLast (s : State) (f : Fld) (v : Bool) : (s.setb f v).tpLast = s.tpLast := rfl

/-! A fault code latched. -/

@[simp] theorem fault_pending (s : State) (p c d : Nat) : (s.fault p c d).pending = s.pending := wr_pending ..
@[simp] theorem fault_out (s : State) (p c d : Nat) : (s.fault p c d).out = s.out := wr_out ..
@[simp] theorem fault_evtSeen (s : State) (p c d : Nat) : (s.fault p c d).evtSeen = s.evtSeen := wr_evtSeen ..
@[simp] theorem fault_fired (s : State) (p c d : Nat) : (s.fault p c d).fired = s.fired := wr_fired ..
@[simp] theorem fault_evmq (s : State) (p c d : Nat) : (s.fault p c d).evmq = s.evmq := wr_evmq ..
@[simp] theorem fault_free (s : State) (p c d : Nat) : (s.fault p c d).free = s.free := wr_free ..
@[simp] theorem fault_phase (s : State) (p c d : Nat) : (s.fault p c d).phase = s.phase := wr_phase ..
@[simp] theorem fault_swept (s : State) (p c d : Nat) : (s.fault p c d).swept = s.swept := wr_swept ..
@[simp] theorem fault_prevRegs (s : State) (p c d : Nat) : (s.fault p c d).prevRegs = s.prevRegs := wr_prevRegs ..
@[simp] theorem fault_strokeEnd (s : State) (p c d : Nat) : (s.fault p c d).strokeEnd = s.strokeEnd := wr_strokeEnd ..
@[simp] theorem fault_snap (s : State) (p c d : Nat) : (s.fault p c d).snap = s.snap := wr_snap ..
@[simp] theorem fault_holdC (s : State) (p c d : Nat) : (s.fault p c d).holdC = s.holdC := wr_holdC ..
@[simp] theorem fault_holdG (s : State) (p c d : Nat) : (s.fault p c d).holdG = s.holdG := wr_holdG ..
@[simp] theorem fault_staged (s : State) (p c d : Nat) : (s.fault p c d).staged = s.staged := wr_staged ..
@[simp] theorem fault_ovf (s : State) (p c d : Nat) : (s.fault p c d).ovf = s.ovf := wr_ovf ..
@[simp] theorem fault_unlockC (s : State) (p c d : Nat) : (s.fault p c d).unlockC = s.unlockC := wr_unlockC ..
@[simp] theorem fault_unlockG (s : State) (p c d : Nat) : (s.fault p c d).unlockG = s.unlockG := wr_unlockG ..
@[simp] theorem fault_snapReq (s : State) (p c d : Nat) : (s.fault p c d).snapReq = s.snapReq := wr_snapReq ..
@[simp] theorem fault_arbC (s : State) (p c d : Nat) : (s.fault p c d).arbC = s.arbC := wr_arbC ..
@[simp] theorem fault_arbG (s : State) (p c d : Nat) : (s.fault p c d).arbG = s.arbG := wr_arbG ..
@[simp] theorem fault_served (s : State) (p c d : Nat) : (s.fault p c d).served = s.served := wr_served ..
@[simp] theorem fault_clk (s : State) (p c d : Nat) : (s.fault p c d).clk = s.clk := wr_clk ..
@[simp] theorem fault_time (s : State) (p c d : Nat) : (s.fault p c d).time = s.time := wr_time ..
@[simp] theorem fault_pace (s : State) (p c d : Nat) : (s.fault p c d).pace = s.pace := wr_pace ..
@[simp] theorem fault_tcuA (s : State) (p c d : Nat) : (s.fault p c d).tcuA = s.tcuA := wr_tcuA ..
@[simp] theorem fault_tcuB (s : State) (p c d : Nat) : (s.fault p c d).tcuB = s.tcuB := wr_tcuB ..
@[simp] theorem fault_cox (s : State) (p c d : Nat) : (s.fault p c d).cox = s.cox := wr_cox ..
@[simp] theorem fault_banks (s : State) (p c d : Nat) : (s.fault p c d).banks = s.banks := wr_banks ..
@[simp] theorem fault_trimCur (s : State) (p c d : Nat) : (s.fault p c d).trimCur = s.trimCur := wr_trimCur ..
@[simp] theorem fault_trimCal (s : State) (p c d : Nat) : (s.fault p c d).trimCal = s.trimCal := wr_trimCal ..
@[simp] theorem fault_overs (s : State) (p c d : Nat) : (s.fault p c d).overs = s.overs := wr_overs ..
@[simp] theorem fault_words (s : State) (p c d : Nat) : (s.fault p c d).words = s.words := wr_words ..
@[simp] theorem fault_vals (s : State) (p c d : Nat) : (s.fault p c d).vals = s.vals := wr_vals ..
@[simp] theorem fault_pouts (s : State) (p c d : Nat) : (s.fault p c d).pouts = s.pouts := wr_pouts ..
@[simp] theorem fault_stat (s : State) (p c d : Nat) : (s.fault p c d).stat = s.stat := wr_stat ..
@[simp] theorem fault_cnSegs (s : State) (p c d : Nat) : (s.fault p c d).cnSegs = s.cnSegs := wr_cnSegs ..
@[simp] theorem fault_hubSegs (s : State) (p c d : Nat) : (s.fault p c d).hubSegs = s.hubSegs := wr_hubSegs ..
@[simp] theorem fault_fades (s : State) (p c d : Nat) : (s.fault p c d).fades = s.fades := wr_fades ..
@[simp] theorem fault_prevFades (s : State) (p c d : Nat) : (s.fault p c d).prevFades = s.prevFades := wr_prevFades ..
@[simp] theorem fault_fadeQ (s : State) (p c d : Nat) : (s.fault p c d).fadeQ = s.fadeQ := wr_fadeQ ..
@[simp] theorem fault_profiles (s : State) (p c d : Nat) : (s.fault p c d).profiles = s.profiles := wr_profiles ..
@[simp] theorem fault_badTaps (s : State) (p c d : Nat) : (s.fault p c d).badTaps = s.badTaps := wr_badTaps ..
@[simp] theorem fault_segs (s : State) (p c d : Nat) : (s.fault p c d).segs = s.segs := wr_segs ..
@[simp] theorem fault_marks (s : State) (p c d : Nat) : (s.fault p c d).marks = s.marks := wr_marks ..
@[simp] theorem fault_rateCr (s : State) (p c d : Nat) : (s.fault p c d).rateCr = s.rateCr := wr_rateCr ..
@[simp] theorem fault_prevRateCr (s : State) (p c d : Nat) : (s.fault p c d).prevRateCr = s.prevRateCr := wr_prevRateCr ..
@[simp] theorem fault_records (s : State) (p c d : Nat) : (s.fault p c d).records = s.records := wr_records ..
@[simp] theorem fault_hist (s : State) (p c d : Nat) : (s.fault p c d).hist = s.hist := wr_hist ..
@[simp] theorem fault_histClr (s : State) (p c d : Nat) : (s.fault p c d).histClr = s.histClr := wr_histClr ..
@[simp] theorem fault_servoN (s : State) (p c d : Nat) : (s.fault p c d).servoN = s.servoN := wr_servoN ..
@[simp] theorem fault_wake (s : State) (p c d : Nat) : (s.fault p c d).wake = s.wake := wr_wake ..
@[simp] theorem fault_wakeBad (s : State) (p c d : Nat) : (s.fault p c d).wakeBad = s.wakeBad := wr_wakeBad ..
@[simp] theorem fault_accQ (s : State) (p c d : Nat) : (s.fault p c d).accQ = s.accQ := wr_accQ ..
@[simp] theorem fault_evNo (s : State) (p c d : Nat) : (s.fault p c d).evNo = s.evNo := wr_evNo ..
@[simp] theorem fault_runStart (s : State) (p c d : Nat) : (s.fault p c d).runStart = s.runStart := wr_runStart ..
@[simp] theorem fault_startQ (s : State) (p c d : Nat) : (s.fault p c d).startQ = s.startQ := wr_startQ ..
@[simp] theorem fault_startLast (s : State) (p c d : Nat) : (s.fault p c d).startLast = s.startLast := wr_startLast ..
@[simp] theorem fault_presc (s : State) (p c d : Nat) : (s.fault p c d).presc = s.presc := wr_presc ..
@[simp] theorem fault_hits (s : State) (p c d : Nat) : (s.fault p c d).hits = s.hits := wr_hits ..
@[simp] theorem fault_nbHits (s : State) (p c d : Nat) : (s.fault p c d).nbHits = s.nbHits := wr_nbHits ..
@[simp] theorem fault_selfLast (s : State) (p c d : Nat) : (s.fault p c d).selfLast = s.selfLast := wr_selfLast ..
@[simp] theorem fault_selfSeen (s : State) (p c d : Nat) : (s.fault p c d).selfSeen = s.selfSeen := wr_selfSeen ..
@[simp] theorem fault_coincTold (s : State) (p c d : Nat) : (s.fault p c d).coincTold = s.coincTold := wr_coincTold ..
@[simp] theorem fault_autoCnt (s : State) (p c d : Nat) : (s.fault p c d).autoCnt = s.autoCnt := wr_autoCnt ..
@[simp] theorem fault_autoDue (s : State) (p c d : Nat) : (s.fault p c d).autoDue = s.autoDue := wr_autoDue ..
@[simp] theorem fault_nbSt (s : State) (p c d : Nat) : (s.fault p c d).nbSt = s.nbSt := wr_nbSt ..
@[simp] theorem fault_nbMsg (s : State) (p c d : Nat) : (s.fault p c d).nbMsg = s.nbMsg := wr_nbMsg ..
@[simp] theorem fault_nbErrs (s : State) (p c d : Nat) : (s.fault p c d).nbErrs = s.nbErrs := wr_nbErrs ..
@[simp] theorem fault_nbMiss (s : State) (p c d : Nat) : (s.fault p c d).nbMiss = s.nbMiss := wr_nbMiss ..
@[simp] theorem fault_easyBroken (s : State) (p c d : Nat) : (s.fault p c d).easyBroken = s.easyBroken := wr_easyBroken ..
@[simp] theorem fault_frags (s : State) (p c d : Nat) : (s.fault p c d).frags = s.frags := wr_frags ..
@[simp] theorem fault_fragId (s : State) (p c d : Nat) : (s.fault p c d).fragId = s.fragId := wr_fragId ..
@[simp] theorem fault_recBad (s : State) (p c d : Nat) : (s.fault p c d).recBad = s.recBad := wr_recBad ..
@[simp] theorem fault_engines (s : State) (p c d : Nat) : (s.fault p c d).engines = s.engines := wr_engines ..
@[simp] theorem fault_lensStall (s : State) (p c d : Nat) : (s.fault p c d).lensStall = s.lensStall := wr_lensStall ..
@[simp] theorem fault_lensWait (s : State) (p c d : Nat) : (s.fault p c d).lensWait = s.lensWait := wr_lensWait ..
@[simp] theorem fault_lensClk (s : State) (p c d : Nat) : (s.fault p c d).lensClk = s.lensClk := wr_lensClk ..
@[simp] theorem fault_offer (s : State) (p c d : Nat) : (s.fault p c d).offer = s.offer := wr_offer ..
@[simp] theorem fault_held (s : State) (p c d : Nat) : (s.fault p c d).held = s.held := wr_held ..
@[simp] theorem fault_admitId (s : State) (p c d : Nat) : (s.fault p c d).admitId = s.admitId := wr_admitId ..
@[simp] theorem fault_shedSeen (s : State) (p c d : Nat) : (s.fault p c d).shedSeen = s.shedSeen := wr_shedSeen ..
@[simp] theorem fault_tests (s : State) (p c d : Nat) : (s.fault p c d).tests = s.tests := wr_tests ..
@[simp] theorem fault_laneFrom (s : State) (p c d : Nat) : (s.fault p c d).laneFrom = s.laneFrom := wr_laneFrom ..
@[simp] theorem fault_txRd (s : State) (p c d : Nat) : (s.fault p c d).txRd = s.txRd := wr_txRd ..
@[simp] theorem fault_rxRd (s : State) (p c d : Nat) : (s.fault p c d).rxRd = s.rxRd := wr_rxRd ..
@[simp] theorem fault_rxErr (s : State) (p c d : Nat) : (s.fault p c d).rxErr = s.rxErr := wr_rxErr ..
@[simp] theorem fault_codeTold (s : State) (p c d : Nat) : (s.fault p c d).codeTold = s.codeTold := wr_codeTold ..
@[simp] theorem fault_rxTail (s : State) (p c d : Nat) : (s.fault p c d).rxTail = s.rxTail := wr_rxTail ..
@[simp] theorem fault_prbs (s : State) (p c d : Nat) : (s.fault p c d).prbs = s.prbs := wr_prbs ..
@[simp] theorem fault_checks (s : State) (p c d : Nat) : (s.fault p c d).checks = s.checks := wr_checks ..
@[simp] theorem fault_txOff (s : State) (p c d : Nat) : (s.fault p c d).txOff = s.txOff := wr_txOff ..
@[simp] theorem fault_loopFrom (s : State) (p c d : Nat) : (s.fault p c d).loopFrom = s.loopFrom := wr_loopFrom ..
@[simp] theorem fault_loopTold (s : State) (p c d : Nat) : (s.fault p c d).loopTold = s.loopTold := wr_loopTold ..
@[simp] theorem fault_es (s : State) (p c d : Nat) : (s.fault p c d).es = s.es := wr_es ..
@[simp] theorem fault_sig (s : State) (p c d : Nat) : (s.fault p c d).sig = s.sig := wr_sig ..
@[simp] theorem fault_sigRun (s : State) (p c d : Nat) : (s.fault p c d).sigRun = s.sigRun := wr_sigRun ..
@[simp] theorem fault_sigDone (s : State) (p c d : Nat) : (s.fault p c d).sigDone = s.sigDone := wr_sigDone ..
@[simp] theorem fault_laneBusy (s : State) (p c d : Nat) : (s.fault p c d).laneBusy = s.laneBusy := wr_laneBusy ..
@[simp] theorem fault_slipWant (s : State) (p c d : Nat) : (s.fault p c d).slipWant = s.slipWant := wr_slipWant ..
@[simp] theorem fault_links (s : State) (p c d : Nat) : (s.fault p c d).links = s.links := wr_links ..
@[simp] theorem fault_dmas (s : State) (p c d : Nat) : (s.fault p c d).dmas = s.dmas := wr_dmas ..
@[simp] theorem fault_slots (s : State) (p c d : Nat) : (s.fault p c d).slots = s.slots := wr_slots ..
@[simp] theorem fault_fetched (s : State) (p c d : Nat) : (s.fault p c d).fetched = s.fetched := wr_fetched ..
@[simp] theorem fault_seats (s : State) (p c d : Nat) : (s.fault p c d).seats = s.seats := wr_seats ..
@[simp] theorem fault_seatUse (s : State) (p c d : Nat) : (s.fault p c d).seatUse = s.seatUse := wr_seatUse ..
@[simp] theorem fault_quiesce (s : State) (p c d : Nat) : (s.fault p c d).quiesce = s.quiesce := wr_quiesce ..
@[simp] theorem fault_seatWait (s : State) (p c d : Nat) : (s.fault p c d).seatWait = s.seatWait := wr_seatWait ..
@[simp] theorem fault_spillTold (s : State) (p c d : Nat) : (s.fault p c d).spillTold = s.spillTold := wr_spillTold ..
@[simp] theorem fault_slipTold (s : State) (p c d : Nat) : (s.fault p c d).slipTold = s.slipTold := wr_slipTold ..
@[simp] theorem fault_satHits (s : State) (p c d : Nat) : (s.fault p c d).satHits = s.satHits := wr_satHits ..
@[simp] theorem fault_satGaps (s : State) (p c d : Nat) : (s.fault p c d).satGaps = s.satGaps := wr_satGaps ..
@[simp] theorem fault_satOut (s : State) (p c d : Nat) : (s.fault p c d).satOut = s.satOut := wr_satOut ..
@[simp] theorem fault_satFast (s : State) (p c d : Nat) : (s.fault p c d).satFast = s.satFast := wr_satFast ..
@[simp] theorem fault_sats (s : State) (p c d : Nat) : (s.fault p c d).sats = s.sats := wr_sats ..
@[simp] theorem fault_passTold (s : State) (p c d : Nat) : (s.fault p c d).passTold = s.passTold := wr_passTold ..
@[simp] theorem fault_hk (s : State) (p c d : Nat) : (s.fault p c d).hk = s.hk := wr_hk ..
@[simp] theorem fault_tap (s : State) (p c d : Nat) : (s.fault p c d).tap = s.tap := wr_tap ..
@[simp] theorem fault_pads (s : State) (p c d : Nat) : (s.fault p c d).pads = s.pads := wr_pads ..
@[simp] theorem fault_ring (s : State) (p c d : Nat) : (s.fault p c d).ring = s.ring := wr_ring ..
@[simp] theorem fault_tp (s : State) (p c d : Nat) : (s.fault p c d).tp = s.tp := wr_tp ..
@[simp] theorem fault_tpMarks (s : State) (p c d : Nat) : (s.fault p c d).tpMarks = s.tpMarks := wr_tpMarks ..
@[simp] theorem fault_tpLast (s : State) (p c d : Nat) : (s.fault p c d).tpLast = s.tpLast := wr_tpLast ..

/-! An output. -/

@[simp] theorem emit_pending (s : State) (x : Output) : (s.emit x).pending = s.pending := rfl
@[simp] theorem emit_evtSeen (s : State) (x : Output) : (s.emit x).evtSeen = s.evtSeen := rfl
@[simp] theorem emit_fired (s : State) (x : Output) : (s.emit x).fired = s.fired := rfl
@[simp] theorem emit_evmq (s : State) (x : Output) : (s.emit x).evmq = s.evmq := rfl
@[simp] theorem emit_free (s : State) (x : Output) : (s.emit x).free = s.free := rfl
@[simp] theorem emit_phase (s : State) (x : Output) : (s.emit x).phase = s.phase := rfl
@[simp] theorem emit_swept (s : State) (x : Output) : (s.emit x).swept = s.swept := rfl
@[simp] theorem emit_regs (s : State) (x : Output) : (s.emit x).regs = s.regs := rfl
@[simp] theorem emit_prevRegs (s : State) (x : Output) : (s.emit x).prevRegs = s.prevRegs := rfl
@[simp] theorem emit_strokeEnd (s : State) (x : Output) : (s.emit x).strokeEnd = s.strokeEnd := rfl
@[simp] theorem emit_snap (s : State) (x : Output) : (s.emit x).snap = s.snap := rfl
@[simp] theorem emit_holdC (s : State) (x : Output) : (s.emit x).holdC = s.holdC := rfl
@[simp] theorem emit_holdG (s : State) (x : Output) : (s.emit x).holdG = s.holdG := rfl
@[simp] theorem emit_staged (s : State) (x : Output) : (s.emit x).staged = s.staged := rfl
@[simp] theorem emit_ovf (s : State) (x : Output) : (s.emit x).ovf = s.ovf := rfl
@[simp] theorem emit_unlockC (s : State) (x : Output) : (s.emit x).unlockC = s.unlockC := rfl
@[simp] theorem emit_unlockG (s : State) (x : Output) : (s.emit x).unlockG = s.unlockG := rfl
@[simp] theorem emit_snapReq (s : State) (x : Output) : (s.emit x).snapReq = s.snapReq := rfl
@[simp] theorem emit_arbC (s : State) (x : Output) : (s.emit x).arbC = s.arbC := rfl
@[simp] theorem emit_arbG (s : State) (x : Output) : (s.emit x).arbG = s.arbG := rfl
@[simp] theorem emit_served (s : State) (x : Output) : (s.emit x).served = s.served := rfl
@[simp] theorem emit_clk (s : State) (x : Output) : (s.emit x).clk = s.clk := rfl
@[simp] theorem emit_time (s : State) (x : Output) : (s.emit x).time = s.time := rfl
@[simp] theorem emit_pace (s : State) (x : Output) : (s.emit x).pace = s.pace := rfl
@[simp] theorem emit_tcuA (s : State) (x : Output) : (s.emit x).tcuA = s.tcuA := rfl
@[simp] theorem emit_tcuB (s : State) (x : Output) : (s.emit x).tcuB = s.tcuB := rfl
@[simp] theorem emit_cox (s : State) (x : Output) : (s.emit x).cox = s.cox := rfl
@[simp] theorem emit_banks (s : State) (x : Output) : (s.emit x).banks = s.banks := rfl
@[simp] theorem emit_trimCur (s : State) (x : Output) : (s.emit x).trimCur = s.trimCur := rfl
@[simp] theorem emit_trimCal (s : State) (x : Output) : (s.emit x).trimCal = s.trimCal := rfl
@[simp] theorem emit_overs (s : State) (x : Output) : (s.emit x).overs = s.overs := rfl
@[simp] theorem emit_words (s : State) (x : Output) : (s.emit x).words = s.words := rfl
@[simp] theorem emit_vals (s : State) (x : Output) : (s.emit x).vals = s.vals := rfl
@[simp] theorem emit_pouts (s : State) (x : Output) : (s.emit x).pouts = s.pouts := rfl
@[simp] theorem emit_stat (s : State) (x : Output) : (s.emit x).stat = s.stat := rfl
@[simp] theorem emit_cnSegs (s : State) (x : Output) : (s.emit x).cnSegs = s.cnSegs := rfl
@[simp] theorem emit_hubSegs (s : State) (x : Output) : (s.emit x).hubSegs = s.hubSegs := rfl
@[simp] theorem emit_fades (s : State) (x : Output) : (s.emit x).fades = s.fades := rfl
@[simp] theorem emit_prevFades (s : State) (x : Output) : (s.emit x).prevFades = s.prevFades := rfl
@[simp] theorem emit_fadeQ (s : State) (x : Output) : (s.emit x).fadeQ = s.fadeQ := rfl
@[simp] theorem emit_profiles (s : State) (x : Output) : (s.emit x).profiles = s.profiles := rfl
@[simp] theorem emit_badTaps (s : State) (x : Output) : (s.emit x).badTaps = s.badTaps := rfl
@[simp] theorem emit_segs (s : State) (x : Output) : (s.emit x).segs = s.segs := rfl
@[simp] theorem emit_marks (s : State) (x : Output) : (s.emit x).marks = s.marks := rfl
@[simp] theorem emit_rateCr (s : State) (x : Output) : (s.emit x).rateCr = s.rateCr := rfl
@[simp] theorem emit_prevRateCr (s : State) (x : Output) : (s.emit x).prevRateCr = s.prevRateCr := rfl
@[simp] theorem emit_records (s : State) (x : Output) : (s.emit x).records = s.records := rfl
@[simp] theorem emit_hist (s : State) (x : Output) : (s.emit x).hist = s.hist := rfl
@[simp] theorem emit_histClr (s : State) (x : Output) : (s.emit x).histClr = s.histClr := rfl
@[simp] theorem emit_servoN (s : State) (x : Output) : (s.emit x).servoN = s.servoN := rfl
@[simp] theorem emit_wake (s : State) (x : Output) : (s.emit x).wake = s.wake := rfl
@[simp] theorem emit_wakeBad (s : State) (x : Output) : (s.emit x).wakeBad = s.wakeBad := rfl
@[simp] theorem emit_accQ (s : State) (x : Output) : (s.emit x).accQ = s.accQ := rfl
@[simp] theorem emit_evNo (s : State) (x : Output) : (s.emit x).evNo = s.evNo := rfl
@[simp] theorem emit_runStart (s : State) (x : Output) : (s.emit x).runStart = s.runStart := rfl
@[simp] theorem emit_startQ (s : State) (x : Output) : (s.emit x).startQ = s.startQ := rfl
@[simp] theorem emit_startLast (s : State) (x : Output) : (s.emit x).startLast = s.startLast := rfl
@[simp] theorem emit_presc (s : State) (x : Output) : (s.emit x).presc = s.presc := rfl
@[simp] theorem emit_hits (s : State) (x : Output) : (s.emit x).hits = s.hits := rfl
@[simp] theorem emit_nbHits (s : State) (x : Output) : (s.emit x).nbHits = s.nbHits := rfl
@[simp] theorem emit_selfLast (s : State) (x : Output) : (s.emit x).selfLast = s.selfLast := rfl
@[simp] theorem emit_selfSeen (s : State) (x : Output) : (s.emit x).selfSeen = s.selfSeen := rfl
@[simp] theorem emit_coincTold (s : State) (x : Output) : (s.emit x).coincTold = s.coincTold := rfl
@[simp] theorem emit_autoCnt (s : State) (x : Output) : (s.emit x).autoCnt = s.autoCnt := rfl
@[simp] theorem emit_autoDue (s : State) (x : Output) : (s.emit x).autoDue = s.autoDue := rfl
@[simp] theorem emit_nbSt (s : State) (x : Output) : (s.emit x).nbSt = s.nbSt := rfl
@[simp] theorem emit_nbMsg (s : State) (x : Output) : (s.emit x).nbMsg = s.nbMsg := rfl
@[simp] theorem emit_nbErrs (s : State) (x : Output) : (s.emit x).nbErrs = s.nbErrs := rfl
@[simp] theorem emit_nbMiss (s : State) (x : Output) : (s.emit x).nbMiss = s.nbMiss := rfl
@[simp] theorem emit_easyBroken (s : State) (x : Output) : (s.emit x).easyBroken = s.easyBroken := rfl
@[simp] theorem emit_frags (s : State) (x : Output) : (s.emit x).frags = s.frags := rfl
@[simp] theorem emit_fragId (s : State) (x : Output) : (s.emit x).fragId = s.fragId := rfl
@[simp] theorem emit_recBad (s : State) (x : Output) : (s.emit x).recBad = s.recBad := rfl
@[simp] theorem emit_engines (s : State) (x : Output) : (s.emit x).engines = s.engines := rfl
@[simp] theorem emit_lensStall (s : State) (x : Output) : (s.emit x).lensStall = s.lensStall := rfl
@[simp] theorem emit_lensWait (s : State) (x : Output) : (s.emit x).lensWait = s.lensWait := rfl
@[simp] theorem emit_lensClk (s : State) (x : Output) : (s.emit x).lensClk = s.lensClk := rfl
@[simp] theorem emit_offer (s : State) (x : Output) : (s.emit x).offer = s.offer := rfl
@[simp] theorem emit_held (s : State) (x : Output) : (s.emit x).held = s.held := rfl
@[simp] theorem emit_admitId (s : State) (x : Output) : (s.emit x).admitId = s.admitId := rfl
@[simp] theorem emit_shedSeen (s : State) (x : Output) : (s.emit x).shedSeen = s.shedSeen := rfl
@[simp] theorem emit_tests (s : State) (x : Output) : (s.emit x).tests = s.tests := rfl
@[simp] theorem emit_laneFrom (s : State) (x : Output) : (s.emit x).laneFrom = s.laneFrom := rfl
@[simp] theorem emit_txRd (s : State) (x : Output) : (s.emit x).txRd = s.txRd := rfl
@[simp] theorem emit_rxRd (s : State) (x : Output) : (s.emit x).rxRd = s.rxRd := rfl
@[simp] theorem emit_rxErr (s : State) (x : Output) : (s.emit x).rxErr = s.rxErr := rfl
@[simp] theorem emit_codeTold (s : State) (x : Output) : (s.emit x).codeTold = s.codeTold := rfl
@[simp] theorem emit_rxTail (s : State) (x : Output) : (s.emit x).rxTail = s.rxTail := rfl
@[simp] theorem emit_prbs (s : State) (x : Output) : (s.emit x).prbs = s.prbs := rfl
@[simp] theorem emit_checks (s : State) (x : Output) : (s.emit x).checks = s.checks := rfl
@[simp] theorem emit_txOff (s : State) (x : Output) : (s.emit x).txOff = s.txOff := rfl
@[simp] theorem emit_loopFrom (s : State) (x : Output) : (s.emit x).loopFrom = s.loopFrom := rfl
@[simp] theorem emit_loopTold (s : State) (x : Output) : (s.emit x).loopTold = s.loopTold := rfl
@[simp] theorem emit_es (s : State) (x : Output) : (s.emit x).es = s.es := rfl
@[simp] theorem emit_sig (s : State) (x : Output) : (s.emit x).sig = s.sig := rfl
@[simp] theorem emit_sigRun (s : State) (x : Output) : (s.emit x).sigRun = s.sigRun := rfl
@[simp] theorem emit_sigDone (s : State) (x : Output) : (s.emit x).sigDone = s.sigDone := rfl
@[simp] theorem emit_laneBusy (s : State) (x : Output) : (s.emit x).laneBusy = s.laneBusy := rfl
@[simp] theorem emit_slipWant (s : State) (x : Output) : (s.emit x).slipWant = s.slipWant := rfl
@[simp] theorem emit_links (s : State) (x : Output) : (s.emit x).links = s.links := rfl
@[simp] theorem emit_dmas (s : State) (x : Output) : (s.emit x).dmas = s.dmas := rfl
@[simp] theorem emit_slots (s : State) (x : Output) : (s.emit x).slots = s.slots := rfl
@[simp] theorem emit_fetched (s : State) (x : Output) : (s.emit x).fetched = s.fetched := rfl
@[simp] theorem emit_seats (s : State) (x : Output) : (s.emit x).seats = s.seats := rfl
@[simp] theorem emit_seatUse (s : State) (x : Output) : (s.emit x).seatUse = s.seatUse := rfl
@[simp] theorem emit_quiesce (s : State) (x : Output) : (s.emit x).quiesce = s.quiesce := rfl
@[simp] theorem emit_seatWait (s : State) (x : Output) : (s.emit x).seatWait = s.seatWait := rfl
@[simp] theorem emit_spillTold (s : State) (x : Output) : (s.emit x).spillTold = s.spillTold := rfl
@[simp] theorem emit_slipTold (s : State) (x : Output) : (s.emit x).slipTold = s.slipTold := rfl
@[simp] theorem emit_satHits (s : State) (x : Output) : (s.emit x).satHits = s.satHits := rfl
@[simp] theorem emit_satGaps (s : State) (x : Output) : (s.emit x).satGaps = s.satGaps := rfl
@[simp] theorem emit_satOut (s : State) (x : Output) : (s.emit x).satOut = s.satOut := rfl
@[simp] theorem emit_satFast (s : State) (x : Output) : (s.emit x).satFast = s.satFast := rfl
@[simp] theorem emit_sats (s : State) (x : Output) : (s.emit x).sats = s.sats := rfl
@[simp] theorem emit_passTold (s : State) (x : Output) : (s.emit x).passTold = s.passTold := rfl
@[simp] theorem emit_hk (s : State) (x : Output) : (s.emit x).hk = s.hk := rfl
@[simp] theorem emit_tap (s : State) (x : Output) : (s.emit x).tap = s.tap := rfl
@[simp] theorem emit_pads (s : State) (x : Output) : (s.emit x).pads = s.pads := rfl
@[simp] theorem emit_ring (s : State) (x : Output) : (s.emit x).ring = s.ring := rfl
@[simp] theorem emit_tp (s : State) (x : Output) : (s.emit x).tp = s.tp := rfl
@[simp] theorem emit_tpMarks (s : State) (x : Output) : (s.emit x).tpMarks = s.tpMarks := rfl
@[simp] theorem emit_tpLast (s : State) (x : Output) : (s.emit x).tpLast = s.tpLast := rfl

/-! A free value drawn. -/

@[simp] theorem draw_fst (s : State) : s.draw.1 = s.free := rfl
@[simp] theorem draw_free (s : State) : s.draw.2.free = s.free + 1 := rfl
@[simp] theorem draw_pending (s : State) : s.draw.2.pending = s.pending := rfl
@[simp] theorem draw_out (s : State) : s.draw.2.out = s.out := rfl
@[simp] theorem draw_evtSeen (s : State) : s.draw.2.evtSeen = s.evtSeen := rfl
@[simp] theorem draw_fired (s : State) : s.draw.2.fired = s.fired := rfl
@[simp] theorem draw_evmq (s : State) : s.draw.2.evmq = s.evmq := rfl
@[simp] theorem draw_phase (s : State) : s.draw.2.phase = s.phase := rfl
@[simp] theorem draw_swept (s : State) : s.draw.2.swept = s.swept := rfl
@[simp] theorem draw_regs (s : State) : s.draw.2.regs = s.regs := rfl
@[simp] theorem draw_prevRegs (s : State) : s.draw.2.prevRegs = s.prevRegs := rfl
@[simp] theorem draw_strokeEnd (s : State) : s.draw.2.strokeEnd = s.strokeEnd := rfl
@[simp] theorem draw_snap (s : State) : s.draw.2.snap = s.snap := rfl
@[simp] theorem draw_holdC (s : State) : s.draw.2.holdC = s.holdC := rfl
@[simp] theorem draw_holdG (s : State) : s.draw.2.holdG = s.holdG := rfl
@[simp] theorem draw_staged (s : State) : s.draw.2.staged = s.staged := rfl
@[simp] theorem draw_ovf (s : State) : s.draw.2.ovf = s.ovf := rfl
@[simp] theorem draw_unlockC (s : State) : s.draw.2.unlockC = s.unlockC := rfl
@[simp] theorem draw_unlockG (s : State) : s.draw.2.unlockG = s.unlockG := rfl
@[simp] theorem draw_snapReq (s : State) : s.draw.2.snapReq = s.snapReq := rfl
@[simp] theorem draw_arbC (s : State) : s.draw.2.arbC = s.arbC := rfl
@[simp] theorem draw_arbG (s : State) : s.draw.2.arbG = s.arbG := rfl
@[simp] theorem draw_served (s : State) : s.draw.2.served = s.served := rfl
@[simp] theorem draw_clk (s : State) : s.draw.2.clk = s.clk := rfl
@[simp] theorem draw_time (s : State) : s.draw.2.time = s.time := rfl
@[simp] theorem draw_pace (s : State) : s.draw.2.pace = s.pace := rfl
@[simp] theorem draw_tcuA (s : State) : s.draw.2.tcuA = s.tcuA := rfl
@[simp] theorem draw_tcuB (s : State) : s.draw.2.tcuB = s.tcuB := rfl
@[simp] theorem draw_cox (s : State) : s.draw.2.cox = s.cox := rfl
@[simp] theorem draw_banks (s : State) : s.draw.2.banks = s.banks := rfl
@[simp] theorem draw_trimCur (s : State) : s.draw.2.trimCur = s.trimCur := rfl
@[simp] theorem draw_trimCal (s : State) : s.draw.2.trimCal = s.trimCal := rfl
@[simp] theorem draw_overs (s : State) : s.draw.2.overs = s.overs := rfl
@[simp] theorem draw_words (s : State) : s.draw.2.words = s.words := rfl
@[simp] theorem draw_vals (s : State) : s.draw.2.vals = s.vals := rfl
@[simp] theorem draw_pouts (s : State) : s.draw.2.pouts = s.pouts := rfl
@[simp] theorem draw_stat (s : State) : s.draw.2.stat = s.stat := rfl
@[simp] theorem draw_cnSegs (s : State) : s.draw.2.cnSegs = s.cnSegs := rfl
@[simp] theorem draw_hubSegs (s : State) : s.draw.2.hubSegs = s.hubSegs := rfl
@[simp] theorem draw_fades (s : State) : s.draw.2.fades = s.fades := rfl
@[simp] theorem draw_prevFades (s : State) : s.draw.2.prevFades = s.prevFades := rfl
@[simp] theorem draw_fadeQ (s : State) : s.draw.2.fadeQ = s.fadeQ := rfl
@[simp] theorem draw_profiles (s : State) : s.draw.2.profiles = s.profiles := rfl
@[simp] theorem draw_badTaps (s : State) : s.draw.2.badTaps = s.badTaps := rfl
@[simp] theorem draw_segs (s : State) : s.draw.2.segs = s.segs := rfl
@[simp] theorem draw_marks (s : State) : s.draw.2.marks = s.marks := rfl
@[simp] theorem draw_rateCr (s : State) : s.draw.2.rateCr = s.rateCr := rfl
@[simp] theorem draw_prevRateCr (s : State) : s.draw.2.prevRateCr = s.prevRateCr := rfl
@[simp] theorem draw_records (s : State) : s.draw.2.records = s.records := rfl
@[simp] theorem draw_hist (s : State) : s.draw.2.hist = s.hist := rfl
@[simp] theorem draw_histClr (s : State) : s.draw.2.histClr = s.histClr := rfl
@[simp] theorem draw_servoN (s : State) : s.draw.2.servoN = s.servoN := rfl
@[simp] theorem draw_wake (s : State) : s.draw.2.wake = s.wake := rfl
@[simp] theorem draw_wakeBad (s : State) : s.draw.2.wakeBad = s.wakeBad := rfl
@[simp] theorem draw_accQ (s : State) : s.draw.2.accQ = s.accQ := rfl
@[simp] theorem draw_evNo (s : State) : s.draw.2.evNo = s.evNo := rfl
@[simp] theorem draw_runStart (s : State) : s.draw.2.runStart = s.runStart := rfl
@[simp] theorem draw_startQ (s : State) : s.draw.2.startQ = s.startQ := rfl
@[simp] theorem draw_startLast (s : State) : s.draw.2.startLast = s.startLast := rfl
@[simp] theorem draw_presc (s : State) : s.draw.2.presc = s.presc := rfl
@[simp] theorem draw_hits (s : State) : s.draw.2.hits = s.hits := rfl
@[simp] theorem draw_nbHits (s : State) : s.draw.2.nbHits = s.nbHits := rfl
@[simp] theorem draw_selfLast (s : State) : s.draw.2.selfLast = s.selfLast := rfl
@[simp] theorem draw_selfSeen (s : State) : s.draw.2.selfSeen = s.selfSeen := rfl
@[simp] theorem draw_coincTold (s : State) : s.draw.2.coincTold = s.coincTold := rfl
@[simp] theorem draw_autoCnt (s : State) : s.draw.2.autoCnt = s.autoCnt := rfl
@[simp] theorem draw_autoDue (s : State) : s.draw.2.autoDue = s.autoDue := rfl
@[simp] theorem draw_nbSt (s : State) : s.draw.2.nbSt = s.nbSt := rfl
@[simp] theorem draw_nbMsg (s : State) : s.draw.2.nbMsg = s.nbMsg := rfl
@[simp] theorem draw_nbErrs (s : State) : s.draw.2.nbErrs = s.nbErrs := rfl
@[simp] theorem draw_nbMiss (s : State) : s.draw.2.nbMiss = s.nbMiss := rfl
@[simp] theorem draw_easyBroken (s : State) : s.draw.2.easyBroken = s.easyBroken := rfl
@[simp] theorem draw_frags (s : State) : s.draw.2.frags = s.frags := rfl
@[simp] theorem draw_fragId (s : State) : s.draw.2.fragId = s.fragId := rfl
@[simp] theorem draw_recBad (s : State) : s.draw.2.recBad = s.recBad := rfl
@[simp] theorem draw_engines (s : State) : s.draw.2.engines = s.engines := rfl
@[simp] theorem draw_lensStall (s : State) : s.draw.2.lensStall = s.lensStall := rfl
@[simp] theorem draw_lensWait (s : State) : s.draw.2.lensWait = s.lensWait := rfl
@[simp] theorem draw_lensClk (s : State) : s.draw.2.lensClk = s.lensClk := rfl
@[simp] theorem draw_offer (s : State) : s.draw.2.offer = s.offer := rfl
@[simp] theorem draw_held (s : State) : s.draw.2.held = s.held := rfl
@[simp] theorem draw_admitId (s : State) : s.draw.2.admitId = s.admitId := rfl
@[simp] theorem draw_shedSeen (s : State) : s.draw.2.shedSeen = s.shedSeen := rfl
@[simp] theorem draw_tests (s : State) : s.draw.2.tests = s.tests := rfl
@[simp] theorem draw_laneFrom (s : State) : s.draw.2.laneFrom = s.laneFrom := rfl
@[simp] theorem draw_txRd (s : State) : s.draw.2.txRd = s.txRd := rfl
@[simp] theorem draw_rxRd (s : State) : s.draw.2.rxRd = s.rxRd := rfl
@[simp] theorem draw_rxErr (s : State) : s.draw.2.rxErr = s.rxErr := rfl
@[simp] theorem draw_codeTold (s : State) : s.draw.2.codeTold = s.codeTold := rfl
@[simp] theorem draw_rxTail (s : State) : s.draw.2.rxTail = s.rxTail := rfl
@[simp] theorem draw_prbs (s : State) : s.draw.2.prbs = s.prbs := rfl
@[simp] theorem draw_checks (s : State) : s.draw.2.checks = s.checks := rfl
@[simp] theorem draw_txOff (s : State) : s.draw.2.txOff = s.txOff := rfl
@[simp] theorem draw_loopFrom (s : State) : s.draw.2.loopFrom = s.loopFrom := rfl
@[simp] theorem draw_loopTold (s : State) : s.draw.2.loopTold = s.loopTold := rfl
@[simp] theorem draw_es (s : State) : s.draw.2.es = s.es := rfl
@[simp] theorem draw_sig (s : State) : s.draw.2.sig = s.sig := rfl
@[simp] theorem draw_sigRun (s : State) : s.draw.2.sigRun = s.sigRun := rfl
@[simp] theorem draw_sigDone (s : State) : s.draw.2.sigDone = s.sigDone := rfl
@[simp] theorem draw_laneBusy (s : State) : s.draw.2.laneBusy = s.laneBusy := rfl
@[simp] theorem draw_slipWant (s : State) : s.draw.2.slipWant = s.slipWant := rfl
@[simp] theorem draw_links (s : State) : s.draw.2.links = s.links := rfl
@[simp] theorem draw_dmas (s : State) : s.draw.2.dmas = s.dmas := rfl
@[simp] theorem draw_slots (s : State) : s.draw.2.slots = s.slots := rfl
@[simp] theorem draw_fetched (s : State) : s.draw.2.fetched = s.fetched := rfl
@[simp] theorem draw_seats (s : State) : s.draw.2.seats = s.seats := rfl
@[simp] theorem draw_seatUse (s : State) : s.draw.2.seatUse = s.seatUse := rfl
@[simp] theorem draw_quiesce (s : State) : s.draw.2.quiesce = s.quiesce := rfl
@[simp] theorem draw_seatWait (s : State) : s.draw.2.seatWait = s.seatWait := rfl
@[simp] theorem draw_spillTold (s : State) : s.draw.2.spillTold = s.spillTold := rfl
@[simp] theorem draw_slipTold (s : State) : s.draw.2.slipTold = s.slipTold := rfl
@[simp] theorem draw_satHits (s : State) : s.draw.2.satHits = s.satHits := rfl
@[simp] theorem draw_satGaps (s : State) : s.draw.2.satGaps = s.satGaps := rfl
@[simp] theorem draw_satOut (s : State) : s.draw.2.satOut = s.satOut := rfl
@[simp] theorem draw_satFast (s : State) : s.draw.2.satFast = s.satFast := rfl
@[simp] theorem draw_sats (s : State) : s.draw.2.sats = s.sats := rfl
@[simp] theorem draw_passTold (s : State) : s.draw.2.passTold = s.passTold := rfl
@[simp] theorem draw_hk (s : State) : s.draw.2.hk = s.hk := rfl
@[simp] theorem draw_tap (s : State) : s.draw.2.tap = s.tap := rfl
@[simp] theorem draw_pads (s : State) : s.draw.2.pads = s.pads := rfl
@[simp] theorem draw_ring (s : State) : s.draw.2.ring = s.ring := rfl
@[simp] theorem draw_tp (s : State) : s.draw.2.tp = s.tp := rfl
@[simp] theorem draw_tpMarks (s : State) : s.draw.2.tpMarks = s.tpMarks := rfl
@[simp] theorem draw_tpLast (s : State) : s.draw.2.tpLast = s.tpLast := rfl

@[simp] theorem emit_out (s : State) (x : Output) : (s.emit x).out = s.out ++ [x] := rfl

end Sys2Proof.Machine.State
end

