-- ==== Sys2Proof/Tests/States.lean ====
section
/-! SUPPORT. Small states for the tests, and what decides the hypotheses about an optional value. -/

namespace Sys2Proof.Tests
open Sys2Proof.Machine

/-- The hub running, as reset leaves it. -/
def wRun : State := { State.reset with phase := .running }

/-- A page ENABLED, in a state. -/
def on (s : State) (pg st : Nat) : State := (s.set (R.PAGE_CTL_ENABLE pg) 1).setPstate pg st

/-- Link 0 in a state, on lanes 0 to 2. -/
def upSlip (s : State) (st : Nat) : State :=
  let s := on (on (on (on s 0x70 1) 0x50 1) 0x51 1) 0x52 1
  let s := [0x50, 0x51, 0x52].foldl (fun s pg => s.set (R.LANE_STATUS_RX_STATE (pg * 4096)) 2) s
  let s := (s.set (R.SLIP_STNn_STATUS_STATE 0) st).set (R.SLIP_STNn_STATUS_TXG 0) 7
  ((s.set (R.SLIP_STNn_PEER_CAP_MAX_READS 0) 8).set (R.SLIP_STNn_PEER_CAP_BEATS 0) 15).set (R.SLIP_STNn_STATUS_RXG 0) 7

/-- A trigger, a fragment and a housekeeping entry with every field at rest. -/
def noEntry : Entry := ⟨0, 0, 0, 0, 0, 0, none, 0, 0, 0, 0, false⟩
def noFrag : Frag := ⟨0, 0, 0, 0, false, 0, 0, 0, 0, 0, [], [], 0, [], false, false, [], false⟩
def noHkEntry : HkEntry := ⟨false, 0, 0, 0, 0, 0, [], 0, false, false, false⟩

theorem of_all {α : Type} {x : Option α} {P : α → Prop} [DecidablePred P] (h : x.all (fun a => decide (P a)) = true) :
    ∀ a, x = some a → P a := by
  intro a e; subst e; simpa using h

theorem of_block {x : Option (SatAsk × Nat)} {P : Nat → Nat → Prop} [∀ b c, Decidable (P b c)]
    (h : x.all (fun e => match e with
      | (.block b, c) => decide (P b c)
      | _ => true) = true) : ∀ b c, x = some (.block b, c) → P b c := by
  intro b c e; subst e; simpa using h

theorem of_lens {s : State} {P : Nat → Prop} (h : ∀ r < 16, P (max (16 * s.time.cr + r) s.lensClk)) : P s.lensClock.1 :=
  h _ (Nat.mod_lt _ (by decide))

theorem of_cap {x : Option (SatAsk × Nat)} (h : x.all (fun e => e.1 != .cap) = true) : ∀ c, x ≠ some (.cap, c) := by
  intro c e; subst e; simp at h

end Sys2Proof.Tests
end

