-- ==== Sys2Proof/WellFormed.lean ====
section
/-! DEFINITION. When a command is well formed: what its operands must satisfy, beyond their types, to describe something that can
happen at the hub. A command that is not well formed is performed all the same, by the same rules. -/

namespace Sys2Proof

/-- Nanoseconds lie within their second (R81). -/
def TimeStamp.wf (t : TimeStamp) : Bool := decide (t.ns.toNat < 1000000000)

/-- A word address (R5). -/
def wordAddr (a : RegAddr) : Bool := a.toNat % 4 == 0

/-- Frames of an operation (R390), a request or an answer. -/
def RingFrame.isA (f : RingFrame) (op : Nat) (resp : Bool) : Bool := f.op.toNat == op && f.resp == resp

/-- No sample is given twice, and no lane's traffic. -/
def TickIn.wf (i : TickIn) : Bool :=
  decide ((i.samples.map (fun e => (e.bank, e.slice, e.phase))).Nodup) && decide ((i.traffic.map (·.x)).Nodup)

/-- A command is well formed. -/
def Instr.wf : Instr → Bool
  | .regWrite _ a _ => wordAddr a
  | .counterClear _ a _ => wordAddr a && (Machine.hasAcc a.toNat .ctS || Machine.hasAcc a.toNat .ctW)
  | .coherentGroupRead _ a => wordAddr a
  | .evtClear _ pg _ => (Machine.pageType pg.toNat).isSome
  | .pageResetRequest _ pg => (Machine.pageType pg.toNat).isSome
  | .paceRegRead _ a _ => wordAddr a
  | .paceRegWrite _ a _ _ => wordAddr a
  | .syncMessage t1 _ _ => t1.wf
  | .delayResp _ _ t4 => t4.wf
  | .slipCompl _ _ _ _ data => data.length == 32
  | .puCalStepEnd _ failed => decide failed.Nodup
  | .hkEntryDone codes _ => !codes.isEmpty
  | .ringRead f => f.isA 1 false
  | .ringWrite f => f.isA 2 false
  | .keyedWrite f => f.isA 3 false
  | .rollCall f => f.isA 4 false
  | .helloForward f => f.isA 5 true
  | .ringReset f => f.isA 6 false
  | .ringFramePass p => p.frame.all (fun f => decide (1 ≤ f.op.toNat) && decide (f.op.toNat ≤ 6))
  | .ringBadOp f => f.op.toNat == 0 || decide (6 < f.op.toNat)
  | .crossingTick i => i.wf
  | _ => true

end Sys2Proof
end

