-- ==== Sys2Proof/Tests/Slice0.lean ====
section
/-! SUPPORT. Tests of the model: an ill-formed command for each check of Instr.wf, and figures of the spec's worked examples. The theorems
are elaborated one after the other (see Witnesses.lean). -/

set_option Elab.async false

namespace Sys2Proof.Tests
open Sys2Proof.Machine

/-! Well-formedness: what each check refuses, and a neighbour that it lets pass. -/

/-- A ring request of an operation. -/
def frameOf (op : BitVec 4) (resp : Bool) : RingFrame := ⟨0x0312, 0x0300, op, true, resp, 0, 0x00044, 0, 0⟩

theorem test_wf_regWrite : (Instr.regWrite .C 0x00046 0).wf = false ∧ (Instr.regWrite .C 0x00044 0).wf = true := by decide
theorem test_wf_counterClear_address : (Instr.counterClear .C 0x01049 0).wf = false := by decide +kernel
theorem test_wf_counterClear_access :
    (Instr.counterClear .C 0x01044 0).wf = false ∧ (Instr.counterClear .C 0x01048 0).wf = true := by decide +kernel
theorem test_wf_coherentGroupRead : (Instr.coherentGroupRead .G 0x0C041).wf = false := by decide
theorem test_wf_evtClear : (Instr.evtClear .C 0xFF 0).wf = false ∧ (Instr.evtClear .C 0x01 0).wf = true := by decide +kernel
theorem test_wf_pageResetRequest : (Instr.pageResetRequest .C 0x0A).wf = false := by decide +kernel
theorem test_wf_paceRegRead : (Instr.paceRegRead 0 0x00042 false).wf = false := by decide
theorem test_wf_paceRegWrite : (Instr.paceRegWrite 0 0x00042 0 false).wf = false := by decide
theorem test_wf_syncMessage :
    (Instr.syncMessage ⟨0, 1000000000, 0⟩ 0 false).wf = false ∧ (Instr.syncMessage ⟨0, 999999999, 0⟩ 0 false).wf = true := by decide
theorem test_wf_delayResp : (Instr.delayResp .A 0 ⟨0, 1000000000, 0⟩).wf = false := by decide
theorem test_wf_slipCompl : (Instr.slipCompl 0 0 0 0 [1, 2, 3]).wf = false := by decide
theorem test_wf_puCalStepEnd : (Instr.puCalStepEnd 0 [3, 3]).wf = false ∧ (Instr.puCalStepEnd 0 [3, 4]).wf = true := by decide
theorem test_wf_ringFramePass :
    (Instr.ringFramePass ⟨[], some (frameOf 0 false)⟩).wf = false ∧ (Instr.ringFramePass ⟨[], none⟩).wf = true := by decide
theorem test_wf_hkEntryDone : (Instr.hkEntryDone [] 0).wf = false := by decide
theorem test_wf_ringRead : (Instr.ringRead (frameOf 2 false)).wf = false ∧ (Instr.ringRead (frameOf 1 true)).wf = false := by decide
theorem test_wf_ringWrite : (Instr.ringWrite (frameOf 1 false)).wf = false := by decide
theorem test_wf_keyedWrite : (Instr.keyedWrite (frameOf 2 false)).wf = false := by decide
theorem test_wf_rollCall : (Instr.rollCall (frameOf 3 false)).wf = false := by decide
theorem test_wf_helloForward : (Instr.helloForward (frameOf 5 false)).wf = false ∧ (Instr.helloForward (frameOf 5 true)).wf = true := by decide
theorem test_wf_ringReset : (Instr.ringReset (frameOf 5 false)).wf = false := by decide
theorem test_wf_ringBadOp : (Instr.ringBadOp (frameOf 6 false)).wf = false ∧ (Instr.ringBadOp (frameOf 7 false)).wf = true := by decide
theorem test_wf_crossingTick_samples : (Instr.crossingTick ⟨[⟨0, 0, 0, 1, false⟩, ⟨0, 0, 0, 2, false⟩], [], []⟩).wf = false := by decide
theorem test_wf_crossingTick_traffic :
    (Instr.crossingTick ⟨[], [], [⟨.lane 3, []⟩, ⟨.lane 3, [0]⟩]⟩).wf = false := by decide

/-! The table gives no bits (spec/opcode_table.json). -/

theorem test_decode_none : decodeTableWord 32 0xC0C5 = none := rfl
theorem test_withFetchWord : wRun.withFetchWord 32 0xC0C5 = wRun := rfl

/-! Check values of the CRCs (R107, R260), over the ASCII bytes of "123456789". -/

theorem test_crc16 : crc16 [0x31, 0x32, 0x33, 0x34, 0x35, 0x36, 0x37, 0x38, 0x39] = 0x29B1 := by decide +kernel
theorem test_crc32c : crc32c [0x31, 0x32, 0x33, 0x34, 0x35, 0x36, 0x37, 0x38, 0x39] = 0xE3069283 := by decide +kernel

/-! R301, R302: the comma of K28.5 at either disparity (R303's 0011111 and its complement in bits a to g), and bytes of every kind back again. -/

theorem test_k28_5 : codeGroup false 0x1BC = 0x17C ∧ codeGroup true 0x1BC = 0x283 := by decide +kernel
theorem test_bytes_decode : ∀ rd : Bool, ∀ v ∈ [0x00, 0x17, 0x4A, 0xB5, 0xE7, 0xEB, 0xF1, 0xFF],
    decodeGroup rd (codeGroup rd (BitVec.ofNat 10 v)) = BitVec.ofNat 10 v := by decide +kernel
theorem test_specials_decode : ∀ rd : Bool, ∀ b ∈ specials,
    decodeGroup rd (codeGroup rd (0x100 ||| b.setWidth 10)) = 0x100 ||| b.setWidth 10 := by decide +kernel
theorem test_invalid_group : decodeGroup false 0x000 = errorSym := by decide +kernel

/-! Chapter 06, "one channel at the reference point": codes in the 1.6 Vpp range; 1 V is 10·2^29 units. -/

theorem test_code_positive : codeRaw (5 * 2 ^ 29) (lsbOf 1) false = 0x3400 := by decide +kernel
theorem test_code_negative : codeRaw (-(10 * 2 ^ 29 / 4)) (lsbOf 1) true = 0x1600 := by decide +kernel

/-! Chapter 08, "one output sample". -/

/-- Channel 72 with PED = 0x40 and FGAIN = 0x8148, and a stroke of its settings behind it. -/
def wGain : State :=
  let s := (wRun.seti (R.PRISM_CH_PED 72) 64).set (R.PRISM_CH_CFG_FGAIN 72) 0x8148
  { s with prevRegs := s.regs }

theorem test_baseline : (Assoc.find? (wGain.baseline 100 402 72 0x3400).vals (402 * 1024 + 72)).map (·.v) = some 82675 := by
  decide +kernel
theorem test_fir_rounding : State.firOut (32768 * (81000 + 82675 + 82000 + 80000)) = 81419 := by decide

/-! Chapter 10, "one word, one frame": word 8 of lane 0, and the frame's status and INFO bytes. -/

/-- A crossing whose lane 0 has one sum in word 8. -/
def tpOne (cr v : Nat) : TpCr :=
  ⟨cr, 0x6789, 0x0312, false, true, false, false, 2, false, 64, 12, [[0, 0, 0, 0, 0, 0, 0, 0, v]], [0]⟩

theorem test_peak_word : (State.peakWords (tpOne 10 1903) (some (tpOne 9 612)) (some (tpOne 11 1480)) 0)[8]? = some 0x876F := by decide +kernel
theorem test_info_byte : State.infoByte 0 2 false = 0x10 := by decide

/-! Chapter 12, "a requantised fragment": step 6. -/

theorem test_requantise : [81419, 81420, 81412, -5].map (fun v => requant v 3) = [10177, 10178, 10176, -1] := by decide

/-! Chapter 13, "a quiet channel in one bank". -/

theorem test_lens_block :
    (lensBlock (0 :: List.replicate 32 100) true false false none).words
      = [0x0B20010020030022, 0x2A130883C1A0A000, 0x0000000000101834] := by decide +kernel

/-! Chapter 18, "a Pt100 at 25 °C": the code 103,687 below R_ref = 1,000 Ω gives 25,000 m°C to the nearest. -/

/-- Whether a value of 25,000 lies within a result's tolerance. -/
def isAbout (x : CurveOut) (v : Int) : Bool := match x with
  | .clamped _ => false
  | .value f e t => decide (f - t ≤ v) && decide (v ≤ f + t + (if e then 0 else 1))

theorem test_pt100 : isAbout (curveValue 1 [0x000F4240] 0 103687 1048576) 25000 = true := by decide +kernel

/-! Chapter 04, "asymmetry, alignment and cable length": a − b = 75 ns and a + b = 783.612 ns. -/

/-- The state after DELAY_RESP of the example; times in 2^-16 ns. -/
def wExch : State :=
  let s := (on wRun 0x0D 1).set (R.SYNC_ASYMp 0) 0x14000
  s.completeExchange ⟨.A, 65536000, 65536000 + 28216918, false, 0, none, 0, 0⟩ 327680000 (327680000 + 23137878)

theorem test_exchange_offset : wExch.geti R.SYNC_OFFSET = 2457600 := by decide +kernel
theorem test_cable_length : wExch.get (R.SYNC_CABLE_LENp 0) = 0x4FDF := by decide +kernel

/-! R382, R389: the characters on the ring, and a frame read back from its 14 data characters. -/

theorem test_ring_chars : ringChar true 0x01 = .sof ∧ ringChar true 0x04 = .error ∧ ringChar false 0x01 = .data 0x01 := by decide
theorem test_ring_frame :
    let f := resealed true (frameOf 1 false)
    (ringChars f).length = 16 ∧ ringFrameOf (ringBytes f ++ [f.crc.extractLsb' 8 8, f.crc.extractLsb' 0 8]) = some f := by decide +kernel

/-! Chapter 02, the keyed write of ID.HUB_NUMBER from port G: the key, then the write. -/

/-- The hub running, its ring bypass open, so that port G carries accesses (R394). -/
def wOpen : State := wRun.set R.RING_STATUS_BYPASS_OPEN 1

/-- What a command leaves. -/
def after (c : Instr) (s : State) : State := match exec c s with
  | .next t => t
  | _ => s

theorem test_key_unlocks : (after (.keyUnlock .G 0x0000C0C5) wOpen).unlockG = true := by decide +kernel
theorem test_keyed_write_stages :
    let t := after (.regWrite .G 0x00044 0x00000313) { wOpen with unlockG := true }
    t.staged = [⟨0x00, 0x00044, 0x0000FFFF, 0x00000313⟩] ∧ t.unlockG = false := by decide +kernel

/-! R450: LANE17 reads PAGE_ID 0x5001_0011, and PACEB reads 0x0E01_0001. -/

theorem test_page_id_lane17 :
    (after (.coherentGroupRead .G 0x61000) wOpen).out = [.answer .G 0x61000 0x50010011 0] := by decide +kernel
theorem test_page_id_paceb :
    (after (.coherentGroupRead .G 0x0F000) wOpen).out = [.answer .G 0x0F000 0x0E010001 0] := by decide +kernel

/-! The queue: step takes the front command and leaves the rest. -/

theorem test_step_takes_front :
    (match step { wOpen with pending := [.keyUnlock .G 0xC0C5, .powerOnReset] } with
      | .next t => t.pending == [.powerOnReset] && t.unlockG
      | _ => false) = true := by decide +kernel

end Sys2Proof.Tests
end

