-- ==== Sys2Proof/Tests/Witnesses.lean ====
section
/-! SUPPORT. For every obligation with hypotheses, a theorem that shows for each of its clauses a concrete state and operands that meet all the
hypotheses of the clause together. The theorems are elaborated one after the other, since each asks the kernel to evaluate: side by side
they would wait for one another in as many threads. -/

set_option Elab.async false

namespace Sys2Proof.Tests.Access
open Sys2Proof.Machine

abbrev wRun : State := Sys2Proof.Tests.wRun.set R.RING_STATUS_BYPASS_OPEN 1
abbrev c : Port := .G
def wOvf : State := {wRun with ovf := [0x0E]}
def wSel : State := wRun.set R.PRISM_CH_SEL 768
def wSelB : State := wRun.set (R.BANK_TRIM_ADDR_SLICE 0x10) 33
def wUnl : State := {wRun with unlockG := true}
def wUnlOvf : State := {wUnl with ovf := [0x02]}
def wEv : State := (wRun.raise E.KEY_KEY_FAULT)
def wStg : State := {wRun with staged := [⟨0x0E, 0x0E040, 0xFF, 5⟩, ⟨0x0E, 0x0E040, 0x0F, 6⟩], snap := [(0x01048, 77)]}
def wHk : State := on (on wRun 0x90 1) 0x91 1
def wHkBusy : State := {wHk with hk := {wHk.hk with reg := .delay, inj := .delay}}
def wTime : State := on wRun 0x0C 1
def wNow : State := (on (on wRun 0x10 1) 7 1).set (R.BANK_CHi_POWER 0x10 3) 1
def wRot : State := {wNow with banks := wNow.banks.set 0 { wNow.bank 0 with rotating := true, queue := [9] } }
def wCoef : State := on (on wRun 0x28 1) 0x29 1
def wCrew : State := wRun.set (R.CREW_Ew 7 4095) 0xFFFF1234
def wSh : State := on (on wRun 0x70 1) 0x88 1
def wShFull : State := {wSh with sats := wSh.sats.set 0 { wSh.sat 0 with queue := List.range 64 |>.map (· + 1) }}
def eng0 (n : Nat) (last : Bool) (start extra : Nat) : Engine := ⟨0, 0, (List.range n).map Int.ofNat, last, false, start, extra, none⟩
def wEng : State := {wRun with time := {wRun.time with cr := 1000, cn := 1000}, engines := [(2, eng0 60 true (16 * 1000 - 4) 0)]}
def wEngE : State := {wRun with time := {wRun.time with cr := 1000, cn := 1000}, engines := [(2, eng0 4 false (16 * 1000 - 40) 0)]}
def wEngP : State := {wRun with time := {wRun.time with cr := 1000, cn := 1000}, engines := [(2, eng0 1 false (16 * 1000 - 3) 40)]}

theorem witness_ImmediateWritesActAtOnce :
    (∃ (s : State) (p : Port) (a : RegAddr), s.serves p (a.toNat) ∧ a.toNat % 4 = 0 ∧
      (pageType (a.toNat / 4096)).isSome = true ∧ 64 ≤ a.toNat % 4096 ∧ a.toNat % 4096 < 2048 ∧ ¬a.toNat ∈ ownRule ∧
      ((accMask (a.toNat) fun c => c == Acc.rwI) ≠ 0)) :=
  ⟨wRun, c, 0x88044, by unfold State.serves; decide +kernel⟩

theorem witness_BufferedWritesAreStaged :
    (∃ (s : State) (p : Port) (a : RegAddr) (sel : Nat), s.serves p (a.toNat) ∧ a.toNat % 4 = 0 ∧
      (pageType (a.toNat / 4096)).isSome = true ∧ 64 ≤ a.toNat % 4096 ∧ a.toNat % 4096 < 2048 ∧
      ¬(49536 ≤ a.toNat ∧ a.toNat < 49792) ∧ stagedBits (a.toNat) ≠ 0 ∧ hasAcc (a.toNat) Acc.rwK = false ∧
      s.selOf (a.toNat) = some sel ∧ ¬a.toNat / 4096 ∈ s.ovf ∧ (s.entries (a.toNat / 4096)).length < 64)
    ∧ (∃ (s : State) (p : Port) (a : RegAddr) (sel : Nat), s.serves p (a.toNat) ∧ a.toNat % 4 = 0 ∧
      (pageType (a.toNat / 4096)).isSome = true ∧ 64 ≤ a.toNat % 4096 ∧ a.toNat % 4096 < 2048 ∧
      ¬(49536 ≤ a.toNat ∧ a.toNat < 49792) ∧ stagedBits (a.toNat) ≠ 0 ∧ hasAcc (a.toNat) Acc.rwK = false ∧
      s.selOf (a.toNat) = some sel ∧ (a.toNat / 4096 ∈ s.ovf ∨ 64 ≤ (s.entries (a.toNat / 4096)).length)) :=
  ⟨⟨wRun, c, 0x0E040, 0, by unfold State.serves; decide +kernel⟩,
    ⟨wOvf, c, 0x0E040, 0, by unfold State.serves; decide +kernel⟩⟩

theorem witness_WritesThroughBadSelectorsAreRefused :
    (∃ (s : State) (p : Port) (a : RegAddr), s.serves p (a.toNat) ∧ a.toNat % 4 = 0 ∧
      (pageType (a.toNat / 4096)).isSome = true ∧ 64 ≤ a.toNat % 4096 ∧ a.toNat % 4096 < 2048 ∧
      accMask (a.toNat) accBuffered ≠ 0 ∧ s.selOf (a.toNat) = none ∧ 40 ≤ a.toNat / 4096)
    ∧ (∃ (s : State) (p : Port) (a : RegAddr), s.serves p (a.toNat) ∧ a.toNat % 4 = 0 ∧
      (pageType (a.toNat / 4096)).isSome = true ∧ 64 ≤ a.toNat % 4096 ∧ a.toNat % 4096 < 2048 ∧
      accMask (a.toNat) accBuffered ≠ 0 ∧ s.selOf (a.toNat) = none ∧ 40 ≤ a.toNat / 4096)
    ∧ (∃ (s : State) (p : Port) (a : RegAddr), s.serves p (a.toNat) ∧ a.toNat % 4 = 0 ∧
      (pageType (a.toNat / 4096)).isSome = true ∧ 64 ≤ a.toNat % 4096 ∧ a.toNat % 4096 < 2048 ∧
      accMask (a.toNat) accBuffered ≠ 0 ∧ s.selOf (a.toNat) = none ∧ a.toNat / 4096 < 40) :=
  ⟨⟨wSel, c, 0x28044, by unfold State.serves; decide +kernel⟩,
    ⟨wSel, c, 0x28044, by unfold State.serves; decide +kernel⟩,
    ⟨wSelB, c, 0x10154, by unfold State.serves; decide +kernel⟩⟩

theorem witness_TheKeyUnlocks :
    (∃ (s : State) (p : Port) (q : Port), s.serves p 4160 ∧ q ≠ p) :=
  ⟨wRun, c, Port.C, by unfold State.serves; decide +kernel⟩

theorem witness_WrongAndMissingKeysAreRefused :
    (∃ (s : State) (p : Port) (d : Word) (q : Port), s.serves p 4160 ∧ d ≠ 49349 ∧ q ≠ p)
    ∧ (∃ (s : State) (p : Port) (a : RegAddr) (sel : Nat), s.serves p (a.toNat) ∧ a.toNat % 4 = 0 ∧
      (pageType (a.toNat / 4096)).isSome = true ∧ 64 ≤ a.toNat % 4096 ∧ a.toNat % 4096 < 2048 ∧
      hasAcc (a.toNat) Acc.rwK = true ∧ s.selOf (a.toNat) = some sel ∧ s.unlocked p = false)
    ∧ (∃ (s : State) (p : Port) (pg : BitVec 8) (d : Word) (c : Instr), s.serves p (pg.toNat * 4096 + 8) ∧
      pageKeyed pg.toNat = true ∧ s.unlocked p = false ∧ BitVec.getLsbD d 1 = true ∧
      c ∈ [Instr.pageResetRequest p pg, Instr.regWrite p (BitVec.ofNat 20 (pg.toNat * 4096 + 8)) d])
    ∧ (∃ (s : State) (p : Port), s.serves p 4164) :=
  ⟨⟨wRun, c, 0xC0C6, Port.C, by unfold State.serves; decide +kernel⟩,
    ⟨wRun, c, 0x02050, 0, by unfold State.serves; decide +kernel⟩,
    ⟨wRun, c, 0x02, 3, Instr.pageResetRequest .G 2, by unfold State.serves; decide +kernel⟩,
    ⟨wRun, c, by unfold State.serves; decide +kernel⟩⟩

theorem witness_HeaderWritesAct :
    (∃ (s : State) (p : Port) (pg : BitVec 8), (pageType pg.toNat).isSome = true ∧ s.serves p (pg.toNat * 4096 + 24))
    ∧ (∃ (s : State) (p : Port) (pg : BitVec 8) (d : Word), (pageType pg.toNat).isSome = true ∧
      s.serves p (pg.toNat * 4096 + 8) ∧ BitVec.getLsbD d 1 = false ∧ ¬pg.toNat ∈ s.ovf ∧
      (s.entries pg.toNat).length < 64 ∧ (pg.toNat < 64 ∨ 74 ≤ pg.toNat))
    ∧ (∃ (s : State) (p : Port) (pg : BitVec 8) (d : Word), (pageType pg.toNat).isSome = true ∧
      s.serves p (pg.toNat * 4096 + 8) ∧ BitVec.getLsbD d 1 = false ∧
      (pg.toNat ∈ s.ovf ∨ 64 ≤ (s.entries pg.toNat).length) ∧ (pg.toNat < 64 ∨ 74 ≤ pg.toNat)) :=
  ⟨⟨wRun, c, 0x4A, by unfold State.serves; decide +kernel⟩,
    ⟨wRun, c, 0x4A, 0xABCD1234, by unfold State.serves; decide +kernel⟩,
    ⟨{wRun with ovf := [0x0E]}, c, 0x0E, 0xABCD1234, by unfold State.serves; decide +kernel⟩⟩

theorem witness_KeyedWritesNeedAnUnlock :
    (∃ (s : State) (p : Port) (a : RegAddr) (sel : Nat), s.serves p (a.toNat) ∧ a.toNat % 4 = 0 ∧
      (pageType (a.toNat / 4096)).isSome = true ∧ 64 ≤ a.toNat % 4096 ∧ a.toNat % 4096 < 2048 ∧
      hasAcc (a.toNat) Acc.rwK = true ∧ s.selOf (a.toNat) = some sel ∧ s.unlocked p = true ∧ ¬a.toNat / 4096 ∈ s.ovf ∧
      (s.entries (a.toNat / 4096)).length < 64)
    ∧ (∃ (s : State) (p : Port) (a : RegAddr) (sel : Nat), s.serves p (a.toNat) ∧ a.toNat % 4 = 0 ∧
      (pageType (a.toNat / 4096)).isSome = true ∧ 64 ≤ a.toNat % 4096 ∧ a.toNat % 4096 < 2048 ∧
      hasAcc (a.toNat) Acc.rwK = true ∧ s.selOf (a.toNat) = some sel ∧ s.unlocked p = true ∧
      (a.toNat / 4096 ∈ s.ovf ∨ 64 ≤ (s.entries (a.toNat / 4096)).length)) :=
  ⟨⟨wUnl, c, 0x00044, 0, by unfold State.serves; decide +kernel⟩,
    ⟨wUnlOvf, c, 0x02050, 0, by unfold State.serves; decide +kernel⟩⟩

theorem witness_EventsAreClearedBySequence :
    (∃ (s : State) (p : Port) (pg : BitVec 8) (d : Word), s.serves p (pg.toNat * 4096 + 20) ∧
      (pageType pg.toNat).isSome = true ∧ bits (s.rd (evtKey pg.toNat)) 16 16 = bits d 16 16)
    ∧ (∃ (s : State) (p : Port) (pg : BitVec 8) (d : Word), s.serves p (pg.toNat * 4096 + 20) ∧
      (pageType pg.toNat).isSome = true ∧ bits (s.rd (evtKey pg.toNat)) 16 16 ≠ bits d 16 16) :=
  ⟨⟨wEv, c, 1, 0x0001FFFF, by unfold State.serves; decide +kernel⟩,
    ⟨wEv, c, 1, 0x0000FFFF, by unfold State.serves; decide +kernel⟩⟩

theorem witness_CountersAreClearedByWrites :
    (∃ (s : State) (p : Port) (a : RegAddr), s.serves p (a.toNat) ∧ a.toNat % 4 = 0 ∧
      (pageType (a.toNat / 4096)).isSome = true ∧ 64 ≤ a.toNat % 4096 ∧ a.toNat % 4096 < 2048 ∧
      hasAcc (a.toNat) Acc.ctS = true ∧ xcvrAt (a.toNat - 108) = none)
    ∧ (∃ (s : State) (p : Port) (a : RegAddr), s.serves p (a.toNat) ∧ a.toNat % 4 = 0 ∧
      (pageType (a.toNat / 4096)).isSome = true ∧ 64 ≤ a.toNat % 4096 ∧ a.toNat % 4096 < 2048 ∧
      hasAcc (a.toNat) Acc.ctW = true) :=
  ⟨⟨wEv, c, 0x01048, by unfold State.serves; decide +kernel⟩,
    ⟨wEv, c, 0x30060, by unfold State.serves; decide +kernel⟩⟩

theorem witness_PageResetsAreRequested :
    (∃ (s : State) (p : Port) (pg : BitVec 8), s.serves p (pg.toNat * 4096 + 8) ∧ (pageType pg.toNat).isSome = true ∧
      pageKeyed pg.toNat = false ∧ ¬pg.toNat ∈ s.ovf ∧ (s.entries pg.toNat).length < 64 ∧
      (pg.toNat < 64 ∨ 74 ≤ pg.toNat)) :=
  ⟨wUnl, c, 0x0E, by unfold State.serves; decide +kernel⟩

theorem witness_KeyedResetsNeedAnUnlock :
    (∃ (s : State) (p : Port) (pg : BitVec 8), s.serves p (pg.toNat * 4096 + 8) ∧ (pageType pg.toNat).isSome = true ∧
      pageKeyed pg.toNat = true ∧ s.unlocked p = true ∧ ¬pg.toNat ∈ s.ovf ∧ (s.entries pg.toNat).length < 64) :=
  ⟨wUnl, c, 0x02, by unfold State.serves; decide +kernel⟩

theorem witness_ReadsAreCoherent :
    (∃ (s : State) (p : Port) (a : RegAddr), s.serves p (a.toNat) ∧ a.toNat % 4 = 0 ∧
      (pageType (a.toNat / 4096)).isSome = true ∧ a.toNat % 4096 < 2048 ∧ groupOf (a.toNat) = none)
    ∧ (∃ (s : State) (p : Port) (a : RegAddr), s.serves p (a.toNat) ∧
      ((pageType (a.toNat / 4096)).isNone = true ∨ a.toNat % 4 ≠ 0))
    ∧ (∃ (s : State) (p : Port) (a : RegAddr) (sel : Nat), s.serves p (a.toNat) ∧ a.toNat % 4 = 0 ∧
      (pageType (a.toNat / 4096)).isSome = true ∧ 2048 ≤ a.toNat % 4096 ∧
      (hasAcc (a.toNat - 2048) Acc.ctS || hasAcc (a.toNat - 2048) Acc.ctW) = false ∧
      accMask (a.toNat - 2048) accBuffered ≠ 0 ∧ s.selOf (a.toNat - 2048) = some sel)
    ∧ (∃ (s : State) (p : Port) (r : Fin 72), s.serves p (595328 + 8 * r.val))
    ∧ (∃ (s : State) (p : Port) (a : RegAddr) (g : List Nat) (b : Nat), s.serves p (a.toNat) ∧ a.toNat % 4 = 0 ∧
      (pageType (a.toNat / 4096)).isSome = true ∧ a.toNat % 4096 < 2048 ∧ groupOf (a.toNat) = some g ∧
      g.head? = some (a.toNat) ∧ ¬b ∈ g)
    ∧ (∃ (s : State) (p : Port) (a : RegAddr) (g : List Nat), s.serves p (a.toNat) ∧ a.toNat % 4 = 0 ∧
      (pageType (a.toNat / 4096)).isSome = true ∧ a.toNat % 4096 < 2048 ∧ groupOf (a.toNat) = some g ∧
      g.head? = some (a.toNat) ∧ a.toNat / 4096 ≠ 145)
    ∧ (∃ (s : State) (p : Port) (a : RegAddr) (g : List Nat), s.serves p (a.toNat) ∧ a.toNat % 4 = 0 ∧
      (pageType (a.toNat / 4096)).isSome = true ∧ a.toNat % 4096 < 2048 ∧ groupOf (a.toNat) = some g ∧
      g.head? ≠ some (a.toNat))
    ∧ (∃ (s : State) (p : Port) (a : RegAddr), s.serves p (a.toNat) ∧ a.toNat % 4 = 0 ∧
      (pageType (a.toNat / 4096)).isSome = true ∧ 2048 ≤ a.toNat % 4096 ∧
      (hasAcc (a.toNat - 2048) Acc.ctS || hasAcc (a.toNat - 2048) Acc.ctW) = true)
    ∧ (∃ (s : State) (p : Port) (a : RegAddr) (g : List Nat), s.serves p (a.toNat) ∧ a.toNat % 4 = 0 ∧
      (pageType (a.toNat / 4096)).isSome = true ∧ a.toNat % 4096 < 2048 ∧ groupOf (a.toNat) = some g ∧
      g.head? = some (a.toNat) ∧ a.toNat / 4096 = 145)
    ∧ (∃ (s : State) (p : Port) (a : RegAddr), s.serves p (a.toNat) ∧ a.toNat % 4 = 0 ∧
      (pageType (a.toNat / 4096)).isSome = true ∧ 2048 ≤ a.toNat % 4096 ∧
      (hasAcc (a.toNat - 2048) Acc.ctS || hasAcc (a.toNat - 2048) Acc.ctW) = false ∧
      accMask (a.toNat - 2048) accBuffered = 0) :=
  ⟨⟨wRun, c, 0x0E040, by unfold State.serves; decide +kernel⟩,
    ⟨wRun, c, 0xFF000, by unfold State.serves; decide +kernel⟩,
    ⟨wRun, c, 0x0E840, 0, by unfold State.serves; decide +kernel⟩,
    ⟨wRun, c, 0, by unfold State.serves; decide +kernel⟩,
    ⟨wStg, c, 0x0C040, [0x0C040, 0x0C044], 0, by unfold State.serves; decide +kernel⟩,
    ⟨wStg, c, 0x0C040, [0x0C040, 0x0C044], by unfold State.serves; decide +kernel⟩,
    ⟨wStg, c, 0x0C044, [0x0C040, 0x0C044], by unfold State.serves; decide +kernel⟩,
    ⟨wStg, c, 0x01848, by unfold State.serves; decide +kernel⟩,
    ⟨wStg, c, 0x91580, [0x91580, 0x91584], by unfold State.serves; decide +kernel⟩,
    ⟨wStg, c, 0x01800, by unfold State.serves; decide +kernel⟩⟩

theorem witness_GoBitsActAtOnce :
    (∃ (s : State) (p : Port), s.serves p 76)
    ∧ (∃ (s : State) (p : Port), s.serves p 589928 ∧ s.enabled 144 = true ∧ s.enabled 145 = true ∧ s.hk.reg = HkRun.idle)
    ∧ (∃ (s : State) (p : Port), s.serves p 589928 ∧ s.enabled 144 = true ∧ s.enabled 145 = true ∧ s.hk.inj = HkRun.idle)
    ∧ (∃ (s : State) (p : Port) (x : Xcvr), s.serves p (xcvrBase x + 92) ∧ hasRx x = true)
    ∧ (∃ (s : State) (p : Port) (n : Fin 8), s.serves p (49536 + 32 * n.val) ∧ ¬12 ∈ s.ovf ∧ (s.entries 12).length < 64)
    ∧ (∃ (s : State) (p : Port), s.serves p 589928 ∧ s.enabled 144 = true ∧ s.enabled 145 = true ∧ s.hk.reg ≠ HkRun.idle)
    ∧ (∃ (s : State) (p : Port), s.serves p 589928 ∧ s.enabled 144 = true ∧ s.enabled 145 = true ∧ s.hk.inj ≠ HkRun.idle) :=
  ⟨⟨wHk, c, by unfold State.serves; decide +kernel⟩,
    ⟨wHk, c, by unfold State.serves; decide +kernel⟩,
    ⟨wHk, c, by unfold State.serves; decide +kernel⟩,
    ⟨wHk, c, Xcvr.lane 5, by unfold State.serves; decide +kernel⟩,
    ⟨wHk, c, 3, by unfold State.serves; decide +kernel⟩,
    ⟨wHkBusy, c, by unfold State.serves; decide +kernel⟩,
    ⟨wHkBusy, c, by unfold State.serves; decide +kernel⟩⟩

theorem witness_CompareUnitsAreArmed :
    (∃ (s : State) (p : Port) (n : Fin 8) (d : Word), s.serves p (49408 + 16 * n.val) ∧
      (BitVec.getLsbD d 0 = false ∨ BitVec.getLsbD d 1 = false ∧ s.cnN < s.cmpTarget n.val ∨ s.enabled 12 = false))
    ∧ (∃ (s : State) (p : Port) (n : Fin 8) (d : Word), s.serves p (49408 + 16 * n.val) ∧ BitVec.getLsbD d 0 = true ∧
      BitVec.getLsbD d 1 = false ∧ BitVec.getLsbD d 2 = false ∧ s.cmpTarget n.val ≤ s.cnN ∧ s.enabled 12 = true) :=
  ⟨⟨wTime, c, 2, 0, by unfold State.serves; decide +kernel⟩,
    ⟨wTime, c, 2, 1, by unfold State.serves; decide +kernel⟩⟩

theorem witness_CalNowQueuesOrRefuses :
    (∃ (s : State) (p : Port) (d : Word) (b : Nat), s.serves p 28744 ∧ BitVec.getLsbD d 15 = true ∧ bits d 0 10 < 768 ∧
      ¬bits d 0 10 % 32 ∈ (s.bank (bits d 0 10 / 32)).queue ∧
      (s.bank (bits d 0 10 / 32)).queue.length < 4 ∧ s.flag (R.BANK_CHi_POWER (16 + bits d 0 10 / 32) (bits d 0 10 % 32)) = true ∧ (s.bank (bits d 0 10 / 32)).dead.getLsbD (bits d 0 10 % 32) = false ∧ (s.bank (bits d 0 10 / 32)).rotating = true ∧
      s.banks.length = 24 ∧ b ≠ bits d 0 10 / 32)
    ∧ (∃ (s : State) (p : Port) (d : Word), s.serves p 28744 ∧ BitVec.getLsbD d 15 = true ∧ bits d 0 10 < 768 ∧
      bits d 0 10 % 32 ∈ (s.bank (bits d 0 10 / 32)).queue)
    ∧ (∃ (s : State) (p : Port) (d : Word), s.serves p 28744 ∧ BitVec.getLsbD d 15 = true ∧
      (768 ≤ bits d 0 10 ∨ ¬bits d 0 10 % 32 ∈ (s.bank (bits d 0 10 / 32)).queue ∧ ¬((s.bank (bits d 0 10 / 32)).queue.length < 4 ∧ s.flag (R.BANK_CHi_POWER (16 + bits d 0 10 / 32) (bits d 0 10 % 32)) = true ∧ (s.bank (bits d 0 10 / 32)).dead.getLsbD (bits d 0 10 % 32) = false ∧ (s.bank (bits d 0 10 / 32)).rotating = true))) :=
  ⟨⟨wRot, c, 0x8003, 1, by unfold State.serves; decide +kernel⟩,
    ⟨wRot, c, 0x8009, by unfold State.serves; decide +kernel⟩,
    ⟨wRot, c, 0x8300, by unfold State.serves; decide +kernel⟩⟩

theorem witness_CoefficientsAreWrittenTapByTap :
    (∃ (s : State) (p : Port), s.serves p 168008 ∧ s.profState (s.get R.PCOEF_PSEL) = 0 ∧ s.enabled 41 = true)
    ∧ (∃ (s : State) (p : Port), s.serves p 168008 ∧ (s.profState (s.get R.PCOEF_PSEL) ≠ 0 ∨ s.enabled 41 = false)) :=
  ⟨⟨wCoef, c, by unfold State.serves; decide +kernel⟩,
    ⟨wRun, c, by unfold State.serves; decide +kernel⟩⟩

theorem witness_CreditsAddAndSaturate :
    (∃ (s : State) (p : Port) (d : Word), s.serves p 262248 ∧ s.crewCredits (bits d 0 12) + bits d 16 16 ≤ 65535)
    ∧ (∃ (s : State) (p : Port) (d : Word), s.serves p 262248 ∧ 65535 < s.crewCredits (bits d 0 12) + bits d 16 16) :=
  ⟨⟨wRun, c, 0xFFFF0FFF, by unfold State.serves; decide +kernel⟩,
    ⟨wCrew, c, 0xFFFF0FFF, by unfold State.serves; decide +kernel⟩⟩

theorem witness_ShadowWordsAreWrittenAndForgotten :
    (∃ (s : State) (p : Port), s.sats.length = 16 ∧ s.serves p 557128 ∧
      (s.get R.SHADOW_ADDR ∈ (s.sat (s.get R.SHADOW_PORT_SEL)).queue ∨ (s.sat (s.get R.SHADOW_PORT_SEL)).queue.length ≠ 64))
    ∧ (∃ (s : State) (p : Port), s.sats.length = 16 ∧ s.serves p 557132)
    ∧ (∃ (s : State) (p : Port), s.sats.length = 16 ∧ s.serves p 557128 ∧
      ¬s.get R.SHADOW_ADDR ∈ (s.sat (s.get R.SHADOW_PORT_SEL)).queue ∧
      (s.sat (s.get R.SHADOW_PORT_SEL)).queue.length = 64) :=
  ⟨⟨wSh, c, by unfold State.serves; decide +kernel⟩,
    ⟨wSh, c, by unfold State.serves; decide +kernel⟩,
    ⟨wShFull, c, by unfold State.serves; decide +kernel⟩⟩

theorem witness_FlushEndsTheBlocks :
    (∃ (s : State) (p : Port) (i : Nat), s.serves p 233536 ∧ s.engines.sorted = true ∧ s.engines.find? i = none)
    ∧ (∃ (s : State) (p : Port) (g : Engine) (i : Nat), s.serves p 233536 ∧ s.engines.sorted = true ∧
      s.engines.find? i = some g ∧ g.start ≤ s.lensClock.1 ∧
      consumed 0 (State.eaten g s.lensClock.1) g.elems < g.elems.length)
    ∧ (∃ (s : State) (p : Port) (i : Nat) (g : Engine), s.serves p 233536 ∧ s.engines.sorted = true ∧ s.engines = [(i, g)] ∧
      g.start ≤ s.lensClock.1 ∧ consumed 0 (State.eaten g s.lensClock.1) g.elems < g.elems.length)
    ∧ (∃ (s : State) (p : Port) (g : Engine) (i : Nat), s.serves p 233536 ∧ s.engines.sorted = true ∧
      s.engines.find? i = some g ∧ g.elems.length ≤ consumed 0 (State.eaten g s.lensClock.1) g.elems ∧
      (g.last = true ∨ (prepared 0 g.elems).length ≤ State.eaten g s.lensClock.1))
    ∧ (∃ (s : State) (p : Port) (g : Engine) (i : Nat), s.serves p 233536 ∧ s.engines.sorted = true ∧
      s.engines.find? i = some g ∧ g.start ≤ s.lensClock.1 ∧
      g.elems.length ≤ consumed 0 (State.eaten g s.lensClock.1) g.elems ∧ g.last = false ∧
      State.eaten g s.lensClock.1 < (prepared 0 g.elems).length) :=
  ⟨⟨wEng, c, 3, by unfold State.serves; decide +kernel⟩,
    ⟨wEng, c, eng0 60 true (16 * 1000 - 4) 0, 2, by unfold State.serves; decide +kernel, by decide +kernel, by decide +kernel, of_lens (P := fun now => (eng0 60 true (16 * 1000 - 4) 0).start ≤ now) (by decide +kernel), of_lens (P := fun now => consumed 0 (State.eaten (eng0 60 true (16 * 1000 - 4) 0) now) (eng0 60 true (16 * 1000 - 4) 0).elems < (eng0 60 true (16 * 1000 - 4) 0).elems.length) (by decide +kernel)⟩,
    ⟨wEng, c, 2, eng0 60 true (16 * 1000 - 4) 0, by unfold State.serves; decide +kernel, by decide +kernel, by decide +kernel, of_lens (P := fun now => (eng0 60 true (16 * 1000 - 4) 0).start ≤ now) (by decide +kernel), of_lens (P := fun now => consumed 0 (State.eaten (eng0 60 true (16 * 1000 - 4) 0) now) (eng0 60 true (16 * 1000 - 4) 0).elems < (eng0 60 true (16 * 1000 - 4) 0).elems.length) (by decide +kernel)⟩,
    ⟨wEngE, c, eng0 4 false (16 * 1000 - 40) 0, 2, by unfold State.serves; decide +kernel, by decide +kernel, by decide +kernel, of_lens (P := fun now => (eng0 4 false (16 * 1000 - 40) 0).elems.length ≤ consumed 0 (State.eaten (eng0 4 false (16 * 1000 - 40) 0) now) (eng0 4 false (16 * 1000 - 40) 0).elems) (by decide +kernel), of_lens (P := fun now => (eng0 4 false (16 * 1000 - 40) 0).last = true ∨ (prepared 0 (eng0 4 false (16 * 1000 - 40) 0).elems).length ≤ State.eaten (eng0 4 false (16 * 1000 - 40) 0) now) (by decide +kernel)⟩,
    ⟨wEngP, c, eng0 1 false (16 * 1000 - 3) 40, 2, by unfold State.serves; decide +kernel, by decide +kernel, by decide +kernel, of_lens (P := fun now => (eng0 1 false (16 * 1000 - 3) 40).start ≤ now) (by decide +kernel), of_lens (P := fun now => (eng0 1 false (16 * 1000 - 3) 40).elems.length ≤ consumed 0 (State.eaten (eng0 1 false (16 * 1000 - 3) 40) now) (eng0 1 false (16 * 1000 - 3) 40).elems) (by decide +kernel), by decide +kernel, of_lens (P := fun now => State.eaten (eng0 1 false (16 * 1000 - 3) 40) now < (prepared 0 (eng0 1 false (16 * 1000 - 3) 40).elems).length) (by decide +kernel)⟩⟩

end Sys2Proof.Tests.Access

namespace Sys2Proof.Tests.Pace
open Sys2Proof.Machine

def noGap : Gap := ⟨none, none⟩
def up (s : State) (a b : Gap) : State := {s with pace := {s.pace with gapA := a, gapB := b, outGap := noGap}}
def wP : State := up (on wRun 0x0E 1) noGap wRun.pace.gapB
def wP2 : State := up (on (on (on wRun 0x0E 1) 0x0F 1) 0x0C 1) noGap noGap
def goneA (s : State) : State := {s with pace := {s.pace with outGap := ⟨some 0, none⟩}}
def errs (s : State) (xb : Nat) : State := {s with rxErr := [(xb, List.replicate 16 s.time.cr)]}
def wHold : State := (wP2.set R.PACEA_RUN_HOLD 1).set R.PACEA_RUN_ACTIVE 1
def wOutA : State := goneA (wRun.setPstate 0x0E 4)
def wMoor2 : State := wP2.set R.TIME_STATUS_MOORED 1
def wPrun : State := wP.set R.PACEA_RUN_ACTIVE 1
def wErrB : State := errs wP2 0xF1C0
def wMoB : State := errs wMoor2 0xF1C0
def wAcc : State := ((on wP2 0x30 1).set R.PACEA_RUN_ACTIVE 1).set R.ACQ_LATENCY 900
def wLast : State := {wP2 with pace := {wP2.pace with lastReq := some (7, [1,2,3])}}
def wSync : State := on wP2 0x0D 1
def wEx : Exchange := { lane := .A, t1 := 1000000, t2 := 2000000, coasted := false, stroke := 0, t3 := none, seq := 0, reqCr := 0 }
def wExch : State := {wSync with time := {wSync.time with exch := some wEx, catches := 1, cr := 22, lastCatch := 6, ns32 := 12345678901234, sec := 5, sub := 1234567890}}
def wEx3 : Exchange := { wEx with t3 := some 3000000, seq := 9 }
def wExch3 : State := {wSync with time := {wSync.time with exch := some wEx3, cr := 20000}}
def wExNo : State := (wExch3.set R.SYNC_CTL_SERVO_EN 0).set R.SYNC_CTL_ALIGN_EN 0
def wAnn : State := {(on wP2 0x08 1) with time := {wP2.time with cn := 1280, resync := .waiting}}
def wAnnI : State := {(wAnn.set R.PACEA_RUN_HOLD 1).set R.CLK_STATUS_ACTIVE_SRC 0 with time := {wP2.time with cn := 0x500 + BitVec.ofNat 64 (wAnn.get R.SYNC_ALIGN_K + 2), resync := .idle}}
def wAnnW : State := {wAnnI with time := {wAnnI.time with resync := .waiting}}
def wAnnN : State := {wAnnI with time := {wAnnI.time with resync := .named 0x900 0xB00}}
def wOrb : State := wP.set R.TIME_ORBIT_POS 10

theorem witness_FastCommandsTakeEffect :
    (∃ (s : State) (a : LaneCopy) (b : LaneCopy), s.commandsArrive = true ∧
      ((s.delivers fun l => onLane l a b == LaneCopy.good) = true) ∧ s.flag R.PACEA_RUN_HOLD = false)
    ∧ (∃ (s : State) (a : LaneCopy) (b : LaneCopy), s.commandsArrive = true ∧
      ((s.delivers fun l => onLane l a b == LaneCopy.good) = true) ∧ s.flag R.PACEA_RUN_HOLD = true) :=
  ⟨⟨wP, .good, .absent, by decide +kernel⟩,
    ⟨wHold, .bad, .good, by decide +kernel⟩⟩

theorem witness_BadFastCommandsAreDiscarded :
    (∃ (s : State) (a : Option (Byte × Byte)) (b : Option (Byte × Byte)), s.commandsArrive = true ∧
      ((s.delivers fun l => Option.any (fun p => cmdOk p.1 p.snd) (onLane l a b)) = false))
    ∧ (∃ (s : State) (a : Option (Byte × Byte)) (b : Option (Byte × Byte)), s.commandsArrive = true ∧
      ((s.delivers fun l => l == s.dataLane && Option.any (fun p => cmdOk p.1 p.snd) (onLane l a b)) = false) ∧
      s.whole s.dataLane.other = true ∧ onLane s.dataLane.other a b = some (0, 255)) :=
  ⟨⟨wP2, some (0xFF, 0), some (0,0), by decide +kernel⟩,
    ⟨wP2, some (0xFF, 0), some (0,0xFF), by decide +kernel⟩⟩

theorem witness_ControlFramesAreCheckedAndShown :
    (∃ (s : State) (l : PaceLane), s.alive = true ∧ s.laneUp l = true) :=
  ⟨wP2, PaceLane.B, by decide +kernel⟩

theorem witness_PaceLanesComeUp :
    (∃ (s : State) (l : PaceLane), s.alive = true ∧ s.pstate l.page = 2)
    ∧ (∃ (s : State) (l : PaceLane), s.alive = true ∧ s.pstate l.page = 3)
    ∧ (∃ (s : State) (l : PaceLane), s.alive = true ∧ s.pstate l.page = 4 ∧ s.outage = false)
    ∧ (∃ (s : State) (l : PaceLane), s.alive = true ∧ s.pstate l.page = 4 ∧ s.outage = true ∧ l = s.dataLane ∧
      s.inTest (l.page * 4096 + 448) = false) :=
  ⟨⟨wRun.setPstate 0x0E 2, PaceLane.A, by decide +kernel⟩,
    ⟨wRun.setPstate 0x0F 3, PaceLane.B, by decide +kernel⟩,
    ⟨wRun.setPstate 0x0F 4, PaceLane.B, by decide +kernel⟩,
    ⟨wOutA, PaceLane.A, by decide +kernel⟩⟩

theorem witness_PaceLanesGoDown :
    (∃ (s : State) (l : PaceLane) (cause : DownCause), s.alive = true ∧ (s.pstate l.page = 1 ∨ s.pstate l.page = 4) ∧
      (cause = DownCause.codeErrors → s.sixteenErrors (l.page * 4096 + 448) = true) ∧ l = s.dataLane ∧
      s.usable l.other = true)
    ∧ (∃ (s : State) (l : PaceLane) (cause : DownCause), s.alive = true ∧ (s.pstate l.page = 1 ∨ s.pstate l.page = 4) ∧
      (cause = DownCause.codeErrors → s.sixteenErrors (l.page * 4096 + 448) = true) ∧
      (l ≠ s.dataLane ∨ s.usable l.other = true))
    ∧ (∃ (s : State) (l : PaceLane) (cause : DownCause), s.alive = true ∧ (s.pstate l.page = 1 ∨ s.pstate l.page = 4) ∧
      (cause = DownCause.codeErrors → s.sixteenErrors (l.page * 4096 + 448) = true) ∧ cause = DownCause.commas)
    ∧ (∃ (s : State) (l : PaceLane) (cause : DownCause), s.alive = true ∧ (s.pstate l.page = 1 ∨ s.pstate l.page = 4) ∧
      (cause = DownCause.codeErrors → s.sixteenErrors (l.page * 4096 + 448) = true) ∧ l = s.dataLane ∧
      s.usable l.other = false ∧ s.outage = false ∧ s.moored = false ∧ s.running = true)
    ∧ (∃ (s : State) (l : PaceLane) (cause : DownCause), s.alive = true ∧ (s.pstate l.page = 1 ∨ s.pstate l.page = 4) ∧
      (cause = DownCause.codeErrors → s.sixteenErrors (l.page * 4096 + 448) = true) ∧ l ≠ s.dataLane ∧ s.moored = false)
    ∧ (∃ (s : State) (l : PaceLane) (cause : DownCause), s.alive = true ∧ (s.pstate l.page = 1 ∨ s.pstate l.page = 4) ∧
      (cause = DownCause.codeErrors → s.sixteenErrors (l.page * 4096 + 448) = true) ∧ l ≠ s.dataLane ∧ s.moored = true) :=
  ⟨⟨wP2, PaceLane.A, DownCause.commas, by decide +kernel⟩,
    ⟨wP2, PaceLane.A, DownCause.commas, by decide +kernel⟩,
    ⟨wP2, PaceLane.A, DownCause.commas, by decide +kernel⟩,
    ⟨wPrun, PaceLane.A, DownCause.lossOfSignal, by decide +kernel⟩,
    ⟨wErrB, PaceLane.B, DownCause.codeErrors, by decide +kernel⟩,
    ⟨wMoB, PaceLane.B, DownCause.codeErrors, by decide +kernel⟩⟩

theorem witness_AcceptsJoinTheQueue :
    (∃ (s : State) (a : Option Byte) (b : Option Byte) (w : Byte), s.commandsArrive = true ∧ noStarts s ∧
      triggerByte s a b w ∧ trigAccept w = true ∧ s.running = true ∧ s.flag R.PACEA_RUN_HOLD = false ∧
      s.enabled 48 = true ∧ s.flag R.ACQ_STATUS_REACH_HOLD = false ∧ s.accQ.length < 256) :=
  ⟨wAcc, some 0xA8, none, 0xA8, by unfold triggerByte noStarts; decide +kernel⟩

theorem witness_OtherTriggerBytes :
    (∃ (s : State) (a : Option Byte) (b : Option Byte) (w : Byte), s.commandsArrive = true ∧ noStarts s ∧
      triggerByte s a b w ∧ trigAccept w = false)
    ∧ (∃ (s : State) (a : Option Byte) (b : Option Byte) (w : Byte), s.commandsArrive = true ∧ noStarts s ∧
      triggerByte s a b w ∧ trigAccept w = true ∧ s.running = false)
    ∧ (∃ (s : State) (a : Option Byte) (b : Option Byte) (w : Byte), s.commandsArrive = true ∧ noStarts s ∧
      triggerByte s a b w ∧ trigAccept w = true ∧ s.running = true ∧ s.flag R.PACEA_RUN_HOLD = true)
    ∧ (∃ (s : State) (a : Option Byte) (b : Option Byte), s.commandsArrive = true ∧ noStarts s ∧
      ((s.delivers fun l => Option.any trigValid (onLane l a b)) = false))
    ∧ (∃ (s : State) (a : Option Byte) (b : Option Byte) (w : Byte), s.commandsArrive = true ∧ noStarts s ∧
      triggerByte s a b w ∧ trigAccept w = true ∧ s.running = true ∧ s.flag R.PACEA_RUN_HOLD = false ∧
      (s.enabled 48 = false ∨ s.flag R.ACQ_STATUS_REACH_HOLD = true ∨ 256 ≤ s.accQ.length) ∧ s.enabled 48 = true ∧
      s.flag R.ACQ_STATUS_REACH_HOLD = false) :=
  ⟨⟨wAcc, some 0x01, none, 0x01, by unfold triggerByte noStarts; decide +kernel⟩,
    ⟨wP2, some 0xA8, none, 0xA8, by unfold triggerByte noStarts; decide +kernel⟩,
    ⟨wHold, some 0xA9, some 0xA8, 0xA8, by unfold triggerByte noStarts; decide +kernel⟩,
    ⟨wHold, some 0xA9, some 0xA9, by unfold noStarts; decide +kernel⟩,
    ⟨{wAcc with accQ := List.replicate 256 noEntry}, some 0xA8, none, 0xA8, by unfold triggerByte noStarts; decide +kernel⟩⟩

theorem witness_PaceRequestsAreAnswered :
    (∃ (s : State) (seq : Byte) (a : RegAddr), s.controlArrives = true ∧ s.serves Port.C (a.toNat) ∧
      (Option.all (fun r => r.1 != seq) s.pace.lastReq = true) ∧ ¬(49408 ≤ a.toNat ∧ a.toNat < 49536))
    ∧ (∃ (s : State) (seq : Byte) (a : RegAddr) (bytes : List Byte), s.controlArrives = true ∧ s.serves Port.C (a.toNat) ∧
      s.pace.lastReq = some (seq, bytes)) :=
  ⟨⟨wP2, 7, 0x0E040, by unfold State.serves; decide +kernel⟩,
    ⟨wLast, 7, 0x0C100, [1,2,3], by unfold State.serves; decide +kernel⟩⟩

theorem witness_ExchangesOpenAndTimeOut :
    (∃ (s : State), s.alive = true ∧ s.dataUp = true ∧ s.enabled 13 = true ∧ s.moored = false ∧
      s.get R.SYNC_CTL_STAMP_MODE = 0)
    ∧ (∃ (s : State) (e : Exchange), s.alive = true ∧ s.time.exch = some e ∧ e.t3 = none ∧ e.stroke < s.time.catches ∧
      s.time.cr = s.time.lastCatch + s.get R.SYNC_CTL_REQ_OFFSET ∧ s.moored = false ∧ s.get R.SYNC_CTL_STAMP_MODE = 0)
    ∧ (∃ (s : State) (e : Exchange), s.alive = true ∧ s.time.exch = some e ∧ e.t3 ≠ none ∧ e.reqCr + 64 * 256 ≤ s.time.cr) :=
  ⟨⟨wSync, by decide +kernel⟩,
    ⟨wExch, wEx, by decide +kernel⟩,
    ⟨wExch3, wEx3, by decide +kernel⟩⟩

theorem witness_DelayRespCompletesTheExchange :
    (∃ (s : State) (e : Exchange) (t3 : Int) (t4 : TimeStamp), s.dataUp = true ∧ s.moored = false ∧ s.time.exch = some e ∧
      e.t3 = some t3 ∧ e.coasted = false ∧ e.lane = s.dataLane ∧ s.flag R.SYNC_CTL_SERVO_EN = false ∧
      s.flag R.SYNC_CTL_ALIGN_EN = false ∧
      -2 ^ 31 ≤ (e.t2 - e.t1 - s.geti (R.SYNC_ASYMp e.lane.idx) - (stamp16 t4 - t3 + s.geti (R.SYNC_ASYMp e.lane.idx))) / 2 ∧
      (e.t2 - e.t1 - s.geti (R.SYNC_ASYMp e.lane.idx) - (stamp16 t4 - t3 + s.geti (R.SYNC_ASYMp e.lane.idx))) / 2 < 2 ^ 31)
    ∧ (∃ (s : State) (e : Exchange) (t3 : Int) (t4 : TimeStamp), s.dataUp = true ∧ s.moored = false ∧ s.time.exch = some e ∧
      e.t3 = some t3 ∧ e.coasted = false ∧ e.lane = s.dataLane ∧ s.flag R.SYNC_CTL_SERVO_EN = false ∧
      s.flag R.SYNC_CTL_ALIGN_EN = false ∧
      0 ≤ (e.t2 - e.t1 - s.geti (R.SYNC_ASYMp e.lane.idx) + (stamp16 t4 - t3 + s.geti (R.SYNC_ASYMp e.lane.idx))) / 2 ∧
      (e.t2 - e.t1 - s.geti (R.SYNC_ASYMp e.lane.idx) + (stamp16 t4 - t3 + s.geti (R.SYNC_ASYMp e.lane.idx))) / 2 < 2 ^ 32) :=
  ⟨⟨wExNo, wEx3, 3000000, ⟨0,0x3000,7⟩, by decide +kernel⟩,
    ⟨wExNo, wEx3, 3000000, ⟨0,0x3000,7⟩, by decide +kernel⟩⟩

theorem witness_AnnouncementsAreJudged :
    (∃ (s : State) (c : BitVec 64) (inSlot : Bool), s.dataUp = true ∧ s.moored = false ∧
      (inSlot = false ∨ c.toNat % 256 ≠ 0))
    ∧ (∃ (s : State) (c : BitVec 64), s.dataUp = true ∧ s.moored = false ∧ c.toNat % 256 = 0 ∧ s.time.wake = none ∧
      s.time.resync = Resync.waiting ∧
      (s.lockedToPace = false ∨ s.time.cn - BitVec.ofNat 64 (s.get R.SYNC_ALIGN_K + 2) + 1024 = c))
    ∧ (∃ (s : State) (c : BitVec 64), s.dataUp = true ∧ s.moored = false ∧ c.toNat % 256 = 0 ∧ s.time.wake = none ∧
      s.time.resync = Resync.idle ∧ s.lockedToPace = true ∧
      s.time.cn - BitVec.ofNat 64 (s.get R.SYNC_ALIGN_K + 2) + 1024 ≠ c)
    ∧ (∃ (s : State) (c : BitVec 64), s.dataUp = true ∧ s.moored = false ∧ c.toNat % 256 = 0 ∧ s.time.wake = none ∧
      s.time.resync = Resync.idle ∧ s.lockedToPace = true ∧
      s.time.cn - BitVec.ofNat 64 (s.get R.SYNC_ALIGN_K + 2) + 1024 = c ∧ s.flag R.PACEA_RUN_HOLD = true)
    ∧ (∃ (s : State) (c : BitVec 64), s.dataUp = true ∧ s.moored = false ∧ c.toNat % 256 = 0 ∧ s.time.wake = none ∧
      s.time.resync = Resync.waiting ∧ s.lockedToPace = true ∧
      s.time.cn - BitVec.ofNat 64 (s.get R.SYNC_ALIGN_K + 2) + 1024 ≠ c)
    ∧ (∃ (s : State) (c : BitVec 64) (n : BitVec 64) (c' : BitVec 64), s.dataUp = true ∧ s.moored = false ∧
      c.toNat % 256 = 0 ∧ s.time.wake = none ∧ s.time.resync = Resync.named n c' ∧ s.lockedToPace = true ∧
      s.time.cn - BitVec.ofNat 64 (s.get R.SYNC_ALIGN_K + 2) + 1024 ≠ c ∧
      s.ownAt (s.time.cn - BitVec.ofNat 64 (s.get R.SYNC_ALIGN_K + 2) + 1024) ≠ c) :=
  ⟨⟨wAnn, 0x800, false, by decide +kernel⟩,
    ⟨wAnn, 0x800, by decide +kernel⟩,
    ⟨wAnnI, 0x800, by decide +kernel⟩,
    ⟨wAnnI, 0x900, by decide +kernel⟩,
    ⟨wAnnW, 0xA00, by decide +kernel⟩,
    ⟨wAnnN, 0xA00, 0x900, 0xB00, by decide +kernel⟩⟩

theorem witness_OrbitStartCommasAreChecked :
    (∃ (s : State) (l : PaceLane), s.alive = true ∧ l = s.dataLane ∧ (s.pstate l.page = 1 ∨ s.pstate l.page = 4) ∧
      s.time.orbitReset = false ∧
      (↑(s.get R.TIME_ORBIT_POS) - ↑(s.get R.SYNC_ALIGN_K)) % ↑(max 1 (s.get R.TIME_ORBIT_LEN)) ≠ 0)
    ∧ (∃ (s : State) (l : PaceLane), s.alive = true ∧ l = s.dataLane ∧ (s.pstate l.page = 1 ∨ s.pstate l.page = 4) ∧
      s.time.orbitReset = true) :=
  ⟨⟨wOrb, PaceLane.A, by decide +kernel⟩,
    ⟨{wOrb with time := {wOrb.time with orbitReset := true}}, PaceLane.A, by decide +kernel⟩⟩

end Sys2Proof.Tests.Pace

namespace Sys2Proof.Tests.Time
open Sys2Proof.Machine

def wT : State := {on wRun 0x0C 1 with time := {wRun.time with cr := 5, cn := 511, catchDue := false, alignTgt := 500, sec := 3, sub := secondSub - 5}}
def wC : State := {on wRun 0x0C 1 with staged := [⟨0x0C, 0x0C044, 1, 1⟩], ovf := [3], unlockC := true, unlockG := true, snapReq := true, time := {wRun.time with cr := 512, cn := 512, catchDue := true, step := some 100}, pace := {wRun.pace with runCmd := some true, moorCmd := some false}}
def wCe : State := {on wC 0x05 1 with staged := [⟨0x0C, 0x0C044, 1, 1⟩, ⟨5, 0x05040, 0xFF, 0x81⟩]}
def wFr : State := {wC with time := {wC.time with catchDue := false, cn := 700, resync := .named 700 0x10000}}
def wCmp : State := {((on wRun 0x0C 1).set (R.TIME_CMPn_CTL_ARM 7) 1).set (R.TIME_CMPn_TARGET_LO 7) 300 with time := {wRun.time with cn := 300, cr := 300}}
def wCmpR : State := (wCmp.set (R.TIME_CMPn_CTL_REPEAT 7) 1).set (R.TIME_CMPn_PERIOD 7) 100
def wFir : Firing := ⟨3, 4, [9, 8, 9]⟩
def wEvm : State := {(((on wRun 5 1).set (R.EVM_TASK_SELn_EN_A 0) 1).set (R.EVM_TASK_SELn_SRC_A 0) 9) with evmq := [wFir, wFir]}
def wEvm2 : State := ((wEvm.set (R.EVM_TASK_SELn_EN_B 0) 1).set (R.EVM_TASK_SELn_SRC_B 0) 8)
def wClk : State := {on wRun 0x08 1 with clk := {wRun.clk with xoStable := true, gates := [0,0,1]}}
def wClkP : State := wClk.set R.CLK_STATUS_ACTIVE_SRC 0
def wClkX : State := wClk.set R.CLK_STATUS_ACTIVE_SRC 3
def wUnfA : State := {on wClkX 0x02 tcuUnfit with phase := .running, fired := [(1,1)], accQ := []}

theorem witness_ACrossingTickCountsTheCrossing :
    (∃ (s : State), s.alive = true ∧ s.time.catchDue = false ∧ s.resyncDue = false ∧ s.arbC = [] ∧ s.arbG = []) :=
  ⟨wT, by decide +kernel⟩

theorem witness_ACatchEndsTheStroke :
    (∃ (s : State) (k : Nat), s.alive = true ∧ s.time.catchDue = true ∧ s.arbC = [] ∧ s.arbG = [] ∧ ¬5 ∈ s.ovf ∧
      s.resetAsked 5 = false ∧ k / 4096 = 5 ∧ 64 ≤ k % 4096) :=
  ⟨wCe, 0x05040, by decide +kernel⟩

theorem witness_AFullResyncSetsCn :
    (∃ (s : State) (c : BitVec 64), s.alive = true ∧ s.time.resync = Resync.named s.time.cn c ∧ s.arbC = [] ∧ s.arbG = []) :=
  ⟨wFr, 0x10000, by decide +kernel⟩

theorem witness_CompareUnitsFire :
    (∃ (s : State) (n : Fin 8), s.alive = true ∧ s.enabled 12 = true ∧ s.flag (R.TIME_CMPn_CTL_ARM n.val) = true ∧
      s.get (R.TIME_CMPn_CTL_MODE n.val) = 0 ∧ s.cmpTarget n.val = s.cnN ∧
      (s.flag (R.TIME_CMPn_CTL_REPEAT n.val) = false ∨ s.get (R.TIME_CMPn_PERIOD n.val) = 0))
    ∧ (∃ (s : State) (n : Fin 8), s.alive = true ∧ s.enabled 12 = true ∧ s.flag (R.TIME_CMPn_CTL_ARM n.val) = true ∧
      s.get (R.TIME_CMPn_CTL_MODE n.val) = 0 ∧ s.cmpTarget n.val = s.cnN ∧
      s.flag (R.TIME_CMPn_CTL_REPEAT n.val) = true ∧ s.get (R.TIME_CMPn_PERIOD n.val) ≠ 0) :=
  ⟨⟨wCmp, 7, by decide +kernel⟩,
    ⟨wCmpR, 7, by decide +kernel⟩⟩

theorem witness_FiringsReachTheirTasks :
    (∃ (s : State) (f : Firing) (q : List Firing), s.evmq = f :: q ∧
      (∀ (n : Nat), n < 64 → 0 < n → ∀ (src : Nat), src ∈ f.srcs → s.taskSelects n src = false) ∧
      (List.filter (s.taskSelects 0) f.srcs.eraseDups).length ≤ 1)
    ∧ (∃ (s : State) (f : Firing) (q : List Firing), s.evmq = f :: q ∧
      (∀ (n : Nat), n < 64 → 0 < n → ∀ (src : Nat), src ∈ f.srcs → s.taskSelects n src = false) ∧
      1 < (List.filter (s.taskSelects 0) f.srcs.eraseDups).length) :=
  ⟨⟨wEvm, wFir, [wFir], by decide +kernel⟩,
    ⟨wEvm2, wFir, [wFir], by decide +kernel⟩⟩

theorem witness_FrequencyGatesAreJudged :
    (∃ (s : State) (c : GateCount), s.alive = true ∧ s.clk.xoStable = true ∧ s.clk.gates.length = 3 ∧
      (c.good = false ∨ s.inBand (c.count.toNat * 800000) = false))
    ∧ (∃ (s : State) (c : GateCount), s.alive = true ∧ s.clk.xoStable = true ∧ s.clk.gates.length = 3 ∧ c.good = true ∧
      s.inBand (c.count.toNat * 800000) = true ∧ (s.clk.gates[2]? = some 1 ∨ s.clk.gates[2]? = some 2)) :=
  ⟨⟨wClk, ⟨50,true⟩, by decide +kernel⟩,
    ⟨wClk, ⟨80000,true⟩, by decide +kernel⟩⟩

theorem witness_LostSourcesCoast :
    (∃ (s : State) (cause : BitVec 3), s.alive = true ∧ s.moored = false ∧ s.sourceInUse = true ∧
      (s.get R.CLK_STATUS_ACTIVE_SRC < 2 ∧ cause ∈ [1, 2, 4, 7] ∨ s.get R.CLK_STATUS_ACTIVE_SRC = 2 ∧ cause ∈ [3, 4] ∨ s.get R.CLK_STATUS_ACTIVE_SRC = 3 ∧ cause = 4))
    ∧ (∃ (s : State), s.alive = true ∧ s.moored = false ∧ s.clk.xoStable = true ∧ s.get R.CLK_STATUS_ACTIVE_SRC ≠ 3)
    ∧ (∃ (s : State), s.alive = true ∧ s.moored = false ∧ s.clk.xoStable = true ∧ s.get R.CLK_STATUS_ACTIVE_SRC = 3 ∧
      s.sourceInUse = true) :=
  ⟨⟨wClkP, 7, by decide +kernel⟩,
    ⟨wClkP, by decide +kernel⟩,
    ⟨wClkX, by decide +kernel⟩⟩

theorem witness_TheClockComesBack :
    (∃ (s : State), s.alive = true ∧ s.moored = false ∧ s.pstate 8 = 3)
    ∧ (∃ (s : State), s.alive = true ∧ s.moored = false ∧ s.pstate 8 = 4)
    ∧ (∃ (s : State), s.alive = true ∧ s.moored = false ∧ s.pstate 8 ≠ 3 ∧ s.clk.moving = true ∧ s.clk.moveEnd = none) :=
  ⟨⟨wClkX.setPstate 0x08 3, by decide +kernel⟩,
    ⟨wClkX.setPstate 0x08 4, by decide +kernel⟩,
    ⟨{wClkX.setPstate 0x08 2 with clk := {wClk.clk with moving := true}}, by decide +kernel⟩⟩

theorem witness_PowerUpRunsItsCourse :
    (∃ (k : Nat), ¬k ∈ [88, stateKey 2, stateKey 3])
    ∧ (∃ (s : State), s.phase = Phase.held)
    ∧ (∃ (s : State), s.phase = Phase.xoCount)
    ∧ (∃ (s : State), s.phase = Phase.sweeping ∧ s.arbC = [] ∧ s.arbG = [])
    ∧ (∃ (s : State), s.alive = true ∧ s.clk.xoFailed = true) :=
  ⟨⟨5, by decide +kernel⟩,
    ⟨{wC with phase := .held}, by decide +kernel⟩,
    ⟨{wC with phase := .xoCount}, by decide +kernel⟩,
    ⟨{wC with phase := .sweeping}, by decide +kernel⟩,
    ⟨{wClkX with clk := {wClkX.clk with xoFailed := true}}, by decide +kernel⟩⟩

theorem witness_ResetNResets :
    (∃ (s : State) (ns : Nat) (p : ResetPulse) (k : Nat), s.phase ≠ Phase.held ∧ (1000 ≤ ns ∨ 100 ≤ ns ∧ p.taken = true) ∧
      ¬k ∈ resetKeys)
    ∧ (∃ (s : State) (ns : Nat) (p : ResetPulse) (u : Unit2), s.phase ≠ Phase.held ∧
      (1000 ≤ ns ∨ 100 ≤ ns ∧ p.taken = true) ∧ s.unitState u = tcuUnfit ∧
      (s.unitState Unit2.A = tcuUnfit → s.unitState Unit2.B ≠ tcuUnfit))
    ∧ (∃ (s : State) (ns : Nat) (p : ResetPulse), s.phase ≠ Phase.held ∧ (ns < 100 ∨ ns < 1000 ∧ p.taken = false)) :=
  ⟨⟨wUnfA, 1000, ⟨false, true⟩, 0, by decide +kernel⟩,
    ⟨wUnfA, 1000, ⟨false, true⟩, Unit2.A, by decide +kernel⟩,
    ⟨wUnfA, 999, ⟨false, true⟩, by decide +kernel⟩⟩

end Sys2Proof.Tests.Time

namespace Sys2Proof.Tests.Pipe
open Sys2Proof.Machine

def w0 : State := {on wRun 0x10 1 with time := {wRun.time with cr := 1000, cn := 1000, catchDue := false, lastCatch := 768}}
def wBk (f : BankCal → BankCal) : State := {w0 with banks := w0.banks.set 0 (f (w0.bank 0))}
def wS : State := wBk (fun k => {k with puDone := true, up := BitVec.ofNat 32 0xFFFFFFFF, pow := BitVec.ofNat 32 0xFFFFFFFF})
def wSt : State := wBk (fun k => {k with puDone := true, up := BitVec.ofNat 32 0xFFFFFFFF, pow := BitVec.ofNat 32 0xFFFFFFFF, stuck := [3]})
def smp (sl : Fin 33) (v : Int) : SliceSample := ⟨0, sl, 2, v, true⟩
def tin (v : Int) : TickIn := ⟨[smp 3 v, smp 32 v, smp 3 0], [], []⟩
def wP : State := {((wS.set (R.PRISM_CH_PED 3) 777).set (R.PRISM_CH_CFG_FGAIN 3) 40000) with words := (List.range 20).map (fun k => ((4*995 + k)*1024+3, BitVec.ofNat 16 (8192 + 100*k)))}
def wF : State := {(((on wP 0x28 1).set (R.PRISM_CH_CFG_EN 3) 1).set (R.PRISM_CH_CFG_PROFILE 3) 5) with
  profiles := [(5, (1, 4))], vals := (List.range 12).map (fun k => ((4*994 + k)*1024+3, ⟨(k : Int)*50 - 200, k==2, false⟩)) }
def wFc : State := (List.range 4).foldl (fun s k => s.set (R.PCOEF_COEF (5*256+k)) (30000+k*1000)) wF
def wR : State := {wFc with pouts := (List.range 40).map (fun k => ((4*989 + k)*1024+3, ⟨(k : Int)*1000 - 20000, k==2, false⟩))}
def wT : State := {(((on (on wP 0x2C 1) 0x68 1).set (R.TPRIM_CH_CFG_EN 3) 1).set R.TPRIM_CTL_PICK_MODE 1) with tp := []}
def rec_ (cr : Nat) (v : Nat) : TpCr := ⟨cr, 5, 6, false, true, false, false, 1, false, 10, 2, List.replicate 8 (List.replicate 24 v), List.replicate 8 3⟩
def wT2 : State := {wT with tp := [rec_ 994 12, rec_ 993 13, rec_ 992 12]}

theorem witness_SamplesBecomeWords :
    (∃ (s : State) (i : TickIn) (b : Nat) (c : Nat) (p : Nat) (sl : Fin 33) (x : SliceSample), s.alive = true ∧
      s.time.catchDue = false ∧ s.resyncDue = false ∧ s.arbC = [] ∧ s.arbG = [] ∧ b < 24 ∧ c < 32 ∧ p < 4 ∧
      s.serving b c = some sl.val ∧ sl.val ∈ s.activeSlices b ∧ ¬sl.val ∈ (s.bank b).stuck ∧
      (List.find? (fun e => ↑e.bank == b && ↑e.slice == sl.val && ↑e.phase == p) i.samples = some x) ∧
      2 * x.v % (2 * lsbUnits (s.get (R.BANK_CHi_RANGE (16 + b) c))) ≠ lsbUnits (s.get (R.BANK_CHi_RANGE (16 + b) c)) ∧
      x.v ≤ 8192 * lsbUnits (s.get (R.BANK_CHi_RANGE (16 + b) c)) ∧
      -8193 * lsbUnits (s.get (R.BANK_CHi_RANGE (16 + b) c)) ≤ x.v ∧
      (((s.overs ++ s.farSamples i.samples s.time.cr).any fun e => e.1 == 33 * b + sl.val && decide (e.snd < 4 * s.time.cr + p) && decide (4 * s.time.cr + p ≤ e.snd + 2)) = false))
    ∧ (∃ (s : State) (i : TickIn) (b : Nat) (c : Nat) (p : Nat) (sl : Fin 33) (x : SliceSample), s.alive = true ∧
      s.time.catchDue = false ∧ s.resyncDue = false ∧ s.arbC = [] ∧ s.arbG = [] ∧ b < 24 ∧ c < 32 ∧ p < 4 ∧
      s.serving b c = some sl.val ∧ sl.val ∈ s.activeSlices b ∧ ¬sl.val ∈ (s.bank b).stuck ∧
      (List.find? (fun e => ↑e.bank == b && ↑e.slice == sl.val && ↑e.phase == p) i.samples = some x) ∧
      2 * x.v % (2 * lsbUnits (s.get (R.BANK_CHi_RANGE (16 + b) c))) ≠ lsbUnits (s.get (R.BANK_CHi_RANGE (16 + b) c)) ∧
      (3 * lsbUnits (s.get (R.BANK_CHi_RANGE (16 + b) c)) < 2 * (x.v - 8191 * lsbUnits (s.get (R.BANK_CHi_RANGE (16 + b) c))) ∨ 3 * lsbUnits (s.get (R.BANK_CHi_RANGE (16 + b) c)) < 2 * (-8192 * lsbUnits (s.get (R.BANK_CHi_RANGE (16 + b) c)) - x.v) ∨ ((s.overs ++ s.farSamples i.samples s.time.cr).any fun e => e.1 == 33 * b + sl.val && decide (e.snd < 4 * s.time.cr + p) && decide (4 * s.time.cr + p ≤ e.snd + 2)) = true))
    ∧ (∃ (s : State) (b : Nat) (c : Nat) (p : Nat) (sl : Fin 33), s.alive = true ∧ s.time.catchDue = false ∧
      s.resyncDue = false ∧ s.arbC = [] ∧ s.arbG = [] ∧ b < 24 ∧ c < 32 ∧ p < 4 ∧ s.serving b c = some sl.val ∧
      sl.val ∈ s.activeSlices b ∧ sl.val ∈ (s.bank b).stuck)
    ∧ (∃ (s : State) (b : Nat) (c : Nat) (p : Nat), s.alive = true ∧ s.time.catchDue = false ∧ s.resyncDue = false ∧
      s.arbC = [] ∧ s.arbG = [] ∧ b < 24 ∧ c < 32 ∧ p < 4 ∧ s.serving b c = none) :=
  ⟨⟨wS, tin 70000000, 0, 3, 2, 3, smp 3 70000000, by decide +kernel⟩,
    ⟨wS, tin (-6000000000), 0, 3, 2, 3, smp 3 (-6000000000), by decide +kernel⟩,
    ⟨wSt, 0, 3, 2, 3, by decide +kernel⟩,
    ⟨w0, 0, 3, 2, by decide +kernel⟩⟩

theorem witness_WordsEnterPrism :
    (∃ (s : State), s.alive = true ∧ s.time.catchDue = false ∧ s.resyncDue = false ∧ s.arbC = [] ∧ s.arbG = [] ∧
      3 ≤ s.time.cr ∧ s.time.lastCatch + 3 ≤ s.time.cr ∧ s.words.sorted = true) :=
  ⟨wP, by decide +kernel⟩

theorem witness_PrismFiltersItsInputs :
    (∃ (s : State) (c : Nat) (j : Nat), s.alive = true ∧ s.time.catchDue = false ∧ s.resyncDue = false ∧ s.arbC = [] ∧
      s.arbG = [] ∧ 3 ≤ s.time.cr ∧ s.time.lastCatch + 3 ≤ s.time.cr ∧ s.flag (R.PAGE_CTL_ENABLE 40) = true ∧ c < 768 ∧
      s.flag (R.PRISM_CH_CFG_EN c) = true ∧ (∀ (f : Fade), f ∈ s.fades → f.chan ≠ c) ∧ j < s.rate c)
    ∧ (∃ (s : State) (p : Nat) (len : Nat) (q : Nat) (c : Nat) (x : Nat → Val),
      (∀ (b : Nat), b ∈ s.badTaps → b / 256 = p → len ≤ b % 256) ∧ len ≤ q + 1 ∧
      (∀ (k : Nat), k < len → s.vals.find? ((q - k) * 1024 + c) = some (x k)))
    ∧ (∃ (s : State) (p : Nat) (len : Nat) (q : Nat) (c : Nat), (∀ (b : Nat), b ∈ s.badTaps → b / 256 = p → len ≤ b % 256) ∧
      (∃ k, k < len ∧ (q < k ∨ s.vals.find? ((q - k) * 1024 + c) = none))) :=
  ⟨⟨wFc, 3, 2, by decide +kernel⟩,
    ⟨wFc, 5, 4, 3986, 3, fun k => (⟨((10-k:Nat) : Int)*50 - 200, (10-k)==2, false⟩ : Val), by decide +kernel⟩,
    ⟨wFc, 5, 4, 3970, 3, by decide +kernel⟩⟩

theorem witness_ResamplerFillsTheWakeRings :
    (∃ (s : State) (c : Nat) (n : Nat) (g : Seg), s.alive = true ∧ s.time.catchDue = false ∧ s.resyncDue = false ∧
      s.arbC = [] ∧ s.arbG = [] ∧ 5 ≤ s.time.cr ∧ s.time.lastCatch + 5 ≤ s.time.cr ∧
      s.flag (R.PAGE_CTL_ENABLE 40) = true ∧ c < 768 ∧ s.flag (R.PRISM_CH_CFG_EN c) = true ∧ s.segOf c n = g ∧
      g.step = one32 ∧ g.idx ≤ n ∧ s.rateCr.find? c = none ∧ s.streamIdx c (s.time.cr - 5) ≤ n ∧
      n < s.streamIdx c (s.time.cr - 4) ∧ State.rateOver (s.get R.ACQ_CTL_RMAX) (s.rate c) = false)
    ∧ (∃ (p : Nat), 0 < p ∧ p < 1024)
    ∧ (∃ (k : Nat), k < 16) :=
  ⟨⟨wR, 3, 3982, wR.segOf 3 3982, by decide +kernel⟩,
    ⟨5, by decide +kernel⟩,
    ⟨7, by decide +kernel⟩⟩

theorem witness_PrimitivesLeaveInFrames :
    (∃ (s : State), s.alive = true ∧ s.time.catchDue = false ∧ s.resyncDue = false ∧ s.arbC = [] ∧ s.arbG = [] ∧
      3 ≤ s.time.cr ∧ s.time.lastCatch + 3 ≤ s.time.cr)
    ∧ (∃ (r : TpCr) (x : TpCr) (y : TpCr) (k : Nat) (j : Nat) (v : Nat) (m : Nat) (n : Nat), r.brk = false ∧ y.brk = false ∧
      x.on = true ∧ y.on = true ∧ ((r.sums[k]?.bind fun l => l[j]?) = some v) ∧
      ((x.sums[k]?.bind fun l => l[j]?) = some m) ∧ ((y.sums[k]?.bind fun l => l[j]?) = some n))
    ∧ (∃ (s : State) (n : Nat) (c : Nat) (u : Nat → Val), s.time.lastCatch ≤ n ∧ s.flag R.TPRIM_CTL_PICK_MODE = true ∧
      (∀ (k : Nat), k < 11 → s.tapU c (4 * ↑n + 3 - ↑k) = some (u k))) :=
  ⟨⟨wT2, by decide +kernel⟩,
    ⟨rec_ 993 13, rec_ 992 12, rec_ 994 12, 2, 3, 13, 12, 12, by decide +kernel⟩,
    ⟨wT2, 997, 3, fun (k : Nat) => ((wT2.tapU 3 (3991-k)).getD ⟨0,false,false⟩), by decide +kernel⟩⟩

end Sys2Proof.Tests.Pipe

namespace Sys2Proof.Tests.Catch
open Sys2Proof.Machine

def w0 : State := {wRun with time := {wRun.time with cr := 51200, cn := 51200, catches := 200, catchDue := true, lastCatch := 50944}}
def wSn : State := {w0 with snapReq := true, strokeEnd := [(0x01048, 77), (0x0C044, 9), (0x30054, 5)]}
def wB : State := {on w0 0x10 1 with staged := [⟨0x10, 0x10040, 0x0F, 0x0C⟩, ⟨0x10, 0x10040, 0x0F, 0x01⟩, ⟨0x10, 0x10044, 1, 1⟩]}
def wTp : State := {on w0 0x2C 1 with staged := [⟨0x2C, 0x2C040, 7, 0⟩, ⟨0x2C, 0x2C048, 0xFF, 7⟩]}
def wTp2 : State := {on w0 0x2C 1 with staged := [⟨0x2C, 0x2C040, 3, 1⟩, ⟨0x2C, 0x2C048, 0xFF, 7⟩]}
def cmd (s : State) (r m : Option Bool) (l : Bool) : State := {s with pace := {s.pace with runCmd := r, moorCmd := m, linkWake := l}}
def wM : State := on (w0.set R.TIME_STATUS_MOORED 1) 8 1
def wRn : State := {w0.set R.PACEA_RUN_ACTIVE 1 with evNo := 7, easyBroken := true}
def crewOn (s : State) (c st : Nat) : State := ((((on s 0x40 1).crewSet c 5 24 4 st).crewSet c 5 16 8 255).crewSet c 1 16 6 12).addCredits c 7
def cw (st op : Nat) : State := {crewOn w0 9 st with quiesce := [(9, 100)], staged := [⟨0x40, 0x40064, 0xFFFFFFFF, BitVec.ofNat 32 (9 + op * 4096)⟩]}
def ce (op : Nat) : Staged := ⟨0x40, 0x40064, 0xFFFFFFFF, BitVec.ofNat 32 (9 + op * 4096)⟩
def wFit : State := {w0 with tcuA := {w0.tcuA with stDue := false}, tcuB := {w0.tcuB with stDue := false}}.setPstate 0x03 tcuMirror
def wSw : State := {wFit with cox := {wFit.cox with wait := .swap 50000, waitFrom := 51000}}
def wHs : State := {wFit.set R.COX_STATUS_PENDING 1 with cox := {wFit.cox with hostSwap := true}}
def wFd : State := {on (on w0 0x28 1) 0x29 1 with profiles := [(3, (1, 10)), (4, (1, 20))]}
def fd : Fade := ⟨40, 3, 4, 32, 51100, 4⟩
def wFq : State := {(wFd.set (R.PRISM_CH_CFG_EN 40) 1).set (R.PRISM_CH_CFG_PROFILE 40) 3 with fadeQ := [⟨40, 4, 2, 0, false⟩]}
def wK (f : BankCal → BankCal) : State := let s := ((on (on w0 7 1) 0x11 1).set (R.BANK_CHi_POWER 0x11 5) 1); {s with banks := s.banks.set 1 (f {s.bank 1 with puDone := true, health := List.replicate 33 0, index := 5, ovl := some true, pow := 0x20, phaseSt := 100})}

theorem witness_SnapshotsAndPageResetsAreDone :
    (∃ (s : State) (k : Nat), s.alive = true ∧ s.time.catchDue = true ∧ s.arbC = [] ∧ s.arbG = [] ∧ s.stagedInForm ∧
      s.snapReq = true ∧ s.resetAsked 0 = false ∧ s.strokeEnd.sorted = true ∧ k / 1048576 = 0)
    ∧ (∃ (s : State), s.alive = true ∧ s.time.catchDue = true ∧ s.arbC = [] ∧ s.arbG = [] ∧ s.stagedInForm ∧
      s.snapReq = false ∧ (∀ (pg : Nat), pg ∈ allPages → s.resetAsked pg = false)) :=
  ⟨⟨wSn, 0x01048, by unfold State.stagedInForm; decide +kernel⟩,
    ⟨w0, by unfold State.stagedInForm; decide +kernel⟩⟩

theorem witness_RefusedSetsApplyNothing :
    (∃ (s : State) (b : Nat), s.alive = true ∧ s.time.catchDue = true ∧ s.arbC = [] ∧ s.arbG = [] ∧ s.stagedInForm ∧
      b < 24 ∧ ¬16 + b ∈ s.ovf ∧ s.resetAsked (16 + b) = false ∧
      (∃ e, e ∈ s.entries (16 + b) ∧ 64 ≤ e.key % 4096 ∧ e.key % 4096 < 192 ∧ bits e.data 2 2 = 3))
    ∧ (∃ (s : State) (cause : Nat), s.alive = true ∧ s.time.catchDue = true ∧ s.arbC = [] ∧ s.arbG = [] ∧ s.stagedInForm ∧
      ¬44 ∈ s.ovf ∧ s.resetAsked 44 = false ∧ s.entries 44 ≠ [] ∧ cause < 3 ∧
      ((s.applyEntries (s.entries 44)).get R.TPRIM_CTL_GROUP = 0 ∧ cause = 1 ∨ (s.applyEntries (s.entries 44)).get R.TPRIM_CTL_GROUP = 1 ∧ (s.applyEntries (s.entries 44)).get R.TPRIM_CTL_WIDTH = 0 ∧ cause = 2))
    ∧ (∃ (s : State), s.alive = true ∧ s.time.catchDue = true ∧ s.arbC = [] ∧ s.arbG = [] ∧ s.stagedInForm ∧ 44 ∈ s.ovf ∧
      s.resetAsked 44 = false) :=
  ⟨⟨wB, 0, by unfold State.stagedInForm; decide +kernel⟩,
    ⟨wTp, 1, by unfold State.stagedInForm; decide +kernel⟩,
    ⟨{wTp2 with ovf := [0x2C]}, by unfold State.stagedInForm; decide +kernel⟩⟩

theorem witness_CommandsOfTheStrokeAct :
    (∃ (s : State), s.alive = true ∧ s.time.catchDue = true ∧ s.arbC = [] ∧ s.arbG = [] ∧ s.stagedInForm ∧ quietPage s 12 ∧
      quietPage s 14 ∧ s.pace.runCmd = some true ∧
      (s.moored && !(s.pace.moorCmd == some false || s.pace.linkWake)) = false)
    ∧ (∃ (s : State), s.alive = true ∧ s.time.catchDue = true ∧ s.arbC = [] ∧ s.arbG = [] ∧ s.stagedInForm ∧ quietPage s 12 ∧
      quietPage s 14 ∧ s.moored = false ∧ s.pace.moorCmd ≠ some true)
    ∧ (∃ (s : State), s.alive = true ∧ s.time.catchDue = true ∧ s.arbC = [] ∧ s.arbG = [] ∧ s.stagedInForm ∧ quietPage s 12 ∧
      quietPage s 14 ∧ s.moored = false ∧ s.pace.moorCmd = some true)
    ∧ (∃ (s : State), s.alive = true ∧ s.time.catchDue = true ∧ s.arbC = [] ∧ s.arbG = [] ∧ s.stagedInForm ∧ quietPage s 12 ∧
      quietPage s 14 ∧ s.pace.runCmd = none)
    ∧ (∃ (s : State), s.alive = true ∧ s.time.catchDue = true ∧ s.arbC = [] ∧ s.arbG = [] ∧ s.stagedInForm ∧ quietPage s 12 ∧
      quietPage s 14 ∧ s.pace.runCmd = some false)
    ∧ (∃ (s : State), s.alive = true ∧ s.time.catchDue = true ∧ s.arbC = [] ∧ s.arbG = [] ∧ s.stagedInForm ∧ quietPage s 12 ∧
      quietPage s 14 ∧ s.pace.runCmd = some true ∧
      (s.moored && !(s.pace.moorCmd == some false || s.pace.linkWake)) = true)
    ∧ (∃ (s : State), s.alive = true ∧ s.time.catchDue = true ∧ s.arbC = [] ∧ s.arbG = [] ∧ s.stagedInForm ∧ quietPage s 12 ∧
      quietPage s 14 ∧ s.moored = true) :=
  ⟨⟨cmd w0 (some true) none false, by unfold State.stagedInForm quietPage; decide +kernel⟩,
    ⟨cmd w0 (some true) none false, by unfold State.stagedInForm quietPage; decide +kernel⟩,
    ⟨cmd w0 (some true) (some true) false, by unfold State.stagedInForm quietPage; decide +kernel⟩,
    ⟨cmd w0 none (some true) false, by unfold State.stagedInForm quietPage; decide +kernel⟩,
    ⟨cmd wRn (some false) (some true) true, by unfold State.stagedInForm quietPage; decide +kernel⟩,
    ⟨cmd wM (some true) none false, by unfold State.stagedInForm quietPage; decide +kernel⟩,
    ⟨cmd wM (some true) none false, by unfold State.stagedInForm quietPage; decide +kernel⟩⟩

theorem witness_CrewCommandsAct :
    (∃ (s : State) (e : Staged), s.alive = true ∧ s.time.catchDue = true ∧ s.arbC = [] ∧ s.arbG = [] ∧ s.stagedInForm ∧
      s.entries 64 = [e] ∧ e.key = 262244 ∧ ¬64 ∈ s.ovf ∧ s.resetAsked 64 = false ∧ bits e.data 12 2 = 1 ∧
      12 ≤ s.crewK (bits e.data 0 12) ∧ s.crewK (bits e.data 0 12) ≤ 46 ∧ s.crewBase (bits e.data 0 12) % 2 ^ s.crewK (bits e.data 0 12) = 0 ∧
      s.crewState (bits e.data 0 12) ≠ crewQuiescing)
    ∧ (∃ (s : State) (e : Staged), s.alive = true ∧ s.time.catchDue = true ∧ s.arbC = [] ∧ s.arbG = [] ∧ s.stagedInForm ∧
      s.entries 64 = [e] ∧ e.key = 262244 ∧ ¬64 ∈ s.ovf ∧ s.resetAsked 64 = false ∧ bits e.data 12 2 = 1 ∧
      12 ≤ s.crewK (bits e.data 0 12) ∧ s.crewK (bits e.data 0 12) ≤ 46 ∧ s.crewBase (bits e.data 0 12) % 2 ^ s.crewK (bits e.data 0 12) = 0 ∧
      s.crewState (bits e.data 0 12) = crewQuiescing)
    ∧ (∃ (s : State) (e : Staged), s.alive = true ∧ s.time.catchDue = true ∧ s.arbC = [] ∧ s.arbG = [] ∧ s.stagedInForm ∧
      s.entries 64 = [e] ∧ e.key = 262244 ∧ ¬64 ∈ s.ovf ∧ s.resetAsked 64 = false ∧ bits e.data 12 2 = 2 ∧
      s.crewState (bits e.data 0 12) ≠ crewQuiescing ∧ s.crewState (bits e.data 0 12) ≠ crewEnabled)
    ∧ (∃ (s : State) (e : Staged), s.alive = true ∧ s.time.catchDue = true ∧ s.arbC = [] ∧ s.arbG = [] ∧ s.stagedInForm ∧
      s.entries 64 = [e] ∧ e.key = 262244 ∧ ¬64 ∈ s.ovf ∧ s.resetAsked 64 = false ∧
      (bits e.data 12 2 = 2 ∨ bits e.data 12 2 = 3) ∧ s.crewState (bits e.data 0 12) = crewEnabled ∧
      (12 ≤ s.crewK (bits e.data 0 12) ∧ s.crewK (bits e.data 0 12) ≤ 46 ∧ s.crewBase (bits e.data 0 12) % 2 ^ s.crewK (bits e.data 0 12) = 0 ∨ s.crewGet (bits e.data 0 12) 5 28 1 = 0))
    ∧ (∃ (s : State) (e : Staged), s.alive = true ∧ s.time.catchDue = true ∧ s.arbC = [] ∧ s.arbG = [] ∧ s.stagedInForm ∧
      s.entries 64 = [e] ∧ e.key = 262244 ∧ ¬64 ∈ s.ovf ∧ s.resetAsked 64 = false ∧ bits e.data 12 2 = 2 ∧
      s.crewState (bits e.data 0 12) = crewQuiescing)
    ∧ (∃ (s : State) (e : Staged), s.alive = true ∧ s.time.catchDue = true ∧ s.arbC = [] ∧ s.arbG = [] ∧ s.stagedInForm ∧
      s.entries 64 = [e] ∧ e.key = 262244 ∧ ¬64 ∈ s.ovf ∧ s.resetAsked 64 = false ∧ bits e.data 12 2 = 3 ∧
      s.crewState (bits e.data 0 12) = crewQuiescing)
    ∧ (∃ (s : State) (e : Staged), s.alive = true ∧ s.time.catchDue = true ∧ s.arbC = [] ∧ s.arbG = [] ∧ s.stagedInForm ∧
      s.entries 64 = [e] ∧ e.key = 262244 ∧ ¬64 ∈ s.ovf ∧ s.resetAsked 64 = false ∧ bits e.data 12 2 = 3 ∧
      s.crewState (bits e.data 0 12) = crewQuiesced ∧ s.fetchedOf (bits e.data 0 12) = [] ∧
      s.requested (bits e.data 0 12) = [])
    ∧ (∃ (s : State) (e : Staged), s.alive = true ∧ s.time.catchDue = true ∧ s.arbC = [] ∧ s.arbG = [] ∧ s.stagedInForm ∧
      s.entries 64 = [e] ∧ e.key = 262244 ∧ ¬64 ∈ s.ovf ∧ s.resetAsked 64 = false ∧ bits e.data 12 2 = 3 ∧
      s.crewState (bits e.data 0 12) = crewQuiesced ∧ s.fetchedOf (bits e.data 0 12) = [] ∧
      s.requested (bits e.data 0 12) = [])
    ∧ (∃ (s : State) (e : Staged), s.alive = true ∧ s.time.catchDue = true ∧ s.arbC = [] ∧ s.arbG = [] ∧ s.stagedInForm ∧
      s.entries 64 = [e] ∧ e.key = 262244 ∧ ¬64 ∈ s.ovf ∧ s.resetAsked 64 = false ∧ bits e.data 12 2 = 1 ∧
      s.crewK (bits e.data 0 12) < 12) :=
  ⟨⟨cw 0 1, ce 1, by unfold State.stagedInForm; decide +kernel⟩,
    ⟨cw 2 1, ce 1, by unfold State.stagedInForm; decide +kernel⟩,
    ⟨cw 0 2, ce 2, by unfold State.stagedInForm; decide +kernel⟩,
    ⟨cw 1 2, ce 2, by unfold State.stagedInForm; decide +kernel⟩,
    ⟨(cw 2 2).crewSet 9 5 28 1 1, ce 2, by unfold State.stagedInForm; decide +kernel⟩,
    ⟨(cw 2 3).crewSet 9 5 28 1 1, ce 3, by unfold State.stagedInForm; decide +kernel⟩,
    ⟨cw 3 3, ce 3, by unfold State.stagedInForm; decide +kernel⟩,
    ⟨cw 3 3, ce 3, by unfold State.stagedInForm; decide +kernel⟩,
    ⟨(cw 0 1).crewSet 9 1 16 6 0, ce 1, by unfold State.stagedInForm; decide +kernel⟩⟩

theorem witness_UnitsSwapAtTheCatch :
    (∃ (s : State) (first : BitVec 64), s.alive = true ∧ s.time.catchDue = true ∧ s.arbC = [] ∧ s.arbG = [] ∧
      s.stagedInForm ∧ quietPage s 2 ∧ quietPage s 3 ∧ quietPage s 4 ∧ quietPage s 6 ∧ s.tcuA.stDue = false ∧
      s.tcuB.stDue = false ∧ s.unitState s.activeUnit = tcuActive ∧ s.mirrorFit = true ∧
      (s.cox.wait = CoxWait.swap first ∧ s.cox.waitFrom < s.time.cr ∧ s.flag R.COX_STATUS_PENDING = false ∨ s.cox.wait = CoxWait.none ∧ s.flag R.COX_STATUS_PENDING = true ∧ s.cox.hostSwap = true) ∧
      s.cox.wait = CoxWait.swap first)
    ∧ (∃ (s : State) (first : BitVec 64), s.alive = true ∧ s.time.catchDue = true ∧ s.arbC = [] ∧ s.arbG = [] ∧
      s.stagedInForm ∧ quietPage s 2 ∧ quietPage s 3 ∧ quietPage s 4 ∧ quietPage s 6 ∧ s.tcuA.stDue = false ∧
      s.tcuB.stDue = false ∧ s.unitState s.activeUnit = tcuActive ∧ s.mirrorFit = true ∧
      (s.cox.wait = CoxWait.swap first ∧ s.cox.waitFrom < s.time.cr ∧ s.flag R.COX_STATUS_PENDING = false ∨ s.cox.wait = CoxWait.none ∧ s.flag R.COX_STATUS_PENDING = true ∧ s.cox.hostSwap = true) ∧
      s.cox.wait = CoxWait.none)
    ∧ (∃ (s : State), s.alive = true ∧ s.time.catchDue = true ∧ s.arbC = [] ∧ s.arbG = [] ∧ s.stagedInForm ∧ quietPage s 2 ∧
      quietPage s 3 ∧ quietPage s 4 ∧ quietPage s 6 ∧ s.tcuA.stDue = false ∧ s.tcuB.stDue = false ∧
      s.unitState s.activeUnit = tcuActive ∧ s.mirrorFit = true ∧ s.cox.wait = CoxWait.none ∧
      s.flag R.COX_STATUS_PENDING = false ∧
      s.get (State.claimFld s.activeUnit.other) ≤ s.get (State.claimFld s.activeUnit)) :=
  ⟨⟨wSw, 50000, by unfold State.stagedInForm quietPage; decide +kernel⟩,
    ⟨wHs, 50000, by unfold State.stagedInForm quietPage; decide +kernel⟩,
    ⟨wFit, by unfold State.stagedInForm quietPage; decide +kernel⟩⟩

theorem witness_FadesStartAndEndAtTheCatch :
    (∃ (s : State) (f : Fade), s.alive = true ∧ s.time.catchDue = true ∧ s.arbC = [] ∧ s.arbG = [] ∧ s.stagedInForm ∧
      quietPage s 40 ∧ quietPage s 41 ∧ (∀ (e : Nat × Nat × Nat), e ∈ s.profiles → e.snd.1 ≠ 2) ∧ s.fades = [f] ∧
      f.chan < 768 ∧ f.new < 64 ∧ f.n0 + f.len / f.rate ≤ s.time.cr ∧ s.fadeQ = [])
    ∧ (∃ (s : State) (f : Fade), s.alive = true ∧ s.time.catchDue = true ∧ s.arbC = [] ∧ s.arbG = [] ∧ s.stagedInForm ∧
      quietPage s 40 ∧ quietPage s 41 ∧ (∀ (e : Nat × Nat × Nat), e ∈ s.profiles → e.snd.1 ≠ 2) ∧ s.fades = [f] ∧
      s.time.cr < f.n0 + f.len / f.rate ∧ s.fadeQ = [])
    ∧ (∃ (s : State) (f : FadeReq), s.alive = true ∧ s.time.catchDue = true ∧ s.arbC = [] ∧ s.arbG = [] ∧ s.stagedInForm ∧
      quietPage s 40 ∧ quietPage s 41 ∧ (∀ (e : Nat × Nat × Nat), e ∈ s.profiles → e.snd.1 ≠ 2) ∧ s.enabled 40 = true ∧
      s.fades = [] ∧ s.fadeQ = [f] ∧ f.chan < 768 ∧ s.charge (f.chan / 32) + s.profLen f.prof * s.rate f.chan ≤ 4096)
    ∧ (∃ (s : State) (f : FadeReq), s.alive = true ∧ s.time.catchDue = true ∧ s.arbC = [] ∧ s.arbG = [] ∧ s.stagedInForm ∧
      quietPage s 40 ∧ quietPage s 41 ∧ (∀ (e : Nat × Nat × Nat), e ∈ s.profiles → e.snd.1 ≠ 2) ∧ s.enabled 40 = true ∧
      s.fades = [] ∧ s.fadeQ = [f] ∧ f.chan < 768 ∧ 4096 < s.charge (f.chan / 32) + s.profLen f.prof * s.rate f.chan ∧
      f.waited < s.get R.PRISM_FADE_CTL_WAIT_MAX ∧ f.told = false) :=
  ⟨⟨{wFd with fades := [fd]}, fd, by unfold State.stagedInForm quietPage; decide +kernel⟩,
    ⟨{wFd with fades := [{fd with n0 := 51199}]}, {fd with n0 := 51199}, by unfold State.stagedInForm quietPage; decide +kernel⟩,
    ⟨wFq, ⟨40, 4, 2, 0, false⟩, by unfold State.stagedInForm quietPage; decide +kernel⟩,
    ⟨{wFq with profiles := [(3, (1, 256)), (4, (1, 1000))]}, ⟨40, 4, 2, 0, false⟩, by unfold State.stagedInForm quietPage; decide +kernel⟩⟩

theorem witness_TheSpareTakesOver :
    (∃ (s : State) (b : Nat), s.alive = true ∧ s.time.catchDue = true ∧ s.arbC = [] ∧ s.arbG = [] ∧ s.stagedInForm ∧
      b < 24 ∧ s.banks.length = 24 ∧ s.moored = false ∧ s.pace.moorCmd ≠ some true ∧ quietPage s 7 ∧
      quietPage s (16 + b) ∧ s.enabled (16 + b) = true ∧
      (∀ (c : Nat), c < 24 → c ≠ b → s.enabled (16 + c) = false ∧ quietPage s (16 + c)) ∧ (s.bank b).puDone = true ∧
      (∀ (h : Nat), h ∈ (s.bank b).health → h < 2) ∧ (s.bank b).health.length = 33 ∧ (s.bank b).index < 32 ∧
      (s.bank b).ovl = some true ∧ (s.bank b).dead = 0 ∧ s.flag (R.BANK_CHi_POWER (16 + b) (s.bank b).index) = true ∧
      (s.bank b).pow.getLsbD (s.bank b).index = true ∧ (s.bank b).spare = spOverlapOn ∧ (s.bank b).reach = true)
    ∧ (∃ (s : State) (b : Nat), s.alive = true ∧ s.time.catchDue = true ∧ s.arbC = [] ∧ s.arbG = [] ∧ s.stagedInForm ∧
      b < 24 ∧ s.banks.length = 24 ∧ s.moored = false ∧ s.pace.moorCmd ≠ some true ∧ quietPage s 7 ∧
      quietPage s (16 + b) ∧ s.enabled (16 + b) = true ∧
      (∀ (c : Nat), c < 24 → c ≠ b → s.enabled (16 + c) = false ∧ quietPage s (16 + c)) ∧ (s.bank b).puDone = true ∧
      (∀ (h : Nat), h ∈ (s.bank b).health → h < 2) ∧ (s.bank b).health.length = 33 ∧ (s.bank b).index < 32 ∧
      (s.bank b).ovl = some true ∧ (s.bank b).dead = 0 ∧ s.flag (R.BANK_CHi_POWER (16 + b) (s.bank b).index) = true ∧
      (s.bank b).pow.getLsbD (s.bank b).index = true ∧ (s.bank b).spare = spOverlapBack ∧ (s.bank b).now = true) :=
  ⟨⟨wK (fun k => {k with spare := spOverlapOn, reach := true}), 1, by unfold State.stagedInForm quietPage; decide +kernel⟩,
    ⟨wK (fun k => {k with spare := spOverlapBack, now := true}), 1, by unfold State.stagedInForm quietPage; decide +kernel⟩⟩

end Sys2Proof.Tests.Catch

namespace Sys2Proof.Tests.Power
open Sys2Proof.Machine

def wMir : State := on wRun 0x03 tcuMirror
def wMirT : State := {wMir with time := {wMir.time with cr := 100, cn := 100, catchDue := false}}
def wVote : State := {wRun with cox := {wRun.cox with voteIn := some 3}, time := {wRun.time with catches := 3}}
def hh (m : BitVec 8) (n : Nat) : ScrubHit := ⟨m,n⟩
def wAccE : Entry := { noEntry with anchor := 0 }
def wQ : State := {on wRun 0x30 1 with accQ := [wAccE, wAccE]}
def heldOne : Held := ⟨1, [5, 6, 7], 5, true, 0, 0, false, 0, [], false, true⟩
def wHe : State := {wRun with held := [heldOne]}
def wOpen : State := {(on wRun 0x98 1).set R.RING_STATUS_BYPASS_OPEN 1 with pads := ⟨[2, 5], []⟩}
def tl (i : TapInstr) (lo : Bool) : TapLoad := ⟨i, lo, [true, false], [false, true, true]⟩
def wRing : State := {((on wRun 0x98 1).set R.RING_STATUS_BYPASS_OPEN 1).set R.RING_STATUS_POS 0 with time := {wRun.time with cr := 100, cn := 100, catchDue := false}}
def fR (op : BitVec 4) (a : BitVec 24) (d : Word) : RingFrame := resealed true ⟨0, 7, op, false, false, 0, a, d, 0⟩
def fB (op : BitVec 4) (a : BitVec 24) (d : Word) : RingFrame := resealed true ⟨0xFFFF, 7, op, true, false, 0, a, d, 0⟩
def rg (f : Ring → Ring) : State := {wRing with ring := f wRing.ring}
def wRingC : State := {on wRun 0x98 1 with ring := {wRun.ring with valid := 16, rxIdles := 3}}

theorem witness_UnitsAreTested :
    (∃ (s : State) (u : Unit2), s.alive = true ∧ s.unitState u = tcuMirror) :=
  ⟨wMir, Unit2.B, by decide +kernel⟩

theorem witness_TheCoxDecides :
    (∃ (s : State) (f : MismatchFacts) (u : Unit2), s.alive = true ∧ s.mirrorFit = true ∧ s.cox.wait = CoxWait.none ∧
      f.aWrong = (u == Unit2.A) ∧ f.bWrong = (u == Unit2.B) ∧ u = s.activeUnit)
    ∧ (∃ (s : State) (f : MismatchFacts) (u : Unit2), s.alive = true ∧ s.mirrorFit = true ∧ s.cox.wait = CoxWait.none ∧
      f.aWrong = (u == Unit2.A) ∧ f.bWrong = (u == Unit2.B) ∧ u ≠ s.activeUnit)
    ∧ (∃ (s : State) (f : MismatchFacts), s.alive = true ∧ s.mirrorFit = true ∧ s.cox.wait = CoxWait.none ∧
      f.aWrong = f.bWrong ∧ (s.tcu Unit2.A).errs = [] ∧ (s.tcu Unit2.B).errs = []) :=
  ⟨⟨wMirT, ⟨true, false⟩, Unit2.A, by decide +kernel⟩,
    ⟨wMirT, ⟨false, true⟩, Unit2.B, by decide +kernel⟩,
    ⟨wMirT, ⟨false, false⟩, by decide +kernel⟩⟩

theorem witness_CorrectedUpsetsAreCounted :
    (∃ (s : State), s.alive = true ∧ s.cox.voteIn ≠ some s.time.catches)
    ∧ (∃ (s : State), s.alive = true ∧ s.cox.voteIn = some s.time.catches) :=
  ⟨⟨wRun, by decide +kernel⟩,
    ⟨wVote, by decide +kernel⟩⟩

theorem witness_DoubleBitErrorsAreTold :
    (∃ (s : State) (h : ScrubHit), s.alive = true ∧ h.mem = 1)
    ∧ (∃ (s : State) (h : ScrubHit), s.alive = true ∧ h.mem ∈ [1, 3, 11])
    ∧ (∃ (s : State) (h : ScrubHit) (f : Held), s.alive = true ∧ h.mem = 2 ∧ s.held[h.where_ / 65536]? = some f ∧
      h.where_ % 65536 < f.words.length)
    ∧ (∃ (s : State) (h : ScrubHit) (f : Held) (k : Nat), s.alive = true ∧ h.mem = 2 ∧ s.held[h.where_ / 65536]? = some f ∧
      k ≠ h.where_ % 65536)
    ∧ (∃ (s : State) (h : ScrubHit), s.alive = true ∧ h.mem = 3)
    ∧ (∃ (s : State) (h : ScrubHit), s.alive = true ∧ h.mem = 11 ∧ h.where_ % 4 = 0 ∧ h.where_ / 4 < s.records.length)
    ∧ (∃ (s : State) (h : ScrubHit) (k : Nat), s.alive = true ∧ h.mem = 11 ∧ h.where_ % 4 = 0 ∧ k ≠ h.where_ / 4)
    ∧ (∃ (s : State) (h : ScrubHit), s.alive = true ∧ h.mem = 11 ∧ h.where_ % 4 = 1) :=
  ⟨⟨wRun, hh 1 5, by decide +kernel⟩,
    ⟨wRun, hh 1 5, by decide +kernel⟩,
    ⟨wHe, hh 2 1, heldOne, by decide +kernel⟩,
    ⟨wHe, hh 2 1, heldOne, 0, by decide +kernel⟩,
    ⟨wRun, hh 3 16390, by decide +kernel⟩,
    ⟨{wRun with records := [5, 6], recBad := [0]}, hh 0xB 4, by decide +kernel⟩,
    ⟨{wRun with records := [5, 6], recBad := [0]}, hh 0xB 4, 0, by decide +kernel⟩,
    ⟨wQ, hh 0xB 5, by decide +kernel⟩⟩

theorem witness_SuppliesAndTemperaturesAreTold :
    (∃ (s : State) (m : RailMove), s.alive = true ∧ m ≠ RailMove.back ∧ s.ringOpen = true) :=
  ⟨wOpen, RailMove.low, by decide +kernel⟩

theorem witness_TheTestPortTakesInstructions :
    (∃ (x : TapLoad), x.instr = TapInstr.idcode)
    ∧ (∃ (x : TapLoad), x.instr = TapInstr.samplePreload)
    ∧ (∃ (x : TapLoad), x.instr ∈ [TapInstr.extest, TapInstr.extestPulse, TapInstr.extestTrain] ∧ x.resetLow = true ∧
      x.scan ≠ [])
    ∧ (∃ (x : TapLoad), x.instr ∈ [TapInstr.extest, TapInstr.extestPulse, TapInstr.extestTrain] ∧ x.resetLow = false) :=
  ⟨⟨tl .idcode false, by decide +kernel⟩,
    ⟨tl .samplePreload false, by decide +kernel⟩,
    ⟨tl .extest true, by decide +kernel⟩,
    ⟨tl .extestPulse false, by decide +kernel⟩⟩

theorem witness_RingRequestsArePerformed :
    (∃ (s : State) (f : RingFrame), s.ringOpen = true ∧ s.serves Port.G (BitVec.setWidth 20 f.addr).toNat ∧ request f 1 ∧
      s.ringMine f = true ∧ frameBroadcast f = false)
    ∧ (∃ (s : State) (f : RingFrame), s.ringOpen = true ∧ s.serves Port.G (BitVec.setWidth 20 f.addr).toNat ∧ request f 2 ∧
      ¬(49408 ≤ (BitVec.setWidth 20 f.addr).toNat ∧ (BitVec.setWidth 20 f.addr).toNat < 49536) ∧ s.ringMine f = true ∧
      frameBroadcast f = false)
    ∧ (∃ (s : State) (f : RingFrame), s.ringOpen = true ∧ s.serves Port.G (BitVec.setWidth 20 f.addr).toNat ∧ request f 2 ∧
      ¬(49408 ≤ (BitVec.setWidth 20 f.addr).toNat ∧ (BitVec.setWidth 20 f.addr).toNat < 49536) ∧ s.ringMine f = false ∧
      frameBroadcast f = true)
    ∧ (∃ (s : State) (f : RingFrame), s.ringOpen = true ∧ s.serves Port.G (BitVec.setWidth 20 f.addr).toNat ∧ request f 3 ∧
      s.ringMine f = true ∧ frameBroadcast f = false ∧ s.time.catchDue = false ∧ (s.time.cn + 1).toNat % 256 ≠ 0 ∧
      ¬(49408 ≤ (BitVec.setWidth 20 f.addr).toNat ∧ (BitVec.setWidth 20 f.addr).toNat < 49536)) :=
  ⟨⟨wRing, fR 1 0x0E040 0, by unfold State.serves request; decide +kernel⟩,
    ⟨wRing, fR 2 0x0E040 7, by unfold State.serves request; decide +kernel⟩,
    ⟨wRing, fB 2 0x90068 7, by unfold State.serves request; decide +kernel⟩,
    ⟨wRing, fR 3 0x00044 7, by unfold State.serves request; decide +kernel⟩⟩

theorem witness_RingFramesPass :
    (∃ (s : State) (f : RingFrame), s.ringOpen = true ∧ ringOk f = true ∧ (f.op.toNat = 0 ∨ 6 < f.op.toNat))
    ∧ (∃ (s : State) (f : RingFrame), s.ringOpen = true ∧ ringOk f = true ∧ 1 ≤ f.op.toNat ∧ f.op.toNat ≤ 4 ∧
      (f.resp = true ∨ s.ringMine f = false ∧ frameBroadcast f = false) ∧ s.ring.buf = [])
    ∧ (∃ (s : State) (f : RingFrame), s.ringOpen = true ∧ ringOk f = true ∧ f.op = 5 ∧ f.resp = true ∧
      f.addr.toNat % 512 < 256)
    ∧ (∃ (s : State) (f : RingFrame), s.ringOpen = true ∧ ringOk f = true ∧ f.op = 5 ∧ f.resp = true ∧
      256 ≤ f.addr.toNat % 512) :=
  ⟨⟨wRing, fR 7 0 0, by decide +kernel⟩,
    ⟨wRing, resealed true { fR 1 0 0 with resp := true}, by decide +kernel⟩,
    ⟨wRing, resealed true { fR 5 7 0 with resp := true}, by decide +kernel⟩,
    ⟨wRing, resealed true { fR 5 0x100 0 with resp := true}, by decide +kernel⟩⟩

theorem witness_TheElasticBufferHolds :
    (∃ (s : State), s.ringOpen = true ∧ s.ring.rxDrop = false ∧ s.ring.buf.length < 32)
    ∧ (∃ (s : State) (c : RingChar) (l : List RingChar), s.ringOpen = true ∧ s.ring.ownLeft = 0 ∧ s.ring.own = 0 ∧
      s.ring.txIn = true ∧ s.ring.buf = c :: l)
    ∧ (∃ (s : State), s.ringOpen = true ∧ s.ring.rxDrop = false ∧ s.ring.buf.length = 32 ∧ s.ring.rxIn = true)
    ∧ (∃ (s : State), s.ringOpen = true ∧ s.ring.buf.length = 32)
    ∧ (∃ (s : State), s.ringOpen = true ∧ s.ring.ownLeft = 0 ∧ s.ring.own = 0 ∧ s.ring.txIn = true ∧ s.ring.buf = [])
    ∧ (∃ (s : State), s.ringOpen = true ∧ s.ring.ownLeft = 0 ∧ s.ring.own = 0 ∧ s.ring.txIn = false ∧ s.ring.buf = [])
    ∧ (∃ (s : State) (l : List RingChar), s.ringOpen = true ∧ s.ring.ownLeft = 0 ∧ s.ring.own = 0 ∧ s.ring.txIn = false ∧
      s.ring.idles = 2 ∧ s.ring.buf = RingChar.idle :: RingChar.idle :: l) :=
  ⟨⟨rg (fun r => {r with buf := [.data 7, .idle], txIn := true}), by decide +kernel⟩,
    ⟨rg (fun r => {r with buf := [.data 7, .idle], txIn := true}), RingChar.data 7, [RingChar.idle], by decide +kernel⟩,
    ⟨rg (fun r => {r with buf := (List.replicate 32 (.data 7)), rxIn := true}), by decide +kernel⟩,
    ⟨rg (fun r => {r with buf := (List.replicate 32 (.data 7)), rxIn := true}), by decide +kernel⟩,
    ⟨rg (fun r => {r with buf := [], txIn := true, rxIn := true}), by decide +kernel⟩,
    ⟨rg (fun r => {r with buf := [], txIn := false, idles := 1}), by decide +kernel⟩,
    ⟨rg (fun r => {r with buf := [.idle, .idle, .data 3], txIn := false, idles := 2}), [.data 3], by decide +kernel⟩⟩

theorem witness_WalksNumberTheHub :
    (∃ (s : State) (f : RingFrame), s.ringOpen = true ∧ request f 4 ∧ frameBroadcast f = true ∧ f.data.toNat % 512 < 256) :=
  ⟨wRing, fB 4 1 0x30005, by unfold request; decide +kernel⟩

theorem witness_RingResetNeedsItsKey :
    (∃ (s : State) (f : RingFrame) (k : Nat), s.ringOpen = true ∧ request f 6 ∧ f.data = 49349 ∧
      (s.ringMine f = true ∨ frameBroadcast f = true) ∧ ¬k ∈ resetKeys)
    ∧ (∃ (s : State) (f : RingFrame), s.ringOpen = true ∧ request f 6 ∧ f.data ≠ 49349 ∧ s.ringMine f = true) :=
  ⟨⟨wRing, fB 6 0 0xC0C5, 0, by unfold request; decide +kernel⟩,
    ⟨wRing, fR 6 0 0xC0C6, by unfold request; decide +kernel⟩⟩

theorem witness_TheRingPortOpensAndReports :
    (∃ (s : State), s.alive = true ∧ s.ringOpen = true ∧ s.ring.rxDrop = false ∧ s.ring.buf.length < 32)
    ∧ (∃ (s : State), s.alive = true ∧ (s.ring.told = none ∨ ∃ c, s.ring.told = some c ∧ c + 1000000 * 2 ^ 32 ≤ s.ring.now))
    ∧ (∃ (s : State), s.alive = true ∧ s.ringOpen = true ∧ s.helloDue = true)
    ∧ (∃ (s : State) (inFrame : Bool), s.alive = true ∧ (inFrame = true ∨ s.ring.rxIn = true)) :=
  ⟨⟨rg (fun r => {r with hello := true, helloAt := 0}), by decide +kernel⟩,
    ⟨rg (fun r => {r with hello := true, helloAt := 0}), by decide +kernel⟩,
    ⟨rg (fun r => {r with hello := true, helloAt := 0}), by decide +kernel⟩,
    ⟨wRingC, true, by decide +kernel⟩⟩

end Sys2Proof.Tests.Power

namespace Sys2Proof.Tests.Receiver
open Sys2Proof.Machine

def L5 : State := on wRun 0x55 1
def xL : Xcvr := .lane 5
def bL : Nat := xcvrBase xL
def P : State := on wRun 0x0E 1
def xP : Xcvr := .pace .A
def S3 : State := on wRun 0x7B satDown
def xS : Xcvr := .sat 3
def bS : Nat := xcvrBase xS
def wRunS3 : State := {(S3.setPstate 0x7B satRun).set (R.LANE_STATUS_RX_STATE bS) 2 with time := {wRun.time with cr := 5000, cn := 5000}}

theorem witness_ReceiversFollowTheirSignal :
    (∃ (s : State) (x : Xcvr), s.rxOn x = true ∧ s.rxState (xcvrBase x) = 0)
    ∧ (∃ (s : State) (x : Xcvr) (k : Nat), s.rxOn x = true ∧ k < 8)
    ∧ (∃ (s : State) (x : Xcvr) (k : Nat), s.rxOn x = true ∧ 8 ≤ k ∧ s.rxState (xcvrBase x) = 1 ∧ (xcvrLane x).isSome = true)
    ∧ (∃ (s : State) (x : Xcvr) (k : Nat) (b : Nat), s.rxOn x = true ∧ 8 ≤ k ∧ s.rxState (xcvrBase x) = 1 ∧ b ≠ xcvrBase x)
    ∧ (∃ (s : State) (x : Xcvr), s.rxOn x = true ∧ s.rxState (xcvrBase x) = 1)
    ∧ (∃ (s : State) (x : Xcvr) (cause : DownCause) (k : Nat), s.rxOn x = true ∧ s.rxState (xcvrBase x) = 2 ∧
      (cause = DownCause.commas → (xcvrLane x).isSome = false) ∧
      (cause = DownCause.codeErrors → s.sixteenErrors (xcvrBase x) = true) ∧ k ≠ xcvrBase x)
    ∧ (∃ (s : State) (x : Xcvr) (cause : DownCause), s.rxOn x = true ∧ s.rxState (xcvrBase x) = 2 ∧
      (cause = DownCause.commas → (xcvrLane x).isSome = false) ∧
      (cause = DownCause.codeErrors → s.sixteenErrors (xcvrBase x) = true) ∧ (s.es.find? (xcvrBase x)).isSome = true)
    ∧ (∃ (s : State) (x : Xcvr) (cause : DownCause), s.rxOn x = true ∧ s.rxState (xcvrBase x) = 2 ∧
      (cause = DownCause.commas → (xcvrLane x).isSome = false) ∧
      (cause = DownCause.codeErrors → s.sixteenErrors (xcvrBase x) = true) ∧
      (∀ (n : Fin 32), x = Xcvr.lane n → ↑n < 24 → s.linkState (↑n / 3) = slipOff))
    ∧ (∃ (s : State) (x : Xcvr) (cause : DownCause), s.rxOn x = true ∧ s.rxState (xcvrBase x) = 2 ∧
      (cause = DownCause.commas → (xcvrLane x).isSome = false) ∧
      (cause = DownCause.codeErrors → s.sixteenErrors (xcvrBase x) = true) ∧ s.tablesWf = true) :=
  ⟨⟨L5, xL, by decide +kernel⟩,
    ⟨L5, xL, 3, by decide +kernel⟩,
    ⟨L5.set (R.LANE_STATUS_RX_STATE bL) 1, xL, 8, by decide +kernel⟩,
    ⟨L5.set (R.LANE_STATUS_RX_STATE bL) 1, xL, 8, 7, by decide +kernel⟩,
    ⟨L5.set (R.LANE_STATUS_RX_STATE bL) 1, xL, by decide +kernel⟩,
    ⟨{L5.set (R.LANE_STATUS_RX_STATE bL) 2 with es := [(bL,0)], rxErr := [(bL, List.replicate 16 0)]}, xL, DownCause.codeErrors, bL+1, by decide +kernel⟩,
    ⟨{L5.set (R.LANE_STATUS_RX_STATE bL) 2 with es := [(bL,0)], rxErr := [(bL, List.replicate 16 0)]}, xL, DownCause.codeErrors, by decide +kernel⟩,
    ⟨{L5.set (R.LANE_STATUS_RX_STATE bL) 2 with es := [(bL,0)], rxErr := [(bL, List.replicate 16 0)]}, xL, DownCause.codeErrors, by decide +kernel⟩,
    ⟨{L5.set (R.LANE_STATUS_RX_STATE bL) 2 with es := [(bL,0)], rxErr := [(bL, List.replicate 16 0)]}, xL, DownCause.codeErrors, by decide +kernel⟩⟩

theorem witness_CodeErrorsAreCounted :
    (∃ (s : State) (x : Xcvr) (k : Nat), s.rxOn x = true ∧ k ≠ xcvrBase x)
    ∧ (∃ (s : State) (x : Xcvr) (n : Fin 32), s.rxOn x = true ∧ x = Xcvr.lane n)
    ∧ (∃ (s : State) (x : Xcvr), s.rxOn x = true ∧ (∀ (p : Fin 16), x ≠ Xcvr.sat p))
    ∧ (∃ (s : State) (x : Xcvr) (l : PaceLane), s.rxOn x = true ∧ x = Xcvr.pace l)
    ∧ (∃ (s : State) (x : Xcvr) (item : SatItem) (p : Fin 16), s.rxOn x = true ∧ x = Xcvr.sat p ∧ s.satListens p.val = true ∧
      item ≠ SatItem.idle ∧ item = SatItem.hit ∧ s.satState p.val = satRun)
    ∧ (∃ (s : State) (x : Xcvr) (item : SatItem) (p : Fin 16), s.rxOn x = true ∧ x = Xcvr.sat p ∧ s.satListens p.val = true ∧
      item ≠ SatItem.idle ∧ item = SatItem.frame)
    ∧ (∃ (s : State) (x : Xcvr) (item : SatItem) (p : Fin 16), s.rxOn x = true ∧ x = Xcvr.sat p ∧ s.satListens p.val = true ∧
      item ≠ SatItem.idle ∧ (item = SatItem.frame ∨ s.satState p.val ≠ satRun)) :=
  ⟨⟨L5, xL, 9, by decide +kernel⟩,
    ⟨L5, xL, 5, by decide +kernel⟩,
    ⟨L5, xL, by decide +kernel⟩,
    ⟨P, xP, PaceLane.A, by decide +kernel⟩,
    ⟨wRunS3, xS, SatItem.hit, 3, by decide +kernel⟩,
    ⟨wRunS3, xS, SatItem.frame, 3, by decide +kernel⟩,
    ⟨wRunS3, xS, SatItem.frame, 3, by decide +kernel⟩⟩

end Sys2Proof.Tests.Receiver

namespace Sys2Proof.Tests.Lane
open Sys2Proof.Machine

def wL : State := {on (on wRun 0x50 1) 8 1 with time := {wRun.time with cr := 5000, cn := 5000+8}}
def wLf : State := wL.set (R.LANE_FEATHER_EN 0x50000) 1
def wLfe : State := (wLf.setPstate 0x50 2).set (R.LANE_FEATHER_EN 0x50000) 0
def chk (r m : Nat) : Checker := ⟨0, 7, r, 900, List.replicate m 890, 1⟩
def wTst : State := {(wL.setPstate 0x50 3) with es := [(0x50000, 4800)], tests := [0x0E1C0], checks := [(0x50000, chk 64 64)]}
def wTstL : State := wTst.set (R.LANE_STATUS_CHK_LOCK 0x50000) 1
def wTstP : State := {wTst.set (R.LANE_STATUS_CHK_LOCK 0x0E1C0) 1 with es := [(0x0E1C0, 4)], checks := [(0x0E1C0, chk 0 64)], time := {wTst.time with cr := 500000}}
def wU : State := upSlip {wRun with time := {wRun.time with cr := 50000, cn := 50000, catches := 200}} slipUp
def wBad1 : State := {wU with links := wU.links.set 0 {wU.link 0 with mkBad := 1}}
def mk (m : Byte) (p : Int) : MarkerIn := ⟨m, p⟩
def wCaps : State := {upSlip {wRun with time := {wRun.time with cr := 50000, cn := 50000, catches := 200}} slipCaps with links := wRun.links.set 0 {wRun.link 0 with capCr := some 100}}

theorem witness_LanesFeatherAndWake :
    (∃ (s : State) (n : Fin 24), s.alive = true ∧ s.pstate (80 + n.val) = 1 ∧
      s.flag (R.LANE_FEATHER_EN ((80 + n.val) * 4096)) = true ∧
      max 1 (s.get (R.LANE_FEATHER_IDLE_CR ((80 + n.val) * 4096))) ≤ s.idleCount n.val ∧ s.pos ≠ 255 ∧ s.pos ≠ 0 ∧
      s.pstate 8 = 1)
    ∧ (∃ (s : State) (n : Fin 24) (b : Nat), s.alive = true ∧ s.pstate (80 + n.val) = 2 ∧ s.burstDue n.val = true ∧
      b ≠ (80 + n.val) * 4096) :=
  ⟨⟨wLf, 0, by decide +kernel⟩,
    ⟨wLfe, 0, 7, by decide +kernel⟩⟩

theorem witness_TransmittersAreWatched :
    (∃ (s : State) (x : Xcvr), s.alive = true ∧
      (s.get (R.LANE_LOOP_MODE (xcvrBase x)) = 1 ∨ s.get (R.LANE_LOOP_MODE (xcvrBase x)) = 2) ∧ s.codes x = true ∧
      (Assoc.getD (fun _ => 0) s.loopFrom (xcvrBase x) ≤ s.time.cr)) :=
  ⟨wL.set (R.LANE_LOOP_MODE 0x50000) 1, Xcvr.lane 0, by decide +kernel⟩

theorem witness_PatternsAndEyesAreMeasured :
    (∃ (s : State) (pat : Nat) (c : Checker) (b : Bool), s.alive = true ∧ prbsBit pat c.reg ≠ b ∧
      ((List.filter (fun i => decide (c.bits < i + 1024)) c.miss).length = 63))
    ∧ (∃ (s : State) (x : Xcvr), s.alive = true ∧ s.testing x = true ∧ s.flag (R.LANE_STATUS_CHK_LOCK (xcvrBase x)) = false ∧
      1 ≤ (s.checker (xcvrBase x)).turns ∧ (xcvrLane x).isSome = true)
    ∧ (∃ (s : State) (x : Xcvr) (b : Nat), s.alive = true ∧ s.testing x = true ∧
      s.flag (R.LANE_STATUS_CHK_LOCK (xcvrBase x)) = false ∧ 1 ≤ (s.checker (xcvrBase x)).turns ∧ b ≠ xcvrBase x)
    ∧ (∃ (s : State) (x : Xcvr), s.alive = true ∧ s.testing x = true ∧ s.flag (R.LANE_STATUS_CHK_LOCK (xcvrBase x)) = true ∧
      1 ≤ (s.checker (xcvrBase x)).turns ∧ (xcvrLane x).isSome = true)
    ∧ (∃ (s : State) (x : Xcvr), s.alive = true ∧ s.testing x = true ∧ s.flag (R.LANE_STATUS_CHK_LOCK (xcvrBase x)) = true ∧
      1 ≤ (s.checker (xcvrBase x)).turns ∧ (s.es.find? (xcvrBase x)).isSome = true)
    ∧ (∃ (s : State) (x : Xcvr) (b : Nat), s.alive = true ∧ s.testing x = true ∧
      s.flag (R.LANE_STATUS_CHK_LOCK (xcvrBase x)) = true ∧ 1 ≤ (s.checker (xcvrBase x)).turns ∧ b ≠ xcvrBase x)
    ∧ (∃ (s : State) (x : Xcvr) (c : Nat), s.alive = true ∧ s.es.find? (xcvrBase x) = some c ∧
      2 ^ (20 + s.get (R.LANE_ES_CTL_N (xcvrBase x))) ≤ (s.time.cr + 1 - c) * (10 * symsPerCr x)) :=
  ⟨⟨wTst, 7, chk 63 63, true, by decide +kernel⟩,
    ⟨wTst, Xcvr.lane 0, by decide +kernel⟩,
    ⟨wTst, Xcvr.lane 0, 7, by decide +kernel⟩,
    ⟨wTstL, Xcvr.lane 0, by decide +kernel⟩,
    ⟨wTstL, Xcvr.lane 0, by decide +kernel⟩,
    ⟨wTstL, Xcvr.lane 0, 7, by decide +kernel⟩,
    ⟨wTstP, Xcvr.pace .A, 4, by decide +kernel⟩⟩

theorem witness_MarkersTrainALink :
    (∃ (s : State) (n : Fin 8) (m0 : Option MarkerIn) (m1 : Option MarkerIn) (m2 : Option MarkerIn) (p : Nat) (m : MarkerIn),
      s.alive = true ∧ s.tablesWf = true ∧ s.linkState n.val ≠ slipOff ∧ ¬p ∈ State.outOfWindow [m0, m1, m2] ∧
      [m0, m1, m2][p]? = some (some m) ∧ mapValid m.map = true ∧ s.rxState ((80 + 3 * n.val + p) * 4096) = 2 ∧
      s.errCrossings (3 * n.val + p) < 8) :=
  ⟨wBad1, 0, some (mk 7 3), some (mk 7 0), some (mk 1 (-5)), 0, mk 7 3, by decide +kernel⟩

theorem witness_CapabilitiesAreExchanged :
    (∃ (s : State) (n : Fin 8), s.alive = true ∧ s.tablesWf = true ∧ s.linkState n.val ≠ slipOff ∧
      s.linkState n.val ≠ slipUp)
    ∧ (∃ (s : State) (n : Fin 8), s.alive = true ∧ s.tablesWf = true ∧ s.linkState n.val = slipCaps ∧
      (∀ (c : Nat), (s.link n.val).capCr = some c → c + 16 ≤ s.time.cr))
    ∧ (∃ (s : State) (n : Fin 8), s.alive = true ∧ s.tablesWf = true ∧ s.linkState n.val = slipCaps ∧
      (s.link n.val).capSeen = false ∧ (s.link n.val).capSt + 16 ≤ s.time.catches)
    ∧ (∃ (s : State) (n : Fin 8), s.alive = true ∧ s.tablesWf = true ∧ s.linkState n.val ≠ slipOff ∧
      s.linkState n.val = slipCaps ∧ (s.link n.val).capTold = false)
    ∧ (∃ (s : State) (n : Fin 8), s.alive = true ∧ s.tablesWf = true ∧ s.linkState n.val ≠ slipOff ∧
      s.linkState n.val = slipUp) :=
  ⟨⟨wCaps, 0, by decide +kernel⟩,
    ⟨wCaps, 0, by decide +kernel, by decide +kernel, by decide +kernel, of_all (by decide +kernel)⟩,
    ⟨wCaps, 0, by decide +kernel⟩,
    ⟨wCaps, 0, by decide +kernel⟩,
    ⟨wU, 0, by decide +kernel⟩⟩

end Sys2Proof.Tests.Lane

namespace Sys2Proof.Tests.Slip
open Sys2Proof.Machine

def wU : State := upSlip {wRun with time := {wRun.time with cr := 50000, cn := 50000, catches := 200}} slipUp
abbrev B12 := BitVec 12
abbrev n0 : Fin 8 := 0
def wSl : Slot := ⟨5, 0, 0x1000, 49000, false⟩
def wSlots : State := {(wU.crewSet 5 5 24 4 1) with slots := [(3, wSl)]}
def wStale : State := {(wU.crewSet 5 5 24 4 1) with slots := [(3, {wSl with stale := true})]}
def tg (i c g : Nat) : Word := BitVec.ofNat 32 (i + c * 32 + g * 2^17)
def dGood : List Byte := leBytes 8 0x2000 ++ leBytes 8 0 ++ leBytes 4 1 ++ leBytes 4 1 ++ leBytes 8 0
def dLast : List Byte := leBytes 8 0x2000 ++ leBytes 8 0 ++ leBytes 4 1 ++ leBytes 4 2 ++ leBytes 8 0
def wPre : State := wU.set (R.CREW_Ew 7 9) 0xFFF00000
def wLate : State := {(wU.crewSet 5 5 24 4 1) with slots := [(3, {wSl with gen := 7})]}
def wNak : State := {wU with links := wU.links.set 0 {wU.link 0 with nakSent := true, ackFrom := some 100}}
def wLost : State := {wU with links := wU.links.set 0 {wU.link 0 with lost := [0]}}
def errs (s : State) (p : Nat) : State := {s with rxErr := [((0x50 + p) * 4096, (List.range 8).map (fun k => 50000 - k))]}
def pk (q : Nat) : Pkt := ⟨q, [1,2,3], false⟩
def wHeldA : Held := ⟨1, [1,2,3], 5, true, 0, 0, false, 0, [], false, true⟩
def wRep : State := {(wU.set (R.SLIP_STNn_SEQ_TX_NEXT 0) 3) with held := [wHeldA], links := wU.links.set 0 {wU.link 0 with replay := [pk 0, pk 1, pk 2], timer := 10}}
def wTmo : State := {wRep.set R.SLIP_CTL_REPLAY_MAX 3 with slots := [(3, wSl)]}
def wTmo2 : State := {wTmo with links := wTmo.links.set 0 {wTmo.link 0 with rowSeq := 0, rowCnt := 2}}
def wTmoOld : State := {wTmo with slots := [(3, {wSl with cr := 10})]}
def wTmoOldG : State := {wTmo with slots := [(3, {wSl with cr := 10, gen := 7})]}
def wFr5 : Held := ⟨1, [1,2,3], 5, true, 0, 0, false, 0, [], false, false⟩
def wDs : Desc := ⟨0x1000, 0, 64, false⟩
def crewOn (s : State) (c : Nat) : State := (((((on (on (on s 0x40 1) 0x41 1) 0x42 1).crewSet c 5 24 4 1).crewSet c 1 16 6 20).crewSet c 3 16 1 1).addCredits c 7).crewSet c 1 27 1 1
def wSt : State := {crewOn wU 5 with held := [wFr5], fetched := [(5, [wDs])], seats := [(0, 5)], seatUse := [0]}
def wStFull : State := {wSt with seats := (List.range 64).map (fun k => (k, 100 + k)), seatUse := []}
def wPau : State := {wSt.set (R.PAGE_CTL_PAUSE 0x42) 1 with held := []}
def wFetch : State := {wSt with fetched := []}
def wDma : Dma := ⟨1, 5, some wDs, 24, 0, false, false⟩
def wDmaM : Dma := ⟨1, 5, some {wDs with len := 8}, 8, 0, false, false⟩
def wDc : State := {wSt with dmas := [(0, wDma)]}
def wDcM : State := {wSt with dmas := [(0, wDmaM)]}
def wDcN : State := {wSt with dmas := [(0, {wDma with desc := some {wDs with notify := true}, stop := true})]}
def wJob : Job := ⟨1, 5, wDs, 0, 24, 7, 9⟩
def wRedo : State := {wSt with links := wSt.links.set 0 {wSt.link 0 with redo := [wJob], redoSent := 24}}
def vRedo (s : State) : State := match s.begin_.seated 5 with
  | some v => v
  | none => s
def wRedoF : State := {wRedo with seats := (List.range 64).map (fun k => (k, 100 + k)), seatUse := []}
def wQu : State := {((crewOn wU 5).crewSet 5 5 24 4 2) with quiesce := [(5, 100)]}
def wQuR : State := wQu.crewSet 5 5 29 1 1
def wQuE : State := {(wQuR.crewSet 5 5 28 1 1).crewSet 5 5 29 1 0 with slots := [(3, wSl)]}

theorem witness_PeerPacketsAreTakenInOrder :
    (∃ (s : State) (n : Fin 8) (seq : BitVec 12) (tv : Bool), s.alive = true ∧ s.tablesWf = true ∧
      s.linkState n.val = slipUp ∧ s.seqClass n.val seq.toNat = 0 ∧ tv = true)
    ∧ (∃ (s : State) (n : Fin 8) (seq : BitVec 12) (tag : Word), s.alive = true ∧ s.tablesWf = true ∧
      s.linkState n.val = slipUp ∧ s.seqClass n.val seq.toNat = 0 ∧
      (∀ (l : Slot), s.slots.find? (32 * n.val + bits tag 0 5) = some l → bits tag 5 12 ≠ l.crew ∨ bits tag 25 7 ≠ 0 ∨ bits tag 17 8 ≠ l.gen ∧ bits tag 17 8 = s.crewGen l.crew))
    ∧ (∃ (s : State) (n : Fin 8) (seq : BitVec 12) (crew : BitVec 12) (count : BitVec 16), s.alive = true ∧
      s.tablesWf = true ∧ s.linkState n.val = slipUp ∧ s.seqClass n.val seq.toNat = 0 ∧
      65535 < s.crewCredits crew.toNat + count.toNat)
    ∧ (∃ (s : State) (n : Fin 8) (seq : BitVec 12) (tag : Word) (st : Byte) (data : List Byte) (l : Slot), s.alive = true ∧
      s.tablesWf = true ∧ s.linkState n.val = slipUp ∧ s.seqClass n.val seq.toNat = 0 ∧
      s.slots.find? (32 * n.val + bits tag 0 5) = some l ∧ bits tag 5 12 = l.crew ∧ bits tag 17 8 = l.gen ∧
      bits tag 25 7 = 0 ∧ l.stale = false ∧ l.gen = s.crewGen l.crew ∧
      descError data (s.crewK l.crew) (BitVec.toNat st) = none ∧
      ofLeBytes (List.take 4 (List.drop 20 data)) / 2 % 2 = 0)
    ∧ (∃ (s : State) (n : Fin 8) (seq : BitVec 12) (tag : Word) (st : Byte) (data : List Byte) (l : Slot), s.alive = true ∧
      s.tablesWf = true ∧ s.linkState n.val = slipUp ∧ s.seqClass n.val seq.toNat = 0 ∧
      s.slots.find? (32 * n.val + bits tag 0 5) = some l ∧ bits tag 5 12 = l.crew ∧ bits tag 17 8 = l.gen ∧
      bits tag 25 7 = 0 ∧ l.stale = false ∧ l.gen = s.crewGen l.crew ∧
      descError data (s.crewK l.crew) (BitVec.toNat st) = none ∧
      ofLeBytes (List.take 4 (List.drop 20 data)) / 2 % 2 = 1)
    ∧ (∃ (s : State) (n : Fin 8) (seq : BitVec 12) (tag : Word) (st : Byte) (data : List Byte) (l : Slot) (kind : Nat),
      s.alive = true ∧ s.tablesWf = true ∧ s.linkState n.val = slipUp ∧ s.seqClass n.val seq.toNat = 0 ∧
      s.slots.find? (32 * n.val + bits tag 0 5) = some l ∧ bits tag 5 12 = l.crew ∧ bits tag 17 8 = l.gen ∧
      bits tag 25 7 = 0 ∧ l.stale = false ∧ l.gen = s.crewGen l.crew ∧
      descError data (s.crewK l.crew) (BitVec.toNat st) = some kind)
    ∧ (∃ (s : State) (n : Fin 8) (seq : BitVec 12) (tag : Word) (l : Slot), s.alive = true ∧ s.tablesWf = true ∧
      s.linkState n.val = slipUp ∧ s.seqClass n.val seq.toNat = 0 ∧
      s.slots.find? (32 * n.val + bits tag 0 5) = some l ∧ bits tag 5 12 = l.crew ∧ bits tag 17 8 = l.gen ∧
      bits tag 25 7 = 0 ∧ (l.stale = true ∨ l.gen ≠ s.crewGen l.crew))
    ∧ (∃ (s : State) (n : Fin 8) (seq : BitVec 12) (tag : Word) (l : Slot), s.alive = true ∧ s.tablesWf = true ∧
      s.linkState n.val = slipUp ∧ s.seqClass n.val seq.toNat = 0 ∧
      s.slots.find? (32 * n.val + bits tag 0 5) = some l ∧ bits tag 5 12 = l.crew ∧ bits tag 25 7 = 0 ∧
      bits tag 17 8 ≠ l.gen ∧ bits tag 17 8 ≠ s.crewGen l.crew)
    ∧ (∃ (s : State) (n : Fin 8) (seq : BitVec 12) (crew : BitVec 12) (tv : Bool) (count : BitVec 16) (tail : BitVec 46) (tag : Word) (st : Byte) (data : List Byte) (c : Instr),
      s.alive = true ∧ s.tablesWf = true ∧ s.linkState n.val = slipUp ∧ s.seqClass n.val seq.toNat = 1 ∧
      c ∈ [Instr.slipCredit n seq crew tv count tail, Instr.slipCompl n seq tag st data] ∧
      (s.link n.val).nakSent = false)
    ∧ (∃ (s : State) (n : Fin 8) (seq : BitVec 12) (crew : BitVec 12) (tv : Bool) (count : BitVec 16) (tail : BitVec 46) (tag : Word) (st : Byte) (data : List Byte) (c : Instr),
      s.alive = true ∧ s.tablesWf = true ∧ s.linkState n.val = slipUp ∧ s.seqClass n.val seq.toNat = 1 ∧
      c ∈ [Instr.slipCredit n seq crew tv count tail, Instr.slipCompl n seq tag st data] ∧
      (s.link n.val).nakSent = true)
    ∧ (∃ (s : State) (n : Fin 8) (seq : BitVec 12) (crew : BitVec 12) (tv : Bool) (count : BitVec 16) (tail : BitVec 46) (tag : Word) (st : Byte) (data : List Byte) (c : Instr),
      s.alive = true ∧ s.tablesWf = true ∧ s.linkState n.val = slipUp ∧ s.seqClass n.val seq.toNat = 2 ∧
      c ∈ [Instr.slipCredit n seq crew tv count tail, Instr.slipCompl n seq tag st data]) :=
  ⟨⟨wU, n0, 0, true, by decide +kernel⟩,
    ⟨wU, n0, 0, tg 3 5 0, by decide +kernel, by decide +kernel, by decide +kernel, by decide +kernel, of_all (by decide +kernel)⟩,
    ⟨wPre, n0, 0, 9, 77, by decide +kernel⟩,
    ⟨wSlots, n0, 0, tg 3 5 0, 0, dGood, wSl, by decide +kernel⟩,
    ⟨wSlots, n0, 0, tg 3 5 0, 0, dLast, wSl, by decide +kernel⟩,
    ⟨wSlots, n0, 0, tg 3 5 0, 1, dLast, wSl, 4, by decide +kernel⟩,
    ⟨wStale, n0, 0, tg 3 5 0, {wSl with stale := true}, by decide +kernel⟩,
    ⟨wLate, n0, 0, tg 3 5 3, {wSl with gen := 7}, by decide +kernel⟩,
    ⟨wU, n0, 5, 9, true, 77, 99, tg 3 5 0, 0, dGood, Instr.slipCredit n0 5 9 true 77 99, by decide +kernel⟩,
    ⟨wNak, n0, 5, 9, true, 77, 99, tg 3 5 0, 0, dGood, Instr.slipCompl n0 5 (tg 3 5 0) 0 dGood, by decide +kernel⟩,
    ⟨wU, n0, 4000, 9, true, 77, 99, tg 3 5 0, 0, dGood, Instr.slipCompl n0 4000 (tg 3 5 0) 0 dGood, by decide +kernel⟩⟩

theorem witness_DamageAndLossAreReported :
    (∃ (s : State) (n : Fin 8) (why : SlipDamage), s.alive = true ∧ s.tablesWf = true ∧ s.linkState n.val ≠ slipOff ∧
      why = SlipDamage.crc)
    ∧ (∃ (s : State) (n : Fin 8), s.alive = true ∧ s.tablesWf = true ∧ s.linkState n.val ≠ slipOff ∧
      s.linkState n.val = slipUp ∧ (s.link n.val).nakSent = false)
    ∧ (∃ (s : State) (n : Fin 8) (why : SlipDamage), s.alive = true ∧ s.tablesWf = true ∧ s.linkState n.val ≠ slipOff ∧
      why = SlipDamage.proto)
    ∧ (∃ (s : State) (n : Fin 8), s.alive = true ∧ s.tablesWf = true ∧ s.linkState n.val ≠ slipOff ∧
      (s.linkState n.val ≠ slipUp ∨ (s.link n.val).nakSent = true))
    ∧ (∃ (s : State) (n : Fin 8) (c : Nat), s.alive = true ∧ s.tablesWf = true ∧ (s.link n.val).ackFrom = some c ∧
      s.linkState n.val = slipUp ∧ c + max 1 (s.get R.SLIP_CTL_ACK_LAT) ≤ s.time.cr)
    ∧ (∃ (s : State) (n : Fin 8) (p : Fin 3), s.alive = true ∧ s.tablesWf = true ∧ s.linkState n.val ≠ slipOff ∧
      ¬p.val ∈ (s.link n.val).lost ∧
      (s.rxState ((80 + 3 * n.val + p.val) * 4096) ≠ 2 ∨ 8 ≤ s.errCrossings (3 * n.val + p.val)) ∧
      s.linkState n.val = slipUp ∧ s.rxState ((80 + 3 * n.val + p.val) * 4096) = 2) :=
  ⟨⟨wU, n0, SlipDamage.crc, by decide +kernel⟩,
    ⟨wU, n0, by decide +kernel⟩,
    ⟨wNak, n0, SlipDamage.proto, by decide +kernel⟩,
    ⟨wNak, n0, by decide +kernel⟩,
    ⟨wNak, n0, 100, by decide +kernel⟩,
    ⟨errs wLost 1, n0, 1, by decide +kernel⟩⟩

theorem witness_AcknowledgementsEmptyTheBuffer :
    (∃ (s : State) (n : Fin 8) (seq : BitVec 12) (map : Byte) (c : Instr), s.alive = true ∧ s.tablesWf = true ∧
      s.linkState n.val = slipUp ∧ (s.link n.val).replay.length + 2048 ≤ s.unacked n.val seq.toNat ∧
      c ∈ [Instr.slipAck n seq map, Instr.slipNak n seq map])
    ∧ (∃ (s : State) (n : Fin 8) (seq : BitVec 12), s.alive = true ∧ s.tablesWf = true ∧ s.linkState n.val = slipUp ∧
      s.unacked n.val seq.toNat < (s.link n.val).replay.length + 2048 ∧
      s.unacked n.val seq.toNat < (s.link n.val).replay.length)
    ∧ (∃ (s : State) (n : Fin 8) (seq : BitVec 12), s.alive = true ∧ s.tablesWf = true ∧ s.linkState n.val = slipUp ∧
      s.unacked n.val seq.toNat < (s.link n.val).replay.length + 2048 ∧
      (s.link n.val).replay.length ≤ s.unacked n.val seq.toNat)
    ∧ (∃ (s : State) (n : Fin 8) (seq : BitVec 12) (map : Byte), s.alive = true ∧ s.tablesWf = true ∧
      s.linkState n.val = slipUp ∧ s.unacked n.val seq.toNat = (s.link n.val).replay.length ∧
      (s.link n.val).replay ≠ [] ∧ (s.link n.val).repQ = [] ∧ (s.link n.val).repLeft = 0 ∧
      (s.link n.val).reform = false ∧ BitVec.getLsbD map 3 = false ∧
      s.txg n.val &&& BitVec.toNat map % 8 = s.txg n.val ∧ (s.link n.val).rowCnt + 1 < s.get R.SLIP_CTL_REPLAY_MAX ∧
      s.slipTold ≠ some s.time.catches) :=
  ⟨⟨wRep, n0, 7, 7, Instr.slipNak n0 7 7, by decide +kernel⟩,
    ⟨wRep, n0, 1, by decide +kernel⟩,
    ⟨wRep, n0, 4095, by decide +kernel⟩,
    ⟨wRep, n0, 4095, 7, by decide +kernel⟩⟩

theorem witness_LinkTimeoutsAct :
    (∃ (s : State) (n : Fin 8) (p : Pkt) (l : List Pkt), s.alive = true ∧ s.tablesWf = true ∧ s.linkState n.val = slipUp ∧
      (s.link n.val).replay = p :: l ∧ s.flag (R.SLIP_STNn_STATUS_HOLD n.val) = false ∧ (s.link n.val).reform = false ∧
      (s.link n.val).timer + max 16 (s.get R.SLIP_CTL_REPLAY_TMO) ≤ s.time.cr ∧
      (((s.link n.val).rowCnt = 0 ∨ (s.link n.val).rowSeq ≠ p.seq) ∧ 1 < s.get R.SLIP_CTL_REPLAY_MAX ∨ (s.link n.val).rowSeq = p.seq ∧ (s.link n.val).rowCnt + 1 < s.get R.SLIP_CTL_REPLAY_MAX) ∧
      s.slipTold ≠ some s.time.catches)
    ∧ (∃ (s : State) (n : Fin 8) (p : Pkt) (l : List Pkt), s.alive = true ∧ s.tablesWf = true ∧ s.linkState n.val = slipUp ∧
      (s.link n.val).replay = p :: l ∧ s.flag (R.SLIP_STNn_STATUS_HOLD n.val) = false ∧ (s.link n.val).reform = false ∧
      (s.link n.val).timer + max 16 (s.get R.SLIP_CTL_REPLAY_TMO) ≤ s.time.cr ∧ (s.link n.val).rowSeq = p.seq ∧
      (s.link n.val).rowCnt ≠ 0 ∧ s.get R.SLIP_CTL_REPLAY_MAX ≤ (s.link n.val).rowCnt + 1)
    ∧ (∃ (s : State) (n : Fin 8) (i : Fin 32) (l : Slot) (k : Nat), s.alive = true ∧ s.tablesWf = true ∧
      s.slots.find? (32 * n.val + i.val) = some l ∧ l.stale = false ∧
      l.cr + 256 * max 1 (s.get R.SLIP_READ_TMO) ≤ s.time.cr ∧ k ≠ 32 * n.val + i.val)
    ∧ (∃ (s : State) (n : Fin 8) (i : Fin 32) (l : Slot), s.alive = true ∧ s.tablesWf = true ∧
      s.slots.find? (32 * n.val + i.val) = some l ∧ l.stale = false ∧
      l.cr + 256 * max 1 (s.get R.SLIP_READ_TMO) ≤ s.time.cr ∧ l.gen = s.crewGen l.crew)
    ∧ (∃ (s : State) (n : Fin 8) (i : Fin 32) (l : Slot), s.alive = true ∧ s.tablesWf = true ∧
      s.slots.find? (32 * n.val + i.val) = some l ∧ l.stale = false ∧
      l.cr + 256 * max 1 (s.get R.SLIP_READ_TMO) ≤ s.time.cr ∧ l.gen ≠ s.crewGen l.crew) :=
  ⟨⟨wTmo, n0, pk 0, [pk 1, pk 2], by decide +kernel⟩,
    ⟨wTmo2, n0, pk 0, [pk 1, pk 2], by decide +kernel⟩,
    ⟨wTmoOld, n0, 3, {wSl with cr := 10}, 9, by decide +kernel⟩,
    ⟨wTmoOld, n0, 3, {wSl with cr := 10}, by decide +kernel⟩,
    ⟨wTmoOldG, n0, 3, {wSl with cr := 10, gen := 7}, by decide +kernel⟩⟩

theorem witness_StationsTakeFragmentsAndPause :
    (∃ (s : State) (n : Fin 8) (h : Held) (c : Nat), s.alive = true ∧ s.enabled (66 + n.val) = true ∧ s.enabled 64 = true ∧
      s.paused n.val = false ∧ s.linkState n.val = slipUp ∧ s.dmas.find? n.val = none ∧ (s.link n.val).redo = [] ∧
      s.choice n.val = some (h, c) ∧ (s.takeSeat c).isSome = true ∧ (s.seatOf c).isSome = true)
    ∧ (∃ (s : State) (n : Fin 8) (h : Held) (c : Nat), s.alive = true ∧ s.enabled (66 + n.val) = true ∧ s.enabled 64 = true ∧
      s.paused n.val = false ∧ s.linkState n.val = slipUp ∧ s.dmas.find? n.val = none ∧ (s.link n.val).redo = [] ∧
      s.choice n.val = some (h, c) ∧ (s.takeSeat c).isSome = true ∧ (s.seatOf c).isSome = true)
    ∧ (∃ (s : State) (n : Fin 8) (h : Held) (c : Nat), s.alive = true ∧ s.enabled (66 + n.val) = true ∧ s.enabled 64 = true ∧
      s.paused n.val = false ∧ s.linkState n.val = slipUp ∧ s.dmas.find? n.val = none ∧ (s.link n.val).redo = [] ∧
      s.choice n.val = some (h, c) ∧ (s.takeSeat c).isSome = false ∧ s.seatWait = false)
    ∧ (∃ (s : State) (n : Fin 8), s.alive = true ∧ s.paused n.val = true ∧ s.enabled (66 + n.val) = true ∧
      s.pstate (66 + n.val) ≠ 2 ∧ (∀ (p : Pkt), p ∈ (s.link n.val).replay → p.write = false)) :=
  ⟨⟨wSt, n0, wFr5, 5, by decide +kernel⟩,
    ⟨wSt, n0, wFr5, 5, by decide +kernel⟩,
    ⟨wStFull, n0, wFr5, 5, by decide +kernel⟩,
    ⟨wPau, n0, by decide +kernel⟩⟩

theorem witness_DescriptorsAreFetched :
    (∃ (s : State) (n : Fin 8) (c : BitVec 12) (i : Nat), s.alive = true ∧ s.tablesWf = true ∧
      s.enabled (66 + n.val) = true ∧ s.paused n.val = false ∧ s.crewStation c.toNat = n.val ∧
      s.canFetch c.toNat = true ∧ s.reading c.toNat = false ∧
      ((s.fetchedOf c.toNat).length + if s.inProgress c.toNat = true then 1 else 0) < 2 ∧
      ((List.filter (fun e => e.1 / 32 == n.val && !e.snd.stale) s.slots).length < s.get (R.SLIP_STNn_PEER_CAP_MAX_READS n.val)) ∧
      ((s.seatOf c.toNat).isSome = true ∨ (List.any s.dmas fun e => e.1 == n.val && e.snd.crew == c.toNat) = true) ∧
      (s.takeSeat c.toNat).isSome = true ∧ i < 32 ∧ s.slots.find? (32 * n.val + i) = none ∧
      (∀ (j : Nat), j < i → s.slots.find? (32 * n.val + j) ≠ none) ∧ s.linkTakes n.val = true ∧
      s.linkAwake n.val = true ∧ s.replayRoom n.val [19] = true) :=
  ⟨wFetch, n0, 5, 0, by decide +kernel⟩

theorem witness_DescriptorsComplete :
    (∃ (s : State) (n : Fin 8) (d : Dma) (x : Desc) (h : Held), s.alive = true ∧ s.tablesWf = true ∧
      s.paused n.val = false ∧ (s.link n.val).redo = [] ∧ s.dmas.find? n.val = some d ∧ d.desc = some x ∧
      s.heldOf d.held = some h ∧ (d.stop = true ∨ s.partLen d.held d.base x ≤ d.sent) ∧
      (s.mayStart n.val (s.statusSizes n.val x)).1 = true ∧
      (d.stop || decide (d.base + d.sent < 8 * h.words.length) && s.crewState d.crew != crewEnabled && (s.fetchedOf d.crew).isEmpty) = false ∧
      decide (d.base + d.sent < 8 * h.words.length) = false)
    ∧ (∃ (s : State) (n : Fin 8) (d : Dma) (x : Desc) (h : Held), s.alive = true ∧ s.tablesWf = true ∧
      s.paused n.val = false ∧ (s.link n.val).redo = [] ∧ s.dmas.find? n.val = some d ∧ d.desc = some x ∧
      s.heldOf d.held = some h ∧ (d.stop = true ∨ s.partLen d.held d.base x ≤ d.sent) ∧
      (s.mayStart n.val (s.statusSizes n.val x)).1 = true ∧
      (d.stop || decide (d.base + d.sent < 8 * h.words.length) && s.crewState d.crew != crewEnabled && (s.fetchedOf d.crew).isEmpty) = false ∧
      decide (d.base + d.sent < 8 * h.words.length) = true)
    ∧ (∃ (s : State) (n : Fin 8) (d : Dma) (x : Desc) (h : Held), s.alive = true ∧ s.tablesWf = true ∧
      s.paused n.val = false ∧ (s.link n.val).redo = [] ∧ s.dmas.find? n.val = some d ∧ d.desc = some x ∧
      s.heldOf d.held = some h ∧ (d.stop = true ∨ s.partLen d.held d.base x ≤ d.sent) ∧
      (s.mayStart n.val (s.statusSizes n.val x)).1 = true ∧
      (d.stop || decide (d.base + d.sent < 8 * h.words.length) && s.crewState d.crew != crewEnabled && (s.fetchedOf d.crew).isEmpty) = true)
    ∧ (∃ (s : State) (n : Fin 8) (j : Job) (l : List Job) (v : State), s.alive = true ∧ s.tablesWf = true ∧
      s.paused n.val = false ∧ (s.link n.val).redo = j :: l ∧ j.bytes ≤ (s.link n.val).redoSent ∧
      s.begin_.seated j.crew = some v ∧ (v.mayStart n.val (v.statusSizes n.val j.desc)).1 = true)
    ∧ (∃ (s : State) (n : Fin 8) (j : Job) (l : List Job), s.alive = true ∧ s.tablesWf = true ∧ s.paused n.val = false ∧
      (s.link n.val).redo = j :: l ∧ j.bytes ≤ (s.link n.val).redoSent ∧ s.begin_.seated j.crew = none ∧
      s.seatWait = false) :=
  ⟨⟨wDc, n0, wDma, wDs, wFr5, by decide +kernel⟩,
    ⟨wDcM, n0, wDmaM, {wDs with len := 8}, wFr5, by decide +kernel⟩,
    ⟨wDcN, n0, {wDma with desc := some {wDs with notify := true}, stop := true}, {wDs with notify := true}, wFr5, by decide +kernel⟩,
    ⟨wRedo, n0, wJob, [], vRedo wRedo, by decide +kernel⟩,
    ⟨wRedoF, n0, wJob, [], by decide +kernel⟩⟩

theorem witness_CrewsBecomeQuiet :
    (∃ (s : State) (c : BitVec 12), s.alive = true ∧ s.crewState c.toNat = crewQuiescing ∧ s.inProgress c.toNat = false ∧
      (s.reading c.toNat = true → (s.quiesce.find? c.toNat).getD 0 + 4096 ≤ s.time.cr) ∧ s.crewGet c.toNat 5 29 1 = 0)
    ∧ (∃ (s : State) (c : BitVec 12), s.alive = true ∧ s.crewState c.toNat = crewQuiescing ∧ s.inProgress c.toNat = false ∧
      (s.reading c.toNat = true → (s.quiesce.find? c.toNat).getD 0 + 4096 ≤ s.time.cr) ∧ s.reading c.toNat = false)
    ∧ (∃ (s : State) (c : BitVec 12), s.alive = true ∧ s.crewState c.toNat = crewQuiescing ∧ s.inProgress c.toNat = false ∧
      (s.reading c.toNat = true → (s.quiesce.find? c.toNat).getD 0 + 4096 ≤ s.time.cr) ∧ s.crewGet c.toNat 5 29 1 = 1)
    ∧ (∃ (s : State) (c : BitVec 12), s.alive = true ∧ s.crewState c.toNat = crewQuiescing ∧ s.inProgress c.toNat = false ∧
      (s.reading c.toNat = true → (s.quiesce.find? c.toNat).getD 0 + 4096 ≤ s.time.cr) ∧ s.reading c.toNat = true) :=
  ⟨⟨wQu, 5, by decide +kernel⟩,
    ⟨wQu, 5, by decide +kernel⟩,
    ⟨wQuR, 5, by decide +kernel⟩,
    ⟨wQuE, 5, by decide +kernel⟩⟩

end Sys2Proof.Tests.Slip

namespace Sys2Proof.Tests.Trigger
open Sys2Proof.Machine

def wSt0 : State := (on {wRun with time := {wRun.time with cr := 700, cn := 700}} 0x31 1).set (R.START_INs_CTL_EN 2) 1
def wSt1 : State := {wSt0.set (R.START_INs_CTL_TRIG 2) 1 with startLast := [(2, 700)]}
def wSt2 : State := {wSt1 with startLast := [(2, 699)]}
def wAc : State := (on wRun 0x30 1).set R.PACEA_RUN_ACTIVE 1
def t0 (s : State) : State := { s with hits := [(674, 3)], autoCnt := 5, time := {wRun.time with cr := 700, cn := 700, catches := 3, lastCatch := 700, catchDue := false} }
def wSf0 : State := (t0 (on wRun 0x32 1)).set R.ACQ_AUTO_TIMEOUT 3
def wSf1 : State := (t0 (on wAc 0x32 1)).set R.ACQ_AUTO_TIMEOUT 3
def wSf2 : State := (t0 ((on wAc 0x32 1).set R.SELF_CTL_COINC_EN 1)).set (R.NEIGH_PORTj_CTL_COINC 1) 1
def wSfD : State := (t0 (on ((wRun).set R.PACEA_RUN_ACTIVE 1) 0x32 1)).set R.ACQ_AUTO_TIMEOUT 3
def wSfH : State := {wSf1 with selfLast := some 674}
def wSfF : State := {wSf1 with accQ := List.replicate 256 { noEntry with anchor := 0 }}
def wSfCp : State := {wSf2 with prevRegs := wSf2.regs}
def wStD : State := {(wSf1.set R.ACQ_AUTO_TIMEOUT 0).set (R.START_INs_DELAY 2) 5000 with startQ := [(697, 2, 5)]}
def nb (s : State) (j st : Nat) : State := (on {s with time := {wRun.time with cr := 700, cn := 700, catches := 50}} 0x33 1).set (R.NEIGH_PORTj_STATUS_STATE j) st
def wN1 : State := nb wRun 2 1
def wN2 : State := (nb wRun 2 2).set (R.NEIGH_PORTj_CTL_AUTO 2) 1
def wN2n : State := (nb wRun 2 2).set (R.NEIGH_PORTj_CTL_AUTO 2) 0
def wN3 : State := {(nb wRun 2 3) with nbMsg := [(2, (31, 0x123456))]}
abbrev j2 : Fin 4 := 2
def wN3e : State := {wN3 with nbErrs := [(2, List.replicate 15 690)]}

theorem witness_StartEdgesAreStamped :
    (∃ (s : State) (n : Fin 4) (stampable : Bool), s.alive = true ∧ s.enabled 49 = true ∧
      s.flag (R.START_INs_CTL_EN n.val) = true ∧ (stampable = false ∨ s.startLast.find? n.val = some s.time.cr))
    ∧ (∃ (s : State) (n : Fin 4) (stampable : Bool), s.alive = true ∧ s.enabled 49 = true ∧
      s.flag (R.START_INs_CTL_EN n.val) = true ∧ stampable = true ∧ s.startLast.find? n.val ≠ some s.time.cr) :=
  ⟨⟨wSt0, 2, false, by decide +kernel⟩,
    ⟨wSt2, 2, true, by decide +kernel⟩⟩

theorem witness_HubTriggersAreMade :
    (∃ (s : State) (n : Nat), s.alive = true ∧ noStarts s ∧ s.time.cr = n + 26 ∧ s.selfSeen ≠ some n ∧
      s.enabled 50 = true ∧ (Assoc.getD (fun _ => 0) s.hits n ≠ 0) ∧
      (match s.selfLast with   | none => false   | some l => decide (n ≤ l + s.get R.SELF_CTL_HOLDOFF)) =   false ∧
      (s.flag R.SELF_CTL_COINC_EN = false ∨ s.coincides n = true) ∧ s.running = false)
    ∧ (∃ (s : State) (n : Nat), s.alive = true ∧ noStarts s ∧ s.time.cr = n + 26 ∧ s.selfSeen ≠ some n ∧
      s.enabled 50 = true ∧ (Assoc.getD (fun _ => 0) s.hits n ≠ 0) ∧
      (match s.selfLast with   | none => false   | some l => decide (n ≤ l + s.get R.SELF_CTL_HOLDOFF)) =   false ∧
      (s.flag R.SELF_CTL_COINC_EN = false ∨ s.coincides n = true) ∧ s.running = true ∧ s.enabled 48 = true ∧
      (∀ (q : Nat), some (s.get R.SELF_PRESCALE) = some q → Assoc.getD (fun _ => 0) s.presc 5 = 0 ∨ s.prescale q ≤ Assoc.getD (fun _ => 0) s.presc 5) ∧
      s.accQ.length < 256)
    ∧ (∃ (s : State) (n : Nat), s.alive = true ∧ noStarts s ∧ s.time.cr = n + 26 ∧ s.selfSeen ≠ some n ∧
      s.enabled 50 = true ∧ (Assoc.getD (fun _ => 0) s.hits n ≠ 0) ∧
      (match s.selfLast with   | none => false   | some l => decide (n ≤ l + s.get R.SELF_CTL_HOLDOFF)) =   false ∧
      s.flag R.SELF_CTL_COINC_EN = true ∧ s.coincides n = false)
    ∧ (∃ (s : State) (n : Nat), s.alive = true ∧ noStarts s ∧ s.time.cr = n + 26 ∧ s.selfSeen ≠ some n ∧
      s.enabled 50 = true ∧ (Assoc.getD (fun _ => 0) s.hits n ≠ 0) ∧
      (match s.selfLast with   | none => false   | some l => decide (n ≤ l + s.get R.SELF_CTL_HOLDOFF)) =   false ∧
      (s.flag R.SELF_CTL_COINC_EN = false ∨ s.coincides n = true) ∧ s.running = true ∧ s.enabled 48 = false)
    ∧ (∃ (s : State) (n : Nat), s.alive = true ∧ noStarts s ∧ s.time.cr = n + 26 ∧ s.selfSeen ≠ some n ∧
      (s.enabled 50 = false ∨   Assoc.getD (fun _ => 0) s.hits n = 0 ∨     (match s.selfLast with       | none => false       | some l => decide (n ≤ l + s.get R.SELF_CTL_HOLDOFF)) =       true))
    ∧ (∃ (s : State) (n : Nat), s.alive = true ∧ noStarts s ∧ s.time.cr = n + 26 ∧ s.selfSeen ≠ some n ∧
      s.enabled 50 = true ∧ (Assoc.getD (fun _ => 0) s.hits n ≠ 0) ∧
      (match s.selfLast with   | none => false   | some l => decide (n ≤ l + s.get R.SELF_CTL_HOLDOFF)) =   false ∧
      (s.flag R.SELF_CTL_COINC_EN = false ∨ s.coincides n = true) ∧ s.running = true ∧ s.enabled 48 = true ∧
      (∀ (q : Nat), some (s.get R.SELF_PRESCALE) = some q → Assoc.getD (fun _ => 0) s.presc 5 = 0 ∨ s.prescale q ≤ Assoc.getD (fun _ => 0) s.presc 5) ∧
      256 ≤ s.accQ.length)
    ∧ (∃ (s : State) (c : Nat) (fine : Nat) (i : Fin 4), s.alive = true ∧ s.startQ = [(c, i.val, fine)] ∧ c + 3 ≤ s.time.cr ∧
      s.autoDue = false ∧ s.running = true ∧ s.enabled 48 = true ∧
      (∀ (q : Nat), some (s.get (R.START_INs_PRESCALE i.val)) = some q → Assoc.getD (fun _ => 0) s.presc (1 + i.val) = 0 ∨ s.prescale q ≤ Assoc.getD (fun _ => 0) s.presc (1 + i.val)) ∧
      s.accQ.length < 256) :=
  ⟨⟨wSf0, 674, by unfold noStarts; decide +kernel⟩,
    ⟨wSf1, 674, by decide +kernel, by unfold noStarts; decide +kernel, by decide +kernel, by decide +kernel, by decide +kernel, by decide +kernel, by decide +kernel, by decide +kernel, by decide +kernel, by decide +kernel, of_all (by decide +kernel), by decide +kernel⟩,
    ⟨wSfCp, 674, by unfold noStarts; decide +kernel⟩,
    ⟨wSfD, 674, by unfold noStarts; decide +kernel⟩,
    ⟨wSfH, 674, by unfold noStarts; decide +kernel⟩,
    ⟨wSfF, 674, by decide +kernel, by unfold noStarts; decide +kernel, by decide +kernel, by decide +kernel, by decide +kernel, by decide +kernel, by decide +kernel, by decide +kernel, by decide +kernel, by decide +kernel, of_all (by decide +kernel), by decide +kernel⟩,
    ⟨wStD, 697, 5, 2, by decide +kernel, by decide +kernel, by decide +kernel, by decide +kernel, by decide +kernel, by decide +kernel, of_all (by decide +kernel), by decide +kernel⟩⟩

theorem witness_NeighbourPortsTrainAndListen :
    (∃ (s : State) (j : Fin 4), s.alive = true ∧ s.nbState j.val = 1 ∧
      (Assoc.getD (fun _ => 0) s.nbSt j.val + 16 ≤ s.time.catches))
    ∧ (∃ (s : State) (j : Fin 4) (delay : BitVec 20), s.alive = true ∧ s.nbState j.val = 2 ∧ delay.toNat < 61440 ∧
      s.flag (R.NEIGH_PORTj_CTL_AUTO j.val) = true)
    ∧ (∃ (s : State) (j : Fin 4) (delay : BitVec 20), s.alive = true ∧ s.nbState j.val = 2 ∧ delay.toNat < 61440 ∧
      (s.flag (R.NEIGH_PORTj_CTL_AUTO j.val) = true ∨ s.get (R.NEIGH_PORTj_COMP_COARSE j.val) = 14 - delay.toNat / 4096 ∧ State.fineAligns delay.toNat (s.get (R.NEIGH_PORTj_COMP_FINE j.val)) = true))
    ∧ (∃ (s : State) (j : Fin 4) (w : Byte), s.alive = true ∧ 2 ≤ s.nbState j.val ∧ ones w % 2 = 0 ∧ s.nbState j.val ≠ 3)
    ∧ (∃ (s : State) (j : Fin 4) (delay : BitVec 20), s.alive = true ∧ s.nbState j.val = 2 ∧ 61440 ≤ delay.toNat)
    ∧ (∃ (s : State) (j : Fin 4) (delay : BitVec 20), s.alive = true ∧ s.nbState j.val = 2 ∧ delay.toNat < 61440 ∧
      s.flag (R.NEIGH_PORTj_CTL_AUTO j.val) = false ∧
      (s.get (R.NEIGH_PORTj_COMP_COARSE j.val) ≠ 14 - delay.toNat / 4096 ∨ State.fineAligns delay.toNat (s.get (R.NEIGH_PORTj_COMP_FINE j.val)) = false))
    ∧ (∃ (s : State) (j : Fin 4), s.alive = true ∧ s.nbState j.val = 3)
    ∧ (∃ (s : State) (j : Fin 4) (w : Byte), s.alive = true ∧ 2 ≤ s.nbState j.val ∧ ones w % 2 = 0 ∧ s.nbState j.val = 3 ∧
      ((List.filter (fun t => decide (s.time.cr < t + 256)) (s.time.cr :: Assoc.getD (fun _ => []) s.nbErrs j.val)).length < 16) ∧
      ((s.time.cn - 16).toNat % 256 ≠ 0 ∨ Assoc.getD (fun _ => 0) s.nbMiss j.val = 0))
    ∧ (∃ (s : State) (j : Fin 4) (w : Byte), s.alive = true ∧ 2 ≤ s.nbState j.val ∧ ones w % 2 = 0 ∧ s.nbState j.val = 3 ∧
      (16 ≤ (List.filter (fun t => decide (s.time.cr < t + 256)) (s.time.cr :: Assoc.getD (fun _ => []) s.nbErrs j.val)).length ∨ (s.time.cn - 16).toNat % 256 = 0 ∧ 1 ≤ Assoc.getD (fun _ => 0) s.nbMiss j.val)) :=
  ⟨⟨wN1, j2, by decide +kernel⟩,
    ⟨wN2, j2, 0x1000, by decide +kernel⟩,
    ⟨wN2, j2, 0x1000, by decide +kernel⟩,
    ⟨wN2, j2, 0xC0, by decide +kernel⟩,
    ⟨wN2, j2, 0xF000, by decide +kernel⟩,
    ⟨wN2n, j2, 0x1000, by decide +kernel⟩,
    ⟨wN3, j2, by decide +kernel⟩,
    ⟨wN3, j2, 5, by decide +kernel⟩,
    ⟨wN3e, j2, 5, by decide +kernel⟩⟩

end Sys2Proof.Tests.Trigger

namespace Sys2Proof.Tests.Cal
open Sys2Proof.Machine

abbrev b0 : Fin 24 := 0
def bankIs (s : State) (f : BankCal → BankCal) : State := {s with banks := s.banks.set 0 (f (s.bank 0))}
def wB : State := on (on {wRun with time := {wRun.time with cr := 51200, cn := 51200, catches := 2000, lastCatch := 51200, catchDue := false}} 7 1) 0x10 1
def wPu1 : State := bankIs wB (fun k => {k with spare := spPowerup, attempt := 1, step := 2, stepSt := 1990, failed := [1]})
def wPu5 : State := bankIs wB (fun k => {k with spare := spPowerup, attempt := 1, step := 5, stepSt := 0, failed := [1]})
def wPu2 : State := bankIs wB (fun k => {k with spare := spPowerup, attempt := 2, step := 5, stepSt := 1, failed := [1], second := [1,2], stuckPu := [7]})
def wStS : State := bankIs wB (fun k => {k with spare := spSelftest, step := 3, stepSt := 1990})
def wOv (c : Compare) : State := {bankIs wB (fun k => {k with spare := spOverlapOn, reach := true, ovl := none, cmp := c}) with time := {wB.time with cn := 51200+130}}
def wSe : State := bankIs wB (fun k => {k with spare := spSelftest, phaseSt := 100, puDone := true, stFor := none})
def wSeF : State := bankIs wSe (fun k => {k with stFor := some 4, queue := [1,2,3,5]})
def wSe6 : State := bankIs wSeF (fun k => {k with step := 6})
def wSe7 : State := bankIs wSe (fun k => {k with step := 7})
def wStk : State := {(bankIs wB (fun k => {k with runs := List.replicate 33 ⟨5, 261, []⟩, hot := [(3, 50000), (32, 50000)]})).set (R.BANK_CHi_POWER 0x10 3) 1 with words := [((4*51200 - 5) * 1024 + 3, 9), ((4*51200 - 6) * 1024 + 3, 9), ((4*51200 - 2) * 1024 + 4, 9)]}
def wEn : Entry := { noEntry with anchor := 40000, type := 3, evNo := 21, word1 := 77, word3 := 78, hub := 5 }
def wF0 : State := {on wB 0x30 1 with accQ := [wEn, wEn]}
def wF1 : State := {on wF0 0x38 1 with records := [1,2,3]}
def wFg : Frag := {noFrag with id := 7, w2 := 0x80000000}
def wF3 : State := {wF1 with frags := [wFg]}
def wFgN : Frag := {wFg with w2 := 0, banks := [⟨[1], [[1,2,3],[4,5]], [], 0⟩]}
def wF5 : State := {wF1 with frags := [wFgN], engines := (List.range 64).map (fun n => (n, ⟨9, 0, [1,2,3], false, true, 100, 0, none⟩))}
def wBp : BankPart := ⟨[1], [[1,2,3],[4,5]], [], 0⟩
def wFgL : Frag := {wFg with read := true, banks := [wBp], chanFlush := true}
def wEg : Engine := ⟨7, 0, [1,2,3], false, true, 100, 0, none⟩
def wLs : State := {on wB 0x39 1 with frags := [wFgL]}
def wEgL : Engine := ⟨7, 0, [1,2,3], true, false, 100, 0, some 2⟩
def wLsFull : State := {wLs with engines := (List.range 64).map (fun n => (n, wEg))}
def wLsL : State := {wLs with engines := [(5, wEgL)]}
def wFd : Frag := {wFgL with banks := [{wBp with stage := 2}], recs := [4,5], classA := true}
def wFdB : Frag := {wFd with classA := false}
def wD0 : State := {wB with frags := [wFd, wFg]}
def big (n : Nat) : Held := ⟨1, List.replicate n 0, 5, true, 0, 0, false, 0, [], false, true⟩
def wD2 : State := {wB with frags := [wFdB], held := [big 1000000]}
def wD4 : State := {wD0 with offer := some (big 5)}

theorem witness_PowerUpCalibrationEnds :
    (∃ (s : State) (b : Fin 24) (failed : List (Fin 33)), s.tablesWf = true ∧ s.atCatch = true ∧
      (s.bank b.val).spare = spSelftest ∧ (s.bank b.val).step < 6 ∧ (s.bank b.val).stepSt < s.time.catches ∧
      s.time.catches - (s.bank b.val).stepSt ≤ State.stBudget (s.bank b.val).step ∧ ¬32 ∈ failed)
    ∧ (∃ (s : State) (b : Fin 24) (failed : List (Fin 33)), s.tablesWf = true ∧ s.atCatch = true ∧
      (s.bank b.val).spare = spSelftest ∧ (s.bank b.val).step < 6 ∧ (s.bank b.val).stepSt < s.time.catches ∧
      State.stBudget (s.bank b.val).step ≤ s.time.catches - (s.bank b.val).stepSt ∧
      (State.stBudget (s.bank b.val).step < s.time.catches - (s.bank b.val).stepSt ∨ 32 ∈ failed))
    ∧ (∃ (s : State) (b : Fin 24) (failed : List (Fin 33)), s.tablesWf = true ∧ s.atCatch = true ∧
      (s.bank b.val).spare = spPowerup ∧ (s.bank b.val).attempt ≠ 0 ∧ (s.bank b.val).stepSt < s.time.catches ∧
      (failed = [] ∨ (s.bank b.val).stepSt + puTimeout (s.bank b.val).step ≤ s.time.catches) ∧ (s.bank b.val).step < 5)
    ∧ (∃ (s : State) (b : Fin 24) (failed : List (Fin 33)), s.tablesWf = true ∧ s.atCatch = true ∧
      (s.bank b.val).spare = spPowerup ∧ (s.bank b.val).attempt ≠ 0 ∧ (s.bank b.val).stepSt < s.time.catches ∧
      (failed = [] ∨ (s.bank b.val).stepSt + puTimeout (s.bank b.val).step ≤ s.time.catches) ∧
      5 ≤ (s.bank b.val).step ∧ (s.bank b.val).attempt = 1 ∧
      ((s.bank b.val).failed ++ List.filter (fun sl => !(s.bank b.val).failed.contains sl) (List.map (fun x : Fin 33 => x.val) failed) ≠ []))
    ∧ (∃ (s : State) (b : Fin 24) (failed : List (Fin 33)), s.tablesWf = true ∧ s.atCatch = true ∧
      (s.bank b.val).spare = spPowerup ∧ (s.bank b.val).attempt ≠ 0 ∧ (s.bank b.val).stepSt < s.time.catches ∧
      (failed = [] ∨ (s.bank b.val).stepSt + puTimeout (s.bank b.val).step ≤ s.time.catches) ∧
      5 ≤ (s.bank b.val).step ∧
      ((s.bank b.val).attempt ≠ 1 ∨ (s.bank b.val).failed ++ List.filter (fun sl => !(s.bank b.val).failed.contains sl) (List.map (fun x : Fin 33 => x.val) failed) = [])) :=
  ⟨⟨wStS, b0, ([] : List (Fin 33)), by decide +kernel⟩,
    ⟨bankIs wStS (fun k => {k with stepSt := 1500}), b0, ([] : List (Fin 33)), by decide +kernel⟩,
    ⟨wPu1, b0, ([] : List (Fin 33)), by decide +kernel⟩,
    ⟨wPu5, b0, ([] : List (Fin 33)), by decide +kernel⟩,
    ⟨wPu2, b0, ([] : List (Fin 33)), by decide +kernel⟩⟩

theorem witness_OverlapsAreCompared :
    (∃ (s : State) (b : Fin 24), s.alive = true ∧ State.comparing (s.bank b.val) = true ∧ (s.bank b.val).ovl = none ∧
      ((s.bank b.val).cmp.seen = 512 ∨ s.time.catchDue = true ∨ s.resyncDue = true) ∧
      s.compareVerdict (s.bank b.val).cmp ≠ some false)
    ∧ (∃ (s : State) (b : Fin 24), s.alive = true ∧ State.comparing (s.bank b.val) = true ∧ (s.bank b.val).ovl = none ∧
      ((s.bank b.val).cmp.seen = 512 ∨ s.time.catchDue = true ∨ s.resyncDue = true) ∧
      s.compareVerdict (s.bank b.val).cmp = some false) :=
  ⟨⟨wOv ⟨512, 400, 0, 0⟩, b0, by decide +kernel⟩,
    ⟨wOv ⟨512, 400, 400000, 400000000⟩, b0, by decide +kernel⟩⟩

theorem witness_SpareSelfTestsEnd :
    (∃ (s : State) (b : Fin 24) (pass : Bool), s.tablesWf = true ∧ s.atCatch = true ∧ (s.bank b.val).spare = spSelftest ∧
      (s.bank b.val).phaseSt + 512 ≤ s.time.catches ∧ (s.bank b.val).health.length = 33 ∧
      ((s.bank b.val).step = 6 ∨ pass = true ∧ (s.bank b.val).step ≠ 7) ∧ (s.bank b.val).stFor = none)
    ∧ (∃ (s : State) (b : Fin 24) (pass : Bool) (i : Nat), s.tablesWf = true ∧ s.atCatch = true ∧
      (s.bank b.val).spare = spSelftest ∧ (s.bank b.val).phaseSt + 512 ≤ s.time.catches ∧
      (s.bank b.val).health.length = 33 ∧ ((s.bank b.val).step = 6 ∨ pass = true ∧ (s.bank b.val).step ≠ 7) ∧
      (s.bank b.val).stFor = some i ∧ i < 32 ∧ (4 ≤ (List.filter (fun x => x != i) (s.bank b.val).queue).length))
    ∧ (∃ (s : State) (b : Fin 24) (pass : Bool), s.tablesWf = true ∧ s.atCatch = true ∧ (s.bank b.val).spare = spSelftest ∧
      (s.bank b.val).phaseSt + 512 ≤ s.time.catches ∧ (s.bank b.val).health.length = 33 ∧
      (¬((s.bank b.val).step = 6 ∨ pass = true ∧ (s.bank b.val).step ≠ 7))) :=
  ⟨⟨wSe, b0, true, by decide +kernel⟩,
    ⟨wSe6, b0, false, 4, by decide +kernel⟩,
    ⟨wSe7, b0, true, by decide +kernel⟩⟩

theorem witness_StuckSlicesAndBadCoefficientsAreTold :
    (∃ (s : State) (p : Fin 64) (k : Fin 256), s.alive = true ∧ ¬p.val * 256 + k.val ∈ s.badTaps)
    ∧ (∃ (s : State) (p : Fin 64) (k : Fin 256), s.alive = true ∧ p.val * 256 + k.val ∈ s.badTaps) :=
  ⟨⟨wStk, 5, 255, by decide +kernel⟩,
    ⟨{bankIs wStk (fun k => {k with puDone := true}) with badTaps := [1535]}, 5, 255, by decide +kernel⟩⟩

theorem witness_FragmentsAreBuilt :
    (∃ (s : State) (e : Entry) (l : List Entry), s.alive = true ∧ s.accQ = e :: l ∧ s.building = false ∧
      s.enabled 56 = false)
    ∧ (∃ (s : State) (e : Entry) (l : List Entry), s.alive = true ∧ s.accQ = e :: l ∧ s.building = false ∧
      s.enabled 56 = true ∧ s.flag (R.PAGE_CTL_PAUSE 56) = false ∧ s.readable e = true)
    ∧ (∃ (s : State) (f : Frag), s.alive = true ∧ (List.find? (fun f => !f.read) s.frags = some f) ∧
      s.lensClk ≤ 16 * s.time.cr + 15 ∧ f.w2.getLsbD 31 = true)
    ∧ (∃ (s : State) (f : Frag), s.alive = true ∧ (List.find? (fun f => !f.read) s.frags = some f) ∧
      s.lensClk ≤ 16 * s.time.cr + 15 ∧ f.w2.getLsbD 31 = false)
    ∧ (∃ (s : State) (f : Frag), s.alive = true ∧ (List.find? (fun f => !f.read) s.frags = some f) ∧
      s.lensClk ≤ 16 * s.time.cr + 15 ∧ s.lensWait = none ∧ s.lensStall ≠ some s.time.catches) :=
  ⟨⟨wF0, wEn, [wEn], by decide +kernel⟩,
    ⟨wF1, wEn, [wEn], by decide +kernel⟩,
    ⟨wF3, wFg, by decide +kernel⟩,
    ⟨wF5, wFgN, by decide +kernel⟩,
    ⟨wF5, wFgN, by decide +kernel⟩⟩

theorem witness_LensEnginesCode :
    (∃ (s : State) (f : Frag) (k : Nat) (b : BankPart) (n : Nat), s.alive = true ∧ s.waitingPayload = some (f, k) ∧
      f.banks[k]? = some b ∧ s.lensClk ≤ 16 * s.time.cr + 15 ∧ n < 64 ∧ s.engines.find? n = none ∧
      (∀ (m : Nat), m < n → s.engines.find? m ≠ none))
    ∧ (∃ (s : State) (f : Frag) (k : Nat) (b : BankPart), s.alive = true ∧ s.waitingPayload = some (f, k) ∧
      f.banks[k]? = some b ∧ s.lensClk ≤ 16 * s.time.cr + 15 ∧ (∀ (n : Nat), n < 64 → s.engines.find? n ≠ none) ∧
      s.lensWait = none ∧ s.lensStall ≠ some s.time.catches)
    ∧ (∃ (s : State) (n : Fin 64) (g : Engine) (f : Frag), s.alive = true ∧ s.engines.find? n.val = some g ∧
      State.engineDone g ≤ 16 * s.time.cr + 15 ∧ s.fragOf g.frag = some f ∧ g.last = false)
    ∧ (∃ (s : State) (n : Fin 64) (g : Engine) (f : Frag), s.alive = true ∧ s.engines.find? n.val = some g ∧
      State.engineDone g ≤ 16 * s.time.cr + 15 ∧ s.fragOf g.frag = some f ∧ g.last = true) :=
  ⟨⟨wLs, wFgL, 0, wBp, 0, by decide +kernel⟩,
    ⟨wLsFull, wFgL, 0, wBp, by decide +kernel⟩,
    ⟨wLsFull, 5, wEg, wFgL, by decide +kernel⟩,
    ⟨wLsL, 5, wEgL, wFgL, by decide +kernel⟩⟩

theorem witness_TheDerandomiserAdmits :
    (∃ (s : State) (f : Frag) (l : List Frag), s.alive = true ∧ s.frags = f :: l ∧ s.offer = none ∧ f.read = true ∧
      (∀ (b : BankPart), b ∈ f.banks → b.stage = 2) ∧ (f.classA = true ∨ s.occupancy < 117965))
    ∧ (∃ (s : State) (h : Held), s.alive = true ∧ s.offer = some h ∧ s.roomFor h = true)
    ∧ (∃ (s : State) (f : Frag) (l : List Frag), s.alive = true ∧ s.frags = f :: l ∧ s.offer = none ∧ f.read = true ∧
      (∀ (b : BankPart), b ∈ f.banks → b.stage = 2) ∧ f.classA = false ∧ 117965 ≤ s.occupancy ∧
      s.occupancy + 1 ≤ derandLines) :=
  ⟨⟨wD0, wFd, [wFg], by decide +kernel⟩,
    ⟨wD4, big 5, by decide +kernel⟩,
    ⟨wD2, wFdB, [], by decide +kernel, by decide +kernel, by decide +kernel, by decide +kernel, by decide +kernel, by decide +kernel, by simp [-List.reduceReplicate, State.occupancy, wD2, big, linesOf], by simp [-List.reduceReplicate, State.occupancy, wD2, big, linesOf, derandLines]⟩⟩

end Sys2Proof.Tests.Cal

namespace Sys2Proof.Tests.Sat
open Sys2Proof.Machine

abbrev p3 : Fin 16 := 3
def wS (st : Nat) : State := on (on {wRun with time := {wRun.time with cr := 51210, cn := 51210, catches := 200, lastCatch := 51200, catchDue := false}} 0x7B st) 0x88 1
def sp (s : State) (f : SatPort → SatPort) : State := {s with sats := s.sats.set 3 (f (s.sat 3))}
def capR : List Byte := leBytes 2 0x1234 ++ leBytes 2 0xFFFF
def capC : BitVec 16 := crc16 ([0x83, 1] ++ capR)
def wCp : State := sp (wS satCaps) (fun k => {k with asked := some (.cap, 50000)})
def wBk : State := sp (wS satRun) (fun k => {k with asked := some (.block 5, 50000)})
def wRunCap : State := sp (wS satRun) (fun k => {k with asked := some (.cap, 50000)})
def wRt : State := sp ((wS satRun).set (R.SAT_RT_REF 0x7B) 7) (fun k => {k with rt := some 10, agree := 1})
def wRtF : State := sp ((wS satRun).set (R.SAT_RT_REF 0x7B) 0x100) (fun k => {k with rt := some 10, agree := 1})
def wRtS : State := sp ((wS satResync).set (R.SAT_RT_REF 0x7B) 7) (fun k => {k with rt := some 10, agree := 1, syncSt := some 190})
def wAge : State := (wS satRun).set (R.SAT_AGE_MAX 0x7B) 100
def wQs : State := sp ((wS satRun).set (R.SHADOW_DATA (3*16384+7)) 99) (fun k => {k with next := 511, queue := [7, 8], dirty := [7,9]})
def wDi : State := sp ((wS satRun).set (R.SHADOW_DATA (3*16384+7)) 99) (fun k => {k with next := 511, dirty := [7,9]})
def wDu : State := sp ((wS satRun).set (R.SHADOW_DATA (3*16384+7)) 99) (fun k => {k with next := 511, due := some 5})
def wSc : State := sp (((wS satRun).set (R.SHADOW_DATA_MARK (3*16384+70)) 1).set R.SHADOW_SCRUB_EN 1) (fun k => {k with dueCr := some 1000})
def wSc2 : State := sp wSc (fun k => {k with next := 511, passSt := some 100})
def wSc2a : State := sp wSc2 (fun k => {k with asked := some (.block 2, 50000)})
def resp (a : Nat) : List Byte := leBytes 2 a ++ [32] ++ (List.range 32).flatMap (leBytes 2)
def respC (a : Nat) : BitVec 16 := crc16 (0x82 :: resp a)
def wUp0 : State := sp (wS satRun) (fun k => {k with asked := some (.block 2, 50000)})
def wUp1 : State := sp (((wS satRun).set (R.SHADOW_DATA_MARK (3*16384+70)) 1).set (R.SHADOW_DATA (3*16384+70)) 6) (fun k => {k with asked := some (.block 2, 50000)})
def wUp2 : State := sp (((wS satRun).set (R.SHADOW_DATA_MARK (3*16384+70)) 1).set (R.SHADOW_DATA (3*16384+70)) 7) (fun k => {k with asked := some (.block 2, 50000)})
def wUp3 : State := sp wUp2 (fun k => {k with suspect := [70]})

theorem witness_RiggerPortsComeUpAndGoDown :
    (∃ (s : State) (p : Fin 16), s.alive = true ∧ s.tablesWf = true ∧ s.satState p.val = satSignal)
    ∧ (∃ (s : State) (p : Fin 16) (cause : DownCause), s.alive = true ∧ s.tablesWf = true ∧ s.satState p.val ≠ satOff ∧
      s.satState p.val ≠ satDown ∧ (cause ≠ DownCause.codeErrors ∨ s.sixteenErrors ((120 + p.val) * 4096 + 448) = true))
    ∧ (∃ (s : State) (p : Fin 16) (ty : Byte) (v : Byte) (r : List Byte) (crc : BitVec 16), s.alive = true ∧
      s.tablesWf = true ∧ s.satListens p.val = true ∧ frameOk 131 (satFrame ty (v :: r) crc) = true ∧
      (satFrame ty (v :: r) crc).length = 8 ∧ (∀ (c : Nat), (s.sat p.val).asked ≠ some (SatAsk.cap, c)))
    ∧ (∃ (s : State) (p : Fin 16) (ty : Byte) (v : Byte) (r : List Byte) (crc : BitVec 16) (c : Nat), s.alive = true ∧
      s.tablesWf = true ∧ s.satListens p.val = true ∧ frameOk 131 (satFrame ty (v :: r) crc) = true ∧
      (satFrame ty (v :: r) crc).length = 8 ∧ (s.sat p.val).asked = some (SatAsk.cap, c) ∧ s.satState p.val = satCaps)
    ∧ (∃ (s : State) (p : Fin 16) (k : SatAsk) (c : Nat) (i : Instr), s.alive = true ∧ s.tablesWf = true ∧
      (s.sat p.val).asked = some (k, c) ∧ c + 64 ≤ s.time.cr ∧
      (i = Instr.satRespTimeout p ∨ k = SatAsk.cap ∧ i = Instr.satCapReqRetry p) ∧ k = SatAsk.cap ∧
      s.satState p.val = satCaps)
    ∧ (∃ (s : State) (p : Fin 16) (k : SatAsk) (c : Nat) (i : Instr) (b : Nat), s.alive = true ∧ s.tablesWf = true ∧
      (s.sat p.val).asked = some (k, c) ∧ c + 64 ≤ s.time.cr ∧
      (i = Instr.satRespTimeout p ∨ k = SatAsk.cap ∧ i = Instr.satCapReqRetry p) ∧ k = SatAsk.block b)
    ∧ (∃ (s : State) (p : Fin 16) (ty : Byte) (v : Byte) (r : List Byte) (crc : BitVec 16), s.alive = true ∧
      s.tablesWf = true ∧ s.satListens p.val = true ∧
      (frameOk 131 (satFrame ty (v :: r) crc) = false ∨ (satFrame ty (v :: r) crc).length ≠ 8))
    ∧ (∃ (s : State) (p : Fin 16) (k : SatAsk) (c : Nat) (i : Instr), s.alive = true ∧ s.tablesWf = true ∧
      (s.sat p.val).asked = some (k, c) ∧ c + 64 ≤ s.time.cr ∧
      (i = Instr.satRespTimeout p ∨ k = SatAsk.cap ∧ i = Instr.satCapReqRetry p) ∧ k = SatAsk.cap ∧
      s.satState p.val ≠ satCaps)
    ∧ (∃ (s : State) (p : Fin 16) (ty : Byte) (v : Byte) (r : List Byte) (crc : BitVec 16) (c : Nat), s.alive = true ∧
      s.tablesWf = true ∧ s.satListens p.val = true ∧ frameOk 131 (satFrame ty (v :: r) crc) = true ∧
      (satFrame ty (v :: r) crc).length = 8 ∧ (s.sat p.val).asked = some (SatAsk.cap, c) ∧ s.satState p.val ≠ satCaps) :=
  ⟨⟨wS satSignal, p3, by decide +kernel⟩,
    ⟨wS satSignal, p3, DownCause.commas, by decide +kernel⟩,
    ⟨wS satCaps, p3, 0x83, 1, capR, capC, by decide +kernel, by decide +kernel, by decide +kernel, by decide +kernel, by decide +kernel, of_cap (by decide +kernel)⟩,
    ⟨wCp, p3, 0x83, 1, capR, capC, 50000, by decide +kernel⟩,
    ⟨wCp, p3, SatAsk.cap, 50000, Instr.satCapReqRetry p3, by decide +kernel⟩,
    ⟨wBk, p3, SatAsk.block 5, 50000, Instr.satRespTimeout p3, 5, by decide +kernel⟩,
    ⟨wCp, p3, 0x83, 1, capR, 0, by decide +kernel⟩,
    ⟨sp (wS satRun) (fun k => {k with asked := some (.cap, 50000)}), p3, SatAsk.cap, 50000, Instr.satCapReqRetry p3, by decide +kernel⟩,
    ⟨wRunCap, p3, 0x83, 1, capR, capC, 50000, by decide +kernel⟩⟩

theorem witness_RiggerPortsResynchronise :
    (∃ (s : State) (p : Fin 16), s.alive = true ∧ s.tablesWf = true ∧
      (s.satState p.val = satRun ∨ s.satState p.val = satResync) ∧ s.satState p.val = satRun ∧
      s.get (R.SAT_RT_REF (120 + p.val)) ≠ 256 ∧ s.get (R.SAT_RT_REF (120 + p.val)) ≠ s.pos)
    ∧ (∃ (s : State) (p : Fin 16), s.alive = true ∧ s.tablesWf = true ∧
      (s.satState p.val = satRun ∨ s.satState p.val = satResync) ∧ s.get (R.SAT_RT_REF (120 + p.val)) ≠ 256 ∧
      s.get (R.SAT_RT_REF (120 + p.val)) ≠ s.pos ∧
      2 ≤ if (s.sat p.val).rt = some s.pos then (s.sat p.val).agree + 1 else 1)
    ∧ (∃ (s : State) (p : Fin 16), s.alive = true ∧ s.tablesWf = true ∧
      (s.satState p.val = satRun ∨ s.satState p.val = satResync) ∧
      (s.satState p.val = satResync ∨ s.get (R.SAT_RT_REF (120 + p.val)) = 256 ∨ s.get (R.SAT_RT_REF (120 + p.val)) = s.pos))
    ∧ (∃ (s : State) (p : Fin 16) (c : Nat), s.alive = true ∧ s.tablesWf = true ∧ (s.sat p.val).syncSt = some c ∧
      s.satState p.val = satResync ∧ (s.sat p.val).match_ < 2 ∧ c + 4 ≤ s.time.catches) :=
  ⟨⟨wRt, p3, by decide +kernel⟩,
    ⟨wRt, p3, by decide +kernel⟩,
    ⟨wRtF, p3, by decide +kernel⟩,
    ⟨wRtS, p3, 190, by decide +kernel⟩⟩

theorem witness_SatelliteHitsAreKept :
    (∃ (s : State) (p : Fin 16), s.alive = true ∧ s.tablesWf = true ∧ s.satState p.val ≠ satOff ∧
      s.satState p.val ≠ satDown ∧ s.satState p.val ≠ satRun)
    ∧ (∃ (s : State) (p : Fin 16) (b0 : Byte) (b1 : Byte) (b2 : Byte) (b3 : Byte), s.alive = true ∧ s.tablesWf = true ∧
      s.satState p.val ≠ satOff ∧ s.satState p.val ≠ satDown ∧ s.satState p.val = satRun ∧
      (s.pos + 512 - bits (BitVec.ofNat 32 (BitVec.toNat b0 + 2 ^ 8 * BitVec.toNat b1 + 2 ^ 16 * BitVec.toNat b2 + 2 ^ 24 * BitVec.toNat b3)) 14 8 - s.get (R.SAT_CR_OFS (120 + p.val))) % 256 ≤ s.get (R.SAT_AGE_MAX (120 + p.val)))
    ∧ (∃ (s : State) (p : Fin 16) (b0 : Byte) (b1 : Byte) (b2 : Byte) (b3 : Byte), s.alive = true ∧ s.tablesWf = true ∧
      s.satState p.val ≠ satOff ∧ s.satState p.val ≠ satDown ∧ s.satState p.val = satRun ∧
      s.get (R.SAT_AGE_MAX (120 + p.val)) < (s.pos + 512 - bits (BitVec.ofNat 32 (BitVec.toNat b0 + 2 ^ 8 * BitVec.toNat b1 + 2 ^ 16 * BitVec.toNat b2 + 2 ^ 24 * BitVec.toNat b3)) 14 8 - s.get (R.SAT_CR_OFS (120 + p.val))) % 256 ∧
      (s.sat p.val).lateTold ≠ some s.time.catches) :=
  ⟨⟨wRtS, p3, by decide +kernel⟩,
    ⟨wAge, p3, 0x00, 0x00, 0x00, 0x00, by decide +kernel⟩,
    ⟨wAge, p3, 0x00, 0x80, 0x0C, 0x00, by decide +kernel⟩⟩

theorem witness_TheShadowIsScrubbed :
    (∃ (s : State) (p : Fin 16) (a : Nat) (l : List Nat), s.alive = true ∧ s.tablesWf = true ∧ s.satState p.val = satRun ∧
      (s.sat p.val).tx.length < 6 ∧ (s.sat p.val).queue = a :: l)
    ∧ (∃ (s : State) (p : Fin 16), s.alive = true ∧ s.tablesWf = true ∧ s.satState p.val = satRun ∧ s.enabled 136 = true ∧
      s.flag R.SHADOW_SCRUB_EN = true ∧ (s.sat p.val).due = none ∧
      (∀ (c : Nat), (s.sat p.val).dueCr = some c → c + max 16 (s.get R.SHADOW_SCRUB_PERIOD) ≤ s.time.cr) ∧
      (s.sat p.val).retry = none ∧ s.markedBlock p.val (s.sat p.val).next = none ∧ (s.sat p.val).asked = none ∧
      (s.sat p.val).passSt = none)
    ∧ (∃ (s : State) (p : Fin 16) (a : Nat), s.alive = true ∧ s.tablesWf = true ∧ s.satState p.val = satRun ∧
      (s.sat p.val).tx.length < 6 ∧ (s.sat p.val).queue = [] ∧
      (List.find? (fun a => !s.shEcc p.val a) (s.sat p.val).dirty = some a))
    ∧ (∃ (s : State) (p : Fin 16) (b : Nat), s.alive = true ∧ s.tablesWf = true ∧ s.satState p.val = satRun ∧
      (s.sat p.val).tx.length < 6 ∧ (s.sat p.val).queue = [] ∧
      (∀ (a : Nat), a ∈ (s.sat p.val).dirty → s.shEcc p.val a = true) ∧ (s.sat p.val).due = some b ∧
      (s.sat p.val).asked = none)
    ∧ (∃ (s : State) (p : Fin 16) (b : Nat), s.alive = true ∧ s.tablesWf = true ∧ s.satState p.val = satRun ∧
      s.enabled 136 = true ∧ s.flag R.SHADOW_SCRUB_EN = true ∧ (s.sat p.val).due = none ∧
      (∀ (c : Nat), (s.sat p.val).dueCr = some c → c + max 16 (s.get R.SHADOW_SCRUB_PERIOD) ≤ s.time.cr) ∧
      ((s.sat p.val).retry = some b ∨ (s.sat p.val).retry = none ∧ s.markedBlock p.val (s.sat p.val).next = some b))
    ∧ (∃ (s : State) (p : Fin 16), s.alive = true ∧ s.tablesWf = true ∧ s.satState p.val = satRun ∧ s.enabled 136 = true ∧
      s.flag R.SHADOW_SCRUB_EN = true ∧ (s.sat p.val).due = none ∧
      (∀ (c : Nat), (s.sat p.val).dueCr = some c → c + max 16 (s.get R.SHADOW_SCRUB_PERIOD) ≤ s.time.cr) ∧
      (s.sat p.val).retry = none ∧ s.markedBlock p.val (s.sat p.val).next = none ∧ (s.sat p.val).asked.isSome = true) :=
  ⟨⟨wQs, p3, 7, [8], by decide +kernel⟩,
    ⟨wQs, p3, by decide +kernel, by decide +kernel, by decide +kernel, by decide +kernel, by decide +kernel, by decide +kernel, of_all (by decide +kernel), by decide +kernel, by decide +kernel, by decide +kernel, by decide +kernel⟩,
    ⟨wDi, p3, 7, by decide +kernel⟩,
    ⟨wDu, p3, 5, by decide +kernel⟩,
    ⟨wSc, p3, 2, by decide +kernel, by decide +kernel, by decide +kernel, by decide +kernel, by decide +kernel, by decide +kernel, of_all (by decide +kernel), by decide +kernel⟩,
    ⟨wSc2a, p3, by decide +kernel, by decide +kernel, by decide +kernel, by decide +kernel, by decide +kernel, by decide +kernel, of_all (by decide +kernel), by decide +kernel, by decide +kernel, by decide +kernel⟩⟩

theorem witness_UpsetsAreFound :
    (∃ (s : State) (p : Fin 16) (ty : Byte) (body : List Byte) (crc : BitVec 16) (b : Nat) (c : Nat), s.tablesWf = true ∧
      s.satListens p.val = true ∧ frameOk 130 (satFrame ty body crc) = true ∧
      frameLen (satFrame ty body crc) = some (satFrame ty body crc).length ∧
      (s.sat p.val).asked = some (SatAsk.block b, c) ∧ field (satFrame ty body crc) 1 2 = 32 * b ∧
      field (satFrame ty body crc) 3 1 = 32 ∧ (∀ (j : Nat), j < 32 → s.shMark p.val (32 * b + j) = false))
    ∧ (∃ (s : State) (p : Fin 16) (ty : Byte) (body : List Byte) (crc : BitVec 16), s.tablesWf = true ∧
      s.satListens p.val = true ∧ frameOk 130 (satFrame ty body crc) = true ∧
      frameLen (satFrame ty body crc) = some (satFrame ty body crc).length ∧
      (∀ (b c : Nat), (s.sat p.val).asked = some (SatAsk.block b, c) → field (satFrame ty body crc) 1 2 ≠ 32 * b ∨ field (satFrame ty body crc) 3 1 ≠ 32))
    ∧ (∃ (s : State) (p : Fin 16) (ty : Byte) (body : List Byte) (crc : BitVec 16) (b : Nat) (c : Nat) (i : Fin 32),
      s.tablesWf = true ∧ s.satListens p.val = true ∧ frameOk 130 (satFrame ty body crc) = true ∧
      frameLen (satFrame ty body crc) = some (satFrame ty body crc).length ∧
      (s.sat p.val).asked = some (SatAsk.block b, c) ∧ field (satFrame ty body crc) 1 2 = 32 * b ∧
      field (satFrame ty body crc) 3 1 = 32 ∧ (∀ (j : Nat), j < 32 → j ≠ i.val → s.shMark p.val (32 * b + j) = false) ∧
      s.shMark p.val (32 * b + i.val) = true ∧ s.shEcc p.val (32 * b + i.val) = false ∧
      (s.sat p.val).settling.find? (32 * b + i.val) = none ∧
      s.shGet p.val (32 * b + i.val) = field (satFrame ty body crc) (4 + 2 * i.val) 2 % 65536)
    ∧ (∃ (s : State) (p : Fin 16) (ty : Byte) (body : List Byte) (crc : BitVec 16) (b : Nat) (c : Nat) (i : Fin 32),
      s.tablesWf = true ∧ s.satListens p.val = true ∧ frameOk 130 (satFrame ty body crc) = true ∧
      frameLen (satFrame ty body crc) = some (satFrame ty body crc).length ∧
      (s.sat p.val).asked = some (SatAsk.block b, c) ∧ field (satFrame ty body crc) 1 2 = 32 * b ∧
      field (satFrame ty body crc) 3 1 = 32 ∧ (∀ (j : Nat), j < 32 → j ≠ i.val → s.shMark p.val (32 * b + j) = false) ∧
      s.shMark p.val (32 * b + i.val) = true ∧ s.shEcc p.val (32 * b + i.val) = false ∧
      (s.sat p.val).settling.find? (32 * b + i.val) = none ∧
      s.shGet p.val (32 * b + i.val) ≠ field (satFrame ty body crc) (4 + 2 * i.val) 2 % 65536 ∧
      32 * b + i.val ∈ (s.sat p.val).suspect)
    ∧ (∃ (s : State) (p : Fin 16) (ty : Byte) (body : List Byte) (crc : BitVec 16), s.tablesWf = true ∧
      s.satListens p.val = true ∧
      (frameOk 130 (satFrame ty body crc) = false ∨ frameLen (satFrame ty body crc) ≠ some (satFrame ty body crc).length)) :=
  ⟨⟨wUp0, p3, 0x82, resp 64, respC 64, 2, 50000, by decide +kernel⟩,
    ⟨wUp0, p3, 0x82, resp 65, respC 65, by decide +kernel, by decide +kernel, by decide +kernel, by decide +kernel, of_block (by decide +kernel)⟩,
    ⟨wUp1, p3, 0x82, resp 64, respC 64, 2, 50000, 6, by decide +kernel⟩,
    ⟨wUp3, p3, 0x82, resp 64, respC 64, 2, 50000, 6, by decide +kernel⟩,
    ⟨wUp2, p3, 0x82, resp 64, 0, by decide +kernel⟩⟩

end Sys2Proof.Tests.Sat

namespace Sys2Proof.Tests.Hk
open Sys2Proof.Machine

def wHk : State := on (on (on {wRun with time := {wRun.time with cr := 51210, cn := 51210, catches := 200, lastCatch := 51200, catchDue := false}} 0x90 1) 0x91 1) 0x92 1
def hk (s : State) (f : Hk → Hk) : State := {s with hk := f s.hk}
def wWaitI : State := hk wHk (fun k => {k with reg := .delay, inj := .running})
def wDel : State := hk ((wHk.set R.HKSEQ_REG_LEN 5).set R.HKSEQ_INJ_LEN 3) (fun k => {k with reg := .delay, inj := .delay})
def e0 : HkEntry := noHkEntry
def wDelA : State := hk (wDel.set R.HK_STATUS_ST_BUSY 1) (fun k => {k with cur := some e0})
def eE : HkEntry := {e0 with idx := 2, cfg := 0x01000000, limHi := 100, limLo := -100, seqNo := 300}
def eI : HkEntry := {e0 with inj := true, idx := 2, cfg := 0x01000000, limHi := -100, limLo := -200, seqNo := 30}
def wEnt : State := hk wHk (fun k => {k with reg := .running, regLen := 4, regIdx := 2, cur := some eE})
def wEntL : State := hk wHk (fun k => {k with inj := .running, injLen := 3, regIdx := 2, cur := some eI})
def wPend : State := wHk.set R.HK_STATUS_ST_PENDING 1
def wTest2 : State := wHk.set R.HK_STATUS_ST_BUSY 1
def ex1 : State := (((wTest2.set (R.HK_EXCk_EN 0) 1).set (R.HK_EXCk_EN 1) 1).set (R.HK_EXCk_EN 2) 1).set (R.HK_EXCk_EN 3) 1
def wExc : State := {ex1 with hk := {ex1.hk with exc := [⟨9,0,0⟩, ⟨0,9,1⟩, ⟨0,10,0⟩, ⟨10,0,0⟩], pt := [(2, (100, 50))]}}
def wCont (f : State → State) : State := f ((wEnt.set R.HK_REG_CTL_CONT 1).set R.HKSEQ_REG_LEN 4)
def eL : HkEntry := {eE with idx := 3}
def wC1 : State := wCont (fun s => hk s (fun k => {k with cur := some eL}))
def wC2 : State := wCont (fun s => hk (s.set R.HK_STATUS_ST_PENDING 1) (fun k => {k with cur := some eL}))

theorem witness_HousekeepingSequencesRun :
    (∃ (s : State), s.alive = true ∧ s.hk.reg = HkRun.delay ∧ (s.hkTesting = true ∨ s.hk.inj = HkRun.running))
    ∧ (∃ (s : State), s.alive = true ∧ s.hk.inj ≠ HkRun.delay)
    ∧ (∃ (s : State), s.alive = true ∧ s.hk.reg = HkRun.delay ∧ s.hkTesting = false ∧ s.hk.inj ≠ HkRun.running)
    ∧ (∃ (s : State), s.alive = true ∧ s.hk.inj = HkRun.delay ∧ s.hkTesting = false ∧ s.hk.cur = none)
    ∧ (∃ (s : State), s.alive = true ∧ s.hk.inj = HkRun.delay ∧ s.hk.reg = HkRun.delay)
    ∧ (∃ (s : State), s.alive = true ∧ s.hk.inj = HkRun.delay ∧ (s.hkTesting = true ∨ s.hk.cur.isSome = true))
    ∧ (∃ (s : State), s.alive = true ∧ s.hk.reg ≠ HkRun.delay)
    ∧ (∃ (s : State) (e : HkEntry) (codes : HkCodes), s.alive = true ∧ s.hkWatch.hk.cur = some e ∧ e.idx < 64 ∧
      List.length codes = 2 ^ bits e.cfg 24 3 ∧
      s.flag (State.limitFld (if e.inj = true then 64 + e.idx else e.idx)) = false)
    ∧ (∃ (s : State) (e : HkEntry) (codes : HkCodes), s.alive = true ∧ s.hkWatch.hk.cur = some e ∧ e.idx < 64 ∧
      List.length codes = 2 ^ bits e.cfg 24 3 ∧ e.idx + 1 < if e.inj = true then s.hk.injLen else s.hk.regLen)
    ∧ (∃ (s : State) (e : HkEntry) (codes : HkCodes), s.alive = true ∧ s.hkWatch.hk.cur = some e ∧ e.idx < 64 ∧
      List.length codes = 2 ^ bits e.cfg 24 3 ∧ (if e.inj = true then s.hk.injLen else s.hk.regLen) ≤ e.idx + 1) :=
  ⟨⟨wWaitI, by decide +kernel⟩,
    ⟨wWaitI, by decide +kernel⟩,
    ⟨wDel, by decide +kernel⟩,
    ⟨wDel, by decide +kernel⟩,
    ⟨wDel, by decide +kernel⟩,
    ⟨wDelA, by decide +kernel⟩,
    ⟨wEnt, by decide +kernel⟩,
    ⟨wEnt, eE, [5, 7], by decide +kernel⟩,
    ⟨wEnt, eE, [5, 7], by decide +kernel⟩,
    ⟨wEntL, eI, [5, 7], by decide +kernel⟩⟩

theorem witness_TheConverterIsWatched :
    (∃ (s : State), s.alive = true ∧ s.tablesWf = true ∧ s.enabled 144 = true ∧ s.flag R.HK_STATUS_ST_PENDING = true ∧
      s.hkTesting = false ∧ s.hk.reg = HkRun.idle ∧ s.hk.inj = HkRun.idle)
    ∧ (∃ (s : State) (o1 : Int) (o128 : Int) (g1 : Int) (g2 : Int), s.alive = true ∧ s.tablesWf = true ∧ s.hkTesting = true ∧
      (decide (o1.natAbs ≤ 32) && decide (o128.natAbs ≤ 32) && decide (g1.natAbs ≤ 50) && decide (g2.natAbs ≤ 50)) = false)
    ∧ (∃ (s : State) (n : Fin 4), s.alive = true ∧ s.tablesWf = true ∧ (s.hk.pt.find? n.val).isSome = true ∧
      s.get (R.HK_PTn_HIGH n.val) ≠ 0)
    ∧ (∃ (s : State) (e : HkEntry) (codes : HkCodes), s.alive = true ∧ s.tablesWf = true ∧ s.hkWatch.hk.cur = some e ∧
      e.inj = false ∧ e.idx < 64 ∧ List.length codes = 2 ^ bits e.cfg 24 3 ∧ s.hk.regLen ≤ e.idx + 1 ∧
      s.flag R.HK_REG_CTL_CONT = true ∧ (s.flag R.HK_STATUS_ST_PENDING = false ∨ s.hk.inj ≠ HkRun.idle))
    ∧ (∃ (s : State) (e : HkEntry) (codes : HkCodes), s.alive = true ∧ s.tablesWf = true ∧ s.hkWatch.hk.cur = some e ∧
      e.inj = false ∧ e.idx < 64 ∧ List.length codes = 2 ^ bits e.cfg 24 3 ∧ s.hk.regLen ≤ e.idx + 1 ∧
      s.flag R.HK_REG_CTL_CONT = true ∧ s.flag R.HK_STATUS_ST_PENDING = true ∧ s.hk.inj = HkRun.idle) :=
  ⟨⟨wPend, by decide +kernel⟩,
    ⟨wExc, 100, 2, -3, 5, by decide +kernel⟩,
    ⟨wExc, 2, by decide +kernel⟩,
    ⟨wC1, eL, [5, 7], by decide +kernel⟩,
    ⟨wC2, eL, [5, 7], by decide +kernel⟩⟩

end Sys2Proof.Tests.Hk

namespace Sys2Proof.Tests.Step
open Sys2Proof.Machine

/-- A state that a step has left, with another command waiting. -/
def wStep : State := match step { wRun with pending := [.fullResync, .fullResync] } with
  | .next t => t
  | _ => wRun

theorem witness_StepRunsFrontCommand :
    ∃ (s : State) (c : Instr) (cs : List Instr), s.pending = c :: cs := ⟨wStep, .fullResync, [], by decide +kernel⟩

theorem witness_EmptyQueueIdles : ∃ s : State, s.pending = [] := ⟨wRun, rfl⟩

theorem witness_invariants :
    ∃ s t : State, s.alive = true ∧ s.flagsTrue ∧ s.accQ.length ≤ 256 ∧ (∀ pg, (s.entries pg).length ≤ 64) ∧ s.regsWf = true
      ∧ s.time.sub < secondSub ∧ s.stagedInForm ∧ Assoc.sorted s.words = true ∧ Assoc.sorted s.strokeEnd = true
      ∧ Assoc.sorted s.engines = true ∧ s.lensClk ≤ 16 * s.time.cr + 15 ∧ step s = .next t :=
  ⟨wStep, _, by decide +kernel, by unfold State.flagsTrue; decide +kernel, by decide +kernel,
    fun pg => by
      have h : wStep.staged = [] := by decide +kernel
      simp [State.entries, h], by decide +kernel, by decide +kernel, by unfold State.stagedInForm; decide +kernel, by decide +kernel,
    by decide +kernel, by decide +kernel, by decide +kernel, rfl⟩

theorem witness_risingFlags :
    ∃ (s : State) (p : Port) (d : Word), ∃ e ∈ risingFlags s, e.page = (0x4A : BitVec 8).toNat ∧ s.serves p (0x4A * 4096 + 0x014)
      ∧ bits (s.rd (evtKey 0x4A)) 16 16 = bits d 16 16 :=
  ⟨(wRun.set R.RING_STATUS_BYPASS_OPEN 1).set R.DERAND_STATUS_EASY_REQ 1, .G, 0, E.DERAND_EASY_OFF, by decide +kernel, by decide, by unfold State.serves; decide +kernel,
    by decide +kernel⟩

theorem witness_CommandsChangeOnlyTheirParts :
    ∃ (c : Instr) (s t : State) (p : Part), exec c s = .next t ∧ p ∉ c.touches := ⟨.catch_ 0, wRun, _, .tap, rfl, by decide⟩

theorem witness_PagesSayWhoTheyAre :
    ∃ e ∈ directoryPages, ∃ i, i < e.2 ∧ ∃ (s : State) (p : Port), s.serves p ((e.1 + i) * 4096) :=
  ⟨(0x50, 32), by decide, 31, by decide, wRun.set R.RING_STATUS_BYPASS_OPEN 1, .G, by unfold State.serves; decide +kernel⟩

theorem witness_EveryResetNamesItsCause :
    (∃ (s : State) (ns : Nat) (taken : Bool), s.phase ≠ .held ∧ (1000 ≤ ns ∨ (100 ≤ ns ∧ taken = true)))
    ∧ ∃ (s : State) (f : RingFrame), s.ringOpen = true ∧ request f 6 ∧ f.data = 0x0000C0C5
        ∧ (s.ringMine f = true ∨ frameBroadcast f = true) :=
  ⟨⟨wRun, 100, true, by decide, by decide⟩,
    ⟨(on wRun 0x98 1).set R.RING_STATUS_BYPASS_OPEN 1,
      resealed true ⟨0xFFFF, 7, 6, true, false, 0, 0, 0x0000C0C5, 0⟩,
      by unfold request; decide +kernel⟩⟩

end Sys2Proof.Tests.Step
end

section
/-! PROOF. Every step keeps the register words in their canonical form (O6). The form (keys rising, no entry equal to its
reset word) is the model's own way to hold the registers; no rule of the spec speaks of it.

The state's `regs` change in three ways only: a word is written (`State.wr`), entries are left out (`State.servoPort`), and
a page's words go back to their reset values (`State.resetWords`); a reset starts from `State.reset`. The layer below says
once for each operation of the model that it keeps the form. A lemma bears its operation's name and takes the form as its
first explicit argument, so that a chain of operations is proved by the same chain of lemmas: `s.set.raise` by
`h.set.raise`, a choice by `ite`, and an update of other components by `upd`. An operation that does not touch `regs` at
all keeps the form by its mask law (`of_mask`).

The operations' bodies are long, so a proof unfolds one operation and compares only up to reducible definitions; the states
on the way are named by `extract_lets`, and a lemma about such a state is named after it (`h2` for `s2`). -/

set_option Elab.async false

namespace Sys2Proof.Machine

namespace Assoc

/-- Leaving out or rewriting entries under their own keys keeps the keys rising. -/
theorem sorted_filterMap {α : Type} {f : Nat × α → Option (Nat × α)} (hf : ∀ e e', f e = some e' → e'.1 = e.1) :
    ∀ l : Assoc α, sorted l = true → sorted (l.filterMap f) = true
  | [], _ => rfl
  | e :: l, h => by
    obtain ⟨hlt, hl⟩ : l.all (fun x => decide (e.1 < x.1)) = true ∧ sorted l = true := by simpa [sorted] using h
    have ih := sorted_filterMap hf l hl
    rw [List.filterMap_cons]
    split
    · exact ih
    next e' he =>
      refine Bool.and_eq_true_iff.2 ⟨List.all_eq_true.2 fun y hy => ?_, ih⟩
      obtain ⟨x, hx, hxy⟩ := List.mem_filterMap.1 hy
      rw [hf e e' he, hf x y hxy]
      exact List.all_eq_true.1 hlt x hx

/-- Leaving out or rewriting entries under their own keys, never to what an unlisted key reads as, keeps the canonical form. -/
theorem wf_filterMap {α : Type} [DecidableEq α] {d : Nat → α} {f : Nat × α → Option (Nat × α)} {l : Assoc α}
    (hk : ∀ e e', f e = some e' → e'.1 = e.1) (hv : ∀ e e', e.2 ≠ d e.1 → f e = some e' → e'.2 ≠ d e'.1)
    (h : wf d l = true) : wf d (l.filterMap f) = true := by
  obtain ⟨hs, ha⟩ := Bool.and_eq_true_iff.1 h
  refine Bool.and_eq_true_iff.2 ⟨sorted_filterMap hk l hs, List.all_eq_true.2 fun y hy => ?_⟩
  obtain ⟨x, hx, hxy⟩ := List.mem_filterMap.1 hy
  exact decide_eq_true (hv x y (of_decide_eq_true (List.all_eq_true.1 ha x hx)) hxy)

end Assoc

/-- Where an operation answers, its answer has the property. -/
abbrev Answers {α : Type} (P : α → Prop) (o : Option α) : Prop := ∀ a, o = some a → P a

namespace Answers
variable {α β : Type} {P : α → Prop}

theorem none : Answers P none := nofun
theorem some {a : α} (h : P a) : Answers P (some a) := fun _ e => Option.some.inj e ▸ h
theorem ite {c : Prop} [Decidable c] {x y : Option α} (hx : Answers P x) (hy : Answers P y) :
    Answers P (if c then x else y) := by
  split <;> assumption
theorem map {o : Option β} {f : β → α} (h : ∀ b, P (f b)) : Answers P (o.map f) := fun _ e => by
  obtain ⟨b, _, rfl⟩ := Option.map_eq_some_iff.1 e
  exact h b

end Answers

/-- The registers are in their canonical form (`State.regsWf`). -/
abbrev State.Canon (s : State) : Prop := Assoc.wf resetWord s.regs = true

/-- Where a command's outcome is a next state, its registers are in their canonical form. -/
abbrev State.CanonNext (o : Host.Outcome State Fault Refusal) : Prop := ∀ t, o = .next t → t.Canon

/-- The mask of every component but `regs`, which is the component 8 of 123. -/
abbrev State.allButRegs : Nat := 2 ^ 123 - 1 - 2 ^ 8

namespace State.Canon
section
variable {s : State} (h : s.Canon)

/-! The rules: choices, loops, and the ways in which an operation reaches `regs`. -/

theorem ite {c : Prop} [Decidable c] {t : State} (h : s.Canon) (ht : t.Canon) : (if c then s else t).Canon := by
  split <;> assumption
theorem ite_fst {α : Type} {c : Prop} [Decidable c] {x y : State × α} (hx : x.1.Canon) (hy : y.1.Canon) :
    (if c then x else y).1.Canon := by
  split <;> assumption
theorem ite_snd {α : Type} {c : Prop} [Decidable c] {x y : α × State} (hx : x.2.Canon) (hy : y.2.Canon) :
    (if c then x else y).2.Canon := by
  split <;> assumption
theorem foldl {β δ : Type} (π : β → State) {f : β → δ → β} {l : List δ} {b : β}
    (hf : ∀ b d, (π b).Canon → (π (f b d)).Canon) (h : (π b).Canon) : (π (l.foldl f b)).Canon := by
  induction l generalizing b with
  | nil => exact h
  | cons d l ih => exact ih (hf b d h)
theorem reset : State.reset.Canon := by decide

include h

theorem forEach {α : Type} {l : List α} {f : State → α → State} (hf : ∀ t a, t.Canon → (f t a).Canon) :
    (forEach l s f).Canon := by
  induction l generalizing s with
  | nil => exact h
  | cons a l ih => exact ih (hf s a h)
theorem late {k f} (hf : ∀ t k, t.Canon → (f t k).Canon) : (s.late k f).Canon := .ite (hf _ _ h) h
/-- An update of other components keeps the form. -/
theorem upd {t : State} (e : t.regs = s.regs := by rfl) : t.Canon := by
  unfold State.Canon
  rw [e]
  exact h
/-- An operation whose mask law says that it leaves `regs` alone keeps the form. -/
theorem of_mask {t : State} (e : t.mask allButRegs = s.mask allButRegs) : t.Canon := by
  have e := congrArg State.regs e
  simp only [State.mask, show Nat.testBit allButRegs 8 = false from by decide, Bool.false_eq_true, if_false] at e
  exact h.upd e
theorem wr {key v} : (s.wr key v).Canon := Assoc.wf_setD _ _ _ _ h
theorem resetWords {pg : Nat} : Assoc.wf resetWord (s.resetWords pg) = true := by
  refine Assoc.wf_filterMap (fun e e' he => ?_) (fun e e' hv he => ?_) h <;> dsimp only at he <;> split at he
  · cases he; rfl
  · split at he <;> cases he; rfl
  · cases he; exact hv
  · split at he <;> cases he; assumption
theorem set {f v} : (s.set f v).Canon := h.wr
theorem raise {e} : (s.raise e).Canon := .ite h.wr h.wr
theorem draw : s.draw.2.Canon := h
/-- What a reset makes of `t` while `s0` goes on outside it keeps `t`'s registers. -/
theorem keepOver {s0 : State} : (s0.keepOver s).Canon := h

/-! The named operations over the state. -/

theorem countBy {f : Fld} {n : Nat} : (s.countBy f n).Canon := .ite h.set (.ite h.set.raise h.set)
theorem count {f : Fld} : (s.count f).Canon := h.countBy
theorem countW {f : Fld} {wrap : Ev} {n : Nat} : (s.countW f wrap n).Canon := .ite h.set h.set.raise
theorem emit {o : Output} : (s.emit o).Canon := h.of_mask (State.emit_mask (by decide) _ _)
theorem fault {pg cls detail : Nat} : (s.fault pg cls detail).Canon := h.wr
theorem setPstate {pg v : Nat} : (s.setPstate pg v).Canon := h.set
theorem setb {f : Fld} {b : Bool} : (s.setb f b).Canon := h.set
theorem healthFaults {c k detail : Nat} : (s.healthFaults c k detail).Canon := .ite h.countBy h.countBy.fault.raise
theorem healthFault {c detail : Nat} : (s.healthFault c detail).Canon := h.healthFaults
theorem seti {f : Fld} {v : Int} : (s.seti f v).Canon := h.set

/-! What the serial transceivers share (chapter 15). -/

theorem prbsStart {xb : Nat} : (s.prbsStart xb).Canon := h.of_mask (State.prbsStart_mask (by decide) _ _)
theorem codeStart {xb : Nat} : (s.codeStart xb).Canon := h.of_mask (State.codeStart_mask (by decide) _ _)
theorem setChecker {xb : Nat} {c : Checker} : (s.setChecker xb c).Canon := h.of_mask (State.setChecker_mask (by decide) _ _ _)
theorem esAbort {xb : Nat} : (s.esAbort xb).Canon := .ite h.upd.set h
theorem rxOff {xb : Nat} : (s.rxOff xb).Canon := .set (.ite h.esAbort h)
theorem setRxDisp {xb : Nat} {rd : Bool} : (s.setRxDisp xb rd).Canon := h.of_mask (State.setRxDisp_mask (by decide) _ _ _)

/-! Clocks (chapter 03). -/

theorem setReady {src : Nat} {b : Bool} : (s.setReady src b).Canon := .ite h h.setb.raise
theorem unready {src : Nat} : (s.unready src).Canon := h.upd.setReady
theorem refreshReadyXo : s.refreshReadyXo.Canon := h.setReady
theorem clkCatchStart : s.clkCatchStart.Canon := .ite h.set h
theorem clkMoor : s.clkMoor.Canon := .upd (.ite h.set h)
theorem enterCoast : s.enterCoast.Canon := by
  unfold State.enterCoast
  with_reducible exact h.setPstate.set.set.raise.count.upd
theorem moveToXo : s.moveToXo.Canon := .ite h.set.upd h.set.upd
theorem clkWake : s.clkWake.Canon := .ite (.ite h.upd.enterCoast.setPstate h.upd.enterCoast) (.ite h.upd h.upd.set.moveToXo)
theorem clkDisable {phase : Int} : (s.clkDisable phase).Canon := by
  unfold State.clkDisable
  with_reducible exact .ite h.setPstate.set.set (.ite h.setPstate.set.set.seti.upd h.setPstate.set.set.moveToXo)
theorem clkSwitch {src : Nat} {phase : Int} : (s.clkSwitch src phase).Canon := by
  unfold State.clkSwitch
  with_reducible exact .ite h.set.setPstate (.ite h.set.setPstate.set.seti.upd h.enterCoast.set.setPstate)
theorem followXo : s.followXo.Canon := .ite h.upd h.moveToXo
theorem clkApplied {s0 : State} {es : List Staged} {phase : Int} : (State.clkApplied s0 s es phase).Canon := by
  unfold State.clkApplied
  with_reducible
    extract_lets s1 _
    have h1 : s1.Canon := h.refreshReadyXo
    refine .ite (.ite h1.clkDisable (.ite h1.followXo h1)) ?_
    split
    · exact .ite h1 h1.clkSwitch
    · exact .ite (.followXo (.ite h1 h1.setPstate.set)) (.ite h1 h1.setPstate.set)
theorem clkRelock {s0 : State} : (State.clkRelock s0 s).Canon := by
  unfold State.clkRelock
  with_reducible
    refine .ite ?_ h
    split
    · exact h
    · exact .ite h.set.setPstate.raise h.set.setPstate
theorem loseSource {cause : Nat} : (s.loseSource cause).Canon := .ite h.set.raise.fault.enterCoast.healthFault h
theorem clkLaneLost {l : PaceLane} {cause : Nat} : (s.clkLaneLost l cause).Canon := .ite h.unready.loseSource h.unready
theorem moveDone : s.moveDone.Canon := .upd (.ite h.set h)
theorem clkTick : s.clkTick.Canon := by
  unfold State.clkTick
  with_reducible
    extract_lets s1
    have h1 : s1.Canon := by
      unfold s1
      split
      · exact .ite h.moveDone h
      · exact h
    exact .ite h1.count h1
theorem gateOne {src : Nat} {g : GateCount} : (s.gateOne src g).Canon := by
  unfold State.gateOne
  with_reducible
    refine .ite h.set.set.refreshReadyXo ?_
    extract_lets _ _ _ _ _ s2 _ s3 _ s4
    have h3 : s3.Canon := h.set.set.upd.setReady
    have h4 : s4.Canon := .ite h3.upd h3
    exact .ite h4.loseSource h4
theorem doFreqGate {a b c x : GateCount} : (s.doFreqGate a b c x).Canon := .ite h.gateOne.gateOne.gateOne.gateOne h
theorem doRampDone : s.doRampDone.Canon := .ite h (.ite h.setPstate.upd (.ite h.upd.moveDone h))
theorem doRelocked : s.doRelocked.Canon := .ite h.setPstate.set.raise h
theorem doXoFault : s.doXoFault.Canon := by
  unfold State.doXoFault
  with_reducible exact .ite (.ite h.upd.raise.setReady.fault.loseSource h.upd.raise.setReady.fault) h
theorem doSourceLost {cause : Nat} : (s.doSourceLost cause).Canon := .ite h.doXoFault (.ite (.loseSource (.ite h h.unready)) h)

/-! Hub Time, crossing numbers, synchronisation, compare and capture units (chapter 04), and the firing of event-matrix sources
(R59). -/

theorem capRearm {n : Nat} {d : Word} : (s.capRearm n d).Canon := .ite h.set h
theorem capture {n t : Nat} : (s.capture n t).Canon := .ite h.count h.set.set.set.set.set.set.set
theorem fireAt {src cc t : Nat} : (s.fireAt src cc t).Canon := .upd (.ite (h.forEach fun _ _ h => .ite h.capture h) h)
theorem cmpDo {n cc t : Nat} {late : Bool} : (s.cmpDo n cc t late).Canon := by
  unfold State.cmpDo
  with_reducible
    extract_lets s1 s2 _
    have h1 : s1.Canon := .ite h.raise h
    have h2 : s2.Canon := h1.fireAt
    exact .ite (.ite h2.set.set h2.set.set) h2.set
theorem cmpArm {n : Nat} {d : Word} : (s.cmpArm n d).Canon := .ite h.set.cmpDo h.set
theorem fire {src : Nat} : (s.fire src).Canon := h.fireAt
theorem fireFree {src : Nat} : (s.fireFree src).Canon := h.draw.fireAt
theorem spoilExchange : s.spoilExchange.Canon := h.of_mask (State.spoilExchange_mask (by decide) _)
theorem addHubTime {d : Int} : (s.addHubTime d).Canon := h.of_mask (State.addHubTime_mask (by decide) _ _)
theorem putAlign {a : Option (Nat × Nat)} : (s.putAlign a).Canon := h.of_mask (State.putAlign_mask (by decide) _ _)
theorem alignHold : s.alignHold.Canon := h.of_mask (State.alignHold_mask (by decide) _)
theorem startResync : s.startResync.Canon := .ite h.set.upd h
theorem applyAlign {k ph : Nat} : (s.applyAlign k ph).Canon :=
  .ite (.ite h.upd.putAlign h.upd.putAlign.raise) h.upd.raise.startResync.putAlign
theorem nameResync {own c : BitVec 64} : (s.nameResync own c).Canon := h.set.upd
theorem wakeDecide {serve : Option (BitVec 64 × BitVec 64)} : (s.wakeDecide serve).Canon := by
  unfold State.wakeDecide
  with_reducible
    split
    · extract_lets _ _ _ _ _ s2 _ _ s3
      have h2 : s2.Canon := h.draw.upd
      have h3 : s3.Canon := h2.raise.putAlign
      refine .ite h2.raise.set.upd ?_
      split
      · exact .ite h3.startResync h3.nameResync
      · exact h3.startResync
    · exact h
theorem wakeAlign {k ph : Nat} : (s.wakeAlign k ph).Canon := by
  unfold State.wakeAlign
  with_reducible
    split
    · exact h.upd.wakeDecide
    · exact h
theorem aligned {d : Int} {lane : Nat} : (s.aligned d lane).Canon := by
  unfold State.aligned
  with_reducible
    extract_lets _ _
    refine .ite ?_ (.ite h.wakeAlign h)
    split
    · exact .ite h.fault.wakeAlign h.fault
    · exact .ite h.wakeAlign h.applyAlign
theorem putUnsigned {f : Fld} {v : Int} : (s.putUnsigned f v).Canon := .ite h.set h.draw.set
theorem cableLen {p : Nat} {mean : Int} : (s.cableLen p mean).Canon := h.putUnsigned
theorem cmpLate {mode : Nat} {d : Int} : (s.cmpLate mode d).Canon := .ite (h.forEach fun _ _ h => .ite h.cmpDo h) h
theorem timeCatch : s.timeCatch.Canon := by
  unfold State.timeCatch
  with_reducible
    extract_lets _ _ s1
    have h1 : s1.Canon := by
      unfold s1
      split
      · exact h
      · exact .ite h.upd.addHubTime.raise.count.cmpLate h.upd.addHubTime.raise.count
    exact h1.addHubTime.upd
theorem putSigned {f : Fld} {v : Int} : (s.putSigned f v).Canon := .ite h.seti h.draw.set
theorem servo {offset : Int} : (s.servo offset).Canon := .ite (.ite h.set.upd h.seti.upd) h
theorem completeExchange {e : Exchange} {t3 t4 : Int} : (s.completeExchange e t3 t4).Canon := by
  unfold State.completeExchange
  with_reducible
    extract_lets _ _ _ _ _ _ s1 s2 s3 s4
    have h4 : s4.Canon := h.upd.putSigned.putUnsigned.servo.cableLen.countW.raise
    exact h4.upd.aligned
theorem endHold : s.endHold.Canon := .ite h.set.raise h
theorem doAnnounce {c : BitVec 64} {inSlot : Bool} : (s.doAnnounce c inSlot).Canon := by
  unfold State.doAnnounce
  with_reducible
    extract_lets _ s1 _ _ s2
    have h1 : s1.Canon := .ite h.endHold h
    have h2 : s2.Canon := .ite h1.raise h1
    refine .ite h (.ite h.count ?_)
    split
    · exact .ite h1.upd.wakeDecide.nameResync h1.upd.wakeDecide
    split
    · exact h2.nameResync
    · exact h2
    · exact .ite h2.nameResync h2
theorem doCmpFire {n : Nat} : (s.doCmpFire n).Canon := by
  unfold State.doCmpFire
  with_reducible
    refine .ite ?_ h
    refine .ite (.ite h.cmpDo h) ?_
    split
    · exact h.cmpDo
    · exact h
theorem orbitTick : s.orbitTick.Canon := .ite h.set.set.fire h.set
theorem timeTick : s.timeTick.Canon := by
  unfold State.timeTick
  with_reducible exact h.addHubTime.upd.set.orbitTick
theorem hubStamp {phase : Nat} {sign : Int} : (s.hubStamp phase sign).2.Canon := h.of_mask (State.hubStamp_mask (by decide) _ _ _)
theorem loseExchange : s.loseExchange.Canon := by
  unfold State.loseExchange
  with_reducible
    split
    · exact h
    · exact h.count.fault.upd
theorem doDelayResp {lane : PaceLane} {seq : Byte} {t4 : TimeStamp} : (s.doDelayResp lane seq t4).Canon := by
  unfold State.doDelayResp
  with_reducible
    split
    · exact h
    · split
      · exact h
      · exact .ite (.ite h.loseExchange h.completeExchange) h
theorem doExchangeTimeout : s.doExchangeTimeout.Canon := by
  unfold State.doExchangeTimeout
  with_reducible
    split
    · exact h
    · exact .ite h.loseExchange.raise h
theorem doOrbitComma {lane : PaceLane} {skew : Option Int} : (s.doOrbitComma lane skew).Canon := by
  unfold State.doOrbitComma
  with_reducible
    extract_lets _ put s1
    have hput {t : State} {l : PaceLane} {d : Int} (h : t.Canon) : (put t l d).Canon := .ite h.set.setb.set h.set.setb.seti
    have h1 : s1.Canon := by
      unfold s1
      split
      · exact h
      · exact .ite (hput (hput h)) h
    exact .ite h (.ite h1 (.ite h1.set.set.upd (.ite h1.raise.count h1)))
theorem doSync {t1 : TimeStamp} {phase : Nat} : (s.doSync t1 phase).Canon := .ite h.loseExchange.hubStamp.upd h

/-! The Pace link (chapter 05). -/

theorem sendControl {bytes : List Byte} : (s.sendControl bytes).Canon := h.of_mask (State.sendControl_mask (by decide) _ _)
theorem switchTo {l : PaceLane} : (s.switchTo l).Canon := h.set.raise.count.spoilExchange
theorem endOutage : s.endOutage.Canon :=
  .ite (.ite (.ite (.set (.upd (.ite h.switchTo h))) (.upd (.ite h.switchTo h))) (.ite h.switchTo h)) h
theorem updGap {l : PaceLane} {f : Gap → Gap} : (s.updGap l f).Canon := h.of_mask (State.updGap_mask (by decide) _ _ _)
theorem blindLabels {first last : BitVec 64} {new : Bool} : (s.blindLabels first last new).Canon := .set (.set (.ite h.set.set h))
theorem openOutage {c : Nat} : (s.openOutage c).Canon :=
  .blindLabels (.ite (.countBy (.ite h.upd.raise h.upd)) (.ite h.upd.raise h.upd))
theorem blindTick : s.blindTick.Canon := .ite h (.blindLabels (.ite (.count (.ite h.upd.openOutage h)) (.ite h.upd.openOutage h)))
theorem refuseCommand : s.refuseCommand.Canon := h.count.raise
theorem forgetSkew : s.forgetSkew.Canon := h.set.set.set.set
theorem startOutage {c : Nat} : (s.startOutage c).Canon := .ite h (.ite h.upd h.openOutage)
theorem dataLost {c : Nat} : (s.dataLost c).Canon := .ite h.switchTo (.startOutage (.ite h.raise h.raise.fault))
theorem paceLost {l : PaceLane} {cause c : Nat} {host : Bool} : (s.paceLost l cause c host).Canon := by
  unfold State.paceLost
  with_reducible
    extract_lets _ s1 s2 s3 s4 s5
    have h1 : s1.Canon := h.raise
    have h2 : s2.Canon := .ite h1 h1.fault
    have h3 : s3.Canon := .ite h2 h2.healthFault
    have h4 : s4.Canon := h3.updGap
    have h5 : s5.Canon := h4.clkLaneLost
    exact .ite h5.dataLost h5
theorem paceDisabled {l : PaceLane} {st : Nat} : (s.paceDisabled l st).Canon := .ite h.paceLost (.ite h.dataLost h)
theorem paceRxOff {l : PaceLane} : (s.paceRxOff l).Canon := h.rxOff
theorem paceEnable {l : PaceLane} {was : Bool} : (s.paceEnable l was).Canon :=
  .ite h.setPstate.codeStart (.ite h.setPstate.paceRxOff h)
theorem paceEnables {s0 : State} : (s.paceEnables s0).Canon := by
  unfold State.paceEnables
  with_reducible
    extract_lets _ _ _ s1 s2 s3
    have h1 : s1.Canon := h.paceEnable.paceEnable
    have h2 : s2.Canon := .ite h1.paceDisabled h1
    have h3 : s3.Canon := .ite h2.paceDisabled h2
    exact .ite h3 h3.forgetSkew
theorem paceRevert : s.paceRevert.Canon := .ite h.switchTo h
theorem countBad {cnt : Nat → Fld} {ev : Option (Nat → Ev)} {a b : Bool} : (s.countBad cnt ev a b).Canon := by
  unfold State.countBad
  with_reducible
    extract_lets _
    refine .ite ?_ ?_
    · extract_lets s1
      have h1 : s1.Canon := by
        refine .count ?_
        refine .ite ?_ h
        extract_lets s2
        have h2 : s2.Canon := h.count
        split
        · exact h2.raise
        · exact h2
      split
      · exact h1.raise
      · exact h1
    · refine .ite ?_ h
      extract_lets s1
      have h1 : s1.Canon := h.count
      split
      · exact h1.raise
      · exact h1
theorem countRepair : s.countRepair.Canon := h.count.healthFault
theorem doCommandDiscard {a b : Option (Byte × Byte)} : (s.doCommandDiscard a b).Canon := by
  unfold State.doCommandDiscard
  with_reducible
    refine .ite h ?_
    split
    · exact .ite h.countRepair h
    · exact h.countBad
theorem doDelayReq : s.doDelayReq.Canon := h.of_mask (State.doDelayReq_mask (by decide) _)
theorem doFrameDiscard {l : PaceLane} : (s.doFrameDiscard l).Canon := .ite h.count.raise h
theorem doLinkInfo {l : PaceLane} {v : Byte} : (s.doLinkInfo l v).Canon := .ite h.set h
theorem doOrbitStart {l : PaceLane} {skew : Option Int} : (s.doOrbitStart l skew).Canon := h.doOrbitComma.endOutage
theorem doPaceAligned {l : PaceLane} : (s.doPaceAligned l).Canon := .ite h.setPstate h
theorem fourCommas {l : PaceLane} : (s.fourCommas l).Canon := h.countBy
theorem doPaceDown {l : PaceLane} {cause : DownCause} : (s.doPaceDown l cause).Canon := by
  unfold State.doPaceDown
  with_reducible
    extract_lets _ _ s1
    have h1 : s1.Canon := h.setPstate
    refine .ite h ?_
    split
    · exact .ite h1.paceLost h
    · exact .ite h1.fourCommas.paceLost h
    · exact .ite h1.paceLost h
theorem doPaceSignal {l : PaceLane} : (s.doPaceSignal l).Canon := .ite h.setPstate h
theorem sendLinkInfo : s.sendLinkInfo.Canon := h.of_mask (State.sendLinkInfo_mask (by decide) _)
theorem doPaceUp {l : PaceLane} : (s.doPaceUp l).Canon := by
  unfold State.doPaceUp
  with_reducible
    refine .ite ?_ h
    extract_lets s1 s2
    have h1 : s1.Canon := h.setPstate.raise.sendLinkInfo
    have h2 : s2.Canon := .endOutage (.ite h1.updGap h1)
    exact .ite h2.upd h2
theorem fastCommand {code arg : Nat} {a b : LaneCopy} {act : State → State} (hf : ∀ t : State, t.Canon → (act t).Canon) :
  (s.fastCommand code arg a b act).Canon := by
  unfold State.fastCommand
  with_reducible
    refine .ite h ?_
    dsimp only
    split
    · exact h.countBad
    · refine .ite ?_ (hf _ ?_)
      · exact .count (.ite h.countRepair h)
      · exact .fire (.set (.set (.set (.ite h.countRepair h))))
theorem frameFrom {rep : Bool} {act : State → State} (hf : ∀ t : State, t.Canon → (act t).Canon) :
    (s.frameFrom rep act).Canon :=
  .ite (hf _ h) (.ite (hf _ h).countRepair h)

/-! The converter slices and the BANK pages (chapter 06). -/

theorem setBank {b : Nat} {k : BankCal} : (s.setBank b k).Canon := h.of_mask (State.setBank_mask (by decide) _ _ _)
theorem tapCatch {s0 : State} : (State.tapCatch s0 s).Canon := h.forEach fun _ _ h => .ite h.raise h
theorem applyTrimTgt {pg key : Nat} {d : Word} : (s.applyTrimTgt pg key d).Canon := .ite h.seti (.ite h.seti.raise h.seti)
theorem countOvr {n : Nat} : (s.countOvr n).Canon := .ite h (h.forEach fun _ _ h => h.count)
theorem sampleBank {ins : List SliceSample} {overs : List (Nat × Nat)} {n b : Nat} : (s.sampleBank ins overs n b).Canon :=
  h.of_mask (State.sampleBank_mask (by decide) _ _ _ _ _)
theorem setCalTarget {t : CalTarget} : (s.setCalTarget t).Canon := h.of_mask (State.setCalTarget_mask (by decide) _ _)
theorem walkSlice {b sl : Nat} : (s.walkSlice b sl).Canon :=
  .ite h (.ite (.raise (h.forEach fun _ _ h => h.upd)) (h.forEach fun _ _ h => h.upd))
theorem bankTick {i : TickIn} {n : Nat} : (s.bankTick i n).Canon := by
  unfold State.bankTick
  with_reducible
    extract_lets _ s1 s2 s3 s4
    have h1 : s1.Canon := h.forEach fun _ _ h => h.sampleBank
    have h2 : s2.Canon := h1.upd
    have h3 : s3.Canon := h2.countOvr
    have h4 : s4.Canon := h3.forEach fun _ _ h => h.setCalTarget
    exact h4.forEach fun _ _ h => h.forEach fun _ _ h => h.walkSlice

/-! Prism filter banks (chapter 08). -/

theorem coefWrite {d : Word} : (s.coefWrite d).Canon := by
  unfold State.coefWrite
  with_reducible exact .ite h.set.set.upd h.raise.count
theorem fadeDrop {c : Nat} : (s.fadeDrop c).Canon := h.of_mask (State.fadeDrop_mask (by decide) _ _)
theorem fadesBank {b left : Nat} : (s.fadesBank b left).Canon := by
  induction left generalizing s with
  | zero => exact h
  | succ n ih =>
    unfold State.fadesBank
    with_reducible
      split
      · exact h
      · extract_lets _ _ _ s1
        have h1 : s1.Canon := .ite h h.raise
        exact .ite (ih h.fadeDrop.upd.raise) (.ite (ih h1.fadeDrop.count.raise.fault.set.set.set) h1.upd)
theorem fadesCatch : s.fadesCatch.Canon := by
  unfold State.fadesCatch
  with_reducible exact .ite (.upd (h.forEach fun _ _ h => h.fadesBank)) h
theorem setProf {p st len : Nat} : (s.setProf p st len).Canon := h.of_mask (State.setProf_mask (by decide) _ _ _ _)
theorem commitOne {w : Word} : (s.commitOne w).Canon := .ite (.ite h.setProf h) h.setProf.raise
theorem pcoefApplied {es : List Staged} : (s.pcoefApplied es).Canon := h.forEach fun _ _ h => h.commitOne
theorem prismApplied {es : List Staged} : (s.prismApplied es).Canon := h.of_mask (State.prismApplied_mask (by decide) _ _)
theorem baseline {n q c : Nat} {w : BitVec 16} : (s.baseline n q c w).Canon := .ite h.upd.count h.upd
theorem fadesEnd : s.fadesEnd.Canon := h.forEach fun _ _ h => h.upd.set.countW.raise
theorem pcoefRefused {cause p : Nat} : (s.pcoefRefused cause p).Canon := h.set.set.raise.fault
theorem releasesEnd {s0 : State} : (State.releasesEnd s0 s).Canon :=
  h.forEach fun _ _ h => .ite h.setProf.pcoefRefused h.setProf.raise
theorem prismReset : s.prismReset.Canon := h.of_mask (State.prismReset_mask (by decide) _)
theorem prismRefused {cause c : Nat} : (s.prismRefused cause c).Canon :=
  .ite h.set.set.set.fault.raise.count h.set.set.set.fault.raise.count
theorem doCoefEcc {p k : Nat} : (s.doCoefEcc p k).Canon := .ite (.fault (.count (.raise (.ite h h.upd.healthFault)))) h
theorem prismTick {n : Nat} : (s.prismTick n).Canon := by
  unfold State.prismTick
  with_reducible
    extract_lets _ s1 s2
    have h2 : s2.Canon := (h.forEach fun _ _ h => h.baseline).upd
    refine .ite (h2.forEach fun t _ ht => ht.forEach fun t _ ht => ?_) h2
    have ht' {c : Prop} [Decidable c] : (if c then t.count R.PRISM_SAT_CNT else t).Canon := .ite ht.count ht
    dsimp only
    split
    · exact ht'
    · exact ht'.upd

/-! Fractional resampling and alignment (chapter 09). -/

theorem mark {c : Option Nat} : (s.mark c).Canon := h.of_mask (State.mark_mask (by decide) _ _)
theorem record {cause chan new : Nat} {step : Int} : (s.record cause chan new step).Canon :=
  .ite h (.ite h.upd.countW.raise h.upd.countW)
theorem rsmpApplied {s0 : State} {es : List Staged} : (State.rsmpApplied s0 s es).Canon := by
  unfold State.rsmpApplied
  with_reducible
    extract_lets _ s1 _
    have h1 : s1.Canon := h.forEach fun _ _ h => .ite h.set.record.mark h.set
    exact .ite h1 (.ite h1.set.set.raise.record.mark h1.set.set.raise)
theorem rsmpToggled {s0 : State} : (State.rsmpToggled s0 s).Canon := by
  unfold State.rsmpToggled
  with_reducible exact .ite h (.ite h.record.mark h.record.mark.upd)
theorem histClean {c : Nat} : (s.histClean c).Canon := h.of_mask (State.histClean_mask (by decide) _ _)
theorem servoChan {c : Nat} {host : Bool} : (s.servoChan c host).Canon := by
  unfold State.servoChan
  with_reducible
    extract_lets _
    refine .ite ?_ ?_
    · exact h
    · exact .ite h.histClean (.ite h (.ite h.count.raise (.ite h.count.raise h.set.seti.upd.countW.record.mark.histClean)))
theorem servoCatch {host : List Nat} : (s.servoCatch host).Canon :=
  .ite (.forEach (.ite h.upd h) fun _ _ h => h.servoChan) (.ite h.upd h)
theorem streamsCatch {s0 : State} {resync : Bool} : (State.streamsCatch s0 s resync).Canon :=
  h.of_mask (State.streamsCatch_mask (by decide) _ _ _)
theorem wakePrune : s.wakePrune.Canon := h.of_mask (State.wakePrune_mask (by decide) _)
theorem rsmpRefused {cause : Nat} : (s.rsmpRefused cause).Canon := h.set.raise.fault
theorem resample {n c i : Nat} : (s.resample n c i).2.2.Canon := h.of_mask (State.resample_mask (by decide) _ _ _ _)
theorem wakeHeal {m : Nat} : (s.wakeHeal m).Canon := h.of_mask (State.wakeHeal_mask (by decide) _ _)
theorem rsmpTick {n : Nat} : (s.rsmpTick n).Canon := by
  unfold State.rsmpTick
  with_reducible
    refine .wakeHeal (h.forEach fun t _ ht => ht.forEach fun t _ ht => ?_)
    generalize e : t.resample _ _ _ = o
    have ho : o.2.2.Canon := e ▸ ht.resample
    obtain ⟨_ | y, void, u⟩ := o
    · exact .ite ho.count ho
    · exact .ite (.ite ho.count ho) (.upd (.ite ho.count ho))

/-! Triggers and the accept queue (chapter 11). -/

theorem acqCatch : s.acqCatch.Canon := by
  unfold State.acqCatch
  with_reducible
    extract_lets s1 _ s2 s3 _ _ s4 _
    have h1 : s1.Canon := .ite h.set h
    have h2 : s2.Canon := .ite h1.raise h1
    have h3 : s3.Canon := h2.setb
    have h4 : s4.Canon := .ite (.ite h3.set.raise h3.set) h3.set
    exact h4.upd
theorem acqRefused {cause t : Nat} : (s.acqRefused cause t).Canon := .fault (.raise (.ite h.set h.set.set))
theorem nbEnter {j st : Nat} : (s.nbEnter j st).Canon := h.set.upd
theorem nbSilent {j : Nat} : (s.nbSilent j).Canon := h.set
theorem neighCatch : s.neighCatch.Canon := h.forEach fun _ _ h => .ite h.nbEnter (.ite h.nbEnter.nbSilent h)
theorem hitsPrune : s.hitsPrune.Canon := h.of_mask (State.hitsPrune_mask (by decide) _)
theorem neighSend : s.neighSend.Canon := h.of_mask (State.neighSend_mask (by decide) _)
theorem localRefused {pg : Nat} {ev : Ev} : (s.localRefused pg ev).Canon := h.raise.fault
theorem copyAccept {type : Nat} : (s.copyAccept type).Canon := h.of_mask (State.copyAccept_mask (by decide) _ _)
theorem takeNumber : s.takeNumber.2.Canon := h.of_mask (State.takeNumber_mask (by decide) _)
theorem enqueue {src type : Nat} {acc anchor : Int} {startT : Option Int} {fine : Nat} : (s.enqueue src type acc anchor startT
  fine).Canon :=
  .ite (.ite h.count.raise.takeNumber.raise.fault h.count.raise) h.takeNumber.upd.set.countW
theorem localTrigger {src type : Nat} {p : Option Nat} {acc anchor : Int} {startT : Option Int} {fine : Nat} : (s.localTrigger src
  type p acc anchor startT fine).2.Canon :=
  .ite_snd h (.ite_snd h.count (.ite_snd (.enqueue (.ite h.upd h)) h.upd.count))
theorem startEnter {n cr fine : Nat} : (s.startEnter n cr fine).Canon := h.localTrigger
theorem startDue : s.startDue.Canon := .ite h (h.upd.forEach fun _ _ h => h.forEach fun _ _ h => h.startEnter)
theorem easyAccept {m : BitVec 64} : (s.easyAccept m).Canon := by
  unfold State.easyAccept
  with_reducible
    split
    · exact h
    · exact .ite (.ite h.count.raise.upd h.count) h
theorem paceAccept {t : Nat} : (s.paceAccept t).Canon := by
  unfold State.paceAccept
  with_reducible
    extract_lets _ s1 s2 _
    have h1 : s1.Canon := h.countW.fire
    have h2 : s2.Canon := h1.easyAccept.copyAccept
    exact .ite h2.takeNumber.count (.ite h2.takeNumber.count h2.enqueue)
theorem trigLost {a b : Bool} : (s.trigLost a b).Canon := by
  unfold State.trigLost
  with_reducible exact .upd (.ite h.countBad.raise.count h.countBad.raise)
theorem takeAccept {a b : Option Byte} : (s.takeAccept a b).Canon := by
  unfold State.takeAccept
  with_reducible
    refine .ite (.ite h.trigLost h) ?_
    split
    · exact h.trigLost
    · extract_lets s1
      have h1 : s1.Canon := .ite h.countRepair h
      exact .ite h1 (.ite h1.count (.ite h1.takeNumber.count h1.paceAccept))
theorem doAccept {a b : Option Byte} : (s.doAccept a b).Canon := .ite h.takeAccept.startDue h
theorem doAutoTrigger : s.doAutoTrigger.Canon := by
  unfold State.doAutoTrigger
  with_reducible
    extract_lets s1
    have h1 : s1.Canon := .ite h.startDue h
    exact .ite (.ite (.localTrigger (.ite h1.upd.raise.count.fire h1.upd)) h1.upd) h1
theorem selfTick {n : Nat} : (s.selfTick n).Canon := by
  unfold State.selfTick
  with_reducible exact .ite h (.ite h.countBy h.countBy.count.upd)
theorem reachResync : s.reachResync.Canon := .ite h.set.raise h
theorem neighResync : s.neighResync.Canon := h.forEach fun _ _ h => .set (.ite h.nbEnter.nbSilent h)
theorem nbCable {j : Nat} : (s.nbCable j).Canon := by
  unfold State.nbCable
  with_reducible exact .ite h.putUnsigned h
theorem doNeighCatch {j delay : Nat} : (s.doNeighCatch j delay).Canon := by
  unfold State.doNeighCatch
  with_reducible
    refine .ite h ?_
    extract_lets s1
    have h1 : s1.Canon := h.set
    exact .ite h1.raise.fault (.ite h1.set.set.nbEnter.set.raise.nbCable (.ite h1.nbEnter.set.raise.nbCable h1.raise.nbEnter))
theorem nbDown {j : Nat} : (s.nbDown j).Canon := h.nbEnter.nbSilent.raise
theorem doNeighDown {j : Nat} : (s.doNeighDown j).Canon := .ite h.nbDown h
theorem doNeighTimeout {j : Nat} : (s.doNeighTimeout j).Canon := .ite h.count.nbEnter h
theorem doNeighTrained {j : Nat} : (s.doNeighTrained j).Canon := .ite h.nbEnter h
theorem nbAux {j k : Nat} {b : Bool} : (s.nbAux j k b).Canon := by
  unfold State.nbAux
  with_reducible
    dsimp only
    split
    · exact h.upd
    · exact .ite h.upd h.upd.set.set.set.nbCable
theorem nbCatchSeen {j : Nat} {there : Bool} : (s.nbCatchSeen j there).Canon := .ite h.upd h.nbDown
theorem nbParity {j c : Nat} : (s.nbParity j c).Canon := by
  unfold State.nbParity
  with_reducible
    extract_lets s1 _ s2
    have h1 : s1.Canon := h.count.raise
    have h2 : s2.Canon := h1.nbSilent.upd
    exact .ite h2 (.ite h2.nbDown (.ite h2.upd.nbCatchSeen h2.upd))
theorem doNeighWord {j : Nat} {w : Byte} : (s.doNeighWord j w).Canon := by
  unfold State.doNeighWord
  with_reducible
    extract_lets _ _
    refine .ite h ?_
    refine .ite h.nbParity ?_
    refine .ite ?_ ?_
    · exact .ite (.nbCatchSeen (.ite h.setb.upd h.setb)) (.ite (.nbAux (.ite h.setb.upd h.setb)) (.ite h.setb.upd h.setb))
    · exact h
theorem doSelfTrigger : s.doSelfTrigger.Canon := by
  unfold State.doSelfTrigger
  with_reducible
    refine .ite h ?_
    extract_lets _ _ s1 _
    have h1 : s1.Canon := h.startDue.upd
    refine .ite h1 ?_
    refine .ite ?_ ?_
    · exact .ite (.ite h1.count.count h1.count.count.raise.upd) h1.count
    · exact .ite h1.countW.upd.localTrigger.raise.fire h1.countW.upd.localTrigger
theorem doStartEdge {n fine : Nat} {stampable : Bool} : (s.doStartEdge n fine stampable).Canon := by
  unfold State.doStartEdge
  with_reducible exact .ite h (.ite h.count.raise (.ite h.countW.set.set.fireAt.upd h.countW.set.set.fireAt.upd))

/-! Spare slices and calibration (chapter 07). -/

theorem refuseNow : s.refuseNow.Canon := h.count.raise
theorem calNow {d : Word} : (s.calNow d).Canon := .ite h (.ite h.refuseNow (.ite h (.ite h.refuseNow h.setBank)))
theorem enterSpare {b st : Nat} : (s.enterSpare b st).Canon := h.of_mask (State.enterSpare_mask (by decide) _ _ _)
theorem assign {b : Nat} : (s.assign b).Canon := by
  unfold State.assign
  with_reducible
    extract_lets _ s1 _ s2 _ s3
    have h3 : s3.Canon := by
      refine .ite (.ite h h.enterSpare.setBank) ?_
      split
      · exact .ite h.enterSpare h
      · exact .ite h h.enterSpare.setBank
    exact .ite h3.setBank h3.setBank.raise.fault
theorem idleStroke {b : Nat} : (s.idleStroke b).Canon := h.of_mask (State.idleStroke_mask (by decide) _ _)
theorem dropNow {b left : Nat} : (s.dropNow b left).Canon := by
  induction left generalizing s with
  | zero => exact h
  | succ n ih =>
    unfold State.dropNow
    with_reducible
      split
      · exact h
      · exact .ite h (ih h.setBank.refuseNow)
theorem rotUpdate {b : Nat} : (s.rotUpdate b).Canon := .ite h.setBank.raise (.ite h.setBank h)
theorem startSelftest {b : Nat} : (s.startSelftest b).Canon := h.of_mask (State.startSelftest_mask (by decide) _ _)
theorem setHealth {b sl x : Nat} : (s.setHealth b sl x).Canon := .ite h.setBank.raise (.ite h.setBank.raise.fault h.setBank)
theorem failSlice {b sl : Nat} : (s.failSlice b sl).Canon := .ite h.setHealth (.ite h.setHealth h)
theorem startSlot {b i : Nat} {now : Bool} : (s.startSlot b i now).Canon := by
  unfold State.startSlot
  with_reducible
    extract_lets s1 _ _ s2 s3
    have h1 : s1.Canon := h.enterSpare
    have h2 : s2.Canon := h1.setBank
    have h3 : s3.Canon := .ite h2.failSlice h2
    exact .ite h3.set h3
theorem spareNext {b : Nat} : (s.spareNext b).Canon := by
  unfold State.spareNext
  with_reducible
    extract_lets _ _
    refine .ite h ?_
    refine .ite (.ite h h.startSelftest) ?_
    refine .ite h ?_
    split
    · exact h.setBank.startSlot
    · exact .ite (.startSelftest (.ite (.ite h.startSlot h.setBank) h)) (.ite (.ite h.startSlot h.setBank) h)
theorem settleBank {b : Nat} : (s.settleBank b).Canon := by
  unfold State.settleBank
  with_reducible
    extract_lets s1
    have h1 : s1.Canon := h.assign.rotUpdate.dropNow.spareNext.dropNow
    exact .ite h1.assign.rotUpdate h1
theorem idleRest {b : Nat} : (s.idleRest b).Canon := h.of_mask (State.idleRest_mask (by decide) _ _)
theorem judgeOverlap {b : Nat} : (s.judgeOverlap b).Canon := by
  unfold State.judgeOverlap
  with_reducible
    extract_lets _
    split
    · exact h.setBank
    · exact h.setBank.count
    · exact h.setBank.raise.count.fault.healthFault
theorem overlapResult {b : Nat} : (s.overlapResult b).2.Canon := .ite h h.judgeOverlap
theorem passSlice {b sl : Nat} : (s.passSlice b sl).Canon := .ite h.setHealth h
theorem slotPhase {b : Nat} : (s.slotPhase b).Canon := by
  unfold State.slotPhase
  with_reducible
    extract_lets _ _ _ s1 s2 _ s3 s4 s5 _ _ s6
    have h1 : s1.Canon := h.overlapResult
    have h3 : s3.Canon := h1.enterSpare.count
    have h6 : s6.Canon := .setBank (.ite h3.passSlice h3.passSlice.passSlice)
    refine .ite (.ite h.enterSpare.idleRest (.ite h1.enterSpare.count h1.enterSpare.idleRest.setBank)) ?_
    exact .ite (.ite h.enterSpare h) (.ite (.ite (.ite h6.raise h6) h1.failSlice.enterSpare.setBank) h)
theorem slotPowerDown {b : Nat} : (s.slotPowerDown b).Canon := h.of_mask (State.slotPowerDown_mask (by decide) _ _)
theorem startPowerup {b : Nat} : (s.startPowerup b).Canon := h.of_mask (State.startPowerup_mask (by decide) _ _)
theorem calCatch {s0 : State} {b : Nat} : (State.calCatch s0 s b).Canon := by
  unfold State.calCatch
  with_reducible
    extract_lets _
    refine .ite ?_ ?_
    · exact .ite h h.setBank
    · exact .ite h.startPowerup (.ite h (.ite h.setBank h.setBank.assign.idleStroke.slotPowerDown.slotPhase.settleBank))
theorem calMoor {b : Nat} : (s.calMoor b).Canon := h.of_mask (State.calMoor_mask (by decide) _ _)
theorem calPageReset : s.calPageReset.Canon := h.of_mask (State.calPageReset_mask (by decide) _)
theorem calWake {b : Nat} : (s.calWake b).Canon := h.of_mask (State.calWake_mask (by decide) _ _)
theorem doCompare {b pairs : Nat} : (s.doCompare b pairs).Canon := .ite h.judgeOverlap h
theorem endPowerup {b : Nat} : (s.endPowerup b).Canon := by
  unfold State.endPowerup
  with_reducible
    extract_lets _ _ s1 s2 s3 s4
    have h1 : s1.Canon := h.setBank
    have h2 : s2.Canon := h1.raise
    have h3 : s3.Canon := .ite h2.raise h2
    have h4 : s4.Canon := .ite h3.raise.fault h3
    exact h4.assign
theorem powerupStep {b : Nat} {failed : List Nat} : (s.powerupStep b failed).Canon :=
  .ite (.ite h.setBank (.ite h.setBank h.setBank.endPowerup)) h
theorem selftestStep {b : Nat} {failed : List Nat} : (s.selftestStep b failed).Canon :=
  h.of_mask (State.selftestStep_mask (by decide) _ _ _)
theorem doPuStep {b : Nat} {failed : List Nat} : (s.doPuStep b failed).Canon := .ite h.selftestStep h.powerupStep
theorem doSpareSelftest {b : Nat} {pass : Bool} : (s.doSpareSelftest b pass).Canon := by
  unfold State.doSpareSelftest
  with_reducible
    extract_lets _ _ _ s2 s3
    have h2 : s2.Canon := h.enterSpare.count.setBank
    have h3 : s3.Canon := h2.passSlice
    refine .ite (.settleBank (.ite ?_ h2.raise.failSlice)) h
    split
    · exact h3
    · exact .ite h3.failSlice.setBank.refuseNow h3.failSlice.setBank
theorem doStuck {b sl : Nat} : (s.doStuck b sl).Canon := by
  unfold State.doStuck
  with_reducible
    dsimp only
    split
    · exact h
    · refine .ite (.upd ?_) h
      exact .healthFault (.fault (.set (.set (.set (.set (.count (.raise (.setBank (.ite (.ite h h.setHealth) h.setBank)))))))))

/-! Mirror, Cox and the fault guarantee (chapter 20). -/

theorem coxCatchEnd : s.coxCatchEnd.Canon := by
  unfold State.coxCatchEnd
  with_reducible
    extract_lets _ s1
    have h1 : s1.Canon := .ite (.set (.draw (.ite h.draw.set h))) (.ite h.draw.set h)
    exact .ite h1.set h1
theorem coxApplied : s.coxApplied.Canon := h.set.upd
theorem setTcu {u : Unit2} {t : Tcu} : (s.setTcu u t).Canon := h.of_mask (State.setTcu_mask (by decide) _ _ _)
theorem beginSelftest {u : Unit2} : (s.beginSelftest u).Canon := h.setPstate.setTcu
theorem tcuApplied {u : Unit2} : (s.tcuApplied u).Canon := .ite h.set.beginSelftest h
theorem becomeUnfit {u : Unit2} {cause : Nat} : (s.becomeUnfit u cause).Canon := h.setPstate.set.raise.setTcu.fault
theorem swapUnits : s.swapUnits.Canon := h.set.setPstate.beginSelftest.raise.count
theorem coxSwap : s.coxSwap.Canon := h.set.set.swapUnits
theorem expose {first last : BitVec 64} : (s.expose first last).Canon := h.set.set.set.set.raise.fault
theorem finishReseed {u : Unit2} : (s.finishReseed u).Canon := .ite h.setPstate.count.setTcu.upd h
theorem startDueSelftest {u : Unit2} : (s.startDueSelftest u).Canon := .ite h.beginSelftest h
theorem coxDecides {last : BitVec 64} : (s.coxDecides last).Canon := by
  unfold State.coxDecides
  with_reducible
    extract_lets _ s2 _ _ _ s4
    have h2 : s2.Canon := h.finishReseed.finishReseed.startDueSelftest.startDueSelftest
    have h4 : s4.Canon := h2.upd.raise.count
    split
    · exact h2
    · exact .ite (.ite h2.upd.expose.coxSwap h2.upd) h2
    · refine .ite (.ite ?_ h4) h2
      split
      · exact .ite h4.becomeUnfit h4.setPstate
      · exact h4.setPstate
theorem coxHost : s.coxHost.Canon := by
  unfold State.coxHost
  with_reducible
    extract_lets _ _ _ s1 _
    have h1 : s1.Canon := .ite (.set (.upd (.ite h.set.coxSwap.set.set h.set))) h
    exact .ite h1.swapUnits.set.set (.ite h1.raise.count h1)
theorem coxTick : s.coxTick.Canon := h.draw.draw.set.set
theorem selfCheck {u : Unit2} : (s.selfCheck u).Canon := h.count.setTcu
theorem digestsDiffer : s.digestsDiffer.Canon := h.draw.set
theorem doMemtestFail {u : Unit2} : (s.doMemtestFail u).Canon := .ite h.becomeUnfit.upd h
theorem doMemtestPass {u : Unit2} : (s.doMemtestPass u).Canon := .ite h.setTcu.countW h
theorem doMismatch {f : MismatchFacts} : (s.doMismatch f).Canon := by
  unfold State.doMismatch
  with_reducible
    refine .ite ?_ h
    extract_lets s1 s2 _ s3 s4
    have h1 : s1.Canon := h.digestsDiffer
    have h2 : s2.Canon := h1.raise.count
    have h3 : s3.Canon := h2.upd
    have h4 : s4.Canon := h3.set
    split
    · exact .ite h4.healthFault.set.upd h4.healthFault.set.beginSelftest
    · exact h4.healthFault.set.upd
theorem doScrubSbe : s.doScrubSbe.Canon := .ite h.count.healthFault h
theorem doSelftestEnd {u : Unit2} {pass : Bool} : (s.doSelftestEnd u pass).Canon := by
  unfold State.doSelftestEnd
  with_reducible
    split
    · exact h
    · exact .ite (.ite h.setTcu.setPstate.raise h.setTcu.becomeUnfit) h
theorem doTemp {n : Nat} {hot : Bool} : (s.doTemp n hot).Canon := .ite h (.ite h.set.raise.healthFault h.set)
theorem doVote : s.doVote.Canon := by
  unfold State.doVote
  with_reducible exact .ite (.ite h.count.healthFault h.count.healthFault.raise.upd) h

/-! The fragment builder (chapter 12) and the Lens engines (R269 to R279). -/

theorem someClock : s.someClock.2.Canon := h.of_mask (State.someClock_mask (by decide) _)
theorem lensClock : s.lensClock.2.Canon := h.of_mask (State.lensClock_mask (by decide) _)
theorem updBank {id k : Nat} {f : BankPart → BankPart} : (s.updBank id k f).Canon :=
  h.of_mask (State.updBank_mask (by decide) _ _ _ _)
theorem lensFlush {now : Nat} : (s.lensFlush now).Canon := h.of_mask (State.lensFlush_mask (by decide) _ _)
theorem doLensFlush {d : Word} : (s.doLensFlush d).Canon := h.of_mask (State.doLensFlush_mask (by decide) _ _)
theorem beginBlock {n : Nat} {f : Frag} {k start : Nat} : (s.beginBlock n f k start).Canon :=
  h.of_mask (State.beginBlock_mask (by decide) _ _ _ _ _)
theorem fragRefused {cause : Nat} : (s.fragRefused cause).Canon := h.set.raise.fault
theorem lensEcc {n : Nat} {dict : Bool} : (s.lensEcc n dict).Canon := by
  unfold State.lensEcc
  with_reducible
    split
    · exact h
    · exact h.someClock.upd.count.raise.fault
theorem lensStallTold : s.lensStallTold.Canon := .ite h h.raise.upd
theorem lensFreed {t : Nat} : (s.lensFreed t).Canon := by
  unfold State.lensFreed
  with_reducible
    extract_lets s1
    have h1 : s1.Canon := h.upd
    split
    · exact h1
    · exact .upd (.countBy (.ite h1.lensStallTold h1))
theorem doBlockDone {n : Nat} : (s.doBlockDone n).Canon := by
  unfold State.doBlockDone
  with_reducible
    split
    · exact h
    · refine .ite h ?_
      split
      · exact h.upd
      · extract_lets _ s1 s2 s3 s4 s5 s6
        have h1 : s1.Canon := h.updBank
        have h2 : s2.Canon := h1.countW
        have h3 : s3.Canon := h2.countW.countW
        have h4 : s4.Canon := .ite h3.count h3
        have h5 : s5.Canon := .ite h4.count h4
        have h6 : s6.Canon := .ite h5.count h5
        refine .ite h6.lensFreed.upd ?_
        split
        · exact h6
        · exact h6.beginBlock
theorem lensTick : s.lensTick.Canon := by
  unfold State.lensTick
  with_reducible
    extract_lets _
    split
    · exact h
    · exact h.countBy.lensStallTold.upd
theorem lensWaits {t : Nat} : (s.lensWaits t).Canon := .ite h.lensStallTold.upd h
theorem doEngineStart : s.doEngineStart.Canon := by
  unfold State.doEngineStart
  with_reducible
    split
    · exact h
    · refine .ite h ?_
      split
      · exact h.lensClock.lensWaits
      · exact h.lensClock.beginBlock.set.lensWaits
theorem servoEnter {f : Frag} : (s.servoEnter f).Canon := h.of_mask (State.servoEnter_mask (by decide) _ _)
theorem doFragmentReadEnd : s.doFragmentReadEnd.Canon := by
  unfold State.doFragmentReadEnd
  with_reducible
    split
    · exact h
    · exact .ite h (.ite h.servoEnter.upd.countW.lensClock.lensWaits.count.raise h.servoEnter.upd.countW.lensClock.lensWaits)
theorem fragRate {e : Entry} {cs : List Nat} : (s.fragRate e cs).2.Canon := h.of_mask (State.fragRate_mask (by decide) _ _ _)
theorem occAdd {p cell : Nat} : (s.occAdd p cell).Canon := h.set
theorem occEnter {t : Nat} {first : Int} : (s.occEnter t first).Canon :=
  .ite (h.forEach fun _ _ h => .ite h (h.set.forEach fun _ _ h => h.occAdd)) h
theorem takeRecords {classA : Bool} : (s.takeRecords classA).2.Canon := h.of_mask (State.takeRecords_mask (by decide) _ _)
theorem windowEcc {n : Nat} : (s.windowEcc n).Canon := .ite h h.countBy.raise
theorem windowOverrun {n : Nat} : (s.windowOverrun n).Canon := .ite h h.countBy.raise.fault
theorem startFragment {e : Entry} : (s.startFragment e).Canon := by
  unfold State.startFragment
  with_reducible
    extract_lets _ _ _ _ _ s1 s2 _ _ s3 _ s4 _ _ _ s5 s6 _ _ _ _ _ s7 _ _ _ _ _ _ _
    have h1 : s1.Canon := h.windowOverrun
    have h2 : s2.Canon := h1.windowEcc
    have h3 : s3.Canon := .ite h2.countBy (.ite h2.countBy h2)
    have h4 : s4.Canon := h3.fragRate
    have h5 : s5.Canon := .ite h4 h4.countBy.raise
    have h6 : s6.Canon := h5.occEnter
    have h7 : s7.Canon := h6.takeRecords
    exact h7.upd
theorem doFragmentStart : s.doFragmentStart.Canon := by
  unfold State.doFragmentStart
  with_reducible
    split
    · exact h
    · exact .ite h (.ite h.upd.count.raise (.ite h h.startFragment))

/-! Housekeeping (chapter 18). -/

theorem clearFresh {r : Nat} : (s.clearFresh r).Canon := h.set
theorem hkTrigger {inj : Bool} : (s.hkTrigger inj).Canon := .ite h (.ite h.upd h.count.raise)
theorem doInjGo : s.doInjGo.Canon := h.hkTrigger
theorem doRegGo : s.doRegGo.Canon := h.hkTrigger
theorem doSelftestGo : s.doSelftestGo.Canon := .ite h.set h
theorem hkWatch : s.hkWatch.Canon := h.of_mask (State.hkWatch_mask (by decide) _)
theorem ptStart {n : Nat} : (s.ptStart n).Canon := .ite h.upd.emit h.upd.emit.fireFree
theorem ptStop {n : Nat} : (s.ptStop n).Canon := h.of_mask (State.ptStop_mask (by decide) _ _)
theorem hkCatch {s0 : State} : (State.hkCatch s0 s).Canon := by
  unfold State.hkCatch
  with_reducible
    extract_lets _ s1 s2 s3
    have h1 : s1.Canon := .ite h h.upd
    have h2 : s2.Canon := .ite (.ite (.ite h1.set h1) h1.set) h1.set.set
    have h3 : s3.Canon := h2.forEach fun _ _ h => .ite (.ite h.ptStart h) h.ptStop
    exact h3.hkWatch
theorem entryStart {inj : Bool} {i : Nat} : (s.entryStart inj i).Canon := h.of_mask (State.entryStart_mask (by decide) _ _ _)
theorem seqStart {inj : Bool} : (s.seqStart inj).Canon := h.of_mask (State.seqStart_mask (by decide) _ _)
theorem testStart : s.testStart.Canon := by
  unfold State.testStart
  with_reducible exact h.set.set.upd
theorem afterInjected : s.afterInjected.Canon := .ite h.testStart.set (.ite h.entryStart (.ite h.seqStart h))
theorem excRestart {es : List Staged} : (s.excRestart es).Canon := by
  unfold State.excRestart
  with_reducible exact h.forEach fun _ _ h => .ite h.set.set.upd h
theorem hkRefused {cause : Nat} : (s.hkRefused cause).Canon := h.set.raise.fault
theorem hkcurveRefused {slot : Nat} : (s.hkcurveRefused slot).Canon := h.raise.fault
theorem hkseqRefused : s.hkseqRefused.Canon := h.draw.raise.fault
theorem excOne {k i : Nat} : (s.excOne k i).Canon := by
  unfold State.excOne
  with_reducible
    extract_lets s1 _ _ _ s2 s3
    have h2 : s2.Canon := h.set.upd
    have h3 : s3.Canon := .ite h2.set.raise (.ite h2.set h2)
    exact .ite h.set.upd (.ite h3.set.set.raise.fault h3)
theorem doExcSample {i0 i1 i2 i3 : Nat} : (s.doExcSample i0 i1 i2 i3).Canon := .ite h.excOne.excOne.excOne.excOne.hkWatch h
theorem hkAbort : s.hkAbort.Canon := h.count.raise
theorem injectedDue : s.injectedDue.Canon := .ite h (.seqStart (.ite h.upd.set.hkAbort (.ite h.hkAbort h)))
theorem regularDue : s.regularDue.Canon := h.of_mask (State.regularDue_mask (by decide) _)
theorem doHkDelayEnd {q : HkSeq} : (s.doHkDelayEnd q).Canon := by
  unfold State.doHkDelayEnd
  with_reducible
    refine .ite h ?_
    split
    · exact h.injectedDue
    · exact h.regularDue
    · exact h.injectedDue.regularDue
theorem evaluated {floor : Int} {exact_ : Bool} {tol : Nat} : (s.evaluated floor exact_ tol).2.Canon :=
  h.of_mask (State.evaluated_mask (by decide) _ _ _ _)
theorem hkValue {e : HkEntry} {codes : List Int} {cj : Int} : (s.hkValue e codes cj).2.2.Canon := by
  unfold State.hkValue
  with_reducible
    dsimp only
    split
    · exact h
    split
    · exact h.raise
    split
    · exact h.count.raise
    · exact h.evaluated
theorem seqEnd {inj : Bool} : (s.seqEnd inj).Canon := by
  unfold State.seqEnd
  with_reducible
    extract_lets _ s1
    have h1 : s1.Canon := h.upd
    refine .ite ?_ ?_
    · exact h1.upd.raise.fireFree.afterInjected
    · exact .ite (.ite h1.set.raise.fireFree.upd.testStart h1.set.raise.fireFree.seqStart) h1.set.raise.fireFree.upd
theorem writeResult {e : HkEntry} {v : Int} {flags : Nat} : (s.writeResult e v flags).Canon :=
  .ite h.set.seti.setb.raise.fireFree h.set.seti.setb
theorem doHkEntryDone {codes : List Int} {cj : Int} : (s.doHkEntryDone codes cj).Canon := by
  unfold State.doHkEntryDone
  with_reducible
    extract_lets s1
    have h1 : s1.Canon := h.hkWatch
    split
    · exact h1
    · exact .ite h1 (.ite h1.countW.hkValue.writeResult.entryStart h1.countW.hkValue.writeResult.seqEnd)
theorem doHkTestDone {ofs1 ofs128 gain1 gain2 : Int} : (s.doHkTestDone ofs1 ofs128 gain1 gain2).Canon := by
  unfold State.doHkTestDone
  with_reducible
    refine .ite h ?_
    extract_lets _ s1 s2 s3 s4
    have h1 : s1.Canon := h.set.setb.countW
    have h2 : s2.Canon := h1.seti.seti
    have h3 : s3.Canon := h2.raise
    have h4 : s4.Canon := .ite h3 h3.raise.fault
    exact .ite h4.seqStart h4
theorem doHkTestStart : s.doHkTestStart.Canon := .ite h.testStart h
theorem doPtPeriod {n : Nat} : (s.doPtPeriod n).Canon := .ite h.ptStart h
theorem hkSource {src n : Nat} : (s.hkSource src n).Canon := .ite (.hkTrigger (.ite h.hkTrigger h)) (.ite h.hkTrigger h)

/-! The serial lanes (chapter 15). -/

theorem esGo {x : Xcvr} {d : Word} : (s.esGo x d).Canon := by
  unfold State.esGo
  with_reducible exact .ite h.set.set.set.upd h
theorem laneOn {n : Nat} : (s.laneOn n).Canon := by
  unfold State.laneOn
  with_reducible exact h.setPstate.codeStart.upd
theorem paceTested {x : Xcvr} {on : Bool} : (s.paceTested x on).Canon := h.of_mask (State.paceTested_mask (by decide) _ _ _)
theorem testHold {x : Xcvr} : (s.testHold x).Canon := .ite h (.ite h.set.raise h.set)
theorem testOff {xb : Nat} : (s.testOff xb).Canon := h.set.upd
theorem testOn {xb : Nat} : (s.testOn xb).Canon := h.set.setChecker.prbsStart
theorem testCatch {x : Xcvr} : (s.testCatch x).Canon := by
  unfold State.testCatch
  with_reducible
    dsimp only
    refine .ite (.ite h ?_) (.ite h.set (.ite h (.ite ?_ h.testHold)))
    · split
      · exact h.testOff.laneOn
      · exact h.testOff.upd.codeStart.paceTested
    · split
      · exact h.testOn.setPstate
      · exact h.testOn.unready.upd.paceTested
      · exact h.testOn.upd
theorem laneCatch {s0 : State} : (State.laneCatch s0 s).Canon := by
  unfold State.laneCatch
  with_reducible
    extract_lets s1 s2
    have h1 : s1.Canon := h.forEach fun _ _ h => .ite h h.upd
    have h2 : s2.Canon := h1.forEach fun _ _ h => .ite h.prbsStart h
    exact .endOutage (h2.forEach fun _ _ h => h.testCatch)
theorem laneOff {n : Nat} : (s.laneOff n).Canon := h.rxOff.testOff.set.setPstate
theorem laneSwitch : s.laneSwitch.Canon := h.upd.forEach fun _ _ h => .ite h.laneOn (.ite h.laneOff h)
theorem sigTurn {l : PaceLane} : (s.sigTurn l).Canon := h.of_mask (State.sigTurn_mask (by decide) _ _)
theorem sigCatch {last : BitVec 64} : (s.sigCatch last).Canon := by
  unfold State.sigCatch
  with_reducible
    refine .forEach (h.forEach fun _ _ h => h.sigTurn) fun t x ht => ?_
    extract_lets _ s1 s2
    have h2 : s2.Canon := ht.set.set.upd
    split
    · split
      · exact h2
      · exact h2.set.set
    · exact .ite h2.set.set.upd h2
theorem doBurst {n : Nat} : (s.doBurst n).Canon := by
  unfold State.doBurst
  with_reducible exact .ite h.setPstate.codeStart.upd h
theorem laneMoor : s.laneMoor.Canon := h.forEach fun _ _ h => .ite h.rxOff.setPstate h
theorem laneWake : s.laneWake.Canon := h.forEach fun _ _ h => .ite h.laneOn h
theorem checkTick {x : Xcvr} {gs : List (BitVec 10)} : (s.checkTick x gs).Canon := h.setChecker.set.set.countBy
theorem codeErrors {x : Xcvr} {k : Nat} : (s.codeErrors x k).Canon := by
  unfold State.codeErrors
  with_reducible
    extract_lets _ _ s1
    have h1 : s1.Canon := h.upd.countBy
    split
    · exact h1.countBy.healthFaults
    · exact h1.healthFaults
    · exact h1
theorem commaTick {l : PaceLane} {ys : List LineSym} : (s.commaTick l ys).Canon := by
  unfold State.commaTick
  with_reducible exact .ite h.count.upd h
theorem doChkLock {x : Xcvr} : (s.doChkLock x).Canon := .ite (.ite h.set.setChecker.raise h.set.setChecker) h
theorem doChkLost {x : Xcvr} : (s.doChkLost x).Canon := .ite (.ite h.set.setChecker.esAbort.raise h.set.setChecker.esAbort) h
theorem sigAdd {k : Nat} {ys : List LineSym} : (s.sigAdd k ys).Canon := h.of_mask (State.sigAdd_mask (by decide) _ _ _)
theorem receive {x : Xcvr} {gs : List (BitVec 10)} : (s.receive x gs).2.Canon := by
  unfold State.receive
  with_reducible
    extract_lets _ _ _ _ _ _ _ s1 _ s2 s3
    have h1 : s1.Canon := h.setRxDisp.upd
    have h3 : s3.Canon := .sigAdd (.ite h1 h1.codeErrors)
    refine .ite_snd ?_ h.upd
    split
    · exact h3.commaTick
    · exact h3
theorem patternTick {x : Xcvr} : (s.patternTick x).2.Canon := h.of_mask (State.patternTick_mask (by decide) _ _)
theorem testTick {x : Xcvr} {ts : List LaneTraffic} : (s.testTick x ts).Canon := h.patternTick.checkTick
theorem testsTick {ts : List LaneTraffic} : (s.testsTick ts).Canon := h.forEach fun _ _ h => .ite h.testTick h
theorem doEsDone {x : Xcvr} {err : Nat} : (s.doEsDone x err).Canon := by
  unfold State.doEsDone
  with_reducible
    extract_lets _
    split
    · exact h
    · exact .ite (.ite h.upd.set.set.raise h.upd.set.set) h
theorem doFeather {n : Nat} : (s.doFeather n).Canon := .ite h.setPstate.countW h
theorem rxLose {x : Xcvr} {st : Nat} : (s.rxLose x st).Canon := by
  unfold State.rxLose
  with_reducible
    extract_lets _ s1
    have h1 : s1.Canon := h.esAbort.set.count
    split
    · exact h1.raise.fault
    · exact h1
theorem doRxLost {x : Xcvr} {cause : DownCause} : (s.doRxLost x cause).Canon := by
  unfold State.doRxLost
  with_reducible
    refine .ite ?_ h
    split
    · exact h.rxLose
    · exact .ite h.rxLose h
    · exact .ite h h.rxLose
theorem doLoopMismatch {x : Xcvr} : (s.doLoopMismatch x).Canon := by
  unfold State.doLoopMismatch
  with_reducible
    dsimp only
    refine .ite ?_ h
    split
    · exact .ite h.count.fault h.count.fault.raise.upd
    · exact h.count
theorem doRxAligned {x : Xcvr} {commas : Nat} : (s.doRxAligned x commas).Canon :=
  .ite (.ite h.draw.setRxDisp.set.raise h.draw.setRxDisp.set) h
theorem doSignalDetect {x : Xcvr} : (s.doSignalDetect x).Canon := .ite h.set h
theorem doSignalLost {x : Xcvr} : (s.doSignalLost x).Canon := .ite h.set h
theorem doTxPhase {x : Xcvr} : (s.doTxPhase x).Canon := by
  unfold State.doTxPhase
  with_reducible
    dsimp only
    refine .ite ?_ h
    split
    · exact h.upd.raise.fault
    · exact h.upd
theorem laneCodeError {x : Xcvr} : (s.laneCodeError x).Canon := .ite h.codeErrors.upd h

/-! Rigger ports and satellites (chapter 17). -/

theorem doShadowForget {d : Word} : (s.doShadowForget d).Canon := .ite h.set h
theorem updSat {p : Nat} {f : SatPort → SatPort} : (s.updSat p f).Canon := h.of_mask (State.updSat_mask (by decide) _ _ _)
theorem doShadowWrite {d : Word} : (s.doShadowWrite d).Canon := .ite h.count.raise h.set.set.set.updSat.set
theorem countGap {p : Nat} {a b : Int} : (s.countGap p a b).Canon := h.countBy.set.set.set.set
theorem markGap {p : Nat} {a b : Int} : (s.markGap p a b).Canon := h.of_mask (State.markGap_mask (by decide) _ _ _ _)
theorem enterRun {p : Nat} : (s.enterRun p).Canon := by
  unfold State.enterRun
  with_reducible
    extract_lets _ s1 s2
    have h1 : s1.Canon := by
      unfold s1
      split
      · exact h.markGap
      · exact h.markGap.countGap
    have h2 : s2.Canon := h1.updSat
    exact h2.upd.setPstate.raise
theorem dropItem {p : Nat} : (s.dropItem p).Canon := h.of_mask (State.dropItem_mask (by decide) _ _)
theorem satPartial {p : Nat} : (s.satPartial p).Canon := h.count.raise
theorem leaveRun {p : Nat} {partialItem : Bool} : (s.leaveRun p partialItem).Canon :=
  .ite (.upd (.ite h.satPartial.dropItem h)) (.ite h.satPartial.dropItem h)
theorem satDisable {p : Nat} : (s.satDisable p).Canon := h.leaveRun.dropItem.setPstate.rxOff.updSat
theorem sendSync {p : Nat} : (s.sendSync p).Canon := h.of_mask (State.sendSync_mask (by decide) _ _)
theorem satCatch : s.satCatch.Canon :=
  h.forEach fun _ _ h => .ite (.ite h h.satDisable) (.ite h.setPstate.codeStart (.ite (.ite h.enterRun (.ite h.sendSync h)) h))
theorem enterResync {p : Nat} : (s.enterResync p).Canon := by
  unfold State.enterResync
  with_reducible exact h.setPstate.count.updSat
theorem satResyncAll : s.satResyncAll.Canon := h.forEach fun _ _ h => .ite h.leaveRun.enterResync.sendSync h
theorem makeDirty {p a : Nat} : (s.makeDirty p a).Canon := h.of_mask (State.makeDirty_mask (by decide) _ _ _)
theorem servoCell {p c n : Nat} : (s.servoCell p c n).2.Canon :=
  .ite_snd h (.ite_snd h.count.raise (.ite_snd h.count.raise h.wr.makeDirty.updSat.countW.raise))
theorem servoPort {p : Nat} : (s.servoPort p).Canon := by
  unfold State.servoPort
  extract_lets _ _ _ _ _ s1
  have h1 : s1.Canon := h.foldl Prod.snd fun _ _ h => h.servoCell
  exact .set (Assoc.wf_filter _ _ _ h1)
theorem satServo : s.satServo.Canon := .ite (h.forEach fun _ _ h => .ite h.servoPort h) h
theorem frameError {p : Nat} : (s.frameError p).Canon := h.count.raise
theorem badFrame {p : Nat} : (s.badFrame p).Canon := h.frameError.healthFault
theorem blockDue {p b next : Nat} : (s.blockDue p b next).Canon := h.of_mask (State.blockDue_mask (by decide) _ _ _ _)
theorem capRequest {p : Nat} : (s.capRequest p).Canon := h.of_mask (State.capRequest_mask (by decide) _ _)
theorem satstatRefused {cause : Nat} : (s.satstatRefused cause).Canon := h.raise.fault
theorem compareCell {p a : Nat} {v : BitVec 16} : (s.compareCell p a v).Canon := by
  unfold State.compareCell
  with_reducible
    extract_lets _
    refine .ite h ?_
    refine .ite ?_ ?_
    · exact h.updSat
    · exact .updSat (.makeDirty (.ite h.count.set.set.raise.healthFault.count.raise.fault h.count.set.set.raise.healthFault))
theorem shadowEcc {p a : Nat} : (s.shadowEcc p a).Canon := h.draw.set.set.count.raise.fault
theorem satItemError {p : Nat} {item : SatItem} : (s.satItemError p item).Canon := by
  unfold State.satItemError
  with_reducible
    refine .ite h ?_
    split
    · exact h
    · exact h.badFrame
    · exact .ite h.satPartial.healthFault.markGap.countGap h.satPartial.healthFault
theorem satSymbol {p : Nat} {y : LineSym} : (s.satSymbol p y).Canon := by
  unfold State.satSymbol
  with_reducible
    extract_lets _ _ _
    refine .ite (.dropItem (.ite h.satItemError h.updSat)) ?_
    refine .ite h.updSat (.ite h (.ite ?_ (.ite h.updSat h.updSat)))
    split
    · exact h.updSat
    · exact .ite h.updSat h.updSat
theorem satStream {p : Nat} {ys : List LineSym} : (s.satStream p ys).Canon :=
  .updSat (.ite (.forEach (.ite h.updSat h) fun _ _ h => h.satSymbol) (.dropItem (.ite h.updSat h)))
theorem satTick : s.satTick.Canon := h.of_mask (State.satTick_mask (by decide) _)
theorem doItemError {p : Nat} {item : SatItem} : (s.doItemError p item).Canon := h.satItemError.updSat
theorem doSatAligned {p : Nat} : (s.doSatAligned p).Canon := .ite h.raise.setPstate.capRequest h
theorem doSatCap {p : Nat} {bytes : List Byte} : (s.doSatCap p bytes).Canon := by
  unfold State.doSatCap
  with_reducible
    refine .ite h ?_
    refine .ite h.badFrame ?_
    split
    · exact .updSat (.ite h.set.set.set.updSat.enterResync h.set.set.set.updSat)
    · exact h.frameError
theorem satTimeout {p : Nat} {capOnly : Bool} : (s.satTimeout p capOnly).Canon := by
  unfold State.satTimeout
  with_reducible
    split
    · exact h
    · refine .ite h ?_
      extract_lets s1
      have h1 : s1.Canon := h.count.raise
      split
      · exact .ite h1.capRequest h1.updSat
      · exact h1.updSat
theorem doSatCapRetry {p : Nat} : (s.doSatCapRetry p).Canon := h.satTimeout
theorem doSatConfigSend {p : Nat} : (s.doSatConfigSend p).Canon := h.of_mask (State.doSatConfigSend_mask (by decide) _ _)
theorem doSatHit {p : Nat} {b0 b1 b2 b3 : Byte} : (s.doSatHit p b0 b1 b2 b3).Canon := by
  unfold State.doSatHit
  with_reducible exact .ite h (.ite h.count (.ite (.ite h.count h.count.raise.updSat) (.ite h.countW h.countW.upd)))
theorem doSatK285 {p : Nat} : (s.doSatK285 p).Canon := by
  unfold State.doSatK285
  with_reducible
    refine .ite h.set (.ite h ?_)
    extract_lets _ s1 _ _ _ _ _ s2
    have h2 : s2.Canon := .ite h.set.set h.set
    exact .ite (.ite h2.leaveRun.enterResync.updSat.raise.fault h2.leaveRun.enterResync.updSat)
      (.ite h2.updSat.raise.fault h2.updSat)
theorem doSatLinkDown {p : Nat} {cause : DownCause} {partialItem : Bool} : (s.doSatLinkDown p cause partialItem).Canon :=
  .ite h h.leaveRun.raise.fault.setPstate
theorem doSatReadResp {p : Nat} {bytes : List Byte} : (s.doSatReadResp p bytes).Canon := by
  unfold State.doSatReadResp
  with_reducible
    refine .ite h ?_
    refine .ite h.badFrame ?_
    extract_lets _ _
    split
    · exact .ite (h.updSat.forEach fun _ _ h => h.compareCell) h.frameError
    · exact h.frameError
theorem doSatRespTimeout {p : Nat} : (s.doSatRespTimeout p).Canon := h.satTimeout
theorem doSatResyncRetry {p : Nat} : (s.doSatResyncRetry p).Canon := h.of_mask (State.doSatResyncRetry_mask (by decide) _ _)
theorem passDone {p st : Nat} : (s.passDone p st).Canon := by
  unfold State.passDone
  with_reducible exact .ite h.countW.set h.countW.set.raise.upd
theorem doScrubDue {p : Nat} : (s.doScrubDue p).Canon := by
  unfold State.doScrubDue
  with_reducible
    extract_lets _ _ s1 s2
    have h1 : s1.Canon := by
      unfold s1
      split
      · exact h.passDone
      · exact h
    have h2 : s2.Canon := h1.updSat
    refine .ite h ?_
    split
    · exact h.blockDue
    split
    · exact h.blockDue
    refine .ite h ?_
    split
    · exact h2.blockDue
    · exact h2
theorem satSignalSeen {p : Nat} : (s.satSignalSeen p).Canon := .ite h.setPstate h

/-! The transmitting side of a Slipway link (chapter 16). -/

theorem setLink {n : Nat} {k : Link} : (s.setLink n k).Canon := h.of_mask (State.setLink_mask (by decide) _ _ _)
theorem updLink {n : Nat} {f : Link → Link} : (s.updLink n f).Canon := h.of_mask (State.updLink_mask (by decide) _ _ _)
theorem setStall {n : Nat} {sizes : List Nat} : (s.setStall n sizes).Canon :=
  .ite h.updLink.set (.ite h.updLink h.updLink.set.raise)
theorem freeStall {n : Nat} {wanted : Bool} : (s.freeStall n wanted).Canon := .ite h.setStall h
theorem joinStall {n : Nat} {sizes : List Nat} : (s.joinStall n sizes).Canon := .ite h h.setStall
theorem linkWant {n : Nat} : (s.linkWant n).Canon := h.of_mask (State.linkWant_mask (by decide) _ _)
theorem mayStartIf {ok : Bool} {n : Nat} {sizes : List Nat} : (s.mayStartIf ok n sizes).2.Canon :=
  .ite_snd h (.ite_snd h.linkWant (.ite_snd h.freeStall h.joinStall))
theorem mayStart {n : Nat} {sizes : List Nat} : (s.mayStart n sizes).2.Canon := h.mayStartIf
theorem linkSend {n : Nat} {bytes : List Byte} : (s.linkSend n bytes).Canon := h.of_mask (State.linkSend_mask (by decide) _ _ _)
theorem showReplay {n : Nat} : (s.showReplay n).Canon := h.set.set
theorem sendSeq {n : Nat} {ty : Byte} {write : Bool} {fields : List Byte} : (s.sendSeq n ty write fields).2.Canon :=
  h.updLink.set.countW.linkSend.showReplay
theorem protoErr {n : Nat} : (s.protoErr n).Canon := h.count.raise
theorem sendCtl {n : Nat} {bytes : List Byte} : (s.sendCtl n bytes).Canon := h.of_mask (State.sendCtl_mask (by decide) _ _ _)
theorem sendAck {n : Nat} : (s.sendAck n).Canon := h.of_mask (State.sendAck_mask (by decide) _ _)
theorem drain {n : Nat} : (s.drain n).Canon := h.of_mask (State.drain_mask (by decide) _ _)
theorem flushCtl {n : Nat} : (s.flushCtl n).Canon := h.of_mask (State.flushCtl_mask (by decide) _ _)
theorem releaseKept {n : Nat} : (s.releaseKept n).Canon := h.of_mask (State.releaseKept_mask (by decide) _ _)
theorem resend {n : Nat} : (s.resend n).Canon := by
  unfold State.resend
  with_reducible exact .ite h.updLink (.drain (.updLink (.ite h.count h.count.raise.upd)))
theorem streamTick {n : Nat} : (s.streamTick n).Canon := h.of_mask (State.streamTick_mask (by decide) _ _)
theorem mayRead {n size : Nat} : (s.mayRead n size).2.Canon := h.mayStartIf
theorem performed {n : Nat} : (s.performed n).Canon := .ite h.set.updLink.sendAck h.set.updLink
theorem sendNak {n : Nat} : (s.sendNak n).Canon := .ite h h.updLink.count.sendCtl

/-! The derandomiser and the routing of its fragments (chapter 14). -/

theorem crewSet {c w lo n v : Nat} : (s.crewSet c w lo n v).Canon := h.wr
theorem addCredits {c n : Nat} : (s.addCredits c n).Canon := .ite h.crewSet h.crewSet.count.raise
theorem setFetched {c : Nat} {l : List Desc} : (s.setFetched c l).Canon := h.of_mask (State.setFetched_mask (by decide) _ _ _)
theorem setNext {c a : Nat} : (s.setNext c a).Canon := h.crewSet.crewSet.crewSet
theorem doCreditAdd {d : Word} : (s.doCreditAdd d).Canon := h.addCredits
theorem release : s.release.Canon := h.of_mask (State.release_mask (by decide) _)
theorem setHead {c x : Nat} : (s.setHead c x).Canon := h.crewSet.crewSet
theorem setTail {c t : Nat} : (s.setTail c t).Canon := h.crewSet.crewSet
theorem letIn {x : Held} : (s.letIn x).Canon := .set (.ite (.ite h.upd h.upd) (.countW (.ite h.upd h.upd)))
theorem doDerandAdmit : s.doDerandAdmit.Canon := by
  unfold State.doDerandAdmit
  with_reducible
    split
    · exact h
    · exact .ite h.upd.letIn h
theorem place {x : Held} : (s.place x).Canon := .ite h.letIn h.upd
theorem shed {f : Frag} {x : Held} : (s.shed f x).Canon := by
  unfold State.shed
  with_reducible exact h.countW.raise.upd.place
theorem doDerandOffer : s.doDerandOffer.Canon := by
  unfold State.doDerandOffer
  with_reducible
    split
    · exact h
    · exact .ite h (.ite h.upd.shed h.upd.place)

/-! Crews, seats and the stations' DMA engines (chapter 14). -/

theorem abandon {n : Nat} : (s.abandon n).Canon := h.upd.count.raise
theorem giveBack {ids : List Nat} : (s.giveBack ids).Canon := .ite h.upd h.upd.countBy.raise
theorem abandonRedo {n c : Nat} : (s.abandonRedo n c).Canon := h.updLink.giveBack
theorem rewind {c keep : Nat} : (s.rewind c keep).Canon := by
  unfold State.rewind
  with_reducible
    dsimp only
    split
    · exact h.setFetched
    · exact h.setFetched.setNext.addCredits
theorem spill {k c : Nat} : (s.spill k c).Canon := by
  unfold State.spill
  with_reducible exact .ite h.rewind.count.upd h.rewind.count.upd.raise
theorem useSeat {k : Nat} : (s.useSeat k).Canon := h.of_mask (State.useSeat_mask (by decide) _ _)
theorem waitSeat : s.waitSeat.Canon := .ite h h.upd.raise
theorem readBad {x : Held} {ofs len : Nat} {first : Bool} : (s.readBad x ofs len first).Canon := .ite h h.countBy.raise.fault
theorem sendWrite {n a : Nat} {data : List Byte} : (s.sendWrite n a data).2.Canon := by
  unfold State.sendWrite
  with_reducible exact h.sendSeq
theorem writeNext {n id c : Nat} {x : Desc} {base len sent : Nat} : (s.writeNext n id c x base len sent).2.Canon := by
  unfold State.writeNext
  with_reducible
    split
    · exact h
    · exact .ite_snd h.mayStart h.mayStart.sendWrite.countW.readBad
theorem takeSeat {c : Nat} : Answers State.Canon (s.takeSeat c) := by
  unfold State.takeSeat
  split
  · exact .some h.useSeat
  split
  · exact .some h.upd.useSeat
  split
  · exact .none
  · exact .some h.spill.upd.useSeat
theorem seated {c : Nat} : Answers State.Canon (s.seated c) := .ite (.some h) h.takeSeat
theorem pumpOnce {n : Nat} : (s.pumpOnce n).2.Canon := by
  unfold State.pumpOnce
  with_reducible
    refine .ite_snd h ?_
    split
    · refine .ite_snd ?_ h
      split
      · exact h.waitSeat
      · next t ht => exact (h.seated t ht).writeNext.updLink
    · split
      · exact h
      split
      · exact h
      · exact .ite_snd h h.writeNext.upd
theorem pump.go {n left : Nat} : (State.pump.go n left s).Canon := by
  induction left generalizing s with
  | zero => exact h
  | succ k ih => exact .ite (ih h.pumpOnce) h.pumpOnce
theorem pump {n : Nat} : (s.pump n).Canon := (pump.go h).freeStall
theorem pauseChanged : s.pauseChanged.Canon := h.forEach fun _ _ h => .ite h (.pump (.ite h.setPstate h))
theorem crewLinkDown {n : Nat} : (s.crewLinkDown n).Canon := by
  unfold State.crewLinkDown
  with_reducible
    extract_lets s1 _ s2 s3 s4 s5
    have h1 : s1.Canon := h.forEach fun _ _ h => h.rewind
    have h2 : s2.Canon := .ite h1 h1.countBy.raise
    have h3 : s3.Canon := h2.upd
    have h4 : s4.Canon := h3.updLink
    have h5 : s5.Canon := h4.forEach fun _ _ h => h.abandonRedo
    split
    · exact h5
    · exact .ite h5.abandon h5.upd
theorem crewLinkUp {n : Nat} : (s.crewLinkUp n).Canon := .pump (.ite h h.countBy.raise)
theorem crewClear {c : Nat} : (s.crewClear c).Canon := h.setHead.setTail.crewSet.crewSet.crewSet.crewSet
theorem cutRedo {n c : Nat} : (s.cutRedo n c).Canon := h.updLink.giveBack
theorem quiesceDma {c : Nat} {reset : Bool} : (s.quiesceDma c reset).Canon := by
  unfold State.quiesceDma
  with_reducible
    extract_lets s1
    have h1 : s1.Canon := .ite h.abandonRedo (.ite h.cutRedo h)
    split
    · exact h1
    · exact .ite h1.abandon (.ite h1.upd h1)
theorem startQuiesce {c : Nat} {reset : Bool} : (s.startQuiesce c reset).Canon := by
  unfold State.startQuiesce
  with_reducible exact h.rewind.crewSet.crewSet.crewSet.upd.quiesceDma
theorem crewCommand {c op : Nat} : (s.crewCommand c op).Canon := by
  unfold State.crewCommand
  with_reducible
    extract_lets _
    refine .ite (.ite h.crewSet h.crewSet) ?_
    refine .ite ?_ ?_
    · exact .ite h.startQuiesce (.ite h.crewSet h)
    · exact .ite (.ite h.startQuiesce (.ite h.crewSet.crewSet.crewSet (.ite h.crewClear.crewSet h))) h
theorem crewEntry {open_ : List Nat} {e : Staged} : (s.crewEntry open_ e).1.Canon :=
  .ite_fst h.wr.crewCommand (.ite_fst (.ite h.wr.crewSet h.wr) h.wr)
theorem crewSetApply {l : List Staged} : (s.crewSetApply l).1.Canon := h.foldl Prod.fst fun _ _ h => h.crewEntry
theorem crewPageReset : s.crewPageReset.Canon := h.forEach fun _ _ h => h.crewCommand
theorem crewRefused {cause crew : Nat} : (s.crewRefused cause crew).Canon := h.set.set.raise.fault
theorem sendStatus {n id c : Nat} {x : Desc} {base bytes bits : Nat} : (s.sendStatus n id c x base bytes bits).Canon :=
  .ite h.sendWrite.updLink.sendSeq.count h.sendWrite.updLink
theorem takeDesc {n : Nat} : (s.takeDesc n).Canon := h.of_mask (State.takeDesc_mask (by decide) _ _)
theorem completePart {n : Nat} {d : Dma} {x : Desc} : (s.completePart n d x).Canon := by
  unfold State.completePart
  with_reducible
    extract_lets _ _ _ _ _ _ _ s1 s2 s3
    have h1 : s1.Canon := h.sendStatus
    have h2 : s2.Canon := h1.setHead
    have h3 : s3.Canon := h2.countW
    exact .ite h3.abandon (.ite h3.upd.takeDesc.pump h3.upd.countW)
theorem seatTick : s.seatTick.Canon := .ite (.ite h.countBy h.upd) h
theorem crewTick : s.crewTick.Canon := .seatTick (.ite (.countBy (.ite h.countBy h)) (.ite h.countBy h))
theorem descFail {c kind : Nat} : (s.descFail c kind).Canon := h.set.set.count.raise.fault.startQuiesce
theorem doDescComplete {n : Nat} : (s.doDescComplete n).Canon := by
  unfold State.doDescComplete
  with_reducible
    refine .ite h ?_
    split
    · refine .ite h ?_
      split
      · exact h.waitSeat
      · next t ht =>
        have h := h.seated t ht
        exact .ite h.mayStart h.mayStart.updLink.sendStatus.pump
    · split
      · exact h
      split
      · exact h
      · exact .ite h (.ite h.mayStart.completePart h.mayStart)
theorem doDescFetch {n c : Nat} : (s.doDescFetch n c).Canon := by
  unfold State.doDescFetch
  with_reducible
    refine .ite h ?_
    split
    · exact h
    · refine .ite h.mayRead ?_
      split
      · exact h.mayRead.waitSeat
      · next t ht => exact (h.mayRead.takeSeat t ht).upd.crewSet.countW.sendSeq
theorem doQuiesceEnd {c : Nat} : (s.doQuiesceEnd c).Canon := by
  unfold State.doQuiesceEnd
  with_reducible
    extract_lets _ _ s1 _ _ s2 s3
    have h1 : s1.Canon := .ite h.upd.count h
    have h3 : s3.Canon := .crewSet (.ite h1.crewClear h1.crewSet)
    exact .ite h h3.upd.raise
theorem doReadTimeout {n i : Nat} : (s.doReadTimeout n i).Canon := by
  unfold State.doReadTimeout
  with_reducible
    split
    · exact h
    · exact .ite h (.raise (.count (.upd (.ite h.rewind h))))
theorem readDone {n : Nat} {tag : Word} {status : Byte} {data : List Byte} : (s.readDone n tag status data).Canon := by
  unfold State.readDone
  with_reducible
    extract_lets _
    split
    · exact h.protoErr
    · extract_lets _
      refine .ite h.protoErr ?_
      refine .ite (.ite h.protoErr h.count) ?_
      refine .ite h.upd.count ?_
      split
      · exact h.descFail.upd
      · exact .pump (.takeDesc (.setFetched (.ite h.upd.crewSet.raise h.upd.setNext)))
theorem doStationPaused {n : Nat} : (s.doStationPaused n).Canon := .ite h.setPstate.raise h
theorem doStationSelect {n : Nat} : (s.doStationSelect n).Canon := by
  unfold State.doStationSelect
  with_reducible
    refine .ite h ?_
    split
    · exact h
    split
    · exact h.waitSeat
    · next t ht =>
      have h := h.takeSeat t ht
      exact .pump (.takeDesc (.upd (.ite h h.count)))

/-! The Slipway links (chapter 16). -/

theorem acked {n seq left : Nat} : (s.acked n seq left).Canon := h.setLink.set.showReplay.release
theorem peerMap {n : Nat} {map : Byte} : (s.peerMap n map).Canon := .ite h.set.setb.updLink h.set.setb
theorem ackReceived {n seq : Nat} {map : Byte} : (s.ackReceived n seq map).2.Canon :=
  .ite_snd h.protoErr (.ite_snd h.peerMap.acked (.ite_snd h.peerMap h.peerMap))
theorem capTell {n : Nat} : (s.capTell n).Canon := .ite h h.updLink.raise.fault
theorem linkClear {n : Nat} : (s.linkClear n).Canon := by
  unfold State.linkClear
  with_reducible
    extract_lets _ s1 s2
    have h2 : s2.Canon := h.updLink.upd
    exact h2.set.set.set.showReplay
theorem linkLeave {n st : Nat} : (s.linkLeave n st).Canon := .ite h.set.linkClear.crewLinkDown h.set.linkClear
theorem linkDisable {n : Nat} : (s.linkDisable n).Canon := .linkLeave (.ite h.fault h)
theorem linkDown {n : Nat} : (s.linkDown n).Canon := by
  unfold State.linkDown
  with_reducible exact h.raise.count.fault.linkLeave
theorem replayFrom {n : Nat} : (s.replayFrom n).Canon := by
  unfold State.replayFrom
  with_reducible
    split
    · exact h
    · exact .ite h.updLink (.ite h.updLink.resend.linkDown h.updLink.resend)
theorem linkGo {n : Nat} : (s.linkGo n).Canon :=
  .ite h.flushCtl (.pump (.flushCtl (.drain (.ite h.releaseKept.replayFrom h.releaseKept))))
theorem linkUp {n : Nat} : (s.linkUp n).Canon := h.draw.updLink.set.set.set.set.showReplay.raise.crewLinkUp
theorem linkUpIfTwo {n : Nat} : (s.linkUpIfTwo n).Canon := .ite h.linkUp h.linkUp.linkDown
theorem regroup {n : Nat} : (s.regroup n).Canon := by
  unfold State.regroup
  with_reducible
    refine .ite (.ite h.linkDown h) ?_
    extract_lets _ _ s1 s2 s3
    have h1 : s1.Canon := .ite h.count.raise.fault h
    have h3 : s3.Canon := .set (.ite h1.raise h1)
    exact .ite (.ite h3.updLink.updLink h3.updLink.resend) h3
theorem slipCatchOne {n : Nat} : (s.slipCatchOne n).Canon := by
  unfold State.slipCatchOne
  with_reducible
    extract_lets _ _ s1
    have h1 : s1.Canon := by
      refine .ite ?_ ?_
      · exact .ite h h.linkDisable
      · exact .ite h.set (.ite (.ite (.ite h.regroup.linkUpIfTwo h.regroup.capTell) h.regroup) (.ite h.regroup h))
    exact .ite h1 h1.emit.updLink.linkGo
theorem slipCatch {s0 : State} : (State.slipCatch s0 s).Canon := h.forEach fun _ _ h => .ite h.slipCatchOne.sendAck h.slipCatchOne
theorem slipGo : s.slipGo.Canon := h.forEach fun _ _ h => h.linkGo
theorem slipMoor : s.slipMoor.Canon := h.forEach fun _ _ h => .ite h h.linkLeave
theorem slipPageReset {n : Nat} : (s.slipPageReset n).Canon := h.linkDisable
theorem doAckTimer {n : Nat} : (s.doAckTimer n).Canon := h.of_mask (State.doAckTimer_mask (by decide) _ _)
theorem doCapsTimeout {n : Nat} : (s.doCapsTimeout n).Canon := .ite h.linkLeave h
theorem loseLane {n p : Nat} : (s.loseLane n p).Canon := .ite h h.updLink.healthFault
theorem mapChanged {n old : Nat} : (s.mapChanged n old).Canon := .ite h (.ite h.linkDown h.sendAck)
theorem regain {n : Nat} {ms : List (Option MarkerIn)} {out_ : List Nat} : (s.regain n ms out_).Canon :=
  h.of_mask (State.regain_mask (by decide) _ _ _ _)
theorem markerLanes {n : Nat} {ms : List (Option MarkerIn)} : (s.markerLanes n ms).Canon :=
  .mapChanged (.regain (h.forEach fun _ _ h => h.loseLane))
theorem doCatchMarker {n : Nat} {ms : List (Option MarkerIn)} : (s.doCatchMarker n ms).Canon := by
  unfold State.doCatchMarker
  with_reducible
    extract_lets s1 _ s2 s3 _ s4
    have h1 : s1.Canon := h.markerLanes
    have h2 : s2.Canon := h1.protoErr.updLink
    have h3 : s3.Canon := by
      unfold s3
      split
      · exact h1.set
      · exact h1
    have h4 : s4.Canon := by
      unfold s4
      split
      · exact .ite h3.updLink.peerMap h3.updLink.set
      · exact h3
    exact .ite h (.ite (.ite h2.linkDown h2) (.ite h4.updLink.set.set.updLink h4.updLink))
theorem slipTick : s.slipTick.Canon :=
  h.forEach fun _ _ h => .ite (.countBy (.ite h.streamTick.updLink.countBy h.streamTick.updLink)) (.ite
    h.streamTick.updLink.countBy h.streamTick.updLink)
theorem doLaneRxLost {x : Xcvr} {cause : DownCause} : (s.doLaneRxLost x cause).Canon := by
  unfold State.doLaneRxLost
  with_reducible
    extract_lets s1
    have h1 : s1.Canon := h.doRxLost
    split
    · exact .ite h1.loseLane.mapChanged h1
    · exact h1
theorem doReplayTimeout {n : Nat} : (s.doReplayTimeout n).Canon := .ite h.replayFrom.linkGo h
theorem doSlipAck {n seq : Nat} {map : Byte} : (s.doSlipAck n seq map).Canon := .ite h.ackReceived.linkGo h
theorem doSlipCap {n version beats maxpl maxReads id station : Nat} : (s.doSlipCap n version beats maxpl maxReads id
  station).Canon := by
  unfold State.doSlipCap
  with_reducible
    refine .ite h ?_
    extract_lets s1 s2
    have h1 : s1.Canon := h.set.set.set
    have h2 : s2.Canon := h1.set.set.set
    exact .ite h2.linkDown (.ite (.ite h2.updLink h2.updLink.capTell) h2)
theorem doSlipCapSend {n : Nat} : (s.doSlipCapSend n).Canon := h.of_mask (State.doSlipCapSend_mask (by decide) _ _)
theorem sequenced {n seq : Nat} {act : State → State} (hf : ∀ t : State, t.Canon → (act t).Canon) : (s.sequenced n seq
  act).Canon := by
  unfold State.sequenced
  with_reducible
    exact .ite (.ite (hf _ h).performed.linkGo (.ite h.sendNak h.sendAck)) h
theorem doSlipCompl {n seq : Nat} {tag : Word} {status : Byte} {data : List Byte} : (s.doSlipCompl n seq tag status data).Canon :=
  h.sequenced fun _ h => h.readDone
theorem doSlipCredit {n seq crew : Nat} {tailValid : Bool} {count tail : Nat} : (s.doSlipCredit n seq crew tailValid count
  tail).Canon :=
  h.sequenced fun _ h => .ite h.addCredits.setTail h.addCredits
theorem doSlipDamaged {n : Nat} {why : SlipDamage} : (s.doSlipDamaged n why).Canon := by
  unfold State.doSlipDamaged
  with_reducible
    refine .ite h ?_
    extract_lets s1
    have h1 : s1.Canon := by
      unfold s1
      split
      · exact h.count.healthFault
      · exact h.protoErr
      · exact h
    exact .ite h1.sendNak h1
theorem doSlipLaneLost {n p : Nat} : (s.doSlipLaneLost n p).Canon := .ite h h.loseLane.mapChanged
theorem doSlipNak {n seq : Nat} {map : Byte} : (s.doSlipNak n seq map).Canon := by
  unfold State.doSlipNak
  with_reducible
    refine .ite ?_ h
    extract_lets _ _
    split
    · exact h.ackReceived.linkGo
    · exact .ite h.ackReceived.linkGo h.ackReceived.healthFault.replayFrom.linkGo

/-! Trigger primitives (chapter 10). -/

theorem tprimCatch {s0 : State} {applied : Bool} : (State.tprimCatch s0 s applied).Canon :=
  .ite (.countBy (.raise (.ite h.upd h))) (.ite (.countBy (.raise (.ite h.upd h))) (.ite h.upd h))
theorem tprimRefused {cause : Nat} : (s.tprimRefused cause).Canon := h.set.raise.fault
theorem trigSend {k : Fin 8} {comma : Byte} {bytes : List Byte} : (s.trigSend k comma bytes).Canon :=
  h.of_mask (State.trigSend_mask (by decide) _ _ _ _)
theorem tpLeave {t : Nat} : (s.tpLeave t).Canon := by
  unfold State.tpLeave
  with_reducible
    extract_lets _
    split
    · exact .upd (.ite (.countW (h.forEach fun _ _ h => h.trigSend)) (h.forEach fun _ _ h => h.trigSend))
    · split
      · exact h
      · exact .ite (.countW (h.forEach fun _ _ h => h.trigSend)) (h.forEach fun _ _ h => h.trigSend)
theorem tpRecord {n : Nat} : (s.tpRecord n).Canon :=
  .ite (.count (.ite h.upd h.upd.countBy.raise)) (.ite h.upd h.upd.countBy.raise)
theorem tprimTick {t : Nat} : (s.tprimTick t).Canon := .tpLeave (.ite h.tpRecord h)

/-! What a register word shows. -/

theorem liveWord {a : Nat} : (s.liveWord a).2.Canon := h.of_mask (State.liveWord_mask (by decide) _ _)

/-! The register arbiter (chapter 02). -/

theorem paceAnswer {seq : Byte} {bytes : List Byte} : (s.paceAnswer seq bytes).Canon :=
  h.of_mask (State.paceAnswer_mask (by decide) _ _ _)
theorem ringAnswer {f : RingFrame} {status : Nat} {d : Word} : (s.ringAnswer f status d).Canon :=
  h.of_mask (State.ringAnswer_mask (by decide) _ _ _ _)
theorem answer {r : ArbReq} {status : Nat} {d : Word} : (s.answer r status d).Canon := by
  unfold State.answer
  with_reducible
    split
    · exact h.emit
    · exact .ite h.paceAnswer h.paceAnswer
    · exact .ite h.countW h.countW.ringAnswer
theorem holdGroup {p : Port} {first : Nat} {g : List Nat} : (s.holdGroup p first g).Canon :=
  h.of_mask (State.holdGroup_mask (by decide) _ _ _ _)
theorem performRead {p : Port} {a : Nat} : (s.performRead p a).2.Canon := by
  unfold State.performRead
  with_reducible
    refine .ite_snd h (.ite_snd h ?_)
    split
    · extract_lets s1
      have h1 : s1.Canon := .ite h.holdGroup h
      exact .ite h1.clearFresh h1
    · exact h.liveWord
theorem writeEvtClear {pg : Nat} {d : Word} : (s.writeEvtClear pg d).2.Canon := .ite_snd h.wr h.count
theorem bitsCleared {a : Nat} : (s.bitsCleared a).Canon := by
  unfold State.bitsCleared
  with_reducible
    refine .ite ?_ h
    split
    · exact h.set.set
    · exact h
theorem selErr {pg : Nat} : (s.selErr pg).Canon :=
  .ite h.raise (.ite h.raise (.ite h.raise (.ite h.raise (.ite h.raise h.raise.fault))))
theorem lockedWrite : s.lockedWrite.Canon := h.count.raise
theorem setUnlock {p : Port} {b : Bool} : (s.setUnlock p b).Canon := h.of_mask (State.setUnlock_mask (by decide) _ _ _)
theorem stage {pg key : Nat} {mask d : Word} : (s.stage pg key mask d).2.Canon := .ite_snd h.upd.raise h.upd
theorem stageBuffered {p : Port} {pg key : Nat} {mask d : Word} {keyed : Bool} : (s.stageBuffered p pg key mask d keyed).2.Canon
  :=
  .ite_snd h.lockedWrite (.stage (.ite h.setUnlock h))
theorem writeFields {p : Port} {a : Nat} {d : Word} : (s.writeFields p a d).2.Canon := by
  unfold State.writeFields
  with_reducible
    extract_lets _ _ _ _ s1 s2 s3 s4
    have h1 : s1.Canon := .ite h h.wr
    have h2 : s2.Canon := .ite h1 h1.wr
    have h3 : s3.Canon := .ite h2.capRearm h2
    have h4 : s4.Canon := .ite h3 h3.bitsCleared
    refine .ite_snd h4 ?_
    split
    · exact h4.selErr
    · exact h4.stageBuffered
theorem writePageCtl {p : Port} {pg : Nat} {d : Word} : (s.writePageCtl p pg d).2.Canon := by
  unfold State.writePageCtl
  with_reducible
    extract_lets _ go
    have hgo {t : State} (h : t.Canon) : (go t).2.Canon :=
      .stage (.ite (.pauseChanged (.setb (.ite h.set h))) (.setb (.ite h.set h)))
    exact .ite_snd (.ite_snd (hgo h.setUnlock) h.lockedWrite) (hgo h)
theorem writeCoef {d : Word} : (s.writeCoef d).2.Canon := h.coefWrite
theorem writeHkGo {d : Word} : (s.writeHkGo d).Canon := by
  unfold State.writeHkGo
  with_reducible
    extract_lets s1 s2
    have h1 : s1.Canon := .ite h.doRegGo h
    have h2 : s2.Canon := .ite h1.doInjGo h1
    exact .ite h2.doSelftestGo h2
theorem writeShadow {d : Word} : (s.writeShadow d).2.Canon := h.doShadowWrite
theorem writeUnlock {p : Port} {d : Word} : (s.writeUnlock p d).Canon := .ite h.setUnlock h.setUnlock.count.raise
theorem writeSpecial {p : Port} {a : Nat} {d : Word} : Answers (fun r => r.2.Canon) (s.writeSpecial p a d) := by
  unfold State.writeSpecial
  refine .ite (.some (.ite h.upd h)) (.ite (.some h.writeUnlock) (.ite (.some h.calNow) (.ite (.some h.cmpArm) ?_)))
  refine .ite (.some h.writeCoef) (.ite (.some h.doLensFlush) (.ite (.some h.doCreditAdd) (.ite (.some h.writeShadow) ?_)))
  refine .ite (.some h.doShadowForget) (.ite (.some h.writeHkGo) (.ite ?_ .none))
  split
  · exact .some h.esGo
  · exact .none
theorem performWrite {p : Port} {a : Nat} {d : Word} : (s.performWrite p a d).2.Canon := by
  unfold State.performWrite
  with_reducible
    refine .ite_snd h (.ite_snd h.writePageCtl (.ite_snd h.writeEvtClear ?_))
    split
    · next r hr => exact h.writeSpecial r hr
    · exact h.writeFields
theorem serve {r : ArbReq} : (s.serve r).Canon := by
  unfold State.serve
  with_reducible
    split
    · exact h.sendControl
    · extract_lets s1
      have h1 : s1.Canon := h.upd
      split
      · exact h1.performRead.answer
      · exact .answer (.performWrite (.ite h1.writeUnlock h1))
theorem setWaiting {p : Port} {l : List ArbReq} : (s.setWaiting p l).Canon := h.of_mask (State.setWaiting_mask (by decide) _ _ _)
theorem access {r : ArbReq} : (s.access r).Canon := .ite h (.ite h.serve (.ite h.count h.setWaiting))
theorem hostWrite {p : Port} {a : Nat} {d : Word} : (s.hostWrite p a d).Canon := .ite h.access h
theorem hostSet {p : Port} {a : Nat} {d : Word} : (s.hostSet p a d).Canon := h.hostWrite
theorem doPageReset {p : Port} {pg : Nat} : (s.doPageReset p pg).Canon := h.hostSet
theorem hostRead {p : Port} {a : Nat} : (s.hostRead p a).Canon := .ite h.access h
theorem paceRequest {seq : Byte} {a : RegAddr} {d : Option Word} : (s.paceRequest seq a d).Canon := .ite h.access h

/-! The Regatta ring (chapter 19). -/

theorem becomeNumbered : s.becomeNumbered.Canon := .ite h h.set.raise
theorem bypassChange {open_ : Bool} : (s.bypassChange open_).Canon := by
  unfold State.bypassChange
  with_reducible exact h.setb.count.raise.upd
theorem ringCatch {written : Bool} : (s.ringCatch written).Canon := by
  unfold State.ringCatch
  with_reducible
    dsimp only
    refine .ite h.upd.becomeNumbered ?_
    split
    · exact h.upd
    · exact .ite h.upd h.upd.set.becomeNumbered
theorem doBypassClose : s.doBypassClose.Canon := .ite h.bypassChange h
theorem doBypassOpen : s.doBypassOpen.Canon := .ite h.bypassChange h
theorem ringClock : s.ringClock.Canon := h.of_mask (State.ringClock_mask (by decide) _)
theorem ringCrc {f : RingFrame} : (s.ringCrc f).Canon := .ite h h.count.raise
theorem ringForward {f : RingFrame} : (s.ringForward f).Canon := h.of_mask (State.ringForward_mask (by decide) _ _)
theorem ringProto : s.ringProto.Canon := h.count
theorem doHelloForward {f : RingFrame} : (s.doHelloForward f).Canon := .ite (.ite h.ringCrc.ringProto h.ringCrc.ringForward) h
theorem doHelloSend : s.doHelloSend.Canon := h.of_mask (State.doHelloSend_mask (by decide) _)
theorem ringRequest {f : RingFrame} {r : ArbReq} {cast : Bool} : (s.ringRequest f r cast).Canon :=
  .ite (.ite h.ringCrc.access h.ringCrc) (.ite h.ringCrc.ringForward.access h.ringCrc.ringForward)
theorem doKeyedWrite {f : RingFrame} : (s.doKeyedWrite f).Canon := .ite h.ringRequest h
theorem doRingBadOp {f : RingFrame} : (s.doRingBadOp f).Canon := .ite h.ringCrc.ringProto.ringForward h
theorem doRingPass {f : RingFrame} : (s.doRingPass f).Canon := .ite h.ringCrc.ringForward h
theorem ringComplete {c : RingChar} : (s.ringComplete c).Canon := by
  unfold State.ringComplete
  with_reducible
    split
    · exact h.doRingPass
    · exact h
theorem ringFrameEnd {c : RingChar} : (s.ringFrameEnd c).Canon := h.of_mask (State.ringFrameEnd_mask (by decide) _ _)
theorem ringAborted : s.ringAborted.Canon := h.count.raise
theorem ringHeard {c : RingChar} : (s.ringHeard c).Canon := by
  unfold State.ringHeard
  with_reducible
    split
    · exact .ite h.upd.ringAborted h.upd
    · exact .ite h.ringProto h
    · exact h
theorem ringPlace {c : RingChar} : (s.ringPlace c).Canon := h.of_mask (State.ringPlace_mask (by decide) _ _)
theorem ringOverflow {c : RingChar} : (s.ringOverflow c).Canon := .ite h.upd.count.raise.fault h
theorem ringPush {c : RingChar} : (s.ringPush c).Canon := .ite h (.ite h.ringOverflow h.upd.set)
theorem ringValid {c : RingChar} : (s.ringValid c).Canon := h.of_mask (State.ringValid_mask (by decide) _ _)
theorem ringRx {c : RingChar} : (s.ringRx c).Canon := h.ringValid.ringPlace.ringHeard.ringPush.ringComplete.ringFrameEnd
theorem ringDelete : s.ringDelete.Canon := by
  unfold State.ringDelete
  with_reducible
    split
    · exact .ite h.upd.countW h
    · exact h
theorem ringIdle : s.ringIdle.Canon := h.of_mask (State.ringIdle_mask (by decide) _)
theorem ringPop {c : RingChar} {rest : List RingChar} : (s.ringPop c rest).Canon :=
  h.of_mask (State.ringPop_mask (by decide) _ _ _)
theorem ringGap : s.ringGap.Canon := by
  unfold State.ringGap
  with_reducible
    split
    · exact h.ringIdle.countW
    · exact .ite h.ringPop h.ringIdle
    · exact h.ringPop
theorem ringTx : s.ringTx.Canon := by
  unfold State.ringTx
  with_reducible
    refine .ite h ?_
    refine .ite h.upd ?_
    refine .ite ?_ (.ite h.upd h.ringDelete.ringGap)
    split
    · exact h.upd.ringAborted.emit
    · exact h.ringPop
theorem ringSlots {l : List RingSlot} : (s.ringSlots l).Canon := by
  unfold State.ringSlots
  refine h.foldl id fun _ e h => ?_
  split
  · exact h.ringRx
  · exact h.ringTx
theorem doRingFramePass {l : List RingSlot} {f : Option RingFrame} : (s.doRingFramePass l f).Canon := by
  unfold State.doRingFramePass
  with_reducible
    extract_lets s1
    have h1 : s1.Canon := .ite h.ringSlots h
    split
    · exact h1.doRingPass
    · exact h1
theorem doRingFraming {inFrame : Bool} : (s.doRingFraming inFrame).Canon := by
  unfold State.doRingFraming
  with_reducible
    refine .ite ?_ h
    extract_lets s1 s2 s3 _ s4 _
    have h1 : s1.Canon := h.count
    have h2 : s2.Canon := .ringPush (.ite h1.ringProto h1)
    have h3 : s3.Canon := h2.ringValid
    have h4 : s4.Canon := h3.upd
    exact .ite h4 h4.raise.upd
theorem doRingRead {f : RingFrame} : (s.doRingRead f).Canon := .ite h.ringRequest h
theorem ringResetFrame {f : RingFrame} : (s.ringResetFrame f).2.Canon :=
  .ite_snd (.ite_snd (.ite_snd h.ringCrc (.ite_snd h.ringCrc.countW.ringAnswer h.ringCrc.ringAnswer)) h.ringCrc.ringForward) h
theorem doRingWrite {f : RingFrame} : (s.doRingWrite f).Canon := .ite h.ringRequest h
theorem walkKeep {f : RingFrame} : (s.walkKeep f).Canon := by
  unfold State.walkKeep
  with_reducible
    extract_lets _ s1 s2 s3 s4
    have h1 : s1.Canon := .ite h.set.set h.set
    have h2 : s2.Canon := h1.set.set
    have h3 : s3.Canon := h2.set.setb
    have h4 : s4.Canon := h3.raise.countW
    exact .ite h4.upd h4
theorem doRollCall {f : RingFrame} : (s.doRollCall f).Canon :=
  .ite (.ite (.ite h.ringCrc.ringForward.walkKeep h.ringCrc.ringForward) h.ringCrc.ringForward) h

/-! Catch action 3: staged sets, refusals and page resets. -/

theorem appliedEffect {pg : Nat} {es : List Staged} : (s.appliedEffect pg es).Canon := by
  unfold State.appliedEffect
  with_reducible
    split
    · exact h.tcuApplied
    · exact h.coxApplied
    · exact h.prismApplied
    · exact h.pcoefApplied
    · exact h.excRestart
    · exact h
theorem applyEntry {e : Staged} : (s.applyEntry e).Canon := .ite h.applyTrimTgt h.wr
theorem applyEntries {es : List Staged} : (s.applyEntries es).Canon := h.forEach fun _ _ h => h.applyEntry
theorem markApplied {pg : Nat} : (s.markApplied pg).Canon := h.set.raise
theorem resetEffect {pg : Nat} : (s.resetEffect pg).Canon := by
  unfold State.resetEffect
  with_reducible
    split
    · exact h.set.upd
    · exact h.upd
    · exact h.calPageReset
    · exact h.set.upd
    · exact h.prismReset
    · exact h.upd.set
    · exact h.set
    · exact h.crewPageReset.pauseChanged
    · exact h.slipPageReset.pauseChanged
    · exact h.set
    · exact h.set
    · exact h.forEach fun _ _ h => h.slipPageReset
    · exact h
theorem pageReset {fresh : Bool} {pg : Nat} : (s.pageReset fresh pg).Canon := by
  unfold State.pageReset
  extract_lets had late s1 s2
  have h1 : s1.Canon := h.resetWords
  have h2 : s2.Canon := .ite h1.raise h1
  exact h2.resetEffect.forEach fun _ _ h => h.raise
theorem coxRefused {cause : Nat} : (s.coxRefused cause).Canon := h.set.raise.fault
theorem clkRefused {s0 cand : State} {es : List Staged} : Answers State.Canon (State.clkRefused s0 cand s es) := by
  unfold State.clkRefused
  extract_lets _ _ s1
  have h1 : s1.Canon := .ite h.raise.count h
  exact .ite (.some (.ite h1.raise h1)) .none
theorem timeRefused {es : List Staged} : Answers State.Canon (State.timeRefused es s) := .ite (.some h.draw.raise.fault) .none
theorem refuse {s0 : State} {swapped : Bool} {pg : Nat} {es : List Staged} : Answers State.Canon (State.refuse s0 s swapped pg
  es) := by
  unfold State.refuse
  extract_lets
  split
  · exact .map fun _ => h.coxRefused
  · exact h.clkRefused
  · exact h.timeRefused
  · exact .ite (.some h.raise) .none
  · exact .map fun _ => h.prismRefused
  · exact .map fun _ => h.pcoefRefused
  · exact .map fun _ => h.rsmpRefused
  · exact .map fun _ => h.tprimRefused
  · exact .map fun _ => h.acqRefused
  · exact .ite (.some h.localRefused) .none
  · exact .ite (.some h.localRefused) .none
  · exact .map fun _ => h.fragRefused
  · exact .map fun _ => h.crewRefused
  · exact .ite (.some h.raise) .none
  · exact .map fun _ => h.satstatRefused
  · exact .map fun _ => h.hkRefused
  · exact .ite (.some h.hkseqRefused) .none
  · exact .map fun _ => h.hkcurveRefused
  · exact .none
theorem pageCatch {s0 : State} {swapped : Bool} {pg : Nat} : (State.pageCatch s0 s swapped pg).1.Canon := by
  unfold State.pageCatch
  with_reducible
    refine .ite_fst h.pageReset (.ite_fst h.upd.raise (.ite_fst h ?_))
    split
    · next t ht => exact (h.refuse t ht).upd
    · exact .markApplied (.appliedEffect (.ite h.upd.crewSetApply h.upd.applyEntries))
theorem pagesCatch {s0 : State} {swapped : Bool} : (State.pagesCatch s0 s swapped).1.Canon :=
  h.foldl Prod.fst fun _ _ h => h.pageCatch

/-! The catch (R17, R21, R26, R104, R426, R427) and the full resynchronisation (R18, R90). -/

theorem actionsCatch {s0 : State} {applied : List Staged} {resync : Bool} : (State.actionsCatch s0 s applied resync).Canon := by
  unfold State.actionsCatch
  with_reducible
    extract_lets _ s1 s2 s3 s4 s5 s6 s7 s8 s9 s10 s11
    have h1 : s1.Canon := h.forEach fun _ _ h => h.calCatch
    have h2 : s2.Canon := h1.tapCatch.fadesCatch
    have h3 : s3.Canon := h2.rsmpToggled.rsmpApplied
    have h4 : s4.Canon := h3.streamsCatch.servoCatch
    have h5 : s5.Canon := h4.satCatch
    have h6 : s6.Canon := .satServo (.ite h5.satResyncAll h5)
    have h7 : s7.Canon := h6.laneSwitch.slipCatch.laneCatch
    have h8 : s8.Canon := .ite h7 h7.sigCatch
    have h9 : s9.Canon := h8.neighCatch
    have h10 : s10.Canon := h9.tprimCatch
    have h11 : s11.Canon := h10.acqCatch.hkCatch
    exact h11.wakePrune.coxCatchEnd.fire
theorem moorNow : s.moorNow.Canon := h.set.clkMoor.slipMoor.laneMoor.forEach fun _ _ h => h.calMoor
theorem moorCatch : s.moorCatch.Canon := .ite (.ite h.refuseCommand h.moorNow) h
theorem startRun : s.startRun.Canon := h.set.upd
theorem runCatch : s.runCatch.Canon := by
  unfold State.runCatch
  with_reducible
    split
    · exact h
    · exact .ite h.refuseCommand h.startRun
    · exact h.set
theorem wakeUp : s.wakeUp.Canon := by
  unfold State.wakeUp
  with_reducible exact .upd (h.set.clkWake.laneWake.forEach fun _ _ h => h.calWake)
theorem wakeCatch : s.wakeCatch.Canon := .ite h.wakeUp h
theorem commandsCatch : s.commandsCatch.Canon := .upd (.ite h.wakeCatch.runCatch h.wakeCatch.runCatch.moorCatch)
theorem settingsCatch {s0 : State} {swapped : Bool} {phase : Int} : (State.settingsCatch s0 s swapped phase).1.Canon := by
  unfold State.settingsCatch
  with_reducible
    extract_lets _ _ s1 s2 s3 s4 s5
    have h2 : s2.Canon := .ite h.pagesCatch h.pagesCatch.clkApplied
    have h4 : s4.Canon := h2.clkRelock.ringCatch
    have h5 : s5.Canon := .ite h4 h4.upd
    exact h5.alignHold.paceEnables.paceRevert
theorem snapshotCatch : s.snapshotCatch.Canon := .ite h.upd.set h
theorem strokeStart {s0 : State} : (State.strokeStart s0 s).Canon := h.of_mask (State.strokeStart_mask (by decide) _ _)
theorem catchNow {s0 : State} {phase : Int} {resync : Bool} : (State.catchNow s0 s phase resync).Canon := by
  unfold State.catchNow
  with_reducible
    extract_lets s1 s2 _ s3 _ s4 s5 s6
    have h1 : s1.Canon := h.strokeStart.snapshotCatch
    have h2 : s2.Canon := h1.coxDecides
    have h3 : s3.Canon := h2.coxHost.fadesEnd.releasesEnd.clkCatchStart
    have h4 : s4.Canon := h3.settingsCatch.timeCatch.commandsCatch
    have h5 : s5.Canon := h4.actionsCatch
    have h6 : s6.Canon := h5.neighSend
    exact h6.upd
theorem doCatch {phase : BitVec 16} : (s.doCatch phase).Canon := .ite h.catchNow h
theorem setCn {c : BitVec 64} : (s.setCn c).Canon := by
  unfold State.setCn
  with_reducible
    extract_lets _ _ _ s2 _ s3
    have h2 : s2.Canon := h.seti.raise.set.upd
    have h3 : s3.Canon := by
      unfold s3
      split
      · exact h2
      · exact h2.set.upd
    exact .cmpLate (.neighResync (.ite h3.endHold h3))
theorem doFullResync : s.doFullResync.Canon := by
  unfold State.doFullResync
  with_reducible
    split
    · exact .ite (.ite h.draw.setCn.catchNow h.draw.setCn.catchNow.reachResync) h
    · exact h

/-! The passing of a crossing (R17, R20, R83, R105). -/

theorem beginCrossing : s.beginCrossing.Canon := by
  unfold State.beginCrossing
  with_reducible exact .upd (.slipGo (.ite h.hitsPrune h.hitsPrune.neighSend))
theorem burstsTick : s.burstsTick.Canon := h.forEach fun _ _ h => h.doBurst
theorem deliver {x : Xcvr} {ys : List LineSym} : (s.deliver x ys).Canon := by
  unfold State.deliver
  with_reducible
    split
    · exact h.satStream
    · exact h
theorem receiversTick {ts : List LaneTraffic} : (s.receiversTick ts).Canon :=
  .upd (.forEach (h.forEach fun _ _ h => h.sigTurn) fun _ _ h => h.receive.deliver)
theorem returnTick : s.returnTick.Canon := h.of_mask (State.returnTick_mask (by decide) _)
theorem linesTick {ts : List LaneTraffic} : (s.linesTick ts).Canon := h.burstsTick.returnTick.testsTick.receiversTick
theorem statTick : s.statTick.Canon := h.of_mask (State.statTick_mask (by decide) _)
theorem endCrossing {i : TickIn} : (s.endCrossing i).Canon := by
  unfold State.endCrossing
  with_reducible
    extract_lets s1 s2 s3
    have h1 : s1.Canon := h.startDue.statTick.bankTick
    have h2 : s2.Canon := .late (.late (h1.late fun _ _ h => h.prismTick) fun _ _ h => h.rsmpTick) fun _ _ h => h.selfTick
    have h3 : s3.Canon := h2.linesTick.tprimTick
    exact h3.lensTick.satTick.slipTick.crewTick.hkWatch.coxTick.clkTick.blindTick.ringClock
theorem strokeOver {s0 : State} : (State.strokeOver s0 s).Canon := h.of_mask (State.strokeOver_mask (by decide) _ _)
theorem sweepTick : s.sweepTick.Canon := h.of_mask (State.sweepTick_mask (by decide) _)
theorem doCrossingTick {i : TickIn} : (s.doCrossingTick i).Canon :=
  .ite h.endCrossing.timeTick.strokeOver.beginCrossing.sweepTick h
theorem returnFrame : s.returnFrame.Canon := h.of_mask (State.returnFrame_mask (by decide) _)

/-! The flags of every core clock, and the frame of every command. -/

theorem begin_ : s.begin_.Canon := h.of_mask (State.begin__mask (by decide) _)
theorem hkStarts : s.hkStarts.Canon := h.forEach fun _ _ h => .ite h.hkSource (.ite h.hkSource h)
theorem noteFirings : s.noteFirings.Canon := h.of_mask (State.noteFirings_mask (by decide) _)
theorem healthFlags : s.healthFlags.Canon := .set (.ite h.raise h)
theorem rise {was now : Bool} {e : Ev} : (s.rise was now e).Canon := .ite h.raise h
theorem settledFlag : s.settledFlag.Canon := h.rise.setb
theorem strandedFlag : s.strandedFlag.Canon := .ite h.upd.raise h.upd
theorem throttleFlags : s.throttleFlags.Canon := by
  unfold State.throttleFlags
  with_reducible
    extract_lets _ _ _ _ _ s1 s2 s3 s4 _ _ s5 _ s6
    have h1 : s1.Canon := h.rise
    have h2 : s2.Canon := h1.rise
    have h3 : s3.Canon := h2.rise
    have h4 : s4.Canon := h3.rise
    have h5 : s5.Canon := .ite h4.count.set.upd h4
    have h6 : s6.Canon := .ite h5 h5.upd
    exact h6.set.setb
theorem watch : s.watch.Canon := h.strandedFlag.throttleFlags.healthFlags.settledFlag
theorem finish : s.finish.Canon := .ite h.noteFirings.hkStarts.watch h
theorem serveHead {p : Port} : (s.serveHead p).Canon := by
  unfold State.serveHead
  with_reducible
    split
    · exact h
    · exact h.upd.setWaiting.serve.finish
theorem drainArb.go {left : Nat} : (State.drainArb.go left s).Canon := by
  induction left generalizing s with
  | zero => exact h
  | succ n ih =>
    unfold State.drainArb.go
    split
    · exact h
    · exact ih h.serveHead
theorem drainArb : s.drainArb.Canon := drainArb.go h
theorem sendFrame : s.sendFrame.Canon := .ite h.watch.returnFrame h

/-! Power-up and the resets (R417 to R424, R455), the scrubber's double-bit errors (R412) and the test access port (R448). -/

theorem beginSweep : s.beginSweep.Canon := h.upd.set.refreshReadyXo
theorem heldUpset {i w : Nat} : (s.heldUpset i w).Canon := h.of_mask (State.heldUpset_mask (by decide) _ _ _)
theorem stagingVoid {i : Nat} : (s.stagingVoid i).Canon := by
  unfold State.stagingVoid
  with_reducible
    extract_lets s1
    have h1 : s1.Canon := by
      unfold s1
      split
      · exact h
      · exact .ite h.count.raise h
    exact h1.upd
theorem dbeOwner {mem w : Nat} : (s.dbeOwner mem w).Canon := by
  unfold State.dbeOwner
  with_reducible
    refine .ite h.upd ?_
    refine .ite h.heldUpset ?_
    refine .ite h.upd ?_
    refine .ite h.shadowEcc ?_
    refine .ite h.markGap ?_
    refine .ite h.lensEcc ?_
    refine .ite (.ite h h.linkDown) ?_
    refine .ite ?_ ?_
    · exact .ite h.draw.descFail h
    · exact .ite h.selfCheck (.ite h.selfCheck (.ite (.ite (.ite h h.upd) (.ite h.upd (.ite h.stagingVoid h))) h))
theorem doPorRelease : s.doPorRelease.Canon := h.of_mask (State.doPorRelease_mask (by decide) _)
theorem withCause {n : Nat} : (s.withCause n).Canon := h.wr
omit h in
theorem doPowerOnReset : s.doPowerOnReset.Canon := by
  unfold State.doPowerOnReset
  have h1 : ((s.keepOver State.reset).withCause 1).Canon := reset.keepOver.withCause
  exact h1.upd
theorem tapRelease : s.tapRelease.Canon := h.of_mask (State.tapRelease_mask (by decide) _)
theorem keepUnfit {s0 : State} : (State.keepUnfit s0 s).Canon := by
  unfold State.keepUnfit
  with_reducible
    extract_lets _ _ s1
    have h1 : s1.Canon := .ite (.set (.ite h.set h)) (.ite h.set h)
    exact .ite h1.set.setPstate.setPstate.upd (.ite h1.setPstate.upd h1)
omit h in
theorem warmReset {cause : Nat} : (s.warmReset cause).Canon := by
  unfold State.warmReset
  with_reducible
    extract_lets t1 _ _ t2
    have ht : ((s.keepOver State.reset).withCause cause).Canon := reset.keepOver.withCause
    have h1 : t1.Canon := ht.keepUnfit
    have h2 : t2.Canon := h1.upd
    exact .ite h2.beginSweep h2
theorem doResetN {lowNs : Nat} {p : ResetPulse} : (s.doResetN lowNs p).Canon := .ite h.tapRelease warmReset
theorem doRingReset {f : RingFrame} : (s.doRingReset f).Canon := .ite warmReset h.ringResetFrame
theorem doScrubDbe {x : ScrubHit} : (s.doScrubDbe x).Canon := .ite h.count.set.set.raise.healthFault.dbeOwner h
theorem railMoves {rail : Nat} {m : RailMove} : (s.railMoves rail m).Canon := h.of_mask (State.railMoves_mask (by decide) _ _ _)
theorem supplyCloses : s.supplyCloses.Canon := .ite h.bypassChange h.upd
theorem doSupply {rail : Nat} {m : RailMove} : (s.doSupply rail m).Canon :=
  .ite h.railMoves.supplyCloses.set.raise.healthFault h.railMoves
theorem doSweepDone : s.doSweepDone.Canon := .ite h.upd.set h
theorem doTap {t : TapLoad} : (s.doTap t).Canon := h.of_mask (State.doTap_mask (by decide) _ _)
theorem doXoStable : s.doXoStable.Canon := .ite h.beginSweep (.ite h.upd.refreshReadyXo h)

/-! The event matrix's task inputs (R59, R60, R453). -/

theorem taskDo {n now : Nat} : (s.taskDo n now).Canon := .ite h.upd (.ite h.lensFlush (.ite h.hkSource h))
theorem doTaskFire : s.doTaskFire.Canon := by
  unfold State.doTaskFire
  with_reducible
    split
    · exact h
    · extract_lets _
      refine h.upd.forEach fun _ _ h => ?_
      split
      · exact h
      · exact .taskDo (.ite h h.countBy)

/-! The commands and the step. -/

theorem perform {body : State → State} (hb : ∀ t, t.Canon → (body t).Canon) : CanonNext (perform body s) :=
  fun _ e => Host.Outcome.next.inj e ▸ (hb _ h.begin_).finish.upd
theorem performArb {body : State → State} (hb : ∀ t, t.Canon → (body t).Canon) : CanonNext (performArb body s) :=
  fun _ e => Host.Outcome.next.inj e ▸ (hb _ h.begin_).finish.drainArb.upd
/-- Every command of the table keeps the form. -/
theorem exec {c : Instr} : CanonNext (exec c s) := by
  unfold Sys2Proof.Machine.exec
  cases c with
  | catch_ => exact h.performArb fun _ h => h.doCatch.sendFrame
  | regWrite | keyUnlock | evtClear | counterClear | snapshotRequest | calNow | coefWrite | creditAdd | lensFlush | esGo |
      shadowDataWrite | shadowForget | cmpArm | hkRegGo | hkInjGo | hkSelftestGo =>
    exact h.perform fun _ h => h.hostWrite
  | pageResetRequest => exact h.perform fun _ h => h.doPageReset
  | coherentGroupRead | hkResultRead => exact h.perform fun _ h => h.hostRead
  | capRearm => exact h.perform fun _ h => h.hostSet
  | accept => exact h.perform fun _ h => h.doAccept
  | resync => exact h.perform fun _ h => h.fastCommand fun _ h => h.startResync
  | snapshot | orbitReset | runStart | runStop | moor | wake => exact h.perform fun _ h => h.fastCommand fun _ h => h.upd
  | calPulse => exact h.perform fun _ h => h.fastCommand fun _ h => h
  | paceRegRead | paceRegWrite => exact h.perform fun _ h => h.frameFrom fun _ h => h.paceRequest
  | syncMessage => exact h.perform fun _ h => h.frameFrom fun _ h => h.doSync
  | delayResp => exact h.perform fun _ h => h.doDelayResp
  | cnAnnounce => exact h.perform fun _ h => h.frameFrom fun _ h => h.doAnnounce
  | linkInfo => exact h.perform fun _ h => h.doLinkInfo
  | delayReqSend => exact h.perform fun _ h => h.doDelayReq
  | exchangeTimeout => exact h.perform fun _ h => h.doExchangeTimeout
  | fullResync => exact h.performArb fun _ h => h.doFullResync.sendFrame
  | orbitStartComma => exact h.perform fun _ h => h.doOrbitStart
  | cmpFire => exact h.perform fun _ h => h.doCmpFire
  | evmTaskFire => exact h.perform fun _ h => h.doTaskFire
  | xoStable => exact h.perform fun _ h => h.doXoStable
  | freqGate => exact h.perform fun _ h => h.doFreqGate
  | sourceLost => exact h.perform fun _ h => h.doSourceLost
  | xoFault => exact h.perform fun _ h => h.doXoFault
  | rampDone => exact h.perform fun _ h => h.doRampDone
  | relocked => exact h.perform fun _ h => h.doRelocked
  | paceSignalPresent => exact h.perform fun _ h => h.doPaceSignal
  | paceAligned => exact h.perform fun _ h => h.doPaceAligned
  | paceLinkUp => exact h.perform fun _ h => h.doPaceUp
  | paceLinkDown => exact h.perform fun _ h => h.doPaceDown
    | laneSignalDetect =>
    refine h.perform fun _ h => ?_
    split
    · exact h.doSignalDetect.satSignalSeen
    · exact h.doSignalDetect
  | laneRxAligned => exact h.perform fun _ h => h.doRxAligned
  | laneRxLost => exact h.perform fun _ h => h.doLaneRxLost
    | codeError =>
    refine h.perform fun _ h => ?_
    split
    · exact h.laneCodeError.doItemError
    · exact h.laneCodeError
  | featherEnter => exact h.perform fun _ h => h.doFeather
  | squareUpBurst => exact h.perform fun _ h => h.doBurst
  | txPhaseErr => exact h.perform fun _ h => h.doTxPhase
  | loopMismatch => exact h.perform fun _ h => h.doLoopMismatch
  | chkLock => exact h.perform fun _ h => h.doChkLock
  | chkLost => exact h.perform fun _ h => h.doChkLost
  | esDone => exact h.perform fun _ h => h.doEsDone
  | catchMarker => exact h.perform fun _ h => h.doCatchMarker
  | slipCompl => exact h.perform fun _ h => h.doSlipCompl
  | slipCredit => exact h.perform fun _ h => h.doSlipCredit
  | slipCap => exact h.perform fun _ h => h.doSlipCap
  | slipAck => exact h.perform fun _ h => h.doSlipAck
  | slipNak => exact h.perform fun _ h => h.doSlipNak
  | slipPacketDamaged => exact h.perform fun _ h => h.doSlipDamaged
  | ackTimer => exact h.perform fun _ h => h.doAckTimer
  | replayTimeout => exact h.perform fun _ h => h.doReplayTimeout
  | readTimeout => exact h.perform fun _ h => h.doReadTimeout
  | slipLaneLost => exact h.perform fun _ h => h.doSlipLaneLost
  | capsTimeout => exact h.perform fun _ h => h.doCapsTimeout
  | slipCapSend => exact h.perform fun _ h => h.doSlipCapSend
  | stationSelect => exact h.perform fun _ h => h.doStationSelect
  | descFetch => exact h.perform fun _ h => h.doDescFetch
  | descComplete => exact h.perform fun _ h => h.doDescComplete
  | quiesceEnd => exact h.perform fun _ h => h.doQuiesceEnd
  | stationPaused => exact h.perform fun _ h => h.doStationPaused
  | startEdge => exact h.perform fun _ h => h.doStartEdge
  | selfTrigger => exact h.perform fun _ h => h.doSelfTrigger
  | autoTrigger => exact h.perform fun _ h => h.doAutoTrigger
  | neighWord => exact h.perform fun _ h => h.doNeighWord
  | neighTrained => exact h.perform fun _ h => h.doNeighTrained
  | neighTrainTimeout => exact h.perform fun _ h => h.doNeighTimeout
  | neighCatchWord => exact h.perform fun _ h => h.doNeighCatch
  | neighLinkDown => exact h.perform fun _ h => h.doNeighDown
  | puCalStepEnd => exact h.perform fun _ h => h.doPuStep
  | overlapCompare => exact h.perform fun _ h => h.doCompare
  | spareSelftestEnd => exact h.perform fun _ h => h.doSpareSelftest
  | stuckSlice => exact h.perform fun _ h => h.doStuck
  | pcoefEccFail => exact h.perform fun _ h => h.doCoefEcc
  | fragmentStart => exact h.perform fun _ h => h.doFragmentStart
  | fragmentReadEnd => exact h.perform fun _ h => h.doFragmentReadEnd
  | lensEngineStart => exact h.perform fun _ h => h.doEngineStart
  | lensBlockDone => exact h.perform fun _ h => h.doBlockDone
  | derandOffer => exact h.perform fun _ h => h.doDerandOffer
  | derandAdmit => exact h.perform fun _ h => h.doDerandAdmit
  | satHit => exact h.perform fun _ h => h.doSatHit
  | satAligned => exact h.perform fun _ h => h.doSatAligned
  | satCap => exact h.perform fun _ h => h.doSatCap
  | satCapReqRetry => exact h.perform fun _ h => h.doSatCapRetry
  | satK285Arrival => exact h.perform fun _ h => h.doSatK285
  | satResyncRetry => exact h.perform fun _ h => h.doSatResyncRetry
  | satLinkDown => exact h.perform fun _ h => h.doSatLinkDown
  | satReadResp => exact h.perform fun _ h => h.doSatReadResp
  | satRespTimeout => exact h.perform fun _ h => h.doSatRespTimeout
  | satConfigSend => exact h.perform fun _ h => h.doSatConfigSend
  | scrubBlockDue => exact h.perform fun _ h => h.doScrubDue
  | hkDelayEnd => exact h.perform fun _ h => h.doHkDelayEnd
  | hkEntryDone => exact h.perform fun _ h => h.doHkEntryDone
  | hkSelftestStart => exact h.perform fun _ h => h.doHkTestStart
  | hkSelftestDone => exact h.perform fun _ h => h.doHkTestDone
  | excSample => exact h.perform fun _ h => h.doExcSample
  | ptPeriod => exact h.perform fun _ h => h.doPtPeriod
  | ringRead => exact h.perform fun _ h => h.doRingRead
  | ringWrite => exact h.perform fun _ h => h.doRingWrite
  | keyedWrite => exact h.perform fun _ h => h.doKeyedWrite
  | rollCall => exact h.perform fun _ h => h.doRollCall
  | helloForward => exact h.perform fun _ h => h.doHelloForward
  | ringReset => exact h.perform fun _ h => h.doRingReset
  | ringBadOp => exact h.perform fun _ h => h.doRingBadOp
  | ringFramePass => exact h.perform fun _ h => h.doRingFramePass
  | ringFramingError => exact h.perform fun _ h => h.doRingFraming
  | helloSend => exact h.perform fun _ h => h.doHelloSend
  | bypassOpen => exact h.perform fun _ h => h.doBypassOpen
  | bypassClose => exact h.perform fun _ h => h.doBypassClose
  | digestMismatch => exact h.perform fun _ h => h.doMismatch
  | voteCorrect => exact h.perform fun _ h => h.doVote
  | tcuSelftestEnd => exact h.perform fun _ h => h.doSelftestEnd
  | memtestFail => exact h.perform fun _ h => h.doMemtestFail
  | scrubDbe => exact h.perform fun _ h => h.doScrubDbe
  | supplyExcursion => exact h.perform fun _ h => h.doSupply
  | tempTrip => exact h.perform fun _ h => h.doTemp
  | powerOnReset => exact h.perform fun _ _ => doPowerOnReset
  | porRelease => exact h.perform fun _ h => h.doPorRelease
  | resetN => exact h.perform fun _ h => h.doResetN
  | sweepDone => exact h.performArb fun _ h => h.doSweepDone
  | crossingTick => exact h.performArb fun _ h => h.doCrossingTick.sendFrame
  | controlFrameDiscard => exact h.perform fun _ h => h.doFrameDiscard
  | fastCommandDiscard => exact h.perform fun _ h => h.doCommandDiscard
  | laneSignalLost => exact h.perform fun _ h => h.doSignalLost
  | selfCheckError => exact h.perform fun _ h => .ite h.selfCheck h
  | scrubSbe => exact h.perform fun _ h => h.doScrubSbe
  | memtestPassDone => exact h.perform fun _ h => h.doMemtestPass
  | tapInstruction => exact h.perform fun _ h => h.doTap
/-- A step of a state in canonical form leads to a state in canonical form. -/
theorem step : CanonNext (step s) := by
  unfold Sys2Proof.Machine.step
  split
  · exact fun _ e => Host.Outcome.next.inj e ▸ h
  · exact (h.upd : State.Canon { s with pending := _ }).exec

end
end State.Canon

end Sys2Proof.Machine

open Sys2Proof.Machine

/-- Settles O6: the command at the front of the queue is performed through operations that each keep the form. -/
theorem registersStayCanonical : Obligations.RegistersStayCanonical := fun _ t h e => State.Canon.step h t e

end

section
/-! PROOF. A CROSSING_TICK moves CN and the times (O26).

The increment of Hub Time is read after the work of the crossing that ends (`State.endCrossing`), so the proof first shows that
this work leaves the body words of the TIME page alone. The layer below says so once for each operation that the crossing's end
is made of: a lemma bears its operation's name and takes the words' reading as its first explicit argument, so that a chain of
operations is proved by the same chain of lemmas. The header words of a page (offsets below 0x040) are left out of the reading,
so that events, fault codes and page states of any page keep it. -/

namespace Sys2Proof.Machine

/-- The body words of page `pg` (R37) read as `w` gives them. -/
def State.BodyReads (pg : Nat) (w : Nat → Word) (s : State) : Prop :=
  ∀ k, k / 4096 = pg → 0x040 ≤ k % 4096 → s.rd k = w k

/-- The block of a transceiver lies on the page of Pace A or on a later one. -/
theorem le_xcvrBase (x : Xcvr) : 0x0E000 ≤ xcvrBase x := by
  cases x <;> simp only [xcvrBase, PaceLane.page] <;> omega

/-- The words of a transceiver's block are no words of the TIME page. -/
theorem xcvrBlock_ne_timePage (x : Xcvr) (o : Nat) : (xcvrBase x + o) / 4096 ≠ 0x0C := by
  have := le_xcvrBase x
  omega

/-- The words of a Pace lane's page are no words of the TIME page. -/
theorem paceKey_ne_timePage (l : PaceLane) (o : Nat) : (l.page * 4096 + o) / 4096 ≠ 0x0C := by
  simp only [PaceLane.page]
  omega

/-- The digest of a control unit is no word of the TIME page. -/
theorem digestKey_ne_timePage (u : Unit2) : (R.TCUx_DIGEST u.page).key / 4096 ≠ 0x0C := by cases u <;> decide

/-- The words of a satellite port's page are no words of the TIME page. -/
theorem satKey_ne_timePage (p o : Nat) : ((0x78 + p) * 4096 + o) / 4096 ≠ 0x0C := by omega

namespace State.BodyReads
section
variable {pg : Nat} {w : Nat → Word} {s : State}

/-! The rules: choices, loops, and the ways in which an operation reaches the register words. -/

theorem ite {c : Prop} [Decidable c] {t : State} (hs : s.BodyReads pg w) (ht : t.BodyReads pg w) :
    (if c then s else t).BodyReads pg w := by
  split <;> assumption
theorem ite_snd {α : Type} {c : Prop} [Decidable c] {x y : α × State} (hx : x.2.BodyReads pg w) (hy : y.2.BodyReads pg w) :
    (if c then x else y).2.BodyReads pg w := by
  split <;> assumption

variable (h : s.BodyReads pg w)
include h

theorem forEach {α : Type} {l : List α} {f : State → α → State} (hf : ∀ t a, t.BodyReads pg w → (f t a).BodyReads pg w) :
    (forEach l s f).BodyReads pg w := by
  induction l generalizing s with
  | nil => exact h
  | cons a l ih => exact ih (hf s a h)
theorem late {k f} (hf : ∀ t k, t.BodyReads pg w → (f t k).BodyReads pg w) : (s.late k f).BodyReads pg w := .ite (hf _ _ h) h
/-- An update of other components keeps the words. -/
theorem upd {t : State} (e : t.regs = s.regs := by rfl) : t.BodyReads pg w := fun k hp ho => by
  unfold State.rd
  rw [e]
  exact h k hp ho
/-- An operation whose mask law says that it leaves `regs` alone keeps the words. -/
theorem of_mask {t : State} (e : t.mask allButRegs = s.mask allButRegs) : t.BodyReads pg w :=
  h.upd (same_of_mask e .regs (by decide))
/-- A write outside the body words of the page keeps them. -/
theorem wr {key : Nat} {v : Word} (hk : key / 4096 = pg → key % 4096 < 0x040) : (s.wr key v).BodyReads pg w := fun k hp ho => by
  rw [State.rd_wr_of_ne s key v k fun e => ?_]
  · exact h k hp ho
  · subst e
    exact absurd (hk hp) (Nat.not_lt.2 ho)
theorem set {f : Fld} {v : Nat} (hf : f.key / 4096 ≠ pg := by decide) : (s.set f v).BodyReads pg w := h.wr fun e => absurd e hf
theorem raise {e : Ev} : (s.raise e).BodyReads pg w :=
  have hw {v : Word} : (s.wr (e.page * 4096 + 0x010) v).BodyReads pg w := h.wr fun _ => by omega
  .ite hw hw.upd
theorem fault {p cls detail : Nat} : (s.fault p cls detail).BodyReads pg w := h.wr fun _ => by omega
theorem setPstate {p v : Nat} : (s.setPstate p v).BodyReads pg w := h.wr fun _ => by dsimp only; omega
theorem countBy {f : Fld} {n : Nat} (hf : f.key / 4096 ≠ pg := by decide) : (s.countBy f n).BodyReads pg w :=
  .ite (h.set hf) (.ite (h.set hf).raise (h.set hf))
theorem count {f : Fld} (hf : f.key / 4096 ≠ pg := by decide) : (s.count f).BodyReads pg w := h.countBy hf
theorem countW {f : Fld} {wrap : Ev} {n : Nat} (hf : f.key / 4096 ≠ pg := by decide) : (s.countW f wrap n).BodyReads pg w :=
  .ite (h.set hf) (h.set hf).raise

end

section
variable {w : Nat → Word} {s : State} (h : s.BodyReads 0x0C w)
include h

/-- A fault of a class that R414 names is counted on HEALTH. -/
theorem healthFaults {c k detail : Nat} (hc : c < 16 := by decide) : (s.healthFaults c k detail).BodyReads 0x0C w :=
  have hcnt : (s.countBy (R.HEALTH_FAULT_CNTc c) k).BodyReads 0x0C w := h.countBy (by dsimp only; omega)
  .ite hcnt hcnt.fault.raise
theorem healthFault {c detail : Nat} (hc : c < 16 := by decide) : (s.healthFault c detail).BodyReads 0x0C w := h.healthFaults hc

/-! The datapath (chapters 06, 08, 09) and the triggers (chapter 11). -/

theorem enqueue {src type : Nat} {acc anchor : Int} {startT : Option Int} {fine : Nat} :
    (s.enqueue src type acc anchor startT fine).BodyReads 0x0C w := by
  have hn {t : State} (ht : t.BodyReads 0x0C w) : t.takeNumber.2.BodyReads 0x0C w :=
    ht.of_mask (State.takeNumber_mask (by decide) _)
  exact .ite (.ite (hn h.count.raise).raise.fault h.count.raise) ((hn h).upd.set.countW)
theorem startEnter {n cr fine : Nat} : (s.startEnter n cr fine).BodyReads 0x0C w :=
  .ite_snd h (.ite_snd h.count (.ite_snd (.enqueue (.ite h.upd h)) h.upd.count))
theorem startDue : s.startDue.BodyReads 0x0C w :=
  .ite h (h.upd.forEach fun _ _ h => h.forEach fun _ _ h => h.startEnter)
theorem countOvr {n : Nat} : (s.countOvr n).BodyReads 0x0C w :=
  .ite h (h.forEach fun _ _ h => h.count (by dsimp only; omega))
theorem walkSlice {b sl : Nat} : (s.walkSlice b sl).BodyReads 0x0C w :=
  have hw := h.forEach fun _ _ h => h.upd
  .ite h (.ite hw.raise hw)
theorem bankTick {i : TickIn} {n : Nat} : (s.bankTick i n).BodyReads 0x0C w := by
  unfold State.bankTick
  with_reducible
    extract_lets _ s1 s2 s3 s4
    have h1 : s1.BodyReads 0x0C w := h.forEach fun _ _ h => h.of_mask (State.sampleBank_mask (by decide) _ _ _ _ _)
    have h2 : s2.BodyReads 0x0C w := h1.upd
    have h3 : s3.BodyReads 0x0C w := h2.countOvr
    have h4 : s4.BodyReads 0x0C w := h3.forEach fun _ _ h => h.of_mask (State.setCalTarget_mask (by decide) _ _)
    exact h4.forEach fun _ _ h => h.forEach fun _ _ h => h.walkSlice
theorem baseline {n q c : Nat} {v : BitVec 16} : (s.baseline n q c v).BodyReads 0x0C w := .ite h.upd.count h.upd
theorem prismTick {n : Nat} : (s.prismTick n).BodyReads 0x0C w := by
  unfold State.prismTick
  with_reducible
    extract_lets _ s1 s2
    have h2 : s2.BodyReads 0x0C w := (h.forEach fun _ _ h => h.baseline).upd
    refine .ite (h2.forEach fun t _ ht => ht.forEach fun t _ ht => ?_) h2
    have hsat {c : Prop} [Decidable c] : (if c then t.count R.PRISM_SAT_CNT else t).BodyReads 0x0C w := .ite ht.count ht
    dsimp only
    split
    · exact hsat
    · exact hsat.upd
theorem rsmpTick {n : Nat} : (s.rsmpTick n).BodyReads 0x0C w := by
  unfold State.rsmpTick
  with_reducible
    refine of_mask (h.forEach fun t _ ht => ht.forEach fun t _ ht => ?_) (State.wakeHeal_mask (by decide) _ _)
    generalize e : t.resample _ _ _ = o
    have ho : o.2.2.BodyReads 0x0C w := e ▸ ht.of_mask (State.resample_mask (by decide) _ _ _ _)
    obtain ⟨_ | y, void, u⟩ := o
    · exact .ite ho.count ho
    · exact .ite (.ite ho.count ho) (.upd (.ite (ho.count (f := R.RSMP_RATE_VOID_CNT)) ho))
theorem selfTick {n : Nat} : (s.selfTick n).BodyReads 0x0C w := by
  unfold State.selfTick
  with_reducible exact .ite h (.ite h.countBy ((h.countBy (f := R.SELF_PAIR_SKIP_CR)).count (f := R.SELF_HIT_CR)).upd)

/-! The serial lanes (chapter 15), the satellites (chapter 17) and the trigger primitives (chapter 10). -/

theorem doBurst {n : Nat} : (s.doBurst n).BodyReads 0x0C w := by
  unfold State.doBurst
  with_reducible exact .ite (upd (of_mask h.setPstate (State.codeStart_mask (by decide) _ _))) h
theorem burstsTick : s.burstsTick.BodyReads 0x0C w := h.forEach fun _ _ h => h.doBurst
theorem testTick {x : Xcvr} {ts : List LaneTraffic} : (s.testTick x ts).BodyReads 0x0C w := by
  have hx {o : Nat} : (xcvrBase x + o) / 4096 ≠ 0x0C := xcvrBlock_ne_timePage x o
  have hp := h.of_mask (State.patternTick_mask (by decide) s x)
  exact (((hp.of_mask (State.setChecker_mask (by decide) _ _ _)).set hx).set hx).countBy hx
theorem codeErrors {x : Xcvr} {k : Nat} : (s.codeErrors x k).BodyReads 0x0C w := by
  unfold State.codeErrors
  with_reducible
    extract_lets _ _ s1
    have h1 : s1.BodyReads 0x0C w := h.upd.countBy (xcvrBlock_ne_timePage x _)
    split
    · exact (h1.countBy (paceKey_ne_timePage _ _)).healthFaults
    · exact h1.healthFaults
    · exact h1
theorem commaTick {l : PaceLane} {ys : List LineSym} : (s.commaTick l ys).BodyReads 0x0C w := by
  unfold State.commaTick
  with_reducible exact .ite (h.count (paceKey_ne_timePage _ _)).upd h
theorem receive {x : Xcvr} {gs : List (BitVec 10)} : (s.receive x gs).2.BodyReads 0x0C w := by
  unfold State.receive
  with_reducible
    extract_lets _ _ _ _ _ _ _ s1 _ s2 s3
    have h1 : s1.BodyReads 0x0C w := (h.of_mask (State.setRxDisp_mask (by decide) _ _ _)).upd
    have h2 : s2.BodyReads 0x0C w := .ite h1 h1.codeErrors
    have h3 : s3.BodyReads 0x0C w := h2.of_mask (State.sigAdd_mask (by decide) _ _ _)
    refine .ite_snd ?_ h.upd
    split
    · exact h3.commaTick
    · exact h3
theorem updSat {p : Nat} {f : SatPort → SatPort} : (s.updSat p f).BodyReads 0x0C w :=
  h.of_mask (State.updSat_mask (by decide) _ _ _)
theorem dropItem {p : Nat} : (s.dropItem p).BodyReads 0x0C w := h.updSat
theorem badFrame {p : Nat} : (s.badFrame p).BodyReads 0x0C w := ((h.count (satKey_ne_timePage p _)).raise).healthFault
theorem satPartial {p : Nat} : (s.satPartial p).BodyReads 0x0C w := (h.count (satKey_ne_timePage p _)).raise
theorem countGap {p : Nat} {a b : Int} : (s.countGap p a b).BodyReads 0x0C w :=
  have hp {o : Nat} : ((0x78 + p) * 4096 + o) / 4096 ≠ 0x0C := satKey_ne_timePage p o
  ((((h.countBy hp).set hp).set hp).set hp).set hp
theorem satItemError {p : Nat} {item : SatItem} : (s.satItemError p item).BodyReads 0x0C w := by
  unfold State.satItemError
  with_reducible
    refine .ite h ?_
    split
    · exact h
    · exact h.badFrame
    · have ht : ((s.satPartial p).healthFault 7 p).BodyReads 0x0C w := h.satPartial.healthFault
      exact .ite (ht.of_mask (State.markGap_mask (by decide) _ _ _ _)).countGap ht
theorem satSymbol {p : Nat} {y : LineSym} : (s.satSymbol p y).BodyReads 0x0C w := by
  unfold State.satSymbol
  with_reducible
    extract_lets _ _ _
    refine .ite (.dropItem (.ite h.satItemError h.updSat)) ?_
    refine .ite h.updSat (.ite h (.ite ?_ (.ite h.updSat h.updSat)))
    split
    · exact h.updSat
    · exact .ite h.updSat h.updSat
theorem satStream {p : Nat} {ys : List LineSym} : (s.satStream p ys).BodyReads 0x0C w :=
  .updSat (.ite (.forEach (.ite h.updSat h) fun _ _ h => h.satSymbol) (.dropItem (.ite h.updSat h)))
theorem deliver {x : Xcvr} {ys : List LineSym} : (s.deliver x ys).BodyReads 0x0C w := by
  unfold State.deliver
  with_reducible
    split
    · exact h.satStream
    · exact h
theorem receiversTick {ts : List LaneTraffic} : (s.receiversTick ts).BodyReads 0x0C w :=
  .upd (.forEach (h.forEach fun _ _ h => h.of_mask (State.sigTurn_mask (by decide) _ _)) fun _ _ h => h.receive.deliver)
theorem linesTick {ts : List LaneTraffic} : (s.linesTick ts).BodyReads 0x0C w :=
  .receiversTick ((h.burstsTick.of_mask (State.returnTick_mask (by decide) _)).forEach fun _ _ h => .ite h.testTick h)
theorem tpRecord {n : Nat} : (s.tpRecord n).BodyReads 0x0C w :=
  .ite (.count (.ite h.upd h.upd.countBy.raise)) (.ite h.upd h.upd.countBy.raise)
theorem trigSend {k : Fin 8} {comma : Byte} {bytes : List Byte} : (s.trigSend k comma bytes).BodyReads 0x0C w :=
  h.of_mask (State.trigSend_mask (by decide) _ _ _ _)
theorem tpLeave {t : Nat} : (s.tpLeave t).BodyReads 0x0C w := by
  unfold State.tpLeave
  with_reducible
    extract_lets _
    split
    · exact .upd (.ite (.countW (f := R.TPRIM_FRAME_CNT) (h.forEach fun _ _ h => h.trigSend)) (h.forEach fun _ _ h => h.trigSend))
    · split
      · exact h
      · exact .ite (.countW (h.forEach fun _ _ h => h.trigSend)) (h.forEach fun _ _ h => h.trigSend)
theorem tprimTick {t : Nat} : (s.tprimTick t).BodyReads 0x0C w := .tpLeave (.ite h.tpRecord h)

/-! What else passes with a crossing. -/

theorem lensStallTold : s.lensStallTold.BodyReads 0x0C w := .ite h h.raise.upd
theorem lensTick : s.lensTick.BodyReads 0x0C w := by
  unfold State.lensTick
  with_reducible
    extract_lets _
    split
    · exact h
    · exact (h.countBy (f := R.LENS_STALL_CC)).lensStallTold.upd
theorem updLink {n : Nat} {f : Link → Link} : (s.updLink n f).BodyReads 0x0C w := h.of_mask (State.updLink_mask (by decide) _ _ _)
theorem streamTick {n : Nat} : (s.streamTick n).BodyReads 0x0C w := h.of_mask (State.streamTick_mask (by decide) _ _)
theorem slipTick : s.slipTick.BodyReads 0x0C w := h.forEach fun _ n h => by
  have hn (o : Nat) (ho : 0x70000 ≤ o) : (o + 64 * n) / 4096 ≠ 0x0C := by omega
  have hfull {u : State} (hu : u.BodyReads 0x0C w) : (u.countBy (R.SLIP_STNn_REPLAY_FULL_CC n) 16).BodyReads 0x0C w :=
    hu.countBy (hn _ (by decide))
  have hhold {u : State} (hu : u.BodyReads 0x0C w) : (u.countBy (R.SLIP_STNn_HOLD_CC n) 16).BodyReads 0x0C w :=
    hu.countBy (hn _ (by decide))
  exact .ite (hfull (.ite (hhold h.streamTick.updLink) h.streamTick.updLink))
    (.ite (hhold h.streamTick.updLink) h.streamTick.updLink)
theorem seatTick : s.seatTick.BodyReads 0x0C w := .ite (.ite h.countBy h.upd) h
theorem crewTick : s.crewTick.BodyReads 0x0C w := .seatTick (.ite (.countBy (.ite h.countBy h)) (.ite h.countBy h))
theorem coxTick : s.coxTick.BodyReads 0x0C w := (h.upd.set (digestKey_ne_timePage _)).set (digestKey_ne_timePage _)
theorem moveDone : s.moveDone.BodyReads 0x0C w := .upd (.ite (h.set (f := R.CLK_STATUS_LOCKED)) h)
theorem clkTick : s.clkTick.BodyReads 0x0C w := by
  unfold State.clkTick
  with_reducible
    extract_lets s1
    have h1 : s1.BodyReads 0x0C w := by
      unfold s1
      split
      · exact .ite h.moveDone h
      · exact h
    exact .ite h1.count h1
theorem blindLabels {first last : BitVec 64} {new : Bool} : (s.blindLabels first last new).BodyReads 0x0C w :=
  .set (.set (.ite h.set.set h))
theorem openOutage {c : Nat} : (s.openOutage c).BodyReads 0x0C w :=
  .blindLabels (.ite (.countBy (.ite h.upd.raise h.upd)) (.ite h.upd.raise h.upd))
theorem blindTick : s.blindTick.BodyReads 0x0C w :=
  .ite h (.blindLabels (.ite (.count (.ite h.upd.openOutage h)) (.ite h.upd.openOutage h)))
/-- The end of a crossing writes no body word of the TIME page. -/
theorem endCrossing {i : TickIn} : (s.endCrossing i).BodyReads 0x0C w := by
  unfold State.endCrossing
  with_reducible
    extract_lets s1 s2 s3
    have h1 : s1.BodyReads 0x0C w := (h.startDue.of_mask (State.statTick_mask (by decide) _)).bankTick
    have h2 : s2.BodyReads 0x0C w :=
      .late (.late (h1.late fun _ _ h => h.prismTick) fun _ _ h => h.rsmpTick) fun _ _ h => h.selfTick
    have h3 : s3.BodyReads 0x0C w := h2.linesTick.tprimTick
    have h4 := (h3.lensTick.of_mask (State.satTick_mask (by decide) _)).slipTick.crewTick
    have h5 := (h4.of_mask (State.hkWatch_mask (by decide) _)).coxTick.clkTick.blindTick
    exact h5.of_mask (State.ringClock_mask (by decide) _)

end
end State.BodyReads

/-- The mask of every component but `time`, which is the component 23 of 123. -/
abbrev State.allButTime : Nat := 2 ^ 123 - 1 - 2 ^ 23

namespace State

/-- An operation whose mask law says that it leaves `time` alone moves no time. -/
theorem time_of_mask {s t : State} (e : t.mask allButTime = s.mask allButTime) : t.time = s.time :=
  same_of_mask e .time (by decide)

/-! The end of a crossing, and the start of the next (R17, R81, R82, R84, R88, R90). -/

/-- A field in the body of the TIME page reads after the end of a crossing as before it. -/
theorem get_endCrossing (s : State) (i : TickIn) (f : Fld) (hp : f.key / 4096 = 0x0C := by decide)
    (ho : 0x040 ≤ f.key % 4096 := by decide) : (s.endCrossing i).get f = s.get f := by
  have h : s.BodyReads 0x0C s.rd := fun _ _ _ => rfl
  unfold get
  rw [h.endCrossing f.key hp ho]

/-- The end of a crossing leaves the increment of Hub Time alone. -/
theorem incr_endCrossing (s : State) (i : TickIn) : (s.endCrossing i).incr = s.incr := by
  simp only [incr, get_endCrossing s i R.TIME_INCR_LO, get_endCrossing s i R.TIME_INCR_HI]

/-- The end of a crossing leaves the servo's correction alone. -/
theorem rateAdj_endCrossing (s : State) (i : TickIn) : (s.endCrossing i).geti R.TIME_RATE_ADJ = s.geti R.TIME_RATE_ADJ := by
  simp only [geti, get_endCrossing s i R.TIME_RATE_ADJ]

/-- The end of a crossing moves no time. -/
theorem time_endCrossing (s : State) (i : TickIn) : (s.endCrossing i).time = s.time :=
  time_of_mask (endCrossing_mask (by decide) s i)

/-- The orbit counters are no part of the times. -/
theorem time_orbitTick (s : State) : s.orbitTick.time = s.time :=
  time_of_mask (orbitTick_mask (by decide) s)

/-- Hub Time carries into its 48-bit seconds (R81). -/
theorem hubTime_addHubTime (s : State) (d : Int) :
    ((s.addHubTime d).hubTime : Int) = ((s.hubTime : Int) + d) % (2 ^ 48 * secondSub) := by
  simp only [addHubTime, hubTime, secondSub, BitVec.toNat_ofInt]
  omega

/-- Whether a catch is due in a crossing is told by the times alone (R17, R90). -/
theorem catchComes_of_time {s t : State} (h : t.time = s.time) : t.catchComes = s.catchComes := by
  simp only [catchComes, pos, h]

/-- The times at a crossing boundary (R17, R81, R84, R88, R90). -/
theorem time_timeTick (s : State) : s.timeTick.time =
    { (s.addHubTime ((s.incr : Int) + s.geti R.TIME_RATE_ADJ)).time with
      cr := s.time.cr + 1, cn := s.time.cn + 1, ns32 := s.time.ns32 + BitVec.ofNat 64 s.incr
      alignCur := s.time.alignCur + clampI (-64) 64 (s.time.alignTgt - s.time.alignCur)
      wakePh := s.time.wakePh - clampI (-64) 64 s.time.wakePh
      catchDue := ({ s with time := { s.time with cn := s.time.cn + 1 } } : State).catchComes } := by
  unfold timeTick
  extract_lets s1 mv _ s2 s3
  have h3 : s3.time = s2.time := time_orbitTick _
  have hc : s3.catchComes = s2.catchComes := catchComes_of_time h3
  show { s3.time with catchDue := s3.catchComes } = _
  rw [h3, hc]
  rfl

/-- A CROSSING_TICK that is performed moves the times as the crossing boundary does. -/
theorem time_doCrossingTick (s : State) (i : TickIn) (ha : s.alive = true) (hc : s.time.catchDue = false)
    (hr : s.resyncDue = false) : (s.doCrossingTick i).time = (s.endCrossing i).timeTick.time := by
  unfold doCrossingTick
  rw [if_pos (by simp [ha, hc, hr])]
  extract_lets s1
  exact time_of_mask ((sweepTick_mask (by decide) _).trans
    ((beginCrossing_mask (by decide) _).trans (strokeOver_mask (by decide) s1 s1.timeTick)))

/-- Sending the return frame moves no time. -/
theorem time_sendFrame (s : State) : s.sendFrame.time = s.time :=
  time_of_mask (sendFrame_mask (by decide) s)

/-- What follows a command moves no time. -/
theorem time_finish (s : State) : s.finish.time = s.time := by
  unfold finish
  split
  · have hn := congrArg State.time (noteFirings_still s).1
    exact (time_of_mask ((watch_mask (by decide) _).trans (hkStarts_mask (by decide) _))).trans hn
  · rfl

end State

/-- With no access waiting at the arbiter, a command that lets accesses go ahead is performed as any other. -/
theorem performArb_eq_perform (body : State → State) (s : State) (hC : (body s.begin_).finish.arbC = [])
    (hG : (body s.begin_).finish.arbG = []) : performArb body s = perform body s := by
  have hd : (body s.begin_).finish.drainArb = (body s.begin_).finish := by
    unfold State.drainArb
    rw [hC, hG]
    rfl
  unfold performArb perform
  rw [hd]

/-- What a CROSSING_TICK and the frame of a command may change. -/
def crossingTickMask : Nat := 7430095642729529122044245422087603630 ||| 604462909807314604130566 ||| 14 |||
  83076749737161704966295255880040724

/-- The body of CROSSING_TICK leaves alone what its two operations leave alone. -/
theorem crossingTickBody_mask (i : TickIn) (s : State) :
    (s.doCrossingTick i).sendFrame.mask crossingTickMask = s.mask crossingTickMask :=
  (State.sendFrame_mask (by decide) _).trans (State.doCrossingTick_mask (by decide) s i)

/-- With no access waiting at the arbiter, a CROSSING_TICK is its body in the frame of every command. -/
theorem exec_crossingTick (s : State) (i : TickIn) (hC : s.arbC = []) (hG : s.arbG = []) :
    exec (.crossingTick i) s = perform (fun s => (s.doCrossingTick i).sendFrame) s := by
  have hm : ((s.begin_.doCrossingTick i).sendFrame).finish.mask crossingTickMask = s.begin_.mask crossingTickMask :=
    (State.finish_mask (by decide) _).trans (crossingTickBody_mask i s.begin_)
  have hc : ((s.begin_.doCrossingTick i).sendFrame).finish.arbC = s.arbC := same_of_mask hm .arbC (by decide)
  have hg : ((s.begin_.doCrossingTick i).sendFrame).finish.arbG = s.arbG := same_of_mask hm .arbG (by decide)
  have hexec : exec (.crossingTick i) s = performArb (fun s => (s.doCrossingTick i).sendFrame) s := rfl
  exact hexec.trans (performArb_eq_perform (fun s => (s.doCrossingTick i).sendFrame) s (hc.trans hC) (hg.trans hG))

end Sys2Proof.Machine

open Sys2Proof.Machine

/-- Settles O26: the end of the crossing leaves the increment's words and the times alone, and the boundary then moves the times;
nothing after it does, and no operation of the command reaches a staged set. -/
theorem aCrossingTickCountsTheCrossing : Obligations.ACrossingTickCountsTheCrossing := by
  intro s i ha hc hr hC hG
  obtain ⟨t, ht⟩ : ∃ t, perform (fun s => (s.doCrossingTick i).sendFrame) s = .next t := ⟨_, rfl⟩
  have hsame := same_of_mask (perform_mask ht (crossingTickBody_mask i) (by decide) (by decide) (by decide))
  have htime : t.time = (s.begin_.endCrossing i).timeTick.time := by
    injection ht with ht
    subst ht
    exact (State.time_finish _).trans ((State.time_sendFrame _).trans (State.time_doCrossingTick s.begin_ i ha hc hr))
  have hend : (s.begin_.endCrossing i).time = s.time := State.time_endCrossing s.begin_ i
  have hincr : (s.begin_.endCrossing i).incr = s.incr := State.incr_endCrossing s.begin_ i
  have hadj : (s.begin_.endCrossing i).geti R.TIME_RATE_ADJ = s.geti R.TIME_RATE_ADJ := State.rateAdj_endCrossing s.begin_ i
  rw [State.time_timeTick, hincr, hadj, hend] at htime
  have hhub : (t.hubTime : Int) = ((s.hubTime : Int) + s.incr + s.geti R.TIME_RATE_ADJ) % (2 ^ 48 * secondSub) := by
    have hadd := State.hubTime_addHubTime (s.begin_.endCrossing i) ((s.incr : Int) + s.geti R.TIME_RATE_ADJ)
    simp only [State.hubTime, htime, hend, Int.add_assoc] at hadd ⊢
    exact hadd
  refine ⟨t, (exec_crossingTick s i hC hG).trans ht, ?cr, ?cn, hhub, ?ns32, ?phase, ?catchDue, ?lastCatch, ?catches, ?resync,
    hsame .staged (by decide), hsame .fades (by decide), hsame .profiles (by decide), hsame .cnSegs (by decide),
    hsame .offer (by decide)⟩
  case catchDue => rw [htime]; rfl
  case lastCatch | catches | resync => simp only [htime, State.addHubTime, hend]
  case cr | cn | ns32 | phase => rw [htime]

end
